-- ==== Sys2Proof/Word.lean ====
section
/-! DEFINITION. Words and the plainest arithmetic of the model: register fields and addresses are natural numbers
held within their width, signed fields are read as two's complement. -/

namespace Sys2Proof

/-- A byte (R4). -/
abbrev Byte := BitVec 8

/-- The low `w` bits of `n`. -/
def trunc (w n : Nat) : Nat := n % 2 ^ w

/-- Bits `[lsb + w - 1 : lsb]` of `n`. -/
def slice (lsb w n : Nat) : Nat := (n / 2 ^ lsb) % 2 ^ w

/-- Two's complement reading of a `w`-bit value. -/
def toInt (w n : Nat) : Int := if n % 2 ^ w < 2 ^ (w - 1) then (n % 2 ^ w : Int) else (n % 2 ^ w : Int) - 2 ^ w

/-- Two's complement encoding in `w` bits. -/
def ofInt (w : Nat) (x : Int) : Nat := (x % (2 ^ w : Int)).toNat

/-- The value nearest to `x` between `lo` and `hi`. -/
def clampI (lo hi x : Int) : Int := if x < lo then lo else if hi < x then hi else x

/-- The value nearest to `x` between `lo` and `hi`. -/
def clampN (lo hi x : Nat) : Nat := if x < lo then lo else if hi < x then hi else x

/-- A Boolean as a bit. -/
def bit (b : Bool) : Nat := if b then 1 else 0

/-- `n` with bit `k` set. -/
def setBit (n k : Nat) : Nat := if n.testBit k then n else n + 2 ^ k

/-- `n` with bit `k` cleared. -/
def clearBit (n k : Nat) : Nat := if n.testBit k then n - 2 ^ k else n

/-- Bit `k` of `n` made `b`. -/
def putBit (n k : Nat) (b : Bool) : Nat := if b then setBit n k else clearBit n k

/-- The number of ones among bits 0 to `w - 1` of `n`. -/
def popCount (w n : Nat) : Nat := ((List.range w).filter n.testBit).length

end Sys2Proof
end

