-- ==== Sys2Proof/Syntax.lean ====
section
/-! DEFINITION. The commands of the package: one constructor per row of the command table, with the operands that the
row needs from outside. -/

namespace Sys2Proof

/-- The lanes of a package (R1). -/
inductive LaneId where
  | a | b | c
deriving DecidableEq, Repr

/-- The LANE_ID of a lane (R14). -/
def LaneId.num (l : LaneId) : Nat := match l with
  | .a => 0
  | .b => 1
  | .c => 2

/-- The two variants of the package (R1). -/
inductive Variant where
  | t | d
deriving DecidableEq, Repr

/-- What a debugger write addresses (R227): a core or control register, numbered 0 to 255, or an address. -/
inductive DebugPlace where
  | reg (n : Nat)
  | mem (addr : Nat)
deriving DecidableEq, Repr

/-- The commands. -/
inductive Instr where
  /-- REGISTER_WRITE (R9): A write to a register field without a row of its own stores the value, clamped silently into the
  field's legal range. -/
  | registerWrite (l : LaneId) (pair : Fin 4) (addr : Nat) (data : Nat)
  /-- OUT_OF_WINDOW_ACCESS (R6): An access outside every assigned window ends in a bus error to the issuing core and raises no
  fault source. -/
  | outOfWindowAccess (l : LaneId) (pair : Fin 4) (addr : Nat)
  /-- HOST_DIE_RESET (R26): A host die reset clears every register outside the host AON region, passes BGR_FIRST to BGR_PREV and
  starts a new Couch epoch. -/
  | hostDieReset (l : LaneId)
  /-- FIELD_DIE_RESET (R361): The field die resets itself on a new Couch epoch and runs its own WAKE steps again. -/
  | fieldDieReset (l : LaneId)
  /-- AON_POWER_ON (R307): Power-on of an AON region resets its epochs, counters and retained state and engages the class G latch
  on the field side. -/
  | aonPowerOn (l : LaneId) (fieldSide : Bool)
  /-- HOST_POWER_GOOD (R359): The host supply monitors see all host supplies in range, which is instant P0 of start-up. -/
  | hostPowerGood (l : LaneId)
  /-- RESET_RELEASE (R359): The host die reset is released at P1 or W3; the lane state becomes BOOT and the device mode WAKE. -/
  | resetRelease (l : LaneId)
  /-- PLL_LOCK (R401): The root PLL locks and the domain dividers start together. -/
  | pllLock (l : LaneId) (fieldSide : Bool)
  /-- PLL_LOCK_TIMEOUT (R361): A PLL that has not locked within 0.5 ms fails WAKE; the lane retries once and then becomes FAILED. -/
  | pllLockTimeout (l : LaneId) (fieldSide : Bool)
  /-- WAKE_STEP_DONE (R360): One WAKE step completes: memory initialisation, ADC trim, delay-line calibration, or barrier
  calibration with the epoch. -/
  | wakeStepDone (l : LaneId) (step : Fin 6) (ok : Bool) (value : Nat)
  /-- NOR_READ_DONE (R365): A NOR read completes and is checked against the memory's data-path CRC, and is repeated once on failure. -/
  | norReadDone (l : LaneId) (ok : Bool)
  /-- NOR_READ_TIMEOUT (R365): A NOR read that does not complete within 1 ms is repeated once; a second failure rejects the slot. -/
  | norReadTimeout (l : LaneId)
  /-- CONFIGURATION_DONE (R367): The loader has applied the images, register lists, maps, safety set and severity copy in order
  and reads back the field CRC. -/
  | configurationDone (l : LaneId)
  /-- TEST_COMPLETE (R385): The start-up checks, and where needed the full self-test, finish; on a pass the lane becomes READY,
  otherwise FAILED. -/
  | testComplete (l : LaneId) (passed : Bool)
  /-- MODE_REQ_CLEAR (R55): Writing TARGET 0 withdraws the lane's mode proposal. -/
  | modeReqClear (l : LaneId)
  /-- STANDBY_REQUEST (R55): Writing TARGET 5 proposes standby from an operating mode, or restart from TORQUE-OFF. -/
  | standbyRequest (l : LaneId)
  /-- OPERATE_REQUEST (R55): Writing TARGET 6 proposes operation at the mode that R47 and R48 permit. -/
  | operateRequest (l : LaneId)
  /-- STOP_REQUEST (R55): Writing TARGET 9 proposes a stop, which is a restrictive transition. -/
  | stopRequest (l : LaneId)
  /-- SERVICE_REQUEST (R55): Writing TARGET 11 proposes SERVICE. -/
  | serviceRequest (l : LaneId)
  /-- SHUTDOWN_REQUEST (R55): Writing TARGET 12 proposes SHUTDOWN from STANDBY. -/
  | shutdownRequest (l : LaneId)
  /-- FRAME_START (R230): Agreement frame F0 starts: a pending FRAME change, rejoins, planned releases and RESYNC promotions take
  effect and READY clears. -/
  | frameStart (l : LaneId)
  /-- FRAME_WRITE (R500): A write to FRAME is held pending until a frame start that is also a multiple of the new length. -/
  | frameWrite (l : LaneId) (value : Nat)
  /-- AGREEMENT_READY (R231): Firmware writes READY and the LSC sends the frame message. -/
  | agreementReady (l : LaneId)
  /-- READY_TIMEOUT (R231): When READY is not written by F0 + 15 µs, the message is sent with LATE and no demands, and SELF_LATE is set. -/
  | readyTimeout (l : LaneId)
  /-- FRAME_MESSAGE_RECEIPT (R232): A sibling's frame message is received and stored, and EXT_FAULT, SA_CONT, ACCEPT, the seal
  split and presence views are processed. -/
  | frameMessageReceipt (l : LaneId) (src : LaneId)
  /-- WINDOW_CLOSE (R43): At F3 presence is fixed, channels are agreed and mode transitions, envelopes, standstill and the lease
  claimant are decided. -/
  | windowClose (l : LaneId) (irms : List Nat)
  /-- LANE_WAIT_EXPIRY (R48): LANE_WAIT expires with lanes still missing; the request is refused and START_REFUSED is set once. -/
  | laneWaitExpiry (l : LaneId)
  /-- KEYOFF_HOLD_EXPIRY (R47): Key-off has lasted KEYOFF_HOLD, and the device goes to SHUTDOWN from STANDBY, TORQUE-OFF or SERVICE. -/
  | keyoffHoldExpiry (l : LaneId)
  /-- KEY_ON_FALL (R50): KEY_ON_x falls; key-off timing starts and a moving device sets KEYOFF_HELD. -/
  | keyOnFall (l : LaneId)
  /-- KEY_ON_RISE (R47): KEY_ON_x rises and wakes the lane from DORMANT or SHUTDOWN into WAKE. -/
  | keyOnRise (l : LaneId)
  /-- LANE_EXIT (R22): The exit decision E0 is latched; gate outputs go off, SA outputs float and phase isolation opens at E1. -/
  | laneExit (l : LaneId) (cause : Nat)
  /-- DEAD_TIME_EXPIRY (R140): A pair's dead time ends and the pending turn-on acts. -/
  | deadTimeExpiry (l : LaneId) (pair : Fin 26)
  /-- ISOLATION_SETTLE_EXPIRY (R122): The isolation settle time ends: an ASC axis goes to all-off, or a newly enabled axis may act
  on RUNNING. -/
  | isolationSettleExpiry (l : LaneId) (ax : Fin 8)
  /-- AUTO_REJOIN_RESET (R26): REJOIN_DELAY after E5, the PSC resets the host die of an exited lane automatically. -/
  | autoRejoinReset (l : LaneId)
  /-- LANE_RESET_REQUEST (R26): A write of RESET to CFG_LANE_RST resets the host die where permitted, and otherwise counts in
  RST_REFUSED. -/
  | laneResetRequest (l : LaneId)
  /-- DEBUG_HALT_REQUEST (R53): A debug halt is carried out where the mode permits it, and is otherwise refused and counted. -/
  | debugHaltRequest (l : LaneId) (pair : Fin 4) (fieldClocks : Bool)
  /-- DEBUG_STEP (R227): A single step advances both cores of a pair by one instruction. -/
  | debugStep (l : LaneId) (pair : Fin 4)
  /-- DEBUG_WRITE (R228): A debugger write to a core register is applied to the main core and logged, or refused when the log is full. -/
  | debugWrite (l : LaneId) (pair : Fin 4) (place : DebugPlace) (value : Nat)
  /-- DEBUG_REPLAY (R227): The logged write is replayed into the checker when the checker reaches its retirement count. -/
  | debugReplay (l : LaneId) (point : Fin 4 × Nat)
  /-- CURRENT_SAMPLE (R60): The conversions end at T0 and the CLE pipeline computes the axis sample and latches the edges by T2. -/
  | currentSample (l : LaneId) (ax : Fin 8) (mid : Bool) (delay : Nat) (i0 : Nat) (i1 : Nat) (va : Nat) (vb : Nat) (vc : Nat)
  /-- BANK_SWAP_REQUEST (R78): A write of REQ with TARGET to CLE_AXn_BANK requests a local bank swap. -/
  | bankSwapRequest (l : LaneId) (ax : Fin 8) (target : Fin 2)
  /-- COEFFICIENT_WRITE (R79): A coefficient write is stored in the inactive bank, or refused and counted when it addresses the
  active bank. -/
  | coefficientWrite (l : LaneId) (ax : Fin 8) (bank : Fin 2) (k : Fin 64) (value : Nat)
  /-- MAP_WRITE (R76): A characteristic-map write is stored, or refused and counted while the axis is enabled. -/
  | mapWrite (l : LaneId) (ax : Fin 8) (q : Fin 2) (dIdx : Fin 32) (qIdx : Fin 32) (upper : Bool) (value : Nat)
  /-- AIN_CONVERSION (R81): An analogue set-point input is converted every 10 µs, scaled and checked against its wire limits. -/
  | ainConversion (l : LaneId) (k : Fin 4) (mv : Nat)
  /-- PIN_EDGE (R82): A filtered pulse-input edge updates the duty, frequency or step-and-direction set-point. -/
  | pinEdge (l : LaneId) (k : Fin 4) (rising : Bool)
  /-- PIN_TIMEOUT (R82): No edge for TIMEOUT ms in duty or frequency mode puts the pulse input in fault. -/
  | pinTimeout (l : LaneId) (k : Fin 4)
  /-- SETPOINT_MESSAGE (R83): A lane-agreed set-point message arrives at the field die and is scheduled for its apply instant. -/
  | setpointMessage (l : LaneId)
  /-- SETPOINT_APPLY (R83): At the apply instant, the message's contents take effect together for an axis that does not run. -/
  | setpointApply (l : LaneId) (ax : Fin 8)
  /-- SP_TIMEOUT (R83): No newer agreed message within SP_TIMEOUT: the axis holds its last values, SP_LOST is set and source 0x66
  is raised. -/
  | spTimeout (l : LaneId) (ax : Fin 8)
  /-- AXIS_ENABLE (R87): A write of ENABLE starts or stops the axis under the run conditions. -/
  | axisEnable (l : LaneId) (ax : Fin 8) (on : Bool)
  /-- BACKGROUND_CONVERSION (R89): A due background conversion of a rail, feed, chopper, AIN or MTEMP input starts, or is delayed
  or skipped. -/
  | backgroundConversion (l : LaneId) (input : Fin 28) (code : Nat) (outcome : Fin 3)
  /-- REFERENCE_CHECK (R90): Every 1 ms each cluster's ADC reference is checked against the independent check reference. -/
  | referenceCheck (l : LaneId) (cluster : Fin 2) (ok : Bool)
  /-- TEST_PULSE_START (R109): Once the phase currents have decayed, the next start-from-rest test pulse begins, or the attempt
  fails when the gap runs too long. -/
  | testPulseStart (l : LaneId) (ax : Fin 8) (decayed : Bool)
  /-- TEST_PULSE_END (R109): A test pulse ends at SR_I_LIM or SR_PULSE and its admittance or peak current is recorded. -/
  | testPulseEnd (l : LaneId) (ax : Fin 8) (current : Int) (length : Nat)
  /-- RESUME_DEADLINE (R117): No lock by L0 + 2 ms: the axis enters SAFE, RESUME_FAIL is set and source 0x69 is raised. -/
  | resumeDeadline (l : LaneId) (ax : Fin 8)
  /-- TRANSFER_POINT (R141): At a group's period start or mid-period, committed shadows move to the active registers. -/
  | transferPoint (l : LaneId) (g : Fin 12) (mid : Bool)
  /-- COMMIT (R141): A COMMIT request moves a group's shadows at its next transfer point. -/
  | commit (l : LaneId) (g : Fin 12)
  /-- COMPARE_EVENT (R136): The group counter reaches a RISE or FALL position and sets the output's reference level. -/
  | compareEvent (l : LaneId) (out : Fin 52) (kind : Fin 3)
  /-- GROUP_RUN (R163): A write of RUN starts the group's counter, or sets override kind 1. -/
  | groupRun (l : LaneId) (g : Fin 12) (on : Bool)
  /-- PAD_READBACK_FAULT (R158): A gate pad that differs from its driven level for more than 24 ns raises source 0x76 and takes
  the axis or group off. -/
  | padReadbackFault (l : LaneId) (out : Fin 52)
  /-- PWM_CLOCK_RESUME (R159): The stopped PWM clock runs again; counters continue, FROZEN is set and source 0x77 is raised. -/
  | pwmClockResume (l : LaneId)
  /-- HALL_EDGE (R177): A filtered Hall change between adjacent sectors is accepted and updates position, speed history and compares. -/
  | hallEdge (l : LaneId) (ax : Fin 8) (wires : Fin 8 × Fin 8) (late : Fin 5)
  /-- HALL_WIRE_FAULT (R173): A pair invalid for longer than the filter time sets its WIRE bit and raises source 0x78. -/
  | hallWireFault (l : LaneId) (ax : Fin 8) (wire : Fin 3)
  /-- HALL_ILLEGAL_CODE (R173): An illegal CODE held longer than the filter time sets all WIRE bits of the axis. -/
  | hallIllegalCode (l : LaneId) (ax : Fin 8)
  /-- HALL_SPEED_EVAL (R181): The reported Hall speed and its status are evaluated at T0, at H1 and every 10 µs. -/
  | hallSpeedEval (l : LaneId) (ax : Fin 8)
  /-- HALL_STANDSTILL (R181): SS_TIME since the last edge: the speed is 0, the status STANDSTILL and the history is cleared. -/
  | hallStandstill (l : LaneId) (ax : Fin 8)
  /-- POS_SET (R178): A write to POS_SET presets POS and clears the overrun and refusal counts. -/
  | posSet (l : LaneId) (ax : Fin 8) (value : Nat)
  /-- SOFT_LIMIT_WRITE (R179): A write of SOFT_MIN or SOFT_MAX may saturate POS into the overrun counts and clamp the compares. -/
  | softLimitWrite (l : LaneId) (ax : Fin 8) (upper : Bool) (value : Nat)
  /-- COMPARE_ARM (R184): A write to CMPk_VAL arms a compare and sets its effective direction, possibly BEHIND. -/
  | compareArm (l : LaneId) (ax : Fin 8) (k : Fin 4) (value : Nat)
  /-- FBI_ENABLE (R179): At a rise of EN, SECTOR is taken from the present CODE and the status is STANDSTILL. -/
  | fbiEnable (l : LaneId) (ax : Fin 8) (code : Fin 8)
  /-- LATCH_INSTANT (R187): A mapped action instant triggers a position-and-time latch, or counts as a missed latch. -/
  | latchInstant (l : LaneId)
  /-- LATCH_INPUT (R186): A filtered rising edge of LATCH_x triggers a position-and-time latch. -/
  | latchInput (l : LaneId)
  /-- LATCH_CAPTURE_COMPLETE (R187): The latch set is captured for all axes and LATCHED is set. -/
  | latchCaptureComplete (l : LaneId)
  /-- RAIL_CONVERSION (R198): Each 1 µs rail conversion updates the thresholds, REGEN_K, clipping and the energy counters. -/
  | railConversion (l : LaneId) (rail : Fin 4) (code : Nat)
  /-- ENERGY_CHECK (R210): Every 1 ms ERES is computed and checked against the energy tolerance. -/
  | energyCheck (l : LaneId) (rail : Fin 4)
  /-- ERESET (R210): A write of ERESET clears the energy counters and captures u_ref. -/
  | ereset (l : LaneId) (rail : Fin 4)
  /-- RAIL_ENABLE (R198): A write of a rail's EN starts or stops its evaluation and releases its thresholds. -/
  | railEnable (l : LaneId) (rail : Fin 4) (on : Bool)
  /-- THRESHOLD_WRITE (R197): A rail threshold write is clamped against its neighbours in three steps. -/
  | thresholdWrite (l : LaneId) (rail : Fin 4) (which : Fin 3) (data : Nat)
  /-- LOCKSTEP_FAULT (R221): A mismatch, DLY_PAR or CMP_RAIL holds the pair's outputs and takes the main or the restart path. -/
  | lockstepFault (l : LaneId) (pair : Fin 4) (rail0 : Nat) (rail1 : Nat) (par0 : Nat) (par1 : Nat)
  /-- COMPARATOR_TEST_DONE (R220): The comparator injection test completes; the pair starts at LSC_RESTART_VEC, or is not started. -/
  | comparatorTestDone (l : LaneId) (pair : Fin 4) (ok : Bool)
  /-- CHECKPOINT_COMMIT (R225): A write of COMMIT flips VALID_HALF and records SEQ. -/
  | checkpointCommit (l : LaneId) (pair : Fin 4)
  /-- RESTORED (R225): A write of RESTORED ends the restore and puts the pair in RESYNC, or fences it when no checkpoint is valid. -/
  | restored (l : LaneId) (pair : Fin 4)
  /-- GIVE_UP (R224): A write of GIVE_UP fences a restarting pair and raises source 0x21. -/
  | giveUp (l : LaneId) (pair : Fin 4)
  /-- SHADOW_RESULT (R225): A shadow result written to SCH_Tt_SRES is passed to the LSC for comparison with the sent demand. -/
  | shadowResult (l : LaneId) (target : Fin 4) (ch : Fin 16) (result : Nat)
  /-- LEASE_EXPIRY (R249): The holder's validity ends without renewal; the drive enable clears and source 0xA0 is raised. -/
  | leaseExpiry (l : LaneId)
  /-- CLAIM_TIMEOUT (R252): A standby that has heard nothing newer for its interval sends CLAIM. -/
  | claimTimeout (l : LaneId)
  /-- GUARD_EXPIRY (R252): After the guard, an uncancelled claimant sets its drive enable. -/
  | guardExpiry (l : LaneId)
  /-- CLAIM_RECEIPT (R253): A received CLAIM updates T_r and may cancel a claim or make the holder step down. -/
  | claimReceipt (l : LaneId) (src : LaneId)
  /-- RELEASE_RECEIPT (R255): A received newer RELEASE sets T_r, and the named successor claims at once. -/
  | releaseReceipt (l : LaneId) (src : LaneId)
  /-- HANDOVER_REQUEST (R262): A write of HANDOVER starts a planned handover to SUCCESSOR. -/
  | handoverRequest (l : LaneId)
  /-- HANDOVER_RECEIPT (R262): The target of a HANDOVER powers its SA region and sets ACCEPT in its next message. -/
  | handoverReceipt (l : LaneId) (src : LaneId)
  /-- SWAP_INTERVAL_EXPIRY (R260): SWAP_INTERVAL expires and the holder starts a role swap, or defers it. -/
  | swapIntervalExpiry (l : LaneId)
  /-- HOLDOFF_EXPIRY (R261): PREF has been present for HOLDOFF, and the holder hands the lease back to it. -/
  | holdoffExpiry (l : LaneId)
  /-- SNAPSHOT_PUSH (R258): Every 100 ms the holder pushes a snapshot to each eligible standby. -/
  | snapshotPush (l : LaneId)
  /-- SNAPSHOT_RECEIPT (R258): A received snapshot is written into the older half of the standby's Squirrel area. -/
  | snapshotReceipt (l : LaneId) (src : LaneId)
  /-- SA_READBACK_FAULT (R247): A driven SA pad that differs for more than 1 µs raises 0xA4, releases the lease and bars the lane. -/
  | saReadbackFault (l : LaneId) (m : Fin 8)
  /-- SA_CONT_CLR (R259): A write of SA_CONT_CLR in SERVICE clears SA_CONT bits unless a lane still reports the request. -/
  | saContClr (l : LaneId) (mask : Nat)
  /-- SD_HOLD_EXPIRY (R255): After SD_HOLD in SHUTDOWN, the holder releases the lease with SUCCESSOR 3. -/
  | sdHoldExpiry (l : LaneId)
  /-- SA_POWER_UP (R257): The lease-takeover wake powers the SA region and restores its state from the snapshot. -/
  | saPowerUp (l : LaneId)
  /-- SA_POWER_DOWN (R257): After renewals in two consecutive frames with no claim held, the standby powers its SA region down. -/
  | saPowerDown (l : LaneId)
  /-- SS_REQUEST (R268): SS_REQ_N_x held low for SSREQ_FILT latches S0 and starts SS1. -/
  | ssRequest (l : LaneId)
  /-- SS1_TMAX_EXPIRY (R271): SS1_TMAX passes without standstill; the lane proposes TORQUE-OFF and TMAX is set. -/
  | ss1TmaxExpiry (l : LaneId)
  /-- VEH_TIMEOUT (R272): No valid vehicle frame for VEH_TIMEOUT clears VEH_VALID and raises source 0xB3. -/
  | vehTimeout (l : LaneId)
  /-- STOP_LINE_STATE (R303): The field die decodes a change of the STOP line to RUN, STOP or STO and acts on the overrides and STO. -/
  | stopLineState (l : LaneId)
  /-- STOP_LINE_FAULT (R303): A STOP-line pattern that is none of the three states sets override kind 1 and latches E0 in the field die. -/
  | stopLineFault (l : LaneId)
  /-- STO_READBACK_FAULT (R276): An STO_EN_N readback difference longer than 1 µs latches TRIP and raises source 0x98. -/
  | stoReadbackFault (l : LaneId) (cluster : Fin 2)
  /-- FREEZE_TRIP (R277): A PWM heartbeat missing for FREEZE_MAX while an output is high trips STO on both clusters. -/
  | freezeTrip (l : LaneId)
  /-- STO_TEST (R278): The STO channel test of a cluster completes, or fails and latches TRIP. -/
  | stoTest (l : LaneId) (cluster : Fin 2) (passed : Bool)
  /-- TEST_MAX_EXPIRY (R278): No passed STO test for TEST_MAX hours sets TEST_DUE. -/
  | testMaxExpiry (l : LaneId)
  /-- SEAL_SAMPLE (R279): The seal switches are sampled every 1 ms and debounced into a reading, with SEAL_CHG where it applies. -/
  | sealSample (l : LaneId) (contacts : Fin 8)
  /-- SEAL_LOOP_SAMPLE (R280): SEAL_x[3] is sampled 125 µs after each edge of the loop wave and checked. -/
  | sealLoopSample (l : LaneId) (agrees : Bool)
  /-- FAULT_ARRIVAL (R288): A fault arrives at the BGR and is counted, latched or logged, and reacted to by its severity. -/
  | faultArrival (l : LaneId) (more : List Nat)
  /-- FIELD_FAULT_MESSAGE (R292): A field fault message adds its CUM difference to the counter, takes one reaction and is acknowledged. -/
  | fieldFaultMessage (l : LaneId)
  /-- FAULT_ACKNOWLEDGE (R292): The FBG receives the acknowledgement of a field source's CUM. -/
  | faultAcknowledge (l : LaneId)
  /-- PEND_ACK (R295): A write of 1 to a PEND bit acknowledges an S3 fault. -/
  | pendAck (l : LaneId) (k : Nat) (mask : Nat) (same : Bool)
  /-- REACTION_TIMER_EXPIRY (R295): A PEND bit held for REACT_T latches E0, or stops at the gate when the fault was forced. -/
  | reactionTimerExpiry (l : LaneId)
  /-- FIRST_FAULT_CLEAR (R293): A write of 1 to VALID returns LATCHED to CLEAR unless an arrival falls in the same cycle. -/
  | firstFaultClear (l : LaneId) (same : Bool)
  /-- FAULT_FORCE (R297): A BGR_FORCE bit injects one occurrence of a source, sent through the FBG for field sources. -/
  | faultForce (l : LaneId) (src : Nat)
  /-- LOG_POP (R299): A write of POP removes the oldest BGR log entry. -/
  | logPop (l : LaneId)
  /-- SEVERITY_WRITE (R290): A BGR_SEVn write is stored only in SERVICE with the seal open, clamped to the floor, and copied to the FBG. -/
  | severityWrite (l : LaneId) (k : Nat) (data : Nat)
  /-- SYNC_SEND (R305): Every SYNC_PERIOD the host sends SYNC ahead of the queued items. -/
  | syncSend (l : LaneId)
  /-- SYNC_RECEIPT (R305): The field die stamps a SYNC marker, updates the lane-time mapping and checks its deviation. -/
  | syncReceipt (l : LaneId) (quarter : Fin 4)
  /-- SYNC_LOSS (R305): Four SYNC_PERIODs without a SYNC clear SYNC_VALID. -/
  | syncLoss (l : LaneId)
  /-- FIELD_REGISTER_WRITE (R304): A host write to a field address is posted as a Couch item and stalls only while the queue is full. -/
  | fieldRegisterWrite (l : LaneId) (pair : Fin 4) (addr : Nat) (data : Nat)
  /-- FIELD_REGISTER_READ (R304): A host read of a field address is sent as a read request and stalls the core. -/
  | fieldRegisterRead (l : LaneId) (pair : Fin 4) (addr : Nat)
  /-- READ_RESPONSE (R304): A field read response completes the stalled read. -/
  | readResponse (l : LaneId)
  /-- READ_TIMEOUT (R304): No response within READ_TMO gives a bus error and raises source 0x43. -/
  | readTimeout (l : LaneId) (pair : Fin 4)
  /-- CREDIT_RETURN (R306): A returned credit, or a NACK that counts its item as dropped, reaches the sender. -/
  | creditReturn (l : LaneId) (port : Fin 4) (nack : Bool)
  /-- LINK_TIMEOUT (R309): LINK_TMO expires on a Couch, Felt, mailbox or fabric port without traffic; the link restarts, and loss
  of the Couch exits the lane. -/
  | linkTimeout (l : LaneId) (link : Fin 15)
  /-- LINK_START (R307): A START is exchanged and a new epoch is agreed. -/
  | linkStart (l : LaneId) (link : Fin 15)
  /-- CRC_RESTART (R368): A CRC restart item sets the field die's configuration CRC to its initial value. -/
  | crcRestart (l : LaneId)
  /-- CONTROL_MESSAGE (R302): A Control item carries gate permission, SA enable, seal reading, action instant, severity copy,
  injection or LINK_TMO. -/
  | controlMessage (l : LaneId)
  /-- STATUS_ITEM (R302): A field status item delivers axis speeds, Fox states and SYNC_VALID to the host. -/
  | statusItem (l : LaneId)
  /-- EVENT_ITEM (R374): A field event item enters COU_EVQ, or is lost at a full queue. -/
  | eventItem (l : LaneId)
  /-- EVQ_READ (R374): A read of COU_EVQ returns the oldest event item and removes it. -/
  | evqRead (l : LaneId) (pair : Fin 4)
  /-- STOP_REQUEST_MESSAGE (R310): A Felt stop request, or CONT_REQ from a non-holder, is received. -/
  | stopRequestMessage (l : LaneId) (src : LaneId)
  /-- DIGEST_RECORD (R370): A received digest record is compared and sets MATCH or PEER_MISMATCH and MISMATCH. -/
  | digestRecord (l : LaneId) (src : LaneId)
  /-- SCH_POST (R317): A write to SCH_POST gives a trigger token to an operation with TRIG = 4. -/
  | schPost (l : LaneId) (op : Fin 4096)
  /-- DISPATCH (R318): The scheduler places the oldest eligible ready operation in a target queue once a slot is free. -/
  | dispatch (l : LaneId)
  /-- NEXT_READ (R319): A read of SCH_Tt_NEXT returns the next queued operation to the target. -/
  | nextRead (l : LaneId) (target : Fin 5)
  /-- NEXT_WAIT_EXPIRY (R319): A NEXT read that waits NEXT_WAIT without work returns IDLE. -/
  | nextWaitExpiry (l : LaneId) (target : Fin 5)
  /-- DONE_WRITE (R320): A DONE write completes the executing operation and produces successor tokens, or counts a protocol error. -/
  | doneWrite (l : LaneId) (target : Fin 5) (index : Fin 4096)
  /-- BUDGET_EXPIRY (R321): Execution longer than BUDGET sets BUDGET_OVR and raises source 0x33. -/
  | budgetExpiry (l : LaneId) (target : Fin 5)
  /-- HANG_EXPIRY (R321): Execution longer than HANG_K × BUDGET raises source 0x34. -/
  | hangExpiry (l : LaneId) (target : Fin 5)
  /-- DEADLINE_EXPIRY (R321): An instance whose deadline passes counts in DL_MISS and may raise source 0x31. -/
  | deadlineExpiry (l : LaneId) (op : Fin 4096)
  /-- NO_TARGET_TIMEOUT (R319): A ready operation without an eligible target for longer than its DEADLINE raises source 0x38. -/
  | noTargetTimeout (l : LaneId) (op : Fin 4096)
  /-- WITHDRAWAL_REQUEST (R325): A self-test withdrawal stops dispatch to the pair and returns its queue. -/
  | withdrawalRequest (l : LaneId) (pair : Fin 4)
  /-- WITHDRAWAL_TIMEOUT (R325): No completion within WD_WAIT refuses the slice and raises source 0x36. -/
  | withdrawalTimeout (l : LaneId) (pair : Fin 4)
  /-- NGUAS_FRAME_RECEIPT (R333): A frame copy is judged valid and its payload, SYNC deviation, lease renewal or vehicle data is taken. -/
  | nguasFrameReceipt (l : LaneId) (y : Bool) (good : Bool) (start : Int) (src : Fin 4) (bytes : List Nat)
  /-- SLOT_TRANSMIT (R344): At its own slot the node's guardian checks the timing and the frame is sent, or is blocked. -/
  | slotTransmit (l : LaneId) (n : Fin 1024) (e : Int) (x : Bool) (y : Bool) (collision : Bool)
  /-- CYCLE_END (R340): At cycle end the NGB corrects clock offset and rate and updates the node state. -/
  | cycleEnd (l : LaneId)
  /-- ACTION_INSTANT (R339): At the action instant the buffers are copied, NGB_EVT is raised and TRIG = 2 tokens are given. -/
  | actionInstant (l : LaneId)
  /-- ACTION_INSTANT_NOTICE (R339): 20 µs before the action instant, its lane time is sent to the field die. -/
  | actionInstantNotice (l : LaneId)
  /-- COLDSTART_TIMER_EXPIRY (R347): The cold-start timer expires and the node sends a cold-start frame and enters COLD. -/
  | coldstartTimerExpiry (l : LaneId) (collision : Bool)
  /-- NGB_MODE_REQ (R350): A write of TARGET to NGB_MODE_REQ makes the node send MREQ in every frame. -/
  | ngbModeReq (l : LaneId) (value : Fin 16)
  /-- WAKE_TX (R351): A write of WAKE_TX requests a Nguas wake pattern. -/
  | wakeTx (l : LaneId)
  /-- WAKE_PATTERN_SEND (R351): After 2 ms of silence in LISTEN, the wake pattern is sent on the selected channels. -/
  | wakePatternSend (l : LaneId)
  /-- REINT (R346): A write of REINT forces the node back to LISTEN. -/
  | reint (l : LaneId)
  /-- NGUAS_WAKE_DETECT (R351): The always-on detector recognises a wake pattern and latches it in the host AON region. -/
  | nguasWakeDetect (l : LaneId) (ch : Fin 2)
  /-- CAN_FRAME_RECEIVED (R355): A received CAN frame is filtered into the FIFO, or discarded and counted. -/
  | canFrameReceived (l : LaneId) (ident : Nat) (age : Nat) (ext : Bool) (remote : Bool) (fdf : Bool) (brs : Bool) (esi : Bool) (dlc : Fin 16) (data : List Nat)
  /-- CAN_TX_REQUEST (R358): A write to CAN_TXREQ requests transmission of transmit buffers. -/
  | canTxRequest (l : LaneId) (mask : Nat)
  /-- CAN_TX_DONE (R355): A CAN transmission completes and sets its TXDONE bit. -/
  | canTxDone (l : LaneId)
  /-- CAN_RECOVER (R353): A write of RECOVER starts bus-off recovery. -/
  | canRecover (l : LaneId)
  /-- CAN_POP (R358): A write of POP frees the oldest FIFO entry. -/
  | canPop (l : LaneId)
  /-- CAN_ERROR (R353): A CAN error changes the error counts and may enter error passive or bus-off. -/
  | canError (l : LaneId) (tx : Bool) (eight : Bool)
  /-- SCRUB_SWEEP (R376): The background scrub reads every ECC word once per sweep and records SWEEP_MS. -/
  | scrubSweep (l : LaneId) (ms : Nat)
  /-- SCRUB_LATE (R376): A sweep not complete within 2.2 s raises source 0xF6. -/
  | scrubLate (l : LaneId)
  /-- TOKEN_SUBMIT (R381): A write of SUBMIT starts verification of the life-cycle token. -/
  | tokenSubmit (l : LaneId)
  /-- TOKEN_VERIFIED (R381): The token verification ends with a result, and a new challenge is drawn. -/
  | tokenVerified (l : LaneId)
  /-- SLICE_PERIOD_EXPIRY (R390): On a PG930-D, each SLICE_PERIOD the BST requests withdrawal of the next pair. -/
  | slicePeriodExpiry (l : LaneId)
  /-- SLICE_DONE (R390): A self-test slice segment completes and the pair restarts through RESYNC, or a failure exits the lane. -/
  | sliceDone (l : LaneId) (ok : Bool)
  /-- SHUTDOWN_TEST_DONE (R389): The SHUTDOWN full test ends and writes a new certificate, or sets SD_FAIL. -/
  | shutdownTestDone (l : LaneId) (passed : Bool) (unit : Fin 7)
  /-- DIRECT_TEST_START (R393): A write of GO in BST_DIRECT starts one test or segment where the life-cycle state permits. -/
  | directTestStart (l : LaneId) (test : Fin 256) (unit : Fin 16) (segment : Fin 128)
  /-- DIRECT_TEST_DONE (R393): A direct test completes, setting ST_FAIL on a failure. -/
  | directTestDone (l : LaneId) (ok : Bool)
  /-- CRYSTAL_WINDOW (R404): A window of 1,024 HFO cycles ends and the crystal and root counts are judged. -/
  | crystalWindow (l : LaneId) (die : Fin 3) (x : Nat) (r : Nat)
  /-- XTAL_EDGE_TIMEOUT (R404): No XTAL edge within 16 HFO cycles is a crystal failure. -/
  | xtalEdgeTimeout (l : LaneId) (die : Fin 3)
  /-- ROOT_LOCK_ERROR (R404): The PLL lock detector reports a phase error in 4 consecutive reference cycles, which is a root failure. -/
  | rootLockError (l : LaneId) (die : Fin 3)
  /-- XF_HOLD_EXPIRY (R405): XF_HOLD after a host crystal failure raises source 0x09 and exits the lane. -/
  | xfHoldExpiry (l : LaneId)
  /-- HFO_CHECK (R408): Each LFO tick the HFO count is checked, and a failure moves the fault logic to ROOT ÷ 20. -/
  | hfoCheck (l : LaneId) (die : Fin 3) (count : Nat)
  /-- SWITCH_COMPLETE (R409): A clock switch releases its output on the new source. -/
  | switchComplete (l : LaneId) (die : Fin 2) (d : Fin 5) (time : Nat)
  /-- SWITCH_TIMEOUT (R410): The old source gives no edge for 8 LFO ticks; the switch completes on the new source with LOST_INDET. -/
  | switchTimeout (l : LaneId) (die : Fin 2) (d : Fin 5) (time : Nat)
  /-- RAMP_STEP (R411): After RAMP_HOLD output cycles, the divider ramp moves to its next step. -/
  | rampStep (l : LaneId) (die : Fin 2) (d : Fin 5) (time : Nat)
  /-- SSC_PERIOD_START (R403): At a modulation period start, changed spread settings take effect. -/
  | sscPeriodStart (l : LaneId) (die : Fin 2)
  /-- DOZE (R420): A pair executes DOZE; when all pairs in service have dozed, the PSC starts the entry toward LEVEL. -/
  | doze (l : LaneId) (pair : Fin 4)
  /-- BLOCK_ANSWER (R421): A block answers PREPARE with ACCEPT or REFUSE, and the entry continues, is refused or aborts. -/
  | blockAnswer (l : LaneId) (id : Fin 32) (busy : Bool)
  /-- DRAIN_TIMEOUT (R422): A port not drained 64 µs after N1 refuses the entry. -/
  | drainTimeout (l : LaneId) (id : Fin 32)
  /-- FIELD_OFF_DONE (R421): The field regions report OFF after the class G latch, which is commit N3. -/
  | fieldOffDone (l : LaneId) (inTime : Bool)
  /-- RETENTION_SAVE_DONE (R432): The retention list is saved with its CRC, which is N4, or the save check fails. -/
  | retentionSaveDone (l : LaneId) (ok : Bool)
  /-- REGION_OFF_DONE (R421): CORE and FABRIC go OFF at N5 and the lane becomes ASLEEP. -/
  | regionOffDone (l : LaneId)
  /-- PRIVILEGED_WAKE (R425): KEY_ON, SS_REQ, a Nguas wake, a lease takeover or a debug wake is latched in PSC_WAKE. -/
  | privilegedWake (l : LaneId) (which : Fin 5)
  /-- REGION_POWER_UP (R427): A woken region is supplied and in range, and its clocks start. -/
  | regionPowerUp (l : LaneId) (fieldSide : Bool)
  /-- G_RELEASE (R430): A write of G_RELEASE releases the class G latch where the field die accepts it. -/
  | gRelease (l : LaneId)
  /-- SUPPLY_OUT_OF_RANGE (R434): A supply monitor out of range for 1 µs clears its OK bit and raises its source, latching class G
  on the field side. -/
  | supplyOutOfRange (l : LaneId) (which : Fin 6)
  /-- DP_READ (R442): The data-port READ command returns window data. -/
  | dpRead (addr : Nat) (n : Nat)
  /-- DP_WRITE (R442): The data-port WRITE command stores data into a window. -/
  | dpWrite (addr : Nat) (data : List Byte)
  /-- DP_STATUS (R441): The STATUS command returns DP_STATUS. -/
  | dpStatus
  /-- DP_IDENT (R441): The IDENT command returns DP_IDENT and the DEVICE_ID. -/
  | dpIdent
  /-- UNKNOWN_OPCODE (R441): An unknown opcode is ignored until DP_CS_N rises and counts in ERR_OPCODE. -/
  | unknownOpcode
  /-- STAGE_OPEN (R452): Staging opens, discarding the oldest log sectors and erasing the staging area. -/
  | stageOpen
  /-- STAGE_CLOSE (R453): Staging closes and Owl starts verifying the image. -/
  | stageClose
  /-- STAGE_DISCARD (R452): The staging sectors return to the log ring. -/
  | stageDiscard
  /-- UPDATE_START (R454): Owl checks the masked lanes and offers the verified image to each in turn. -/
  | updateStart
  /-- LOG_ACK (R450): The host acknowledges log Reams. -/
  | logAck
  /-- ATTEST (R457): The host requests an attestation report over the written nonce. -/
  | attest
  /-- CERT_WRITE (R456): The host submits a device certificate, which is stored if it verifies. -/
  | certWrite
  /-- STAGING_ERASE_DONE (R452): The staging sectors are erased and BUSY clears. -/
  | stagingEraseDone
  /-- STAGING_PROGRAM_DONE (R452): An accepted staging write has been programmed and BUSY clears. -/
  | stagingProgramDone
  /-- IMAGE_VERIFY_DONE (R453): Owl's verification of the staged image ends in VERIFIED or REJECTED. -/
  | imageVerifyDone
  /-- ATTEST_REPORT_DONE (R457): The signed report is written and ATT_READY is set. -/
  | attestReportDone
  /-- TELEMETRY_SEND (R444): Every TEL_PERIOD the lane's MBX sends a telemetry record. -/
  | telemetrySend (l : LaneId) (dieTemps : List Int)
  /-- TELEMETRY_RECEIPT (R444): Owl stores the lane's latest telemetry record in window 3. -/
  | telemetryReceipt (l : LaneId)
  /-- TELEMETRY_STALE (R444): No record from a lane for 3 × TEL_PERIOD marks its block STALE. -/
  | telemetryStale (l : LaneId)
  /-- LOG_RECORD_RECEIPT (R449): A log record is queued for programming, or lost at a full queue. -/
  | logRecordReceipt (l : LaneId)
  /-- LOG_RECORD_PROGRAMMED (R449): A queued record is programmed into the NOR ring. -/
  | logRecordProgrammed (ok : Bool)
  /-- MD_SENSOR_SAMPLE (R445): Every 100 ms Owl samples its own sensors and logs threshold crossings. -/
  | mdSensorSample (t0 : Int) (t1 : Int) (humidity : Nat) (supplyOk : Bool)
  /-- STATE_BLOCK_SAVE (R447): Owl writes a persistent state block every SAVE_MIN minutes. -/
  | stateBlockSave
  /-- UPDATE_OFFER (R454): The lane update unit accepts an offer and starts erasing, or refuses with code 8. -/
  | updateOffer (l : LaneId)
  /-- UPDATE_ERASE_DONE (R454): The inactive slot is erased and READY is sent. -/
  | updateEraseDone (l : LaneId)
  /-- UPDATE_CHUNK (R454): A slot chunk is programmed and CRC-checked. -/
  | updateChunk (l : LaneId) (n : Nat) (ok : Bool)
  /-- UPDATE_VERIFY_DONE (R454): The written slot is checked and its header programmed, or the transfer fails. -/
  | updateVerifyDone (l : LaneId)
  /-- UPDATE_CHUNK_TIMEOUT (R454): 100 ms without a chunk fails the transfer. -/
  | updateChunkTimeout (l : LaneId)
  /-- UPDATE_REPLY (R454): Owl receives a lane's READY, REFUSE or result and moves on. -/
  | updateReply (l : LaneId)
  /-- IDENTITY_RECORD (R440): Owl receives a lane's identity record. -/
  | identityRecord (l : LaneId)
  /-- MBX_SEND (R461): A write of MBX_SEND sends a firmware log record. -/
  | mbxSend (l : LaneId) (ident : Fin 256)
  /-- ROLLBACK_COMMIT (R451): A write of COMMIT advances the rollback counter or sets COMMIT_REFUSED. -/
  | rollbackCommit (l : LaneId)
  /-- MD_DORMANT_ENTRY (R458): Owl saves its state and the MD enters dormant once every lane sleeps and the port is idle. -/
  | mdDormantEntry
  /-- MD_WAKE (R458): A DP_CS_N edge or a lane's wake line wakes Owl from ROM. -/
  | mdWake
  /-- SS_REQ_RELEASE (R269): SS_REQ_N_x returns high through its filter, SSREQ clears, and the restart condition of R47 can be met again. -/
  | ssReqRelease (l : LaneId)
  /-- SUPPLY_IN_RANGE (R471): A monitored supply comes back into its recommended range; its OK bit sets, and when the field
  supplies are all in range (SQ2) the field die is released from reset. -/
  | supplyInRange (l : LaneId) (which : Fin 6)
  /-- TEMPERATURE_OUT_OF_RANGE (R486): A die temperature sensor reads above 150 °C, clearing COND_RECOMMENDED, and a die or
  package over-temperature leads to lane exit or TORQUE-OFF. -/
  | temperatureOutOfRange (l : LaneId) (level : Fin 3)
  /-- PARITY_ERROR (R296): A block detects a parity or uncorrectable ECC error in its registers, datapath or memory and takes its
  local reaction, forcing the field gate outputs off for a field S4 source. -/
  | parityError (l : LaneId) (src : Nat) (part : Fin 16)
  /-- DEBUG_RESUME (R227): The debugger releases a halted pair, and both cores and any stopped field clocks run again. -/
  | debugResume (l : LaneId) (pair : Fin 4)
  /-- BUS_OFF_RECOVERY_COMPLETE (R353): Bus-off recovery ends per ISO 11898-1 and the CAN port returns to error active. -/
  | busOffRecoveryComplete (l : LaneId)
  /-- BOUNDARY_SCAN_INSTRUCTION (R379): An IEEE 1149.1 instruction is accepted where the life-cycle state and R52 permit it, and
  is otherwise refused with source 0xE7. -/
  | boundaryScanInstruction (l : LaneId) (full : Bool)
  /-- REGISTER_WRITE_ITEM (R368): The field die accepts a register-write item from the Couch, clamps and stores it, updates its
  configuration CRC and returns the credit. -/
  | registerWriteItem (l : LaneId)
deriving DecidableEq, Repr

end Sys2Proof
end

