-- ==== Sys2Proof/Decode.lean ====
section
/-! DEFINITION. The command a table word spells: the command table gives no row any bits, so no word spells one. -/

namespace Sys2Proof

/-- The command that `nbits` bits with value `w` spell. (DESIGN CHOICE, assumption 1) -/
def decodeTableWord (_nbits _w : Nat) : Option Instr := none

end Sys2Proof
end

