-- ==== Sys2Proof/Config.lean ====
section
/-! DEFINITION. What the spec leaves open, as constants without a body: nothing can be proved of their values. -/

namespace Sys2Proof.Config

/-- The `n`-th free value a die draws: a value the spec leaves undefined or random. (DESIGN CHOICE, assumption 8) -/
opaque freeValue (n : Nat) : BitVec 512

/-- Whether a core of pair `p` enables event `ev`: the DK4 instruction set decides it, outside the spec (R374).
(DESIGN CHOICE, assumption 14) -/
opaque eventEnabled (p ev : Nat) : Bool

/-- Whether a quotient with a remainder is rounded up, where the spec does not name the rounding. The site numbers the
rule that computes the quotient. (DESIGN CHOICE, assumption 9) -/
opaque roundUp (site : Nat) (num : Int) (den : Nat) : Bool

/-- A quotient by zero, to which the spec gives no value. (DESIGN CHOICE, assumption 11) -/
opaque divZero (site : Nat) (num : Int) : Int

/-- SHA-384 of a byte string (FIPS 180-4), as a number. (DESIGN CHOICE, assumption 13) -/
opaque sha384 (bytes : List Byte) : BitVec 384

/-- Whether an ECDSA signature verifies over brainpoolP384r1 with SHA-384: key, signed bytes, signature (RFC 5639).
(DESIGN CHOICE, assumption 13) -/
opaque ecdsaOk (key : Nat) (bytes sig : List Byte) : Bool

/-- The 96 signature bytes a die's own key makes over a byte string. (DESIGN CHOICE, assumption 13) -/
opaque ecdsaSign (key : Nat) (bytes : List Byte) : BitVec 768

/-- The Darevo manufacturing key and the Darevo life-cycle key in boot ROM (R379, R381). -/
opaque manufacturingKey : Nat
opaque lifeCycleKey : Nat

/-- Whether a device certificate names a public key as its subject key and verifies against the Darevo identity root in MD
ROM (R456, RFC 5280). (DESIGN CHOICE, assumption 13) -/
opaque certOk (pub : Nat) (bytes : List Byte) : Bool

end Sys2Proof.Config

namespace Sys2Proof

/-- The quotient of R-numbered site `site`: exact where it is exact, else one of its two neighbours.
(DESIGN CHOICE, assumption 9, DESIGN CHOICE, assumption 11) -/
def divRound (site : Nat) (num : Int) (den : Nat) : Int :=
  if den = 0 then Config.divZero site num
  else if num % (den : Int) = 0 then num / (den : Int)
  else if Config.roundUp site num den then num / (den : Int) + 1 else num / (den : Int)

/-- Round to nearest (R63); the direction of a tie is open. (DESIGN CHOICE, assumption 10) -/
def nearest (site : Nat) (num : Int) (den : Nat) : Int :=
  if 2 * (num % (den : Int)) < den then num / (den : Int)
  else if 2 * (num % (den : Int)) = den then (if Config.roundUp site num den then num / (den : Int) + 1 else num / (den : Int))
  else num / (den : Int) + 1

end Sys2Proof
end

