-- ==== Sys2Proof/Machine/Registers.lean ====
section
/-! DEFINITION. The register fields the spec names (one definition per field, at the bits of its register
table, with its width and reset value and the region whose power-on or reset clears it), the severity
nibbles, and the named internal quantities the rules give the blocks. -/

namespace Sys2Proof.Machine

/-- The region a field belongs to, which says what resets it (R26, R299, R361, R432, R439, R447). -/
inductive Home where
  | host | net | sa | aon | field | fieldAon | md | mdP | nv
deriving DecidableEq, Repr

/-- The number of a region in a field key. -/
def Home.code : Home → Nat
  | .host => 0 | .net => 1 | .sa => 2 | .aon => 3 | .field => 4 | .fieldAon => 5 | .md => 6 | .mdP => 7 | .nv => 8

/-- A register field: region, byte address of its register, least significant bit, width, reset value. -/
structure Fld where
  home : Home
  addr : Nat
  lsb : Nat
  width : Nat
  reset : Nat
deriving DecidableEq, Repr

/-- The key under which a field is stored: region, then address, then bit. -/
def Fld.key (f : Fld) : Nat := f.home.code * 2 ^ 48 + f.addr * 32 + f.lsb

/-- R299: Reaction timer. -/
def BGR_CFG.REACT_T : Fld := ⟨.host, 0x40000000, 0, 14, 50⟩
/-- R299: Bit 16 + p: BGR_EVT to PAIR[p]. -/
def BGR_CFG.IRQ_PAIRS : Fld := ⟨.host, 0x40000000, 16, 4, 15⟩
/-- R299: Copy log entries to the management die. -/
def BGR_CFG.LOG_MD : Fld := ⟨.host, 0x40000000, 20, 1, 1⟩
/-- R299: 0 CLEAR, 1 LATCHED, 2 FAULT. -/
def BGR_STATE.STATE : Fld := ⟨.host, 0x40000004, 0, 2, 0⟩
/-- R299: A PEND bit is set. -/
def BGR_STATE.PEND_ANY : Fld := ⟨.host, 0x40000004, 2, 1, 0⟩
/-- R299: E0 latched by timer expiry, per R295. -/
def BGR_STATE.ESC_TIMER : Fld := ⟨.host, 0x40000004, 3, 1, 0⟩
/-- R299: Per R296. -/
def BGR_STATE.SELF : Fld := ⟨.host, 0x40000004, 4, 1, 0⟩
/-- R299: Per R298. -/
def BGR_STATE.DRY : Fld := ⟨.host, 0x40000004, 5, 1, 0⟩
/-- R299: FAULT entered by an E0 without a fault source. -/
def BGR_STATE.EXIT_ONLY : Fld := ⟨.host, 0x40000004, 6, 1, 0⟩
/-- R299: An S2 or higher arrival since last clear. -/
def BGR_STATE.NEW : Fld := ⟨.host, 0x40000004, 7, 1, 0⟩
/-- R299: Per R290. -/
def BGR_STATE.SEV_WR_REFUSED : Fld := ⟨.host, 0x40000004, 8, 8, 0⟩
/-- R299: Injected occurrences. -/
def BGR_STATE.FORCED_CNT : Fld := ⟨.aon, 0x40000004, 16, 8, 0⟩
/-- R299: Per R297. -/
def BGR_STATE.FORCE_REFUSED : Fld := ⟨.host, 0x40000004, 24, 8, 0⟩
/-- R299: Latched source. -/
def BGR_FIRST.ID : Fld := ⟨.host, 0x40000008, 0, 8, 0⟩
/-- R299: Latched severity. -/
def BGR_FIRST.SEV : Fld := ⟨.host, 0x40000008, 8, 3, 0⟩
/-- R299: Per R298. -/
def BGR_FIRST.FORCED : Fld := ⟨.host, 0x40000008, 11, 1, 0⟩
/-- R299: Per R298. -/
def BGR_FIRST.OBSERVED : Fld := ⟨.host, 0x40000008, 12, 1, 0⟩
/-- R299: 0 host, 1 field. -/
def BGR_FIRST.ORIGIN : Fld := ⟨.host, 0x40000008, 13, 1, 0⟩
/-- R299: 0 lane time, 1 LFO ticks, per R294. -/
def BGR_FIRST.TCLK : Fld := ⟨.host, 0x40000008, 14, 1, 0⟩
/-- R299: Record present. -/
def BGR_FIRST.VALID : Fld := ⟨.host, 0x40000008, 16, 1, 0⟩
/-- R299: Later faults arrived. -/
def BGR_FIRST.OVERFLOW : Fld := ⟨.host, 0x40000008, 17, 1, 0⟩
/-- R299: Highest severity among later faults. -/
def BGR_FIRST.LATER_MAX : Fld := ⟨.host, 0x40000008, 18, 3, 0⟩
/-- R299: Later faults. -/
def BGR_FIRST.LATER_CNT : Fld := ⟨.host, 0x40000008, 24, 8, 0⟩
/-- R299: arrival instant, TLO and THI. -/
def BGR_FIRST_T.T : Fld := ⟨.host, 0x4000000c, 0, 64, 0⟩
/-- R299: Field source: bits [31:0] of the field timebase count of R292, in 1 ns half-ticks from field die reset. -/
def BGR_FIRST_FTB.FTB : Fld := ⟨.host, 0x40000014, 0, 32, 0⟩
/-- R299: Arrival to E0 gate of the last escalation, real or dry. -/
def BGR_ESC.ESC_TIME : Fld := ⟨.host, 0x40000018, 0, 20, 0⟩
/-- R299: BGR_FIRST at the last host die reset. -/
def BGR_PREV.PREV : Fld := ⟨.aon, 0x40000020, 0, 32, 0⟩
/-- R299: its times. -/
def BGR_PREV_T.T : Fld := ⟨.aon, 0x40000024, 0, 64, 0⟩
/-- R299: Oldest log entry. -/
def BGR_LOG.ID : Fld := ⟨.host, 0x40000030, 0, 8, 0⟩
/-- R299: Its severity. -/
def BGR_LOG.SEV : Fld := ⟨.host, 0x40000030, 8, 3, 0⟩
/-- R299: Bit 11 FORCED, bit 12 OBSERVED. -/
def BGR_LOG.QUAL : Fld := ⟨.host, 0x40000030, 11, 2, 0⟩
/-- R299: As in BGR_FIRST. -/
def BGR_LOG.TCLK : Fld := ⟨.host, 0x40000030, 13, 1, 0⟩
/-- R299: Entries held. -/
def BGR_LOG.USED : Fld := ⟨.host, 0x40000030, 16, 6, 0⟩
/-- R299: Entries not stored because the log was full. -/
def BGR_LOG.LOG_LOST : Fld := ⟨.host, 0x40000030, 24, 8, 0⟩
/-- R299: times of the oldest log entry. -/
def BGR_LOG_T.T : Fld := ⟨.host, 0x40000034, 0, 64, 0⟩
/-- R299: 1 removes the oldest entry. -/
def BGR_LOG_POP.POP : Fld := ⟨.host, 0x4000003c, 0, 1, 0⟩
/-- R299: Per R297. -/
def BGR_FORCE.BITS (i : Nat) : Fld := ⟨.host, 0x40000080 + 0x4 * i, 0, 32, 0⟩
/-- R299: Per R295. -/
def BGR_PEND.BITS (i : Nat) : Fld := ⟨.host, 0x400000a0 + 0x4 * i, 0, 32, 0⟩
/-- R299: counter of source k. -/
def BGR_CNT.CNT (i : Nat) : Fld := ⟨.aon, 0x40000400 + 2 * i, 0, 16, 0⟩
/-- R416: Depth in 0.125 %. -/
def CKG_CFG.SSC_DEPTH : Fld := ⟨.host, 0x40010000, 0, 5, 0⟩
/-- R416: Modulation rate. -/
def CKG_CFG.SSC_RATE : Fld := ⟨.host, 0x40010000, 8, 7, 30⟩
/-- R416: 0 native, 1 divider ramp. -/
def CKG_CFG.SW_MODE : Fld := ⟨.host, 0x40010000, 15, 1, 0⟩
/-- R416: Hold per ramp step. -/
def CKG_CFG.RAMP_HOLD : Fld := ⟨.host, 0x40010000, 16, 8, 64⟩
/-- R416: Crystal window limit. -/
def CKG_CFG.XTOL : Fld := ⟨.host, 0x40010000, 24, 8, 50⟩
/-- R416: Hold on the HFO, per R405. -/
def CKG_HOLD.XF_HOLD : Fld := ⟨.host, 0x40010004, 0, 10, 20⟩
/-- R416: Reference: 0 XTAL, 1 HFO. -/
def CKG_STATUS.REF : Fld := ⟨.host, 0x40010008, 0, 1, 0⟩
/-- R416: Latest window in range. -/
def CKG_STATUS.XTAL_OK : Fld := ⟨.host, 0x40010008, 1, 1, 0⟩
/-- R416: PLL locked. -/
def CKG_STATUS.PLL_LOCK : Fld := ⟨.host, 0x40010008, 2, 1, 0⟩
/-- R416: A switch in progress. -/
def CKG_STATUS.SW_BUSY : Fld := ⟨.host, 0x40010008, 3, 1, 0⟩
/-- R416: Latest crystal count. -/
def CKG_STATUS.XCOUNT : Fld := ⟨.host, 0x40010008, 8, 10, 0⟩
/-- R416: Hold remaining. -/
def CKG_STATUS.HOLD_LEFT : Fld := ⟨.host, 0x40010008, 20, 12, 0⟩
/-- R416: Per R404. -/
def CKG_FLAGS.XTAL_FAIL : Fld := ⟨.host, 0x4001000c, 0, 1, 0⟩
/-- R416: Per R407. -/
def CKG_FLAGS.LOCK_LOST : Fld := ⟨.host, 0x4001000c, 1, 1, 0⟩
/-- R416: Per R409 and R410. -/
def CKG_FLAGS.LOST_INDET : Fld := ⟨.host, 0x4001000c, 2, 1, 0⟩
/-- R416: Per R408. -/
def CKG_FLAGS.HFO_FAIL : Fld := ⟨.host, 0x4001000c, 3, 1, 0⟩
/-- R416: Crystal failures. -/
def CKG_CNT.XFAIL_CNT : Fld := ⟨.host, 0x40010010, 0, 8, 0⟩
/-- R416: Root failures. -/
def CKG_CNT.UNLOCK_CNT : Fld := ⟨.host, 0x40010010, 8, 8, 0⟩
/-- R416: Per R410. -/
def CKG_CNT.INDET_CNT : Fld := ⟨.host, 0x40010010, 16, 8, 0⟩
/-- R416: Switches completed. -/
def CKG_CNT.SWITCHES : Fld := ⟨.host, 0x40010010, 24, 8, 0⟩
/-- R416: 0 ROOT or TIMING, 1 HFO. -/
def CKG_DOM_CTL.SRC (i : Nat) : Fld := ⟨.host, 0x40010020 + 0x4 * i, 0, 1, 1⟩
/-- R416: Runs in run. -/
def CKG_DOM_CTL.RUN_EN (i : Nat) : Fld := ⟨.host, 0x40010020 + 0x4 * i, 1, 1, 1⟩
/-- R416: Runs in sleep. -/
def CKG_DOM_CTL.SLP_EN (i : Nat) : Fld := ⟨.host, 0x40010020 + 0x4 * i, 2, 1, 0⟩
/-- R416: Runs in deep sleep, on the HFO. -/
def CKG_DOM_CTL.DSLP_EN (i : Nat) : Fld := ⟨.host, 0x40010020 + 0x4 * i, 3, 1, 0⟩
/-- R416: Duration of the latest switch. -/
def CKG_DOM_CTL.SW_TIME (i : Nat) : Fld := ⟨.host, 0x40010020 + 0x4 * i, 16, 16, 0⟩
/-- R438: Level for the next DOZE, per R419. -/
def PSC_MODE.LEVEL : Fld := ⟨.host, 0x40020000, 0, 2, 0⟩
/-- R438: 1 releases the class G latch, per R430. -/
def PSC_CTL.G_RELEASE : Fld := ⟨.host, 0x40020004, 0, 1, 0⟩
/-- R438: Level in force. -/
def PSC_STATUS.LEVEL_NOW : Fld := ⟨.host, 0x40020008, 0, 2, 0⟩
/-- R438: 0 idle, 1 prepare, 2 commit, 3 save, 4 gating, 5 restart. -/
def PSC_STATUS.STAGE : Fld := ⟨.host, 0x40020008, 2, 3, 0⟩
/-- R438: Per R423. -/
def PSC_STATUS.DOZE_ABORT : Fld := ⟨.host, 0x40020008, 5, 1, 0⟩
/-- R438: State per R418. -/
def PSC_STATUS.CORE : Fld := ⟨.host, 0x40020008, 8, 2, 0⟩
/-- R438: State. -/
def PSC_STATUS.FABRIC : Fld := ⟨.host, 0x40020008, 10, 2, 0⟩
/-- R438: State. -/
def PSC_STATUS.NET : Fld := ⟨.host, 0x40020008, 12, 2, 0⟩
/-- R438: State. -/
def PSC_STATUS.SA : Fld := ⟨.host, 0x40020008, 14, 2, 3⟩
/-- R438: Class G latch engaged, per the latest Couch status. -/
def PSC_STATUS.G_LATCHED : Fld := ⟨.host, 0x40020008, 16, 1, 1⟩
/-- R438: Bit 20 + p: PAIR[p] dozing. -/
def PSC_STATUS.DOZED : Fld := ⟨.host, 0x40020008, 20, 4, 0⟩
/-- R438: Bit 0 KEY_ON, 1 SS_REQ, 2 Nguas, 3 lease, 4 debug. -/
def PSC_WAKE.WAKES : Fld := ⟨.aon, 0x4002000c, 0, 5, 0⟩
/-- R438: Replays at N5. -/
def PSC_WAKE.REPLAYS : Fld := ⟨.aon, 0x4002000c, 8, 8, 0⟩
/-- R438: LFO tick count, bits [31:0], at the latest latched wake. -/
def PSC_WAKE_TICK.TICK : Fld := ⟨.aon, 0x40020010, 0, 32, 0⟩
/-- R438: Entries completed. -/
def PSC_CNT.ENTRIES : Fld := ⟨.aon, 0x40020014, 0, 8, 0⟩
/-- R438: Refusals in request or prepare. -/
def PSC_CNT.REFUSED : Fld := ⟨.aon, 0x40020014, 8, 8, 0⟩
/-- R438: Aborts at abort points. -/
def PSC_CNT.ABORTED : Fld := ⟨.aon, 0x40020014, 16, 8, 0⟩
/-- R438: Refusals in commit. -/
def PSC_CNT.LATE_REFUSED : Fld := ⟨.aon, 0x40020014, 24, 8, 0⟩
/-- R438: Latest refuser. -/
def PSC_REFUSE.ID : Fld := ⟨.aon, 0x40020018, 0, 8, 0⟩
/-- R438: Per R424. -/
def PSC_REFUSE.REASON : Fld := ⟨.aon, 0x40020018, 8, 4, 0⟩
/-- R438: 1 request, 2 prepare, 3 commit. -/
def PSC_REFUSE.STAGE : Fld := ⟨.aon, 0x40020018, 12, 3, 0⟩
/-- R438: Level asked. -/
def PSC_REFUSE.LVL : Fld := ⟨.aon, 0x40020018, 16, 2, 0⟩
/-- R438: Abort point of the latest abort. -/
def PSC_REFUSE.ABORT_AP : Fld := ⟨.aon, 0x40020018, 20, 3, 0⟩
/-- R438: Wake bits as WAKES. -/
def PSC_REFUSE.ABORT_SRC : Fld := ⟨.aon, 0x40020018, 24, 5, 0⟩
/-- R438: Retention list entries. -/
def PSC_RET.N : Fld := ⟨.aon, 0x4002001c, 0, 11, 0⟩
/-- R438: Per R432. -/
def PSC_RET.RET_BAD : Fld := ⟨.aon, 0x4002001c, 16, 1, 0⟩
/-- R438: Entries skipped. -/
def PSC_RET.SKIPPED : Fld := ⟨.aon, 0x4002001c, 24, 8, 0⟩
/-- R438: Bit 0 VDD_CORE_x, 1 VDD_IO_x, 2 VDD_AON_x in range. -/
def PSC_SUPPLY.OK : Fld := ⟨.host, 0x40020020, 0, 3, 0⟩
/-- R438: Items counted dropped. -/
def PSC_PORT.DROPPED (i : Nat) : Fld := ⟨.host, 0x40020040 + 0x4 * i, 0, 16, 0⟩
/-- R438: Old-epoch items discarded. -/
def PSC_PORT.STALE (i : Nat) : Fld := ⟨.host, 0x40020040 + 0x4 * i, 16, 8, 0⟩
/-- R438: Current epoch. -/
def PSC_PORT.EPOCH (i : Nat) : Fld := ⟨.aon, 0x40020040 + 0x4 * i, 24, 8, 0⟩
/-- R241: PAIR[3] split, per R229. -/
def LSC_CFG.SPLIT3 : Fld := ⟨.host, 0x40030000, 0, 1, 0⟩
/-- R241: Frames allowed for resynchronisation. -/
def LSC_CFG.RESYNC_LIMIT : Fld := ⟨.host, 0x40030000, 8, 8, 8⟩
/-- R241: Restart address in the pair's TCM view. -/
def LSC_RESTART_VEC.VEC : Fld := ⟨.host, 0x40030004, 0, 32, 0⟩
/-- R241: Entries in the write log. -/
def LSC_DBG.LOG_USED : Fld := ⟨.host, 0x40030008, 0, 6, 0⟩
/-- R241: Per R228. -/
def LSC_DBG.LOG_FULL : Fld := ⟨.host, 0x40030008, 6, 1, 0⟩
/-- R241: Refused debug writes. -/
def LSC_DBG.REFUSED_WR : Fld := ⟨.host, 0x40030008, 8, 8, 0⟩
/-- R241: Writes replayed into checkers. -/
def LSC_DBG.REPLAYED : Fld := ⟨.host, 0x40030008, 16, 16, 0⟩
/-- R241: 0 RUN, 1 RESTART, 2 RESYNC, 3 FENCED, 4 SPLIT, 5 WITHDRAWN for self-test. -/
def LSC_PAIR_STATUS.STATE (i : Nat) : Fld := ⟨.host, 0x40030100 + 0x20 * i, 0, 3, 0⟩
/-- R241: Last fault: 0 none, 1 mismatch, 2 DLY_PAR, 3 CMP_RAIL. -/
def LSC_PAIR_STATUS.CAUSE (i : Nat) : Fld := ⟨.host, 0x40030100 + 0x20 * i, 4, 2, 0⟩
/-- R241: Faults in the present window. -/
def LSC_PAIR_STATUS.WIN_COUNT (i : Nat) : Fld := ⟨.aon, 0x40030100 + 0x20 * i, 6, 2, 0⟩
/-- R241: Latest comparator test passed. -/
def LSC_PAIR_STATUS.CMP_TESTED (i : Nat) : Fld := ⟨.host, 0x40030100 + 0x20 * i, 8, 1, 0⟩
/-- R241: 1 ends restore, per R225. -/
def LSC_PAIR_STATUS.RESTORED (i : Nat) : Fld := ⟨.host, 0x40030100 + 0x20 * i, 16, 1, 0⟩
/-- R241: 1 fences the pair, per R224. -/
def LSC_PAIR_STATUS.GIVE_UP (i : Nat) : Fld := ⟨.host, 0x40030100 + 0x20 * i, 17, 1, 0⟩
/-- R241: Mismatches. -/
def LSC_PAIR_CNT.MM_CNT (i : Nat) : Fld := ⟨.aon, 0x40030104 + 0x20 * i, 0, 8, 0⟩
/-- R241: DLY_PAR faults. -/
def LSC_PAIR_CNT.DLY_CNT (i : Nat) : Fld := ⟨.aon, 0x40030104 + 0x20 * i, 8, 8, 0⟩
/-- R241: CMP_RAIL faults. -/
def LSC_PAIR_CNT.RAIL_CNT (i : Nat) : Fld := ⟨.aon, 0x40030104 + 0x20 * i, 16, 8, 0⟩
/-- R241: Completed restarts. -/
def LSC_PAIR_CNT.RESTART_CNT (i : Nat) : Fld := ⟨.aon, 0x40030104 + 0x20 * i, 24, 8, 0⟩
/-- R241: 1 commits the written half. -/
def LSC_PAIR_CKPT.COMMIT (i : Nat) : Fld := ⟨.host, 0x40030108 + 0x20 * i, 0, 1, 0⟩
/-- R241: Half holding the valid checkpoint. -/
def LSC_PAIR_CKPT.VALID_HALF (i : Nat) : Fld := ⟨.host, 0x40030108 + 0x20 * i, 1, 1, 0⟩
/-- R241: A checkpoint has been committed. -/
def LSC_PAIR_CKPT.VALID (i : Nat) : Fld := ⟨.host, 0x40030108 + 0x20 * i, 2, 1, 0⟩
/-- R241: Frame number bits [15:0] at commit. -/
def LSC_PAIR_CKPT.SEQ (i : Nat) : Fld := ⟨.host, 0x40030108 + 0x20 * i, 16, 16, 0⟩
/-- R241: Bit group of the recorded fault. -/
def LSC_PAIR_MMINFO.GROUP (i : Nat) : Fld := ⟨.host, 0x4003010c + 0x20 * i, 0, 6, 0⟩
/-- R241: Bit 6: rail 0 saw a difference. -/
def LSC_PAIR_MMINFO.RAILS (i : Nat) : Fld := ⟨.host, 0x4003010c + 0x20 * i, 6, 2, 0⟩
/-- R241: Delay stage of a DLY_PAR. -/
def LSC_PAIR_MMINFO.STAGE (i : Nat) : Fld := ⟨.host, 0x4003010c + 0x20 * i, 8, 1, 0⟩
/-- R242: Agreement frame. -/
def LSC_AGR_CFG.FRAME : Fld := ⟨.host, 0x40030800, 0, 11, 500⟩
/-- R242: Apply instant after frame start. -/
def LSC_AGR_CFG.APPLY_OFS : Fld := ⟨.host, 0x40030800, 16, 9, 40⟩
/-- R242: Demands of this frame complete, per R231. -/
def LSC_AGR_CFG.READY : Fld := ⟨.host, 0x40030800, 31, 1, 0⟩
/-- R242: Frames for R234. -/
def LSC_AGR_LIMITS.DIS_FRAMES : Fld := ⟨.host, 0x40030804, 0, 8, 16⟩
/-- R242: Frames for R237. -/
def LSC_AGR_LIMITS.SLOW_EXIT : Fld := ⟨.host, 0x40030804, 16, 16, 256⟩
/-- R242: Bit n: lane n present under R232 in the latest frame. -/
def LSC_AGR_STATUS.MUTUAL : Fld := ⟨.host, 0x40030808, 0, 3, 0⟩
/-- R242: Bit 4 + n: SLOW of lane n. -/
def LSC_AGR_STATUS.SLOW : Fld := ⟨.host, 0x40030808, 4, 3, 0⟩
/-- R242: This lane's latest message carried LATE. -/
def LSC_AGR_STATUS.SELF_LATE : Fld := ⟨.host, 0x40030808, 8, 1, 0⟩
/-- R242: Per R232. -/
def LSC_AGR_STATUS.VIEW_SPLIT : Fld := ⟨.host, 0x40030808, 9, 1, 0⟩
/-- R242: Per R235. -/
def LSC_AGR_STATUS.BANK_SPLIT : Fld := ⟨.host, 0x40030808, 10, 1, 0⟩
/-- R242: Late frames of lane A. -/
def LSC_AGR_LATE.LATE_A : Fld := ⟨.host, 0x4003080c, 0, 8, 0⟩
/-- R242: Late frames of lane B. -/
def LSC_AGR_LATE.LATE_B : Fld := ⟨.host, 0x4003080c, 8, 8, 0⟩
/-- R242: Late frames of lane C. -/
def LSC_AGR_LATE.LATE_C : Fld := ⟨.host, 0x4003080c, 16, 8, 0⟩
/-- R242: Frames since host die reset. -/
def LSC_AGR_FRAMENO.FRAMENO : Fld := ⟨.host, 0x40030810, 0, 32, 0⟩
/-- R243: Channel agreed. -/
def LSC_CH_CFG.EN (i : Nat) : Fld := ⟨.host, 0x40030900 + 0x20 * i, 0, 1, 0⟩
/-- R243: Bit 1 + n: lane n shares the channel. -/
def LSC_CH_CFG.LANES (i : Nat) : Fld := ⟨.host, 0x40030900 + 0x20 * i, 1, 3, 0⟩
/-- R243: Bit 8 + n: AXIS[n] takes the channel. -/
def LSC_CH_CFG.AXES (i : Nat) : Fld := ⟨.host, 0x40030900 + 0x20 * i, 8, 8, 0⟩
/-- R243: 0 none, 2 bank 0, 3 bank 1, per R235. -/
def LSC_CH_CFG.BANK_REQ (i : Nat) : Fld := ⟨.host, 0x40030900 + 0x20 * i, 16, 2, 0⟩
/-- R243: Agreement band. -/
def LSC_CH_BAND.BAND (i : Nat) : Fld := ⟨.host, 0x40030904 + 0x20 * i, 0, 32, 0x147ae14⟩
/-- R243: This lane's demand. -/
def LSC_CH_DEMAND.DEMAND (i : Nat) : Fld := ⟨.host, 0x40030908 + 0x20 * i, 0, 32, 0⟩
/-- R243: This lane's acceleration. -/
def LSC_CH_ACC.ACC (i : Nat) : Fld := ⟨.host, 0x4003090c + 0x20 * i, 0, 32, 0⟩
/-- R243: A of the latest frame. -/
def LSC_CH_APPLIED.APPLIED (i : Nat) : Fld := ⟨.host, 0x40030910 + 0x20 * i, 0, 32, 0⟩
/-- R243: Rule of R233 in the latest frame. -/
def LSC_CH_STAT.RULE (i : Nat) : Fld := ⟨.host, 0x40030914 + 0x20 * i, 0, 2, 3⟩
/-- R243: n of R233. -/
def LSC_CH_STAT.CONTRIB (i : Nat) : Fld := ⟨.host, 0x40030914 + 0x20 * i, 2, 2, 0⟩
/-- R243: Consecutive frames out of band or in DISAGREE. -/
def LSC_CH_STAT.DIS_RUN (i : Nat) : Fld := ⟨.host, 0x40030914 + 0x20 * i, 8, 8, 0⟩
/-- R243: Per R233. -/
def LSC_CH_STAT.DISAGREE (i : Nat) : Fld := ⟨.host, 0x40030914 + 0x20 * i, 16, 1, 0⟩
/-- R243: Per R234. -/
def LSC_CH_STAT.OUTLIER (i : Nat) : Fld := ⟨.host, 0x40030914 + 0x20 * i, 17, 1, 0⟩
/-- R329: Queue depth above which a target is SLOW. -/
def SCH_CFG.NA_LIMIT : Fld := ⟨.host, 0x40040000, 0, 5, 8⟩
/-- R329: Hang multiple of BUDGET. -/
def SCH_CFG.HANG_K : Fld := ⟨.host, 0x40040000, 8, 4, 4⟩
/-- R329: Consecutive safety misses for source 0x31. -/
def SCH_CFG.DL_EXIT : Fld := ⟨.host, 0x40040000, 12, 8, 4⟩
/-- R329: Observability window. -/
def SCH_CFG.OBS_WIN : Fld := ⟨.host, 0x40040000, 20, 8, 100⟩
/-- R329: Graph areas locked, per R315. -/
def SCH_CFG.LOCK : Fld := ⟨.host, 0x40040000, 31, 1, 0⟩
/-- R329: Bit n − 1: deadlines proven with n safety pairs. -/
def SCH_CAP.CAP : Fld := ⟨.host, 0x40040004, 0, 4, 15⟩
/-- R329: NEXT read stall limit. -/
def SCH_CAP.NEXT_WAIT : Fld := ⟨.host, 0x40040004, 8, 8, 10⟩
/-- R329: Withdrawal wait, per R325. -/
def SCH_CAP.WD_WAIT : Fld := ⟨.host, 0x40040004, 16, 8, 50⟩
/-- R329: Per R326. -/
def SCH_STATUS.SAFE_PAIRS : Fld := ⟨.host, 0x40040008, 0, 3, 0⟩
/-- R329: Per R315. -/
def SCH_STATUS.GRAPH_WR_REFUSED : Fld := ⟨.host, 0x40040008, 8, 8, 0⟩
/-- R329: Operations on all ready lists. -/
def SCH_STATUS.READY_ALL : Fld := ⟨.host, 0x40040008, 16, 16, 0⟩
/-- R329: Per R317. -/
def SCH_FLAGS.OVERRUN : Fld := ⟨.host, 0x4004000c, 0, 1, 0⟩
/-- R329: Per R321. -/
def SCH_FLAGS.BUDGET_OVR : Fld := ⟨.host, 0x4004000c, 1, 1, 0⟩
/-- R329: Per R325. -/
def SCH_FLAGS.WD_REFUSED : Fld := ⟨.host, 0x4004000c, 2, 1, 0⟩
/-- R329: 1 trigger token to an operation with TRIG = 4. -/
def SCH_POST.INDEX : Fld := ⟨.host, 0x40040010, 0, 12, 0⟩
/-- R329: Operation returned. -/
def SCH_T_NEXT.INDEX (i : Nat) : Fld := ⟨.host, 0x40040100 + 0x20 * i, 0, 12, 0⟩
/-- R329: Its instance number. -/
def SCH_T_NEXT.INST (i : Nat) : Fld := ⟨.host, 0x40040100 + 0x20 * i, 12, 16, 0⟩
/-- R329: Shadow copy under R225. -/
def SCH_T_NEXT.SHADOW (i : Nat) : Fld := ⟨.host, 0x40040100 + 0x20 * i, 30, 1, 0⟩
/-- R329: No operation within NEXT_WAIT. -/
def SCH_T_NEXT.IDLE (i : Nat) : Fld := ⟨.host, 0x40040100 + 0x20 * i, 31, 1, 0⟩
/-- R329: Completion, per R320. -/
def SCH_T_DONE.INDEX (i : Nat) : Fld := ⟨.host, 0x40040104 + 0x20 * i, 0, 12, 0⟩
/-- R329: Shadow result, passed to the LSC. -/
def SCH_T_SRES.RESULT (i : Nat) : Fld := ⟨.host, 0x40040108 + 0x20 * i, 0, 32, 0⟩
/-- R329: Queued operations. -/
def SCH_T_STATUS.QDEPTH (i : Nat) : Fld := ⟨.host, 0x4004010c + 0x20 * i, 0, 6, 0⟩
/-- R329: An operation is executing. -/
def SCH_T_STATUS.EXEC (i : Nat) : Fld := ⟨.host, 0x4004010c + 0x20 * i, 6, 1, 0⟩
/-- R329: Per R322. -/
def SCH_T_STATUS.SLOW (i : Nat) : Fld := ⟨.host, 0x4004010c + 0x20 * i, 7, 1, 0⟩
/-- R329: Executing operation. -/
def SCH_T_STATUS.EXEC_IDX (i : Nat) : Fld := ⟨.host, 0x4004010c + 0x20 * i, 8, 12, 0⟩
/-- R329: Per R320. -/
def SCH_T_STATUS.PROTO_ERR (i : Nat) : Fld := ⟨.host, 0x4004010c + 0x20 * i, 24, 8, 0⟩
/-- R329: Executing time as a share of the window. -/
def SCH_T_OBS.LOAD (i : Nat) : Fld := ⟨.host, 0x40040110 + 0x20 * i, 0, 10, 0⟩
/-- R329: Mean G1 to G3 of its operations. -/
def SCH_T_OBS.WAIT_MEAN (i : Nat) : Fld := ⟨.host, 0x40040110 + 0x20 * i, 16, 16, 0⟩
/-- R329: Completions since reset. -/
def SCH_T_CNT.DONE_CNT (i : Nat) : Fld := ⟨.host, 0x40040114 + 0x20 * i, 0, 16, 0⟩
/-- R329: Per R323. -/
def SCH_T_CNT.RETURNED (i : Nat) : Fld := ⟨.host, 0x40040114 + 0x20 * i, 16, 16, 0⟩
/-- R329: Operations on the list. -/
def SCH_CL_STAT.READY (i : Nat) : Fld := ⟨.host, 0x40040400 + 0x10 * i, 0, 12, 0⟩
/-- R329: Longest G1 to G3 in the window. -/
def SCH_CL_STAT.WAIT_MAX (i : Nat) : Fld := ⟨.host, 0x40040400 + 0x10 * i, 16, 16, 0⟩
/-- R329: Per R321. -/
def SCH_CL_DL.DL_MISS (i : Nat) : Fld := ⟨.host, 0x40040404 + 0x10 * i, 0, 16, 0⟩
/-- R329: Target in use. -/
def SCH_FLOW.BOUND (i : Nat) : Fld := ⟨.host, 0x40040800 + 0x4 * i, 0, 3, 0⟩
/-- R329: LOAD binding. -/
def SCH_FLOW.HOME (i : Nat) : Fld := ⟨.host, 0x40040800 + 0x4 * i, 4, 3, 0⟩
/-- R329: Per R324. -/
def SCH_FLOW.REBOUND (i : Nat) : Fld := ⟨.host, 0x40040800 + 0x4 * i, 8, 8, 0⟩
/-- R314: Felt loss timeout. -/
def FLT_CFG.LINK_TMO : Fld := ⟨.host, 0x40050000, 0, 8, 5⟩
/-- R314: Link up. -/
def FLT_P_STATUS.LINK (i : Nat) : Fld := ⟨.host, 0x40050100 + 0x40 * i, 0, 1, 0⟩
/-- R314: Credits held. -/
def FLT_P_STATUS.CREDITS (i : Nat) : Fld := ⟨.host, 0x40050100 + 0x40 * i, 8, 4, 8⟩
/-- R314: Items without a returned credit. -/
def FLT_P_STATUS.OUTSTANDING (i : Nat) : Fld := ⟨.host, 0x40050100 + 0x40 * i, 12, 4, 0⟩
/-- R314: Current epoch. -/
def FLT_P_STATUS.EPOCH (i : Nat) : Fld := ⟨.aon, 0x40050100 + 0x40 * i, 24, 8, 0⟩
/-- R314: Items counted dropped. -/
def FLT_P_CNT.DROPPED (i : Nat) : Fld := ⟨.host, 0x40050104 + 0x40 * i, 0, 16, 0⟩
/-- R314: Old-epoch items discarded. -/
def FLT_P_CNT.STALE (i : Nat) : Fld := ⟨.host, 0x40050104 + 0x40 * i, 16, 16, 0⟩
/-- R314: CRC failures received. -/
def FLT_P_LQ.CRC_ERR (i : Nat) : Fld := ⟨.host, 0x40050108 + 0x40 * i, 0, 16, 0⟩
/-- R314: Link starts. -/
def FLT_P_LQ.RESTARTS (i : Nat) : Fld := ⟨.host, 0x40050108 + 0x40 * i, 16, 8, 0⟩
/-- R314: Longest frame-message delivery. -/
def FLT_P_LQ.LAT_MAX (i : Nat) : Fld := ⟨.host, 0x40050108 + 0x40 * i, 24, 8, 0⟩
/-- R265: Lease period. Every lane running the same image and safety parameter set under R370 arrives at the same value. -/
def LSE_CFG.LEASE_PERIOD : Fld := ⟨.sa, 0x40060000, 0, 11, 200⟩
/-- R265: Guard. -/
def LSE_CFG.GUARD : Fld := ⟨.sa, 0x40060000, 12, 8, 100⟩
/-- R265: 0 A, 1 B, 2 C, 3 none. -/
def LSE_CFG.PREF : Fld := ⟨.sa, 0x40060000, 20, 2, 0⟩
/-- R265: Role swaps on. -/
def LSE_CFG.SWAP_EN : Fld := ⟨.sa, 0x40060000, 22, 1, 1⟩
/-- R265: SAFE hold before release in SHUTDOWN. -/
def LSE_CFG.SD_HOLD : Fld := ⟨.sa, 0x40060000, 24, 8, 10⟩
/-- R265: Role-swap interval. -/
def LSE_TIMING.SWAP_INTERVAL : Fld := ⟨.sa, 0x40060004, 0, 16, 600⟩
/-- R265: Preferred-return hold-off. -/
def LSE_TIMING.HOLDOFF : Fld := ⟨.sa, 0x40060004, 16, 14, 500⟩
/-- R265: Crystal tolerance. -/
def LSE_CLK.CLK_TOL : Fld := ⟨.sa, 0x40060008, 0, 16, 100⟩
/-- R265: tol in force. -/
def LSE_CLK.TOL_IN_USE : Fld := ⟨.sa, 0x40060008, 16, 16, 100⟩
/-- R265: Renewal for this frame, per R249. -/
def LSE_CTL.RENEW : Fld := ⟨.sa, 0x4006000c, 0, 1, 0⟩
/-- R265: 1 starts a planned handover, per R262. -/
def LSE_CTL.HANDOVER : Fld := ⟨.sa, 0x4006000c, 1, 1, 0⟩
/-- R265: Bit 8 + m clears SA_CONT[m] in SERVICE, per R259. -/
def LSE_CTL.SA_CONT_CLR : Fld := ⟨.sa, 0x4006000c, 8, 8, 0⟩
/-- R265: 0 standby unpowered, 1 standby powered, 2 claiming, 3 holder, 4 handing over, 5 BARRED. -/
def LSE_STATUS.ROLE : Fld := ⟨.sa, 0x40060010, 0, 3, 0⟩
/-- R265: Holder as last heard. -/
def LSE_STATUS.HOLDER : Fld := ⟨.sa, 0x40060010, 4, 2, 3⟩
/-- R265: Per R250. -/
def LSE_STATUS.SUCCESSOR : Fld := ⟨.sa, 0x40060010, 6, 2, 3⟩
/-- R265: Per R248. -/
def LSE_STATUS.ELIGIBLE : Fld := ⟨.sa, 0x40060010, 8, 1, 0⟩
/-- R265: Drive enable set. -/
def LSE_STATUS.DRIVING : Fld := ⟨.sa, 0x40060010, 9, 1, 0⟩
/-- R265: Lease sequence. -/
def LSE_STATUS.SEQ : Fld := ⟨.sa, 0x40060010, 16, 16, 0⟩
/-- R265: Per R249. -/
def LSE_FLAGS.EXPIRED : Fld := ⟨.sa, 0x40060014, 0, 1, 0⟩
/-- R265: Per R258. -/
def LSE_FLAGS.SNAP_STALE : Fld := ⟨.sa, 0x40060014, 1, 1, 0⟩
/-- R265: Per R253. -/
def LSE_FLAGS.CLAIM_CONFLICT : Fld := ⟨.sa, 0x40060014, 2, 1, 0⟩
/-- R265: Per R250. -/
def LSE_FLAGS.NO_SUCC : Fld := ⟨.sa, 0x40060014, 3, 1, 0⟩
/-- R265: Per R247. -/
def LSE_FLAGS.READBACK : Fld := ⟨.sa, 0x40060014, 4, 1, 0⟩
/-- R265: Per R262. -/
def LSE_FLAGS.HANDOVER_FAIL : Fld := ⟨.sa, 0x40060014, 5, 1, 0⟩
/-- R265: Per R256. -/
def LSE_CNT.TAKEOVERS : Fld := ⟨.sa, 0x40060018, 0, 8, 0⟩
/-- R265: Planned handovers completed. -/
def LSE_CNT.HANDOVERS : Fld := ⟨.sa, 0x40060018, 8, 8, 0⟩
/-- R265: Per R249. -/
def LSE_CNT.EXPIRIES : Fld := ⟨.sa, 0x40060018, 16, 8, 0⟩
/-- R265: Per R260. -/
def LSE_CNT.SWAP_DEFER : Fld := ⟨.sa, 0x40060018, 24, 8, 0⟩
/-- R265: Bit m: level of SA[m] under R245 rule 5. -/
def LSE_SA.LEVEL : Fld := ⟨.sa, 0x40060020, 0, 8, 0⟩
/-- R265: Bit 8 + m: INACTIVE[m]. -/
def LSE_SA.INACTIVE : Fld := ⟨.sa, 0x40060020, 8, 8, 0⟩
/-- R265: Bit 16 + m: SAFE[m]. -/
def LSE_SA.SAFE : Fld := ⟨.sa, 0x40060020, 16, 8, 0⟩
/-- R265: Bit 24 + m: per R259. -/
def LSE_SA.SA_CONT : Fld := ⟨.sa, 0x40060020, 24, 8, 0⟩
/-- R265: Per R256. -/
def LSE_GAP.GAP_LAST : Fld := ⟨.sa, 0x40060024, 0, 16, 0⟩
/-- R265: Per R256. -/
def LSE_GAP.GAP_MAX : Fld := ⟨.sa, 0x40060024, 16, 16, 0⟩
/-- R285: SS_REQ_N_x filter. -/
def SSF_CFG.SSREQ_FILT : Fld := ⟨.host, 0x40070000, 0, 8, 10⟩
/-- R285: Evaluations for a violation. -/
def SSF_CFG.ENV_FILT : Fld := ⟨.host, 0x40070000, 8, 4, 4⟩
/-- R285: Vehicle speed monitored. -/
def SSF_CFG.VEH_EN : Fld := ⟨.host, 0x40070000, 12, 1, 1⟩
/-- R285: Envelope delay. -/
def SSF_CFG.T_DLY : Fld := ⟨.host, 0x40070000, 16, 16, 500⟩
/-- R285: Vehicle envelope slope. -/
def SSF_ENV.DEC_ENV : Fld := ⟨.host, 0x40070004, 0, 12, 100⟩
/-- R285: Vehicle envelope margin. -/
def SSF_ENV.V_MARGIN : Fld := ⟨.host, 0x40070004, 16, 8, 20⟩
/-- R285: SS1 time bound. -/
def SSF_ENV.SS1_TMAX : Fld := ⟨.host, 0x40070004, 24, 8, 30⟩
/-- R285: Vehicle standstill speed. -/
def SSF_STILL.V_STILL : Fld := ⟨.host, 0x40070008, 0, 8, 5⟩
/-- R285: Standstill time. -/
def SSF_STILL.T_STILL : Fld := ⟨.host, 0x40070008, 8, 10, 200⟩
/-- R285: Vehicle frame timeout. -/
def SSF_STILL.VEH_TIMEOUT : Fld := ⟨.host, 0x40070008, 20, 8, 5⟩
/-- R285: Role of AXIS[n] in bits [2n + 1:2n]. -/
def SSF_AXIS.SS_ROLE : Fld := ⟨.host, 0x4007000c, 0, 16, 0⟩
/-- R285: Bit 16 + n: AXIS[n] in the standstill test. -/
def SSF_AXIS.STILL_MASK : Fld := ⟨.host, 0x4007000c, 16, 8, 255⟩
/-- R285: Axis standstill speed. -/
def SSF_WLIM.W_STILL : Fld := ⟨.host, 0x40070010, 0, 8, 66⟩
/-- R285: Axis envelope margin. -/
def SSF_WLIM.W_MARGIN : Fld := ⟨.host, 0x40070010, 8, 8, 16⟩
/-- R285: Axis envelope slope. -/
def SSF_WLIM.W_ENV_DEC : Fld := ⟨.host, 0x40070010, 16, 16, 100⟩
/-- R285: SS1 running since S0. -/
def SSF_STATUS.SS_ACTIVE : Fld := ⟨.host, 0x40070020, 0, 1, 0⟩
/-- R285: Standstill, per R273. -/
def SSF_STATUS.STILL : Fld := ⟨.host, 0x40070020, 1, 1, 0⟩
/-- R285: 1: SS_REQ_N_x filtered low. -/
def SSF_STATUS.SSREQ : Fld := ⟨.host, 0x40070020, 2, 1, 0⟩
/-- R285: Per R272. -/
def SSF_STATUS.VEH_VALID : Fld := ⟨.host, 0x40070020, 3, 1, 0⟩
/-- R285: Latest v_env. -/
def SSF_STATUS.V_ENV : Fld := ⟨.host, 0x40070020, 16, 16, 0⟩
/-- R285: Per R271. -/
def SSF_FLAGS.ENV_VIOL : Fld := ⟨.host, 0x40070024, 0, 1, 0⟩
/-- R285: Per R271. -/
def SSF_FLAGS.TMAX : Fld := ⟨.host, 0x40070024, 1, 1, 0⟩
/-- R285: Per R272. -/
def SSF_FLAGS.VEH_LOST : Fld := ⟨.host, 0x40070024, 2, 1, 0⟩
/-- R285: Per R282. -/
def SSF_FLAGS.SEAL_CHG : Fld := ⟨.host, 0x40070024, 3, 1, 0⟩
/-- R285: Per R280. -/
def SSF_FLAGS.LOOP_FAULT : Fld := ⟨.host, 0x40070024, 4, 1, 0⟩
/-- R285: Per R281. -/
def SSF_FLAGS.SEAL_SPLIT : Fld := ⟨.host, 0x40070024, 5, 1, 0⟩
/-- R285: Per R279. -/
def SSF_FLAGS.NO_SET : Fld := ⟨.host, 0x40070024, 6, 1, 0⟩
/-- R285: Debounced SEAL_x[2:0]. -/
def SSF_SEAL.READING : Fld := ⟨.host, 0x40070028, 0, 3, 0⟩
/-- R285: Seal loop intact. -/
def SSF_SEAL.LOOP_OK : Fld := ⟨.host, 0x40070028, 3, 1, 0⟩
/-- R285: Set loaded at LOAD. -/
def SSF_SEAL.LOADED_SET : Fld := ⟨.host, 0x40070028, 4, 3, 0⟩
/-- R285: Lane A reading. -/
def SSF_SEAL.PEER_A : Fld := ⟨.host, 0x40070028, 8, 4, 15⟩
/-- R285: Lane B reading. -/
def SSF_SEAL.PEER_B : Fld := ⟨.host, 0x40070028, 12, 4, 15⟩
/-- R285: Lane C reading. -/
def SSF_SEAL.PEER_C : Fld := ⟨.host, 0x40070028, 16, 4, 15⟩
/-- R285: Reading changes since reset. -/
def SSF_SEAL.SEAL_CNT : Fld := ⟨.host, 0x40070028, 24, 8, 0⟩
/-- R285: Latest vehicle speed. -/
def SSF_VEH.VEH_SPEED : Fld := ⟨.host, 0x4007002c, 0, 16, 0⟩
/-- R285: Nguas slot of the vehicle frame. -/
def SSF_VEH.VEH_SLOT : Fld := ⟨.host, 0x4007002c, 16, 10, 0⟩
/-- R357: Node number. -/
def NGB_CFG.NODE : Fld := ⟨.net, 0x40080000, 0, 6, 0⟩
/-- R357: May cold-start the bus. -/
def NGB_CFG.COLDSTART : Fld := ⟨.net, 0x40080000, 8, 1, 0⟩
/-- R357: May run with no other node. -/
def NGB_CFG.ALONE_OK : Fld := ⟨.net, 0x40080000, 9, 1, 0⟩
/-- R357: Cold-start timer base. -/
def NGB_CFG.LISTEN_BASE : Fld := ⟨.net, 0x40080000, 16, 16, 0x7d0⟩
/-- R357: Acceptance half-window. -/
def NGB_TIMING.ACC_WIN : Fld := ⟨.net, 0x40080004, 0, 8, 40⟩
/-- R357: Guardian window. -/
def NGB_TIMING.TX_WIN : Fld := ⟨.net, 0x40080004, 8, 8, 15⟩
/-- R357: Guard. -/
def NGB_TIMING.GUARD : Fld := ⟨.net, 0x40080004, 16, 8, 10⟩
/-- R357: Cold-start step per NODE. -/
def NGB_TIMING.CS_SLOT : Fld := ⟨.net, 0x40080004, 24, 8, 20⟩
/-- R357: Largest offset correction. -/
def NGB_SYNC.OFS_MAX : Fld := ⟨.net, 0x40080008, 0, 12, 500⟩
/-- R357: Largest rate correction. -/
def NGB_SYNC.RATE_MAX : Fld := ⟨.net, 0x40080008, 16, 8, 20⟩
/-- R357: Misses before sync lost. -/
def NGB_SYNC.SYNC_LOSS : Fld := ⟨.net, 0x40080008, 24, 8, 4⟩
/-- R357: Cycles in COLD before R346 gives up. -/
def NGB_START.CS_ALONE : Fld := ⟨.net, 0x4008000c, 0, 8, 8⟩
/-- R357: Cycle length of mode m. -/
def NGB_MODE.CYCLE (i : Nat) : Fld := ⟨.net, 0x40080020 + 0x4 * i, 0, 14, 0x3e8⟩
/-- R357: Action instant offset. -/
def NGB_MODE.ACT_OFS (i : Nat) : Fld := ⟨.net, 0x40080020 + 0x4 * i, 16, 14, 900⟩
/-- R357: Propagation delay from the node. -/
def NGB_PROP.PROP (i : Nat) : Fld := ⟨.net, 0x40080040 + 0x1 * i, 0, 8, 0⟩
/-- R357: 0 OFF, 1 LISTEN, 2 COLD, 3 SYNCING, 4 RUN. -/
def NGB_STATUS.NSTATE : Fld := ⟨.net, 0x40080080, 0, 3, 0⟩
/-- R357: Schedule mode in force. -/
def NGB_STATUS.MODE : Fld := ⟨.net, 0x40080080, 4, 3, 0⟩
/-- R357: Switch decided, per R350. -/
def NGB_STATUS.SW_PEND : Fld := ⟨.net, 0x40080080, 7, 1, 0⟩
/-- R357: Mode of the pending switch. -/
def NGB_STATUS.SW_MODE : Fld := ⟨.net, 0x40080080, 8, 3, 0⟩
/-- R357: Channel X not lost. -/
def NGB_STATUS.CH_X_OK : Fld := ⟨.net, 0x40080080, 12, 1, 0⟩
/-- R357: Channel Y not lost. -/
def NGB_STATUS.CH_Y_OK : Fld := ⟨.net, 0x40080080, 13, 1, 0⟩
/-- R357: Per R341. -/
def NGB_STATUS.TIME_VALID : Fld := ⟨.net, 0x40080080, 14, 1, 0⟩
/-- R357: Nguas cycle number. -/
def NGB_STATUS.CYCLE_NO : Fld := ⟨.net, 0x40080080, 16, 16, 0⟩
/-- R357: Latest ofs. -/
def NGB_CLK.OFS_LAST : Fld := ⟨.net, 0x40080084, 0, 16, 0⟩
/-- R357: Rate correction. -/
def NGB_CLK.RATE : Fld := ⟨.net, 0x40080084, 16, 16, 0⟩
/-- R357: membership vector, LO and HI. -/
def NGB_MEMB.MEMB : Fld := ⟨.net, 0x40080088, 0, 64, 0⟩
/-- R357: Requested mode, encoded as MREQ. -/
def NGB_MODE_REQ.TARGET : Fld := ⟨.net, 0x40080090, 0, 4, 0⟩
/-- R357: 1 sends a wake pattern, per R351. -/
def NGB_CTL.WAKE_TX : Fld := ⟨.net, 0x40080094, 0, 1, 0⟩
/-- R357: Bit 1 X, bit 2 Y. -/
def NGB_CTL.WAKE_CH : Fld := ⟨.net, 0x40080094, 1, 2, 3⟩
/-- R357: 1 forces re-integration. -/
def NGB_CTL.REINT : Fld := ⟨.net, 0x40080094, 3, 1, 0⟩
/-- R357: Per R344. -/
def NGB_FLAGS.BLOCKED : Fld := ⟨.net, 0x40080098, 0, 1, 0⟩
/-- R357: Per R340. -/
def NGB_FLAGS.SYNC_LOST : Fld := ⟨.net, 0x40080098, 1, 1, 0⟩
/-- R357: Per R350. -/
def NGB_FLAGS.MODE_SPLIT : Fld := ⟨.net, 0x40080098, 2, 1, 0⟩
/-- R357: Per R333. -/
def NGB_FLAGS.COPY_DIFF : Fld := ⟨.net, 0x40080098, 3, 1, 0⟩
/-- R357: Wake replayed, per R351. -/
def NGB_FLAGS.WAKE_RX : Fld := ⟨.net, 0x40080098, 4, 1, 0⟩
/-- R357: Per R347. -/
def NGB_FLAGS.COLLISION : Fld := ⟨.net, 0x40080098, 5, 1, 0⟩
/-- R357: Per R344. -/
def NGB_FLAGS.DRIFT : Fld := ⟨.net, 0x40080098, 6, 1, 0⟩
/-- R357: Lane time stepped, per R341. -/
def NGB_FLAGS.STEPPED : Fld := ⟨.net, 0x40080098, 7, 1, 0⟩
/-- R357: Channels of the replayed wake. -/
def NGB_FLAGS.WAKE_CH_RX : Fld := ⟨.net, 0x40080098, 8, 2, 0⟩
/-- R357: Per R343. -/
def NGB_CNT.GAP_CNT : Fld := ⟨.net, 0x4008009c, 0, 8, 0⟩
/-- R357: Per R343. -/
def NGB_CNT.HDR_ERR : Fld := ⟨.net, 0x4008009c, 8, 8, 0⟩
/-- R357: Coding or CRC errors on X. -/
def NGB_CNT.CRC_X : Fld := ⟨.net, 0x4008009c, 16, 8, 0⟩
/-- R357: Coding or CRC errors on Y. -/
def NGB_CNT.CRC_Y : Fld := ⟨.net, 0x4008009c, 24, 8, 0⟩
/-- R357: Per R344. -/
def NGB_CNT2.BLOCK_CNT : Fld := ⟨.net, 0x400800a0, 0, 8, 0⟩
/-- R357: Per R344. -/
def NGB_CNT2.DRIFT_CNT : Fld := ⟨.net, 0x400800a0, 8, 8, 0⟩
/-- R357: Per R347. -/
def NGB_CNT2.COLL_CNT : Fld := ⟨.net, 0x400800a0, 16, 8, 0⟩
/-- R357: Per R335. -/
def NGB_CNT2.SCHED_CLAMP : Fld := ⟨.net, 0x400800a0, 24, 8, 0⟩
/-- R357: Lane-time step of R341. -/
def NGB_STEP.STEP : Fld := ⟨.net, 0x400800a4, 0, 32, 0⟩
/-- R357: Cycle number of the frame in copy 1. -/
def NGB_BUF_STAT.CYCLE (i : Nat) : Fld := ⟨.net, 0x40080400 + 0x4 * i, 0, 16, 0⟩
/-- R357: Copy 1 holds a frame of the latest cycle. -/
def NGB_BUF_STAT.VALID (i : Nat) : Fld := ⟨.net, 0x40080400 + 0x4 * i, 16, 1, 0⟩
/-- R357: 0 X copy, 1 Y copy. -/
def NGB_BUF_STAT.CH (i : Nat) : Fld := ⟨.net, 0x40080400 + 0x4 * i, 17, 1, 0⟩
/-- R358: Port on. -/
def CAN_CFG.EN : Fld := ⟨.net, 0x40090000, 0, 1, 0⟩
/-- R358: CAN FD frames permitted. -/
def CAN_CFG.FD_EN : Fld := ⟨.net, 0x40090000, 1, 1, 0⟩
/-- R358: Automatic bus-off recovery. -/
def CAN_CFG.AUTO_RECOV : Fld := ⟨.net, 0x40090000, 2, 1, 1⟩
/-- R358: Bus monitoring. -/
def CAN_CFG.LISTEN_ONLY : Fld := ⟨.net, 0x40090000, 3, 1, 0⟩
/-- R358: 1 starts bus-off recovery. -/
def CAN_CFG.RECOVER : Fld := ⟨.net, 0x40090000, 4, 1, 0⟩
/-- R358: Nominal prescaler. -/
def CAN_NBT.NBRP : Fld := ⟨.net, 0x40090004, 0, 5, 1⟩
/-- R358: Nominal segment 1, tq. -/
def CAN_NBT.NTSEG1 : Fld := ⟨.net, 0x40090004, 8, 8, 79⟩
/-- R358: Nominal segment 2, tq. -/
def CAN_NBT.NTSEG2 : Fld := ⟨.net, 0x40090004, 16, 7, 20⟩
/-- R358: Nominal jump width. -/
def CAN_NBT.NSJW : Fld := ⟨.net, 0x40090004, 24, 7, 20⟩
/-- R358: Data prescaler. -/
def CAN_DBT.DBRP : Fld := ⟨.net, 0x40090008, 0, 5, 1⟩
/-- R358: Data segment 1, tq. -/
def CAN_DBT.DTSEG1 : Fld := ⟨.net, 0x40090008, 8, 5, 7⟩
/-- R358: Data segment 2, tq. -/
def CAN_DBT.DTSEG2 : Fld := ⟨.net, 0x40090008, 16, 4, 2⟩
/-- R358: Data jump width. -/
def CAN_DBT.DSJW : Fld := ⟨.net, 0x40090008, 24, 4, 2⟩
/-- R358: Delay compensation on. -/
def CAN_TDC.TDC_EN : Fld := ⟨.net, 0x4009000c, 0, 1, 1⟩
/-- R358: Secondary sample point after measured delay. -/
def CAN_TDC.TDC_OFS : Fld := ⟨.net, 0x4009000c, 8, 7, 8⟩
/-- R358: 0 error active, 1 error passive, 2 bus-off, 3 off. -/
def CAN_STATUS.STATE : Fld := ⟨.net, 0x40090010, 0, 2, 3⟩
/-- R358: Transmit error count. -/
def CAN_STATUS.TEC : Fld := ⟨.net, 0x40090010, 8, 8, 0⟩
/-- R358: Receive error count. -/
def CAN_STATUS.REC : Fld := ⟨.net, 0x40090010, 16, 8, 0⟩
/-- R358: FIFO entries held. -/
def CAN_STATUS.LEVEL : Fld := ⟨.net, 0x40090010, 24, 6, 0⟩
/-- R358: Bus-off entered. -/
def CAN_FLAGS.BUSOFF : Fld := ⟨.net, 0x40090014, 0, 1, 0⟩
/-- R358: Error passive entered. -/
def CAN_FLAGS.PASSIVE : Fld := ⟨.net, 0x40090014, 1, 1, 0⟩
/-- R358: Per R355. -/
def CAN_FLAGS.RX_OVF : Fld := ⟨.net, 0x40090014, 2, 1, 0⟩
/-- R358: Index of the oldest FIFO entry. -/
def CAN_FLAGS.HEAD : Fld := ⟨.net, 0x40090014, 8, 5, 0⟩
/-- R358: Bus-off entries. -/
def CAN_CNT.BUSOFF_CNT : Fld := ⟨.net, 0x40090018, 0, 8, 0⟩
/-- R358: Frames lost to a full FIFO. -/
def CAN_CNT.OVF_CNT : Fld := ⟨.net, 0x40090018, 8, 8, 0⟩
/-- R358: Frames no filter took. -/
def CAN_CNT.NOMATCH : Fld := ⟨.net, 0x40090018, 16, 8, 0⟩
/-- R358: Remote frames received. -/
def CAN_CNT.REMOTE_CNT : Fld := ⟨.net, 0x40090018, 24, 8, 0⟩
/-- R358: Bit t: send buffer t. -/
def CAN_TXREQ.REQ : Fld := ⟨.net, 0x40090020, 0, 16, 0⟩
/-- R358: Bit t: buffer t sent. -/
def CAN_TXDONE.DONE : Fld := ⟨.net, 0x40090024, 0, 16, 0⟩
/-- R358: 1 frees the oldest FIFO entry. -/
def CAN_POP.POP : Fld := ⟨.net, 0x40090028, 0, 1, 0⟩
/-- R358: Identifier. -/
def CAN_FILT_ID.FILT_ID (i : Nat) : Fld := ⟨.net, 0x40090100 + 0x8 * i, 0, 29, 0⟩
/-- R358: 29-bit identifier. -/
def CAN_FILT_ID.XTD (i : Nat) : Fld := ⟨.net, 0x40090100 + 0x8 * i, 29, 1, 0⟩
/-- R358: Filter on. -/
def CAN_FILT_ID.FEN (i : Nat) : Fld := ⟨.net, 0x40090100 + 0x8 * i, 31, 1, 0⟩
/-- R358: Compared bits. -/
def CAN_FILT_MASK.MASK (i : Nat) : Fld := ⟨.net, 0x40090104 + 0x8 * i, 0, 29, 0⟩
/-- R358: identifier of transmit buffer t. -/
def CAN_TXB.IDENT (i : Nat) : Fld := ⟨.net, 0x40091000 + 0x50 * i, 0, 29, 0⟩
/-- R358: 29-bit identifier. -/
def CAN_TXB.XTD (i : Nat) : Fld := ⟨.net, 0x40091000 + 0x50 * i, 29, 1, 0⟩
/-- R358: length code. -/
def CAN_TXB.DLC (i : Nat) : Fld := ⟨.net, 0x40091004 + 0x50 * i, 0, 4, 0⟩
/-- R358: FD frame. -/
def CAN_TXB.FDF (i : Nat) : Fld := ⟨.net, 0x40091004 + 0x50 * i, 4, 1, 0⟩
/-- R358: bit rate switch. -/
def CAN_TXB.BRS (i : Nat) : Fld := ⟨.net, 0x40091004 + 0x50 * i, 5, 1, 0⟩
/-- R358: error state indicator. -/
def CAN_TXB.ESI (i : Nat) : Fld := ⟨.net, 0x40091004 + 0x50 * i, 6, 1, 0⟩
/-- R358: data bytes. -/
def CAN_TXB.DATA (i j : Nat) : Fld := ⟨.net, 0x40091010 + 0x50 * i + 0x4 * j, 0, 32, 0⟩
/-- R358: identifier of FIFO entry e. -/
def CAN_RXE.IDENT (i : Nat) : Fld := ⟨.net, 0x40092000 + 0x50 * i, 0, 29, 0⟩
/-- R358: 29-bit identifier. -/
def CAN_RXE.XTD (i : Nat) : Fld := ⟨.net, 0x40092000 + 0x50 * i, 29, 1, 0⟩
/-- R358: length code. -/
def CAN_RXE.DLC (i : Nat) : Fld := ⟨.net, 0x40092004 + 0x50 * i, 0, 4, 0⟩
/-- R358: FD frame. -/
def CAN_RXE.FDF (i : Nat) : Fld := ⟨.net, 0x40092004 + 0x50 * i, 4, 1, 0⟩
/-- R358: bit rate switch. -/
def CAN_RXE.BRS (i : Nat) : Fld := ⟨.net, 0x40092004 + 0x50 * i, 5, 1, 0⟩
/-- R358: error state indicator. -/
def CAN_RXE.ESI (i : Nat) : Fld := ⟨.net, 0x40092004 + 0x50 * i, 6, 1, 0⟩
/-- R358: filter that took the frame. -/
def CAN_RXE.FILT (i : Nat) : Fld := ⟨.net, 0x40092004 + 0x50 * i, 8, 5, 0⟩
/-- R358: lane time at SOF. -/
def CAN_RXE.TS (i : Nat) : Fld := ⟨.net, 0x40092008 + 0x50 * i, 0, 64, 0⟩
/-- R358: data bytes. -/
def CAN_RXE.DATA (i j : Nat) : Fld := ⟨.net, 0x40092010 + 0x50 * i + 0x4 * j, 0, 32, 0⟩
/-- R396: Slice period, PG930-D. -/
def BST_CFG.SLICE_PERIOD : Fld := ⟨.host, 0x400a0000, 0, 10, 100⟩
/-- R396: 0 idle, 1 start-up checks, 2 full test, 3 slice, 4 direct. -/
def BST_STATUS.PHASE : Fld := ⟨.host, 0x400a0004, 0, 3, 0⟩
/-- R396: Start used a valid certificate. -/
def BST_STATUS.CERT_USED : Fld := ⟨.host, 0x400a0004, 3, 1, 0⟩
/-- R396: 0 valid, 1 none found, 2 signature, 3 revoked, 4 nonce, die or image, 5 age. -/
def BST_STATUS.CERT_RESULT : Fld := ⟨.host, 0x400a0004, 4, 3, 0⟩
/-- R396: Per R392. -/
def BST_STATUS.ST_FAIL : Fld := ⟨.aon, 0x400a0004, 7, 1, 0⟩
/-- R396: Per R389. -/
def BST_STATUS.SD_FAIL : Fld := ⟨.aon, 0x400a0004, 8, 1, 0⟩
/-- R396: 0 to 3 PAIR[p], 4 host logic, 5 field logic, 6 memories, 7 start-up check. -/
def BST_STATUS.FAIL_UNIT : Fld := ⟨.host, 0x400a0004, 12, 4, 0⟩
/-- R396: Pair of the next slice. -/
def BST_SLICE.NEXT_PAIR : Fld := ⟨.host, 0x400a0008, 0, 2, 0⟩
/-- R396: Its next segment. -/
def BST_SLICE.SEG : Fld := ⟨.host, 0x400a0008, 8, 7, 0⟩
/-- R396: Per R391. -/
def BST_SLICE.REFUSED : Fld := ⟨.host, 0x400a0008, 24, 8, 0⟩
/-- R396: Bits [8p + 7:8p]: time since PAIR[p]'s last cover. -/
def BST_COVER.COVER : Fld := ⟨.host, 0x400a000c, 0, 32, 0⟩
/-- R396: Slices passed. -/
def BST_CNT.SLICES : Fld := ⟨.host, 0x400a0010, 0, 16, 0⟩
/-- R396: Full tests passed. -/
def BST_CNT.FULL_PASS : Fld := ⟨.host, 0x400a0010, 16, 8, 0⟩
/-- R396: Per R393. -/
def BST_CNT.DIRECT_REFUSED : Fld := ⟨.host, 0x400a0010, 24, 8, 0⟩
/-- R396: Certificate age at the latest start. -/
def BST_CERT.AGE : Fld := ⟨.host, 0x400a0014, 0, 32, 0⟩
/-- R396: Test of R383, in table order. -/
def BST_DIRECT.TEST : Fld := ⟨.host, 0x400a0020, 0, 8, 0⟩
/-- R396: Pair, or 4 for split PAIR[3]. -/
def BST_DIRECT.UNIT : Fld := ⟨.host, 0x400a0020, 8, 4, 0⟩
/-- R396: 100 runs the whole test. -/
def BST_DIRECT.SEGMENT : Fld := ⟨.host, 0x400a0020, 12, 7, 0⟩
/-- R396: 1 starts, per R393. -/
def BST_DIRECT.GO : Fld := ⟨.host, 0x400a0020, 31, 1, 0⟩
/-- R396: LFO tick count, LO and HI. -/
def BST_TICK.TICK : Fld := ⟨.aon, 0x400a0030, 0, 64, 0⟩
/-- R397: Per R379. -/
def LCS_STATE.STATE : Fld := ⟨.nv, 0x400b0000, 0, 3, 2⟩
/-- R397: Fuse read check passed. -/
def LCS_STATE.FUSE_OK : Fld := ⟨.host, 0x400b0000, 3, 1, 0⟩
/-- R397: Two-wire debug open. -/
def LCS_STATE.DBG_OPEN : Fld := ⟨.host, 0x400b0000, 4, 1, 0⟩
/-- R397: RETIRED at next reset. -/
def LCS_STATE.RETIRE_PEND : Fld := ⟨.host, 0x400b0000, 5, 1, 0⟩
/-- R397: 1 verifies LCS_TOKEN. -/
def LCS_CTL.SUBMIT : Fld := ⟨.host, 0x400b0004, 0, 1, 0⟩
/-- R397: Verification running. -/
def LCS_RESULT.BUSY : Fld := ⟨.host, 0x400b0008, 0, 1, 0⟩
/-- R397: 0 accepted, 1 format, 2 die or challenge, 3 signer, 4 condition, 5 signature. -/
def LCS_RESULT.CODE : Fld := ⟨.host, 0x400b0008, 1, 3, 0⟩
/-- R397: Transitions since reset. -/
def LCS_RESULT.TRANS_CNT : Fld := ⟨.host, 0x400b0008, 8, 8, 0⟩
/-- R397: Challenge, per R381. -/
def LCS_CHAL.CHAL (i : Nat) : Fld := ⟨.host, 0x400b0010 + 0x4 * i, 0, 32, 0⟩
/-- R397: Die identity. -/
def LCS_DIEID.DIEID (i : Nat) : Fld := ⟨.nv, 0x400b0020 + 0x4 * i, 0, 32, 0⟩
/-- R397: Token buffer. -/
def LCS_TOKEN.BYTES (i : Nat) : Fld := ⟨.host, 0x400b0100 + 0x4 * i, 0, 32, 0⟩
/-- R378: Slot loaded: 0 A, 1 B. -/
def CFG_BOOT.SLOT : Fld := ⟨.host, 0x400c0000, 0, 1, 0⟩
/-- R378: The slot tried first was rejected. -/
def CFG_BOOT.FALLBACK : Fld := ⟨.host, 0x400c0000, 1, 1, 0⟩
/-- R378: 0 not tried, 1 verified, 2 format, signature, hash or read failure, 3 VERSION below the rollback counter. -/
def CFG_BOOT.RESULT_A : Fld := ⟨.host, 0x400c0000, 2, 2, 0⟩
/-- R378: As RESULT_A, for slot B. -/
def CFG_BOOT.RESULT_B : Fld := ⟨.host, 0x400c0000, 4, 2, 0⟩
/-- R378: WAKE attempts in the latest start. -/
def CFG_BOOT.WAKE_TRIES : Fld := ⟨.aon, 0x400c0000, 8, 2, 0⟩
/-- R378: Bits [15:0] of the loaded slot's SEQ. -/
def CFG_BOOT.SEQ_LO : Fld := ⟨.host, 0x400c0000, 16, 16, 0⟩
/-- R378: VERSION of the loaded slot. -/
def CFG_VERSION.VERSION : Fld := ⟨.host, 0x400c0004, 0, 32, 0⟩
/-- R378: Values clamped during LOAD. -/
def CFG_LOAD.CLAMP_CNT : Fld := ⟨.host, 0x400c0008, 0, 16, 0⟩
/-- R378: List entries skipped, per R367. -/
def CFG_LOAD.SKIP_CNT : Fld := ⟨.host, 0x400c0008, 16, 8, 0⟩
/-- R378: Changes in the final pass of R371. -/
def CFG_LOAD.RECLAMP : Fld := ⟨.host, 0x400c0008, 24, 8, 0⟩
/-- R378: Register of the first clamp. -/
def CFG_CLAMP_ADDR.ADDR : Fld := ⟨.host, 0x400c000c, 0, 32, 0⟩
/-- R378: P3 − P1. -/
def CFG_T_WAKE.T : Fld := ⟨.host, 0x400c0010, 0, 32, 0⟩
/-- R378: P7 − P1. -/
def CFG_T_LOAD.T : Fld := ⟨.host, 0x400c0014, 0, 32, 0⟩
/-- R378: P8 − P1. -/
def CFG_T_TEST.T : Fld := ⟨.host, 0x400c0018, 0, 32, 0⟩
/-- R378: Memory initialisation verified. -/
def CFG_CAL.MEM_OK : Fld := ⟨.host, 0x400c001c, 0, 1, 0⟩
/-- R378: Every ADC core trimmed within limits. -/
def CFG_CAL.ADC_OK : Fld := ⟨.host, 0x400c001c, 1, 1, 0⟩
/-- R378: Every delay line trimmed within limits. -/
def CFG_CAL.DL_OK : Fld := ⟨.host, 0x400c001c, 2, 1, 0⟩
/-- R378: Calibrated barrier delay, per R360. -/
def CFG_CAL.BARRIER : Fld := ⟨.host, 0x400c001c, 8, 16, 0⟩
/-- R378: Safety digest, per R369. -/
def CFG_DIGEST.DIGEST (i : Nat) : Fld := ⟨.host, 0x400c0040 + 0x4 * i, 0, 32, 0⟩
/-- R378: Bit n: a record from lane n received. -/
def CFG_PEER.REC : Fld := ⟨.host, 0x400c0080, 0, 3, 0⟩
/-- R378: Bit 4 + n: that record matched. -/
def CFG_PEER.MATCH : Fld := ⟨.host, 0x400c0080, 4, 3, 0⟩
/-- R378: Bit 8 + n: that record did not match, per R370. -/
def CFG_PEER.PEER_MISMATCH : Fld := ⟨.host, 0x400c0080, 8, 3, 0⟩
/-- R378: Level of READY_x. -/
def CFG_READY.READY : Fld := ⟨.host, 0x400c0084, 0, 1, 0⟩
/-- R378: This lane pulls READY_N low, per R372. -/
def CFG_READY.PULL : Fld := ⟨.host, 0x400c0084, 1, 1, 0⟩
/-- R378: Level read at the READY_N ball. -/
def CFG_READY.READY_N_LVL : Fld := ⟨.host, 0x400c0084, 2, 1, 1⟩
/-- R378: Duration of the latest sweep. -/
def CFG_SCRUB.SWEEP_MS : Fld := ⟨.host, 0x400c0088, 0, 16, 0⟩
/-- R378: Sweeps completed. -/
def CFG_SCRUB.SWEEPS : Fld := ⟨.host, 0x400c0088, 16, 16, 0⟩
/-- R378: CRC-32C that the field die reported, per R368. -/
def CFG_FIELD_CRC.CRC : Fld := ⟨.host, 0x400c008c, 0, 32, 0⟩
/-- R14: Lane this host die belongs to. -/
def CFG_TOPOLOGY.LANE_ID : Fld := ⟨.host, 0x400c0f00, 0, 2, 0⟩
/-- R14: Bit n set: lane n is fitted (bit 4 A, bit 5 B, bit 6 C). -/
def CFG_TOPOLOGY.LANES_FITTED : Fld := ⟨.host, 0x400c0f00, 4, 3, 7⟩
/-- R14: Bit n set: lane n took part in the most recent agreement frame, as seen by this lane (bit 8 A, bit 9 B, bit 10 C). -/
def CFG_TOPOLOGY.LANES_PRESENT : Fld := ⟨.host, 0x400c0f00, 8, 3, 0⟩
/-- R14: Position of this package in the system. -/
def CFG_TOPOLOGY.PACKAGE_POS : Fld := ⟨.host, 0x400c0f00, 12, 2, 0⟩
/-- R14: Number of PG930 packages in the system. -/
def CFG_TOPOLOGY.PACKAGES : Fld := ⟨.host, 0x400c0f00, 16, 3, 1⟩
/-- R34: 1: every supply monitor and die temperature sensor of this lane reads inside its recommended range. -/
def CFG_GUARANTEE.COND_RECOMMENDED : Fld := ⟨.host, 0x400c0f04, 0, 1, 0⟩
/-- R34: 1: the running image's signature was verified at LOAD. -/
def CFG_GUARANTEE.COND_SIGNED : Fld := ⟨.host, 0x400c0f04, 1, 1, 0⟩
/-- R34: 1: life-cycle state is FIELD or SERVICE. -/
def CFG_GUARANTEE.COND_LIFECYCLE : Fld := ⟨.host, 0x400c0f04, 2, 1, 0⟩
/-- R34: Logical AND of bits [2:0]. -/
def CFG_GUARANTEE.HOLD : Fld := ⟨.host, 0x400c0f04, 3, 1, 0⟩
/-- R34: Set when HOLD falls from 1 to 0. -/
def CFG_GUARANTEE.LAPSED : Fld := ⟨.host, 0x400c0f04, 4, 1, 0⟩
/-- R28: Lane exits of lane A as seen by this lane. -/
def CFG_EXITS.EXITS_A : Fld := ⟨.aon, 0x400c0f08, 0, 8, 0⟩
/-- R28: Lane exits of lane B. -/
def CFG_EXITS.EXITS_B : Fld := ⟨.aon, 0x400c0f08, 8, 8, 0⟩
/-- R28: Lane exits of lane C. -/
def CFG_EXITS.EXITS_C : Fld := ⟨.aon, 0x400c0f08, 16, 8, 0⟩
/-- R26: 1: the PSC resets the host die REJOIN_DELAY after E5, per R26. -/
def CFG_LANE_RST.AUTO_REJOIN : Fld := ⟨.host, 0x400c0f0c, 0, 1, 1⟩
/-- R26: Delay from E5 to the automatic reset. -/
def CFG_LANE_RST.REJOIN_DELAY : Fld := ⟨.host, 0x400c0f0c, 8, 8, 10⟩
/-- R26: 1 requests a host die reset, per R26. -/
def CFG_LANE_RST.RESET : Fld := ⟨.host, 0x400c0f0c, 16, 1, 0⟩
/-- R26: RESET writes refused. -/
def CFG_LANE_RST.RST_REFUSED : Fld := ⟨.host, 0x400c0f0c, 24, 8, 0⟩
/-- R54: Device-mode copy, encoded per R41. -/
def CFG_MODE_STATUS.DEVICE_MODE : Fld := ⟨.host, 0x400c0f10, 0, 4, 2⟩
/-- R54: Mode before the most recent transition. -/
def CFG_MODE_STATUS.PREV_MODE : Fld := ⟨.host, 0x400c0f10, 4, 4, 0⟩
/-- R54: This lane's state per R42. -/
def CFG_MODE_STATUS.LANE_STATE : Fld := ⟨.host, 0x400c0f10, 8, 3, 1⟩
/-- R54: Lanes lost as counted for R29. -/
def CFG_MODE_STATUS.LANES_LOST : Fld := ⟨.host, 0x400c0f10, 12, 2, 0⟩
/-- R54: Safe stop requested under R29. -/
def CFG_MODE_STATUS.STOP_PENDING : Fld := ⟨.host, 0x400c0f10, 16, 1, 0⟩
/-- R54: An operate or restart request was refused. -/
def CFG_MODE_STATUS.START_REFUSED : Fld := ⟨.host, 0x400c0f10, 17, 1, 0⟩
/-- R54: Present lanes proposed different permissive targets. -/
def CFG_MODE_STATUS.AGREE_SPLIT : Fld := ⟨.host, 0x400c0f10, 18, 1, 0⟩
/-- R54: Digest or SEAL mismatch at LOAD. -/
def CFG_MODE_STATUS.MISMATCH : Fld := ⟨.host, 0x400c0f10, 19, 1, 0⟩
/-- R54: KEY_ON_x low while moving, per R50. -/
def CFG_MODE_STATUS.KEYOFF_HELD : Fld := ⟨.host, 0x400c0f10, 20, 1, 0⟩
/-- R54: Debug halt requests refused under R53. -/
def CFG_MODE_STATUS.HALT_REFUSED : Fld := ⟨.host, 0x400c0f10, 24, 8, 0⟩
/-- R55: 0 none. -/
def CFG_MODE_REQ.TARGET : Fld := ⟨.host, 0x400c0f14, 0, 4, 0⟩
/-- R56: 1: a PG930-T may start operating with two lanes. -/
def CFG_MODE_POLICY.START_DEGRADED : Fld := ⟨.host, 0x400c0f18, 0, 1, 0⟩
/-- R56: Key-off hold in units of 100 ms. -/
def CFG_MODE_POLICY.KEYOFF_HOLD : Fld := ⟨.host, 0x400c0f18, 4, 8, 20⟩
/-- R56: Wait for missing lanes, in units of 10 ms. -/
def CFG_MODE_POLICY.LANE_WAIT : Fld := ⟨.host, 0x400c0f18, 16, 8, 50⟩
/-- R57: State of lane A. -/
def CFG_LANE_STATES.STATE_A : Fld := ⟨.host, 0x400c0f1c, 0, 4, 15⟩
/-- R57: State of lane B. -/
def CFG_LANE_STATES.STATE_B : Fld := ⟨.host, 0x400c0f1c, 4, 4, 15⟩
/-- R57: State of lane C. -/
def CFG_LANE_STATES.STATE_C : Fld := ⟨.host, 0x400c0f1c, 8, 4, 15⟩
/-- R58: 0x00 none. -/
def CFG_MODE_CAUSE.CAUSE : Fld := ⟨.host, 0x400c0f20, 0, 8, 0⟩
/-- R58: Lane whose event or proposal decided the transition, or whose report was adopted under R54. -/
def CFG_MODE_CAUSE.CAUSE_LANE : Fld := ⟨.host, 0x400c0f20, 8, 2, 0⟩
/-- R58: lane time of the latest transition, LO and HI. -/
def CFG_MODE_TIME.T : Fld := ⟨.host, 0x400c0f24, 0, 64, 0⟩
/-- R19: Boost limit of R17. -/
def CFG_SAFE_PAR.BOOST : Fld := ⟨.host, 0x400c0f30, 0, 8, 150⟩
/-- R19: Isolation settle time of R22. -/
def CFG_SAFE_PAR.ISO_SETTLE : Fld := ⟨.host, 0x400c0f30, 8, 12, 100⟩
/-- R19: Service current limit of R52 and R83. -/
def CFG_SAFE_PAR.SVC_ILIM : Fld := ⟨.host, 0x400c0f30, 20, 10, 300⟩
/-- R19: I_R of R18. -/
def CFG_THERM_W0.IR_RMS (i : Nat) : Fld := ⟨.host, 0x400c0f40 + 0x8 * i, 0, 16, 400⟩
/-- R19: ΔT_R of R18. -/
def CFG_THERM_W0.DT_R (i : Nat) : Fld := ⟨.host, 0x400c0f40 + 0x8 * i, 16, 16, 800⟩
/-- R19: τ of R18. -/
def CFG_THERM_W1.TAU (i : Nat) : Fld := ⟨.host, 0x400c0f44 + 0x8 * i, 0, 16, 0x4b0⟩
/-- R19: Modelled rise θ of R18. -/
def CFG_THERM_W1.THETA (i : Nat) : Fld := ⟨.aon, 0x400c0f44 + 0x8 * i, 16, 16, 0⟩
/-- R314: SYNC interval. -/
def COU_CFG.SYNC_PERIOD : Fld := ⟨.host, 0x400d0000, 0, 8, 10⟩
/-- R314: Read timeout. -/
def COU_CFG.READ_TMO : Fld := ⟨.host, 0x400d0000, 8, 8, 10⟩
/-- R314: SYNC deviation limit. -/
def COU_CFG.SYNC_TOL : Fld := ⟨.host, 0x400d0000, 16, 8, 20⟩
/-- R314: Couch loss timeout of both sides. -/
def COU_CFG.LINK_TMO : Fld := ⟨.host, 0x400d0000, 24, 8, 2⟩
/-- R314: Epoch agreed and link up. -/
def COU_STATUS.LINK : Fld := ⟨.host, 0x400d0004, 0, 1, 0⟩
/-- R314: 0 RUN, 1 STOP, 2 STO. -/
def COU_STATUS.LINE : Fld := ⟨.host, 0x400d0004, 1, 2, 2⟩
/-- R314: Per R305, from the latest status item. -/
def COU_STATUS.SYNC_VALID : Fld := ⟨.host, 0x400d0004, 3, 1, 0⟩
/-- R314: Credits held. -/
def COU_STATUS.CREDITS : Fld := ⟨.host, 0x400d0004, 8, 5, 16⟩
/-- R314: Items without a returned credit. -/
def COU_STATUS.OUTSTANDING : Fld := ⟨.host, 0x400d0004, 16, 5, 0⟩
/-- R314: Current epoch. -/
def COU_STATUS.EPOCH : Fld := ⟨.aon, 0x400d0004, 24, 8, 0⟩
/-- R314: Host items counted dropped. -/
def COU_CNT.DROPPED : Fld := ⟨.host, 0x400d0008, 0, 16, 0⟩
/-- R314: Old-epoch items discarded. -/
def COU_CNT.STALE : Fld := ⟨.host, 0x400d0008, 16, 16, 0⟩
/-- R314: CRC failures received. -/
def COU_LQ.CRC_ERR : Fld := ⟨.host, 0x400d000c, 0, 16, 0⟩
/-- R314: Link starts. -/
def COU_LQ.RESTARTS : Fld := ⟨.host, 0x400d000c, 16, 8, 0⟩
/-- R314: Longest read round trip. -/
def COU_LQ.LAT_MAX : Fld := ⟨.host, 0x400d000c, 24, 8, 0⟩
/-- R314: Field items counted dropped, from START. -/
def COU_FIELD.F_DROPPED : Fld := ⟨.host, 0x400d0010, 0, 16, 0⟩
/-- R314: Couch losses seen by the field die. -/
def COU_FIELD.F_LOSS : Fld := ⟨.host, 0x400d0010, 16, 8, 0⟩
/-- R314: Oldest event item, removed by the read: 0 none, 1 compare event, 2 latch complete, 3 axis entry to SAFE, 4 CONT_REQ. -/
def COU_EVQ.KIND : Fld := ⟨.host, 0x400d0020, 0, 3, 0⟩
/-- R314: Axis of the item. -/
def COU_EVQ.AXIS : Fld := ⟨.host, 0x400d0020, 4, 3, 0⟩
/-- R314: Compare index, or chopper of a CONT_REQ. -/
def COU_EVQ.INDEX : Fld := ⟨.host, 0x400d0020, 8, 2, 0⟩
/-- R314: Fault source of an axis entry to SAFE. -/
def COU_EVQ.CAUSE : Fld := ⟨.host, 0x400d0020, 16, 8, 0⟩
/-- R314: Items held before the read. -/
def COU_EVQ.LEVEL : Fld := ⟨.host, 0x400d0020, 24, 6, 0⟩
/-- R314: Items discarded at a full queue. -/
def COU_EVQ_LOST.EVQ_LOST : Fld := ⟨.host, 0x400d0024, 0, 8, 0⟩
/-- R461: Offers may be accepted, per R454. -/
def MBX_CFG.UPD_EN : Fld := ⟨.host, 0x400e0000, 0, 1, 0⟩
/-- R461: Telemetry period, per R444. -/
def MBX_CFG.TEL_PERIOD : Fld := ⟨.host, 0x400e0000, 8, 8, 10⟩
/-- R461: MBX link up. -/
def MBX_STATUS.LINK : Fld := ⟨.host, 0x400e0004, 0, 1, 0⟩
/-- R461: 0 IDLE, 1 ERASE, 2 RECEIVE, 3 VERIFY, 4 DONE, 5 FAILED. -/
def MBX_STATUS.UPD_STATE : Fld := ⟨.host, 0x400e0004, 1, 3, 0⟩
/-- R461: Failure code, as VERIFY_CODE. -/
def MBX_STATUS.UPD_CODE : Fld := ⟨.host, 0x400e0004, 4, 4, 0⟩
/-- R461: Link epoch. -/
def MBX_STATUS.EPOCH : Fld := ⟨.aon, 0x400e0004, 24, 8, 0⟩
/-- R461: Rollback counter, per R451. -/
def MBX_VER.ROLLBACK : Fld := ⟨.nv, 0x400e0008, 0, 7, 0⟩
/-- R461: 1 requests an advance, per R451. -/
def MBX_VER.COMMIT : Fld := ⟨.host, 0x400e0008, 8, 1, 0⟩
/-- R461: Per R451. -/
def MBX_VER.COMMIT_REFUSED : Fld := ⟨.host, 0x400e0008, 9, 1, 0⟩
/-- R461: Items counted dropped under R308, and records sent without a credit. -/
def MBX_CNT.DROPPED : Fld := ⟨.host, 0x400e000c, 0, 16, 0⟩
/-- R461: Slots written to DONE. -/
def MBX_CNT.UPDATES : Fld := ⟨.host, 0x400e000c, 16, 8, 0⟩
/-- R461: Transfers to FAILED. -/
def MBX_CNT.UPD_FAIL : Fld := ⟨.host, 0x400e000c, 24, 8, 0⟩
/-- R461: Bytes of the record's DATA field. -/
def MBX_LOGW.DATA (i : Nat) : Fld := ⟨.host, 0x400e0020 + 0x4 * i, 0, 32, 0⟩
/-- R461: Sub-code. -/
def MBX_SEND.ID : Fld := ⟨.host, 0x400e0044, 0, 8, 0⟩
/-- R300: Couch link up for fault messages. -/
def FBG_STATUS.LINK : Fld := ⟨.field, 0x60000000, 0, 1, 0⟩
/-- R300: A field S4 forced the gate outputs off, per R296. -/
def FBG_STATUS.STOP_SENT : Fld := ⟨.field, 0x60000000, 1, 1, 0⟩
/-- R300: Sources with undelivered occurrences. -/
def FBG_STATUS.BACKLOG : Fld := ⟨.field, 0x60000000, 8, 8, 0⟩
/-- R300: Undelivered occurrences, all sources. -/
def FBG_STATUS.UNDELIV : Fld := ⟨.field, 0x60000000, 16, 16, 0⟩
/-- R417: Depth in 0.125 %. -/
def FCK_CFG.SSC_DEPTH : Fld := ⟨.field, 0x60010000, 0, 5, 0⟩
/-- R417: Modulation rate. -/
def FCK_CFG.SSC_RATE : Fld := ⟨.field, 0x60010000, 8, 7, 30⟩
/-- R417: 0 native, 1 divider ramp. -/
def FCK_CFG.SW_MODE : Fld := ⟨.field, 0x60010000, 15, 1, 0⟩
/-- R417: Hold per ramp step. -/
def FCK_CFG.RAMP_HOLD : Fld := ⟨.field, 0x60010000, 16, 8, 64⟩
/-- R417: Crystal window limit. -/
def FCK_CFG.XTOL : Fld := ⟨.field, 0x60010000, 24, 8, 50⟩
/-- R417: Reference: 0 XTAL, 1 HFO. -/
def FCK_STATUS.REF : Fld := ⟨.field, 0x60010008, 0, 1, 0⟩
/-- R417: Latest window in range. -/
def FCK_STATUS.XTAL_OK : Fld := ⟨.field, 0x60010008, 1, 1, 0⟩
/-- R417: PLL locked. -/
def FCK_STATUS.PLL_LOCK : Fld := ⟨.field, 0x60010008, 2, 1, 0⟩
/-- R417: A switch in progress. -/
def FCK_STATUS.SW_BUSY : Fld := ⟨.field, 0x60010008, 3, 1, 0⟩
/-- R417: Latest crystal count. -/
def FCK_STATUS.XCOUNT : Fld := ⟨.field, 0x60010008, 8, 10, 0⟩
/-- R417: Per R404. -/
def FCK_FLAGS.XTAL_FAIL : Fld := ⟨.field, 0x6001000c, 0, 1, 0⟩
/-- R417: Per R407. -/
def FCK_FLAGS.LOCK_LOST : Fld := ⟨.field, 0x6001000c, 1, 1, 0⟩
/-- R417: Per R409 and R410. -/
def FCK_FLAGS.LOST_INDET : Fld := ⟨.field, 0x6001000c, 2, 1, 0⟩
/-- R417: Per R408. -/
def FCK_FLAGS.HFO_FAIL : Fld := ⟨.field, 0x6001000c, 3, 1, 0⟩
/-- R417: Crystal failures. -/
def FCK_CNT.XFAIL_CNT : Fld := ⟨.field, 0x60010010, 0, 8, 0⟩
/-- R417: Root failures. -/
def FCK_CNT.UNLOCK_CNT : Fld := ⟨.field, 0x60010010, 8, 8, 0⟩
/-- R417: Per R410. -/
def FCK_CNT.INDET_CNT : Fld := ⟨.field, 0x60010010, 16, 8, 0⟩
/-- R417: Switches completed. -/
def FCK_CNT.SWITCHES : Fld := ⟨.field, 0x60010010, 24, 8, 0⟩
/-- R417: Rate trim, per R402. -/
def FCK.TRIM : Fld := ⟨.field, 0x60010014, 0, 32, 0⟩
/-- R417: 0 ROOT or TIMING, 1 HFO. -/
def FCK_DOM_CTL.SRC (i : Nat) : Fld := ⟨.field, 0x60010020 + 0x4 * i, 0, 1, 1⟩
/-- R417: Runs in run. -/
def FCK_DOM_CTL.RUN_EN (i : Nat) : Fld := ⟨.field, 0x60010020 + 0x4 * i, 1, 1, 1⟩
/-- R417: Runs in sleep. -/
def FCK_DOM_CTL.SLP_EN (i : Nat) : Fld := ⟨.field, 0x60010020 + 0x4 * i, 2, 1, 0⟩
/-- R417: Runs in deep sleep, on the HFO. -/
def FCK_DOM_CTL.DSLP_EN (i : Nat) : Fld := ⟨.field, 0x60010020 + 0x4 * i, 3, 1, 0⟩
/-- R417: Duration of the latest switch. -/
def FCK_DOM_CTL.SW_TIME (i : Nat) : Fld := ⟨.field, 0x60010020 + 0x4 * i, 16, 16, 0⟩
/-- R95: Axis enable, per R87. -/
def CLE_AX_CTL.ENABLE (i : Nat) : Fld := ⟨.field, 0x60020000 + 0x800 * i, 0, 1, 0⟩
/-- R95: 0 single update, 1 double update. -/
def CLE_AX_CTL.UPDATE (i : Nat) : Fld := ⟨.field, 0x60020000 + 0x800 * i, 1, 1, 0⟩
/-- R95: 0 symmetric, 1 clamped. -/
def CLE_AX_CTL.SVM_MODE (i : Nat) : Fld := ⟨.field, 0x60020000 + 0x800 * i, 2, 1, 0⟩
/-- R95: Measured phases: 0 a and b, 1 b and c, 2 c and a. -/
def CLE_AX_CTL.PHASE_PAIR (i : Nat) : Fld := ⟨.field, 0x60020000 + 0x800 * i, 3, 2, 0⟩
/-- R95: Decoupling on. -/
def CLE_AX_CTL.DEC_EN (i : Nat) : Fld := ⟨.field, 0x60020000 + 0x800 * i, 5, 1, 0⟩
/-- R95: DC-link feed-forward on. -/
def CLE_AX_CTL.DCFF_EN (i : Nat) : Fld := ⟨.field, 0x60020000 + 0x800 * i, 6, 1, 0⟩
/-- R95: Acceleration feed-forward on. -/
def CLE_AX_CTL.ACCFF_EN (i : Nat) : Fld := ⟨.field, 0x60020000 + 0x800 * i, 7, 1, 0⟩
/-- R95: 0 current, 1 speed, 2 position. -/
def CLE_AX_CTL.LOOP (i : Nat) : Fld := ⟨.field, 0x60020000 + 0x800 * i, 8, 2, 0⟩
/-- R95: 0 none, 1 analogue, 2 pulse, 3 lane-agreed. -/
def CLE_AX_CTL.SP_SRC (i : Nat) : Fld := ⟨.field, 0x60020000 + 0x800 * i, 10, 2, 0⟩
/-- R95: AIN or PIN index. -/
def CLE_AX_CTL.SP_INPUT (i : Nat) : Fld := ⟨.field, 0x60020000 + 0x800 * i, 12, 2, 0⟩
/-- R95: Interpolate lane-agreed values. -/
def CLE_AX_CTL.INTERP (i : Nat) : Fld := ⟨.field, 0x60020000 + 0x800 * i, 14, 1, 0⟩
/-- R95: 0 observer speed, 1 Hall speed. -/
def CLE_AX_CTL.SPD_SRC (i : Nat) : Fld := ⟨.field, 0x60020000 + 0x800 * i, 16, 1, 0⟩
/-- R95: 0 Hall position count, 1 observer angle count. -/
def CLE_AX_CTL.POS_SRC (i : Nat) : Fld := ⟨.field, 0x60020000 + 0x800 * i, 17, 1, 0⟩
/-- R96: Current samples per speed-loop execution. -/
def CLE_AX_LOOP.SPD_DIV (i : Nat) : Fld := ⟨.field, 0x60020004 + 0x800 * i, 0, 8, 1⟩
/-- R96: Speed-loop executions per position-loop execution. -/
def CLE_AX_LOOP.POS_DIV (i : Nat) : Fld := ⟨.field, 0x60020004 + 0x800 * i, 8, 8, 1⟩
/-- R97: Bank in use. -/
def CLE_AX_BANK.BANK_ACTIVE (i : Nat) : Fld := ⟨.field, 0x60020008 + 0x800 * i, 0, 1, 0⟩
/-- R97: A swap is requested and not yet taken. -/
def CLE_AX_BANK.PENDING (i : Nat) : Fld := ⟨.field, 0x60020008 + 0x800 * i, 1, 1, 0⟩
/-- R97: 1 requests a swap to TARGET, per R78. -/
def CLE_AX_BANK.REQ (i : Nat) : Fld := ⟨.field, 0x60020008 + 0x800 * i, 8, 1, 0⟩
/-- R97: Bank requested. -/
def CLE_AX_BANK.TARGET (i : Nat) : Fld := ⟨.field, 0x60020008 + 0x800 * i, 9, 1, 0⟩
/-- R97: A swap has taken effect. -/
def CLE_AX_BANK.SWAPPED (i : Nat) : Fld := ⟨.field, 0x60020008 + 0x800 * i, 16, 1, 0⟩
/-- R97: A local request was dropped, per R78. -/
def CLE_AX_BANK.CONFLICT (i : Nat) : Fld := ⟨.field, 0x60020008 + 0x800 * i, 17, 1, 0⟩
/-- R97: Swaps since field die reset. -/
def CLE_AX_BANK.SWAP_COUNT (i : Nat) : Fld := ⟨.field, 0x60020008 + 0x800 * i, 24, 8, 0⟩
/-- R98: Stage saturated since last clear. -/
def CLE_AX_SAT.FLAGS (i : Nat) : Fld := ⟨.field, 0x6002000c + 0x800 * i, 0, 14, 0⟩
/-- R99: Axis runs, per R87. -/
def CLE_AX_STATUS.RUNNING (i : Nat) : Fld := ⟨.field, 0x60020010 + 0x800 * i, 0, 1, 0⟩
/-- R99: Enabled without gate permission. -/
def CLE_AX_STATUS.HELD (i : Nat) : Fld := ⟨.field, 0x60020010 + 0x800 * i, 1, 1, 0⟩
/-- R99: d voltage limit cut in the last sample. -/
def CLE_AX_STATUS.VLIM_D (i : Nat) : Fld := ⟨.field, 0x60020010 + 0x800 * i, 2, 1, 0⟩
/-- R99: q voltage limit cut in the last sample. -/
def CLE_AX_STATUS.VLIM_Q (i : Nat) : Fld := ⟨.field, 0x60020010 + 0x800 * i, 3, 1, 0⟩
/-- R99: Current limit cut in the last sample. -/
def CLE_AX_STATUS.ILIM_ACT (i : Nat) : Fld := ⟨.field, 0x60020010 + 0x800 * i, 4, 1, 0⟩
/-- R99: R83 timeout in force. -/
def CLE_AX_STATUS.SP_LOST (i : Nat) : Fld := ⟨.field, 0x60020010 + 0x800 * i, 5, 1, 0⟩
/-- R99: The input read by the axis is in fault. -/
def CLE_AX_STATUS.SP_INPUT_FAULT (i : Nat) : Fld := ⟨.field, 0x60020010 + 0x800 * i, 6, 1, 0⟩
/-- R99: Calender acceleration non-zero. -/
def CLE_AX_STATUS.RAMP_ACTIVE (i : Nat) : Fld := ⟨.field, 0x60020010 + 0x800 * i, 7, 1, 0⟩
/-- R99: u_dc below DC_MIN in the last sample. -/
def CLE_AX_STATUS.DC_LOW (i : Nat) : Fld := ⟨.field, 0x60020010 + 0x800 * i, 8, 1, 0⟩
/-- R99: Late lane-agreed messages. -/
def CLE_AX_STATUS.SP_LATE (i : Nat) : Fld := ⟨.field, 0x60020010 + 0x800 * i, 16, 8, 0⟩
/-- R99: Late latches, per R62. -/
def CLE_AX_STATUS.LATE_LATCH (i : Nat) : Fld := ⟨.field, 0x60020010 + 0x800 * i, 24, 8, 0⟩
/-- R100: Torque share, 65,536 meaning 1.0. -/
def CLE_AX_SHARE.SHARE (i : Nat) : Fld := ⟨.field, 0x60020014 + 0x800 * i, 0, 17, 0⟩
/-- R100: Current limit in 0.1 % of rated per-winding current. -/
def CLE_AX_ILIM.ILIM (i : Nat) : Fld := ⟨.field, 0x60020018 + 0x800 * i, 0, 11, 0⟩
/-- R101: Set-point in use (position modes: count). -/
def CLE_AX_VAL.SP_VALUE (i : Nat) : Fld := ⟨.field, 0x60020020 + 0x800 * i, 0, 32, 0⟩
/-- R101: Measured id. -/
def CLE_AX_VAL.ID_MEAS (i : Nat) : Fld := ⟨.field, 0x60020024 + 0x800 * i, 0, 32, 0⟩
/-- R101: Measured iq. -/
def CLE_AX_VAL.IQ_MEAS (i : Nat) : Fld := ⟨.field, 0x60020028 + 0x800 * i, 0, 32, 0⟩
/-- R101: m_d after limit. -/
def CLE_AX_VAL.M_D (i : Nat) : Fld := ⟨.field, 0x6002002c + 0x800 * i, 0, 32, 0⟩
/-- R101: m_q after limit. -/
def CLE_AX_VAL.M_Q (i : Nat) : Fld := ⟨.field, 0x60020030 + 0x800 * i, 0, 32, 0⟩
/-- R101: Calender speed reference. -/
def CLE_AX_VAL.W_REF (i : Nat) : Fld := ⟨.field, 0x60020034 + 0x800 * i, 0, 32, 0⟩
/-- R101: Calender acceleration. -/
def CLE_AX_VAL.A_REF (i : Nat) : Fld := ⟨.field, 0x60020038 + 0x800 * i, 0, 32, 0⟩
/-- R101: Position set-point, counts. -/
def CLE_AX_VAL.POS_SP (i : Nat) : Fld := ⟨.field, 0x6002003c + 0x800 * i, 0, 32, 0⟩
/-- R131: 0 fused, 1 Fox only, 2 Hall only. -/
def CLE_AX_FOX_CTL.ANGLE_MODE (i : Nat) : Fld := ⟨.field, 0x60020100 + 0x800 * i, 0, 2, 0⟩
/-- R131: Hall sensors fitted to this axis. -/
def CLE_AX_FOX_CTL.HALLS_FITTED (i : Nat) : Fld := ⟨.field, 0x60020100 + 0x800 * i, 2, 1, 0⟩
/-- R131: Field weakening on. -/
def CLE_AX_FOX_CTL.FW_EN (i : Nat) : Fld := ⟨.field, 0x60020100 + 0x800 * i, 3, 1, 0⟩
/-- R131: Back-EMF check on. -/
def CLE_AX_FOX_CTL.KE_EN (i : Nat) : Fld := ⟨.field, 0x60020100 + 0x800 * i, 4, 1, 0⟩
/-- R131: 1: KE_HIGH puts the axis in SAFE. -/
def CLE_AX_FOX_CTL.KE_HIGH_ACT (i : Nat) : Fld := ⟨.field, 0x60020100 + 0x800 * i, 5, 1, 1⟩
/-- R131: 0 low-side ASC, 1 high-side ASC. -/
def CLE_AX_FOX_CTL.ASC_SIDE (i : Nat) : Fld := ⟨.field, 0x60020100 + 0x800 * i, 6, 1, 0⟩
/-- R131: 0 automatic, 1 always start from rest, 2 never start from rest. -/
def CLE_AX_FOX_CTL.START_MODE (i : Nat) : Fld := ⟨.field, 0x60020100 + 0x800 * i, 8, 2, 0⟩
/-- R131: Test-pulse length. -/
def CLE_AX_FOX_CTL.SR_PULSE (i : Nat) : Fld := ⟨.field, 0x60020100 + 0x800 * i, 16, 8, 100⟩
/-- R132: 0 IDLE, 1 ACQUIRE, 2 START_REST, 3 HALL, 4 TRACK, 5 REACQ, 6 SAFE. -/
def CLE_AX_FOX_STATUS.STATE (i : Nat) : Fld := ⟨.field, 0x60020104 + 0x800 * i, 0, 3, 0⟩
/-- R132: 0 none, 1 Fox, 2 Hall, 3 Fox with Hall correction. -/
def CLE_AX_FOX_STATUS.ANGLE_SRC (i : Nat) : Fld := ⟨.field, 0x60020104 + 0x800 * i, 4, 2, 0⟩
/-- R132: Per R112. -/
def CLE_AX_FOX_STATUS.LOCKED (i : Nat) : Fld := ⟨.field, 0x60020104 + 0x800 * i, 6, 1, 0⟩
/-- R132: Per R124. -/
def CLE_AX_FOX_STATUS.FW_ACTIVE (i : Nat) : Fld := ⟨.field, 0x60020104 + 0x800 * i, 7, 1, 0⟩
/-- R132: Per R124. -/
def CLE_AX_FOX_STATUS.FW_LIMIT (i : Nat) : Fld := ⟨.field, 0x60020104 + 0x800 * i, 8, 1, 0⟩
/-- R132: A mean has been published since RUNNING rose. -/
def CLE_AX_FOX_STATUS.KE_VALID (i : Nat) : Fld := ⟨.field, 0x60020104 + 0x800 * i, 9, 1, 0⟩
/-- R132: Per R114. -/
def CLE_AX_FOX_STATUS.HALL_DROPPED (i : Nat) : Fld := ⟨.field, 0x60020104 + 0x800 * i, 10, 1, 0⟩
/-- R132: 0 none, 1 ASC, 2 all-off. -/
def CLE_AX_FOX_STATUS.SAFE_PATTERN (i : Nat) : Fld := ⟨.field, 0x60020104 + 0x800 * i, 11, 2, 0⟩
/-- R132: Per R126. -/
def CLE_AX_FOX_STATUS.KE_LOW (i : Nat) : Fld := ⟨.field, 0x60020104 + 0x800 * i, 16, 1, 0⟩
/-- R132: Per R126. -/
def CLE_AX_FOX_STATUS.KE_HIGH (i : Nat) : Fld := ⟨.field, 0x60020104 + 0x800 * i, 17, 1, 0⟩
/-- R132: Per R107. -/
def CLE_AX_FOX_STATUS.SR_FAIL (i : Nat) : Fld := ⟨.field, 0x60020104 + 0x800 * i, 18, 1, 0⟩
/-- R132: Per R117. -/
def CLE_AX_FOX_STATUS.RESUME_FAIL (i : Nat) : Fld := ⟨.field, 0x60020104 + 0x800 * i, 19, 1, 0⟩
/-- R133: Rotor-lost declarations. -/
def CLE_AX_FOX_CNT.LOST (i : Nat) : Fld := ⟨.field, 0x60020108 + 0x800 * i, 0, 8, 0⟩
/-- R133: Declarations taken on the Hall path. -/
def CLE_AX_FOX_CNT.LOST_HALL (i : Nat) : Fld := ⟨.field, 0x60020108 + 0x800 * i, 8, 8, 0⟩
/-- R133: Resumes from REACQ. -/
def CLE_AX_FOX_CNT.LOST_RESUMED (i : Nat) : Fld := ⟨.field, 0x60020108 + 0x800 * i, 16, 8, 0⟩
/-- R133: Start-from-rest attempts. -/
def CLE_AX_FOX_CNT.SR_RUNS (i : Nat) : Fld := ⟨.field, 0x60020108 + 0x800 * i, 24, 8, 0⟩
/-- R134: θ̂. -/
def CLE_AX_FOX.THETA (i : Nat) : Fld := ⟨.field, 0x6002010c + 0x800 * i, 0, 32, 0⟩
/-- R134: ω̂ per ω_BASE. -/
def CLE_AX_FOX.OMEGA (i : Nat) : Fld := ⟨.field, 0x60020110 + 0x800 * i, 0, 32, 0⟩
/-- R134: r of the latest sample. -/
def CLE_AX_FOX.RESIDUAL (i : Nat) : Fld := ⟨.field, 0x60020114 + 0x800 * i, 0, 32, 0⟩
/-- R134: Latest ρ̄. -/
def CLE_AX_FOX.KE_RATIO (i : Nat) : Fld := ⟨.field, 0x60020118 + 0x800 * i, 0, 32, 0⟩
/-- R134: Angle found by the last start from rest. -/
def CLE_AX_FOX.SR_ANGLE (i : Nat) : Fld := ⟨.field, 0x6002011c + 0x800 * i, 0, 16, 0⟩
/-- R134: S5 − S0 of the last attempt, on the field timebase. -/
def CLE_AX_FOX.SR_TIME (i : Nat) : Fld := ⟨.field, 0x6002011c + 0x800 * i, 16, 13, 0⟩
/-- R134: Bits [31:0] of the field timebase tick count at the latest L0. -/
def CLE_AX_FOX.TLOST (i : Nat) : Fld := ⟨.field, 0x60020120 + 0x800 * i, 0, 32, 0⟩
/-- R77: coefficient k of bank b of axis n. -/
def CLE_COEF.K (i j k : Nat) : Fld := ⟨.field, 0x60024000 + 0x400 * i + 0x100 * j + 0x4 * k, 0, 32, 0⟩
/-- R104: Lane-agreed timeout, in CLE_GLB_CFG. -/
def CLE_GLB_CFG.SP_TIMEOUT : Fld := ⟨.field, 0x60028000, 0, 14, 0x5dc⟩
/-- R104: Refused map writes, per R76, in CLE_GLB_CNT. -/
def CLE_GLB_CNT.MAP_WR_REFUSED : Fld := ⟨.field, 0x60028004, 0, 8, 0⟩
/-- R104: Refused active-bank writes, per R79, in CLE_GLB_CNT. -/
def CLE_GLB_CNT.BANK_WR_REFUSED : Fld := ⟨.field, 0x60028004, 8, 8, 0⟩
/-- R102: Input at zero set-point. -/
def CLE_AIN_CFG.OFFSET (i : Nat) : Fld := ⟨.field, 0x60029000 + 0x10 * i, 0, 13, 0x9c4⟩
/-- R102: Dead band in units of 2^−12. -/
def CLE_AIN_CFG.DB (i : Nat) : Fld := ⟨.field, 0x60029000 + 0x10 * i, 16, 12, 0⟩
/-- R102: Per-unit set-point per mV, in CLE_AINk_GAIN. -/
def CLE_AIN_GAIN.GAIN (i : Nat) : Fld := ⟨.field, 0x60029004 + 0x10 * i, 0, 32, 0⟩
/-- R102: Lower wire-check threshold, in CLE_AINk_WIRE. -/
def CLE_AIN_WIRE.LOW (i : Nat) : Fld := ⟨.field, 0x60029008 + 0x10 * i, 0, 13, 200⟩
/-- R102: Upper wire-check threshold, in CLE_AINk_WIRE. -/
def CLE_AIN_WIRE.HIGH (i : Nat) : Fld := ⟨.field, 0x60029008 + 0x10 * i, 16, 13, 0x12c0⟩
/-- R103: 0 off, 1 duty, 2 frequency, 3 step and direction. -/
def CLE_PIN_CFG.MODE (i : Nat) : Fld := ⟨.field, 0x60029100 + 0x10 * i, 0, 2, 0⟩
/-- R103: Edge timeout, per R82. -/
def CLE_PIN_CFG.TIMEOUT (i : Nat) : Fld := ⟨.field, 0x60029100 + 0x10 * i, 8, 8, 10⟩
/-- R103: Frequency at zero set-point, in CLE_PINk_FREQ. -/
def CLE_PIN_FREQ.F_CTR (i : Nat) : Fld := ⟨.field, 0x60029104 + 0x10 * i, 0, 16, 0⟩
/-- R103: Frequency change for ±1.0, in CLE_PINk_FREQ. -/
def CLE_PIN_FREQ.F_SPAN (i : Nat) : Fld := ⟨.field, 0x60029104 + 0x10 * i, 16, 16, 1⟩
/-- R74: Flux linkage at the grid point, per unit of ψ_BASE. -/
def CLE_MAP.PSI (i j k : Nat) : Fld := ⟨.field, 0x60040000 + 0x4000 * i + 0x2000 * j + 0x8 * k, 0, 32, 0⟩
/-- R74: Incremental inductance along the entry's own axis, used by the Fox observer and the start from rest. -/
def CLE_MAP.L_INC (i j k : Nat) : Fld := ⟨.field, 0x60040000 + 0x4000 * i + 0x2000 * j + 0x8 * k, 32, 32, 0⟩
/-- R163: Counter runs. -/
def PWM_GROUP_CTL.RUN (i : Nat) : Fld := ⟨.field, 0x60060000 + 0x40 * i, 0, 1, 0⟩
/-- R163: Period-duty lock, per R143. -/
def PWM_GROUP_CTL.DPL_LOCK (i : Nat) : Fld := ⟨.field, 0x60060000 + 0x40 * i, 1, 1, 1⟩
/-- R163: Groups 8 to 11: mid-period transfer on. Groups 0 to 7: reads UPDATE of the axis. -/
def PWM_GROUP_CTL.XFER (i : Nat) : Fld := ⟨.field, 0x60060000 + 0x40 * i, 2, 1, 0⟩
/-- R163: Carrier alignment, per R154. -/
def PWM_GROUP_CTL.SYNC_EN (i : Nat) : Fld := ⟨.field, 0x60060000 + 0x40 * i, 3, 1, 1⟩
/-- R164: Carrier period in ticks. -/
def PWM_GROUP_PERIOD.PERIOD (i : Nat) : Fld := ⟨.field, 0x60060004 + 0x40 * i, 0, 24, 0xc350⟩
/-- R164: Carrier phase in ticks, used modulo PERIOD. -/
def PWM_GROUP_PHASE.PHASE (i : Nat) : Fld := ⟨.field, 0x60060008 + 0x40 * i, 0, 24, 0⟩
/-- R164: 1 requests a transfer, per R141. -/
def PWM_GROUP_COMMIT.COMMIT (i : Nat) : Fld := ⟨.field, 0x6006000c + 0x40 * i, 0, 1, 0⟩
/-- R165: Counter runs. -/
def PWM_GROUP_STATUS.COUNTING (i : Nat) : Fld := ⟨.field, 0x60060010 + 0x40 * i, 0, 1, 0⟩
/-- R165: Period held back, per R143. -/
def PWM_GROUP_STATUS.PERIOD_PENDING (i : Nat) : Fld := ⟨.field, 0x60060010 + 0x40 * i, 1, 1, 0⟩
/-- R165: Per R154. -/
def PWM_GROUP_STATUS.ALIGNED (i : Nat) : Fld := ⟨.field, 0x60060010 + 0x40 * i, 2, 1, 0⟩
/-- R165: Kind per R156. -/
def PWM_GROUP_STATUS.OVERRIDE (i : Nat) : Fld := ⟨.field, 0x60060010 + 0x40 * i, 3, 3, 1⟩
/-- R165: Per R143. -/
def PWM_GROUP_STATUS.MIXED_COMMIT (i : Nat) : Fld := ⟨.field, 0x60060010 + 0x40 * i, 8, 1, 0⟩
/-- R165: Per R139. -/
def PWM_GROUP_STATUS.EDGE_BEYOND (i : Nat) : Fld := ⟨.field, 0x60060010 + 0x40 * i, 9, 1, 0⟩
/-- R165: Per R159. -/
def PWM_GROUP_STATUS.FROZEN (i : Nat) : Fld := ⟨.field, 0x60060010 + 0x40 * i, 10, 1, 0⟩
/-- R165: Per R153, in ticks. -/
def PWM_GROUP_STATUS.PHASE_ERR (i : Nat) : Fld := ⟨.field, 0x60060010 + 0x40 * i, 16, 16, 0⟩
/-- R166: Held-back periods. -/
def PWM_GROUP_CNT.MIXED_CNT (i : Nat) : Fld := ⟨.field, 0x60060014 + 0x40 * i, 0, 8, 0⟩
/-- R166: Compares beyond the period. -/
def PWM_GROUP_CNT.BEYOND_CNT (i : Nat) : Fld := ⟨.field, 0x60060014 + 0x40 * i, 8, 8, 0⟩
/-- R166: Per R142. -/
def PWM_GROUP_CNT.HOST_WR_REFUSED (i : Nat) : Fld := ⟨.field, 0x60060014 + 0x40 * i, 16, 8, 0⟩
/-- R166: Per R149. -/
def PWM_GROUP_CNT.WIN_SHORT (i : Nat) : Fld := ⟨.field, 0x60060014 + 0x40 * i, 24, 8, 0⟩
/-- R166: Minimum usable window. -/
def PWM_GROUP_WIN.WIN_MIN (i : Nat) : Fld := ⟨.field, 0x60060018 + 0x40 * i, 0, 12, 600⟩
/-- R166: 0 the phases of PHASE_PAIR. -/
def PWM_GROUP_WIN.WIN_PHASES (i : Nat) : Fld := ⟨.field, 0x60060018 + 0x40 * i, 16, 1, 1⟩
/-- R167: Rise position per R137. -/
def PWM_OUT_RISE.RISE (i : Nat) : Fld := ⟨.field, 0x60061000 + 0x10 * i, 0, 27, 0x7fffff8⟩
/-- R167: Fall position per R137. -/
def PWM_OUT_FALL.FALL (i : Nat) : Fld := ⟨.field, 0x60061004 + 0x10 * i, 0, 27, 0⟩
/-- R168: Minimum effective interval. -/
def PWM_OUT_CFG.MIN_PULSE (i : Nat) : Fld := ⟨.field, 0x60061008 + 0x10 * i, 0, 10, 50⟩
/-- R168: 0 drop, 1 extend, 2 carry. -/
def PWM_OUT_CFG.MINPULSE_MODE (i : Nat) : Fld := ⟨.field, 0x60061008 + 0x10 * i, 12, 2, 0⟩
/-- R168: 0 none. -/
def PWM_OUT_CFG.SA_ROUTE (i : Nat) : Fld := ⟨.field, 0x60061008 + 0x10 * i, 16, 4, 0⟩
/-- R168: Short intervals handled. -/
def PWM_OUT_CNT.SHORT_CNT (i : Nat) : Fld := ⟨.field, 0x6006100c + 0x10 * i, 0, 16, 0⟩
/-- R168: Carried reference length in 250 ps steps. -/
def PWM_OUT_CNT.CARRY (i : Nat) : Fld := ⟨.field, 0x6006100c + 0x10 * i, 16, 16, 0⟩
/-- R169: Dead time, 0 to 16.382 µs. -/
def PWM_PAIR_CFG.DT (i : Nat) : Fld := ⟨.field, 0x60061400 + 0x4 * i, 0, 16, 500⟩
/-- R169: Complementary pair. -/
def PWM_PAIR_CFG.COMPL (i : Nat) : Fld := ⟨.field, 0x60061400 + 0x4 * i, 16, 1, 0⟩
/-- R190: Edge acceptance on. -/
def FBI_AX_CFG.EN (i : Nat) : Fld := ⟨.field, 0x60070000 + 0x100 * i, 0, 1, 0⟩
/-- R190: Glitch filter, 20 ns to 10 µs. -/
def FBI_AX_CFG.FILT (i : Nat) : Fld := ⟨.field, 0x60070000 + 0x100 * i, 2, 10, 50⟩
/-- R190: Intervals averaged: 0 one, 1 two, 2 three, 3 six. -/
def FBI_AX_CFG.SPD_AVG (i : Nat) : Fld := ⟨.field, 0x60070000 + 0x100 * i, 12, 2, 3⟩
/-- R190: Standstill time. -/
def FBI_AX_CFG.SS_TIME (i : Nat) : Fld := ⟨.field, 0x60070000 + 0x100 * i, 16, 10, 100⟩
/-- R190: 60° electrical at ω_BASE, in FBI_AXn_T60. -/
def FBI_AX_T60.T60_BASE (i : Nat) : Fld := ⟨.field, 0x60070004 + 0x100 * i, 0, 24, 0x51615⟩
/-- R191: Present sector. -/
def FBI_AX_STATUS.SECTOR (i : Nat) : Fld := ⟨.field, 0x60070008 + 0x100 * i, 0, 3, 7⟩
/-- R191: Filtered Hall levels, per R172. -/
def FBI_AX_STATUS.CODE (i : Nat) : Fld := ⟨.field, 0x60070008 + 0x100 * i, 3, 3, 0⟩
/-- R191: 0 STANDSTILL, 1 STARTING, 2 VALID, 3 REVERSED, 4 DECAYING. -/
def FBI_AX_STATUS.SPD_STATUS (i : Nat) : Fld := ⟨.field, 0x60070008 + 0x100 * i, 6, 3, 0⟩
/-- R191: 0 none, 1 forward, 2 backward. -/
def FBI_AX_STATUS.LAST_DIR (i : Nat) : Fld := ⟨.field, 0x60070008 + 0x100 * i, 9, 2, 0⟩
/-- R191: Wire fault of pairs a, b, c in bits 11, 12, 13. -/
def FBI_AX_STATUS.WIRE (i : Nat) : Fld := ⟨.field, 0x60070008 + 0x100 * i, 11, 3, 0⟩
/-- R191: Per R177. -/
def FBI_AX_STATUS.SAT_HIGH (i : Nat) : Fld := ⟨.field, 0x60070008 + 0x100 * i, 14, 1, 0⟩
/-- R191: Per R177. -/
def FBI_AX_STATUS.SAT_LOW (i : Nat) : Fld := ⟨.field, 0x60070008 + 0x100 * i, 15, 1, 0⟩
/-- R191: Per R174, R175 and R177. -/
def FBI_AX_STATUS.POS_UNCERTAIN (i : Nat) : Fld := ⟨.field, 0x60070008 + 0x100 * i, 16, 1, 0⟩
/-- R192: Position count. -/
def FBI_AX.POS (i : Nat) : Fld := ⟨.field, 0x6007000c + 0x100 * i, 0, 32, 0⟩
/-- R192: Position preset. -/
def FBI_AX.POS_SET (i : Nat) : Fld := ⟨.field, 0x60070010 + 0x100 * i, 0, 32, 0⟩
/-- R192: Lower soft limit. -/
def FBI_AX.SOFT_MIN (i : Nat) : Fld := ⟨.field, 0x60070014 + 0x100 * i, 0, 32, 0x80000000⟩
/-- R192: Upper soft limit. -/
def FBI_AX.SOFT_MAX (i : Nat) : Fld := ⟨.field, 0x60070018 + 0x100 * i, 0, 32, 0x7fffffff⟩
/-- R192: Edges beyond SOFT_MAX. -/
def FBI_AX.OVR_HIGH (i : Nat) : Fld := ⟨.field, 0x6007001c + 0x100 * i, 0, 32, 0⟩
/-- R192: Bits [31:0] of the field timebase count in 1 ns half-ticks at the last accepted edge. -/
def FBI_AX.EDGE_FTB (i : Nat) : Fld := ⟨.field, 0x60070020 + 0x100 * i, 0, 32, 0⟩
/-- R192: ω_hall per ω_BASE, per R181. -/
def FBI_AX.SPEED (i : Nat) : Fld := ⟨.field, 0x60070024 + 0x100 * i, 0, 32, 0⟩
/-- R193: Sector skips. -/
def FBI_AX_CNT.SKIP_CNT (i : Nat) : Fld := ⟨.field, 0x60070028 + 0x100 * i, 0, 8, 0⟩
/-- R193: Illegal codes. -/
def FBI_AX_CNT.ILLEGAL_CNT (i : Nat) : Fld := ⟨.field, 0x60070028 + 0x100 * i, 8, 8, 0⟩
/-- R193: Pair wire faults. -/
def FBI_AX_CNT.WIRE_CNT (i : Nat) : Fld := ⟨.field, 0x60070028 + 0x100 * i, 16, 8, 0⟩
/-- R193: Reversal edges. -/
def FBI_AX_CNT.REV_CNT (i : Nat) : Fld := ⟨.field, 0x60070028 + 0x100 * i, 24, 8, 0⟩
/-- R192: Edges beyond SOFT_MIN. -/
def FBI_AX.OVR_LOW (i : Nat) : Fld := ⟨.field, 0x6007002c + 0x100 * i, 0, 32, 0⟩
/-- R192: Forward edges refused for counting, per R177. -/
def FBI_AX_REF.REF_HIGH (i : Nat) : Fld := ⟨.field, 0x60070030 + 0x100 * i, 0, 16, 0⟩
/-- R192: Backward edges refused for counting, per R177. -/
def FBI_AX_REF.REF_LOW (i : Nat) : Fld := ⟨.field, 0x60070030 + 0x100 * i, 16, 16, 0⟩
/-- R194: Compare value. -/
def FBI_AX_CMP_VAL.VAL (i j : Nat) : Fld := ⟨.field, 0x60070040 + 0x100 * i + 0x10 * j, 0, 32, 0⟩
/-- R194: 0 either, 1 forward, 2 backward. -/
def FBI_AX_CMP_CTL.DIR (i j : Nat) : Fld := ⟨.field, 0x60070044 + 0x100 * i + 0x10 * j, 0, 2, 0⟩
/-- R194: Stay armed after firing. -/
def FBI_AX_CMP_CTL.REPEAT (i j : Nat) : Fld := ⟨.field, 0x60070044 + 0x100 * i + 0x10 * j, 2, 1, 0⟩
/-- R194: Compare event to the host die. -/
def FBI_AX_CMP_CTL.EVT_EN (i j : Nat) : Fld := ⟨.field, 0x60070044 + 0x100 * i + 0x10 * j, 3, 1, 0⟩
/-- R194: Compare armed. -/
def FBI_AX_CMP_CTL.ARMED (i j : Nat) : Fld := ⟨.field, 0x60070044 + 0x100 * i + 0x10 * j, 8, 1, 0⟩
/-- R194: Compare fired. -/
def FBI_AX_CMP_CTL.HIT (i j : Nat) : Fld := ⟨.field, 0x60070044 + 0x100 * i + 0x10 * j, 9, 1, 0⟩
/-- R194: Per R184. -/
def FBI_AX_CMP_CTL.BEHIND (i j : Nat) : Fld := ⟨.field, 0x60070044 + 0x100 * i + 0x10 * j, 10, 1, 0⟩
/-- R194: Effective direction, encoded as DIR. -/
def FBI_AX_CMP_CTL.EFF_DIR (i j : Nat) : Fld := ⟨.field, 0x60070044 + 0x100 * i + 0x10 * j, 11, 2, 0⟩
/-- R194: Field timebase count in 1 ns half-ticks of the firing edge. -/
def FBI_AX_CMP_HIT_FTB.HIT_FTB (i j : Nat) : Fld := ⟨.field, 0x60070048 + 0x100 * i + 0x10 * j, 0, 32, 0⟩
/-- R195: POS at t_L. -/
def FBI_AX_LAT.LAT_POS (i : Nat) : Fld := ⟨.field, 0x60070080 + 0x100 * i, 0, 32, 0⟩
/-- R195: EDGE_FTB at t_L. -/
def FBI_AX_LAT.LAT_EDGE_FTB (i : Nat) : Fld := ⟨.field, 0x60070084 + 0x100 * i, 0, 32, 0⟩
/-- R195: Speed at t_L. -/
def FBI_AX_LAT.LAT_SPEED (i : Nat) : Fld := ⟨.field, 0x60070088 + 0x100 * i, 0, 32, 0⟩
/-- R195: SECTOR at t_L. -/
def FBI_AX_LAT_STAT.LAT_SECTOR (i : Nat) : Fld := ⟨.field, 0x6007008c + 0x100 * i, 0, 3, 7⟩
/-- R195: SPD_STATUS at t_L. -/
def FBI_AX_LAT_STAT.LAT_SPD_STATUS (i : Nat) : Fld := ⟨.field, 0x6007008c + 0x100 * i, 3, 3, 0⟩
/-- R195: LAST_DIR at t_L. -/
def FBI_AX_LAT_STAT.LAT_DIR (i : Nat) : Fld := ⟨.field, 0x6007008c + 0x100 * i, 6, 2, 0⟩
/-- R195: An overrun count was non-zero at t_L. -/
def FBI_AX_LAT_STAT.LAT_OVR (i : Nat) : Fld := ⟨.field, 0x6007008c + 0x100 * i, 8, 1, 0⟩
/-- R195: 0 off, 1 action instant, 2 LATCH_x, 3 both. -/
def FBI_LATCH_CFG.LAT_SRC : Fld := ⟨.field, 0x60070800, 0, 2, 0⟩
/-- R195: Latch set captured, per R187. -/
def FBI_LATCH_STATUS.LATCHED : Fld := ⟨.field, 0x60070804, 0, 1, 0⟩
/-- R195: 0 action instant, 1 LATCH_x. -/
def FBI_LATCH_STATUS.LAT_CAUSE : Fld := ⟨.field, 0x60070804, 1, 1, 0⟩
/-- R195: Latches not taken. -/
def FBI_LATCH_STATUS.LATCH_MISSED : Fld := ⟨.field, 0x60070804, 8, 8, 0⟩
/-- R195: t_L in field timebase 1 ns half-ticks. -/
def FBI_LAT.LAT_FTB : Fld := ⟨.field, 0x60070808, 0, 32, 0⟩
/-- R92: Conversion period of the MTEMP inputs. -/
def ADC_CFG.MTEMP_PERIOD : Fld := ⟨.field, 0x60080000, 0, 8, 1⟩
/-- R92: Outputs-off time before a zero sample, per R90. -/
def ADC_CFG.ZW_SETTLE : Fld := ⟨.field, 0x60080000, 8, 8, 20⟩
/-- R92: Largest zero drift from the WAKE trim. -/
def ADC_CFG.ZERO_LIM : Fld := ⟨.field, 0x60080000, 16, 8, 64⟩
/-- R92: Reference of cluster c within 0.5 % of the check reference. -/
def ADC_CL_STATUS.REF_OK (i : Nat) : Fld := ⟨.field, 0x60080010 + 0x4 * i, 0, 1, 0⟩
/-- R92: Cores of cluster c trimmed within limits at WAKE. -/
def ADC_CL_STATUS.TRIM_OK (i : Nat) : Fld := ⟨.field, 0x60080010 + 0x4 * i, 1, 1, 0⟩
/-- R92: Per R89. -/
def ADC_CL_STATUS.BG_LATE (i : Nat) : Fld := ⟨.field, 0x60080010 + 0x4 * i, 8, 8, 0⟩
/-- R92: Per R89. -/
def ADC_CL_STATUS.BG_SKIP (i : Nat) : Fld := ⟨.field, 0x60080010 + 0x4 * i, 16, 8, 0⟩
/-- R92: Zero code of the first measured phase. -/
def ADC_AX_IZERO.IZERO0 (i : Nat) : Fld := ⟨.field, 0x60080100 + 0x20 * i, 0, 14, 0x2000⟩
/-- R92: Zero code of the second measured phase. -/
def ADC_AX_IZERO.IZERO1 (i : Nat) : Fld := ⟨.field, 0x60080100 + 0x20 * i, 16, 14, 0x2000⟩
/-- R92: Phase voltage per LSB, per unit of V_BASE. -/
def ADC_AX_VGAIN.VPH_GAIN (i : Nat) : Fld := ⟨.field, 0x60080104 + 0x20 * i, 0, 32, 0⟩
/-- R92: Latest code of the first measured phase. -/
def ADC_AX_ICODE.I0_CODE (i : Nat) : Fld := ⟨.field, 0x60080108 + 0x20 * i, 0, 14, 0⟩
/-- R92: Latest code of the second measured phase. -/
def ADC_AX_ICODE.I1_CODE (i : Nat) : Fld := ⟨.field, 0x60080108 + 0x20 * i, 16, 14, 0⟩
/-- R92: Latest phase a voltage code. -/
def ADC_AX_VCODE.VA_CODE (i : Nat) : Fld := ⟨.field, 0x6008010c + 0x20 * i, 0, 14, 0⟩
/-- R92: Latest phase b voltage code. -/
def ADC_AX_VCODE.VB_CODE (i : Nat) : Fld := ⟨.field, 0x6008010c + 0x20 * i, 16, 14, 0⟩
/-- R92: Latest phase c voltage code. -/
def ADC_AX_VCODEC.VC_CODE (i : Nat) : Fld := ⟨.field, 0x60080110 + 0x20 * i, 0, 14, 0⟩
/-- R92: Zero samples taken. -/
def ADC_AX_ZCNT.ZSAMPLES (i : Nat) : Fld := ⟨.field, 0x60080114 + 0x20 * i, 0, 16, 0⟩
/-- R92: Temperature at code 0. -/
def ADC_MTCFG.MT_OFS : Fld := ⟨.field, 0x60080400, 0, 16, 0xfe0c⟩
/-- R92: Temperature per LSB. -/
def ADC_MTCFG.MT_GAIN : Fld := ⟨.field, 0x60080400, 16, 16, 12⟩
/-- R92: Module temperature k. -/
def ADC_MTEMP.T (i : Nat) : Fld := ⟨.field, 0x60080410 + 0x4 * i, 0, 16, 0⟩
/-- R92: Offset trim of core k at WAKE. -/
def ADC_CORE_TRIM.OFS_TRIM (i : Nat) : Fld := ⟨.field, 0x60080480 + 0x4 * i, 0, 14, 0⟩
/-- R92: Gain trim of core k at WAKE. -/
def ADC_CORE_TRIM.GAIN_TRIM (i : Nat) : Fld := ⟨.field, 0x60080480 + 0x4 * i, 16, 14, 0⟩
/-- R214: Rail monitored. -/
def DCL_RAIL_CFG.EN (i : Nat) : Fld := ⟨.field, 0x60090000 + 0x100 * i, 0, 1, 0⟩
/-- R214: 1 clears the energy counters, per R210. -/
def DCL_RAIL_CFG.ERESET (i : Nat) : Fld := ⟨.field, 0x60090000 + 0x100 * i, 1, 1, 0⟩
/-- R214: Conversions to take or release a threshold. -/
def DCL_RAIL_CFG.FILT (i : Nat) : Fld := ⟨.field, 0x60090000 + 0x100 * i, 4, 4, 3⟩
/-- R214: Voltage at the top of the converter range. -/
def DCL_RAIL_CFG.RAIL_FS (i : Nat) : Fld := ⟨.field, 0x60090000 + 0x100 * i, 16, 12, 0x640⟩
/-- R214: V. -/
def DCL_RAIL_OV12.OV1 (i : Nat) : Fld := ⟨.field, 0x60090004 + 0x100 * i, 0, 12, 0x578⟩
/-- R214: V. -/
def DCL_RAIL_OV12.OV2 (i : Nat) : Fld := ⟨.field, 0x60090004 + 0x100 * i, 16, 12, 0x5aa⟩
/-- R214: V. -/
def DCL_RAIL_OV3.OV3 (i : Nat) : Fld := ⟨.field, 0x60090008 + 0x100 * i, 0, 12, 0x5dc⟩
/-- R214: Release hysteresis. -/
def DCL_RAIL_OV3.HYST (i : Nat) : Fld := ⟨.field, 0x60090008 + 0x100 * i, 16, 8, 10⟩
/-- R214: V. -/
def DCL_RAIL_CH.CH_ON (i : Nat) : Fld := ⟨.field, 0x6009000c + 0x100 * i, 0, 12, 0x514⟩
/-- R214: V. -/
def DCL_RAIL_CH.CH_FULL (i : Nat) : Fld := ⟨.field, 0x6009000c + 0x100 * i, 16, 12, 0x546⟩
/-- R214: Latest conversion, V. -/
def DCL_RAIL_STATUS.U_V (i : Nat) : Fld := ⟨.field, 0x60090010 + 0x100 * i, 0, 12, 0⟩
/-- R214: OV1 taken. -/
def DCL_RAIL_STATUS.OV1_ACT (i : Nat) : Fld := ⟨.field, 0x60090010 + 0x100 * i, 12, 1, 0⟩
/-- R214: OV2 taken. -/
def DCL_RAIL_STATUS.OV2_ACT (i : Nat) : Fld := ⟨.field, 0x60090010 + 0x100 * i, 13, 1, 0⟩
/-- R214: OV3 taken. -/
def DCL_RAIL_STATUS.OV3_ACT (i : Nat) : Fld := ⟨.field, 0x60090010 + 0x100 * i, 14, 1, 0⟩
/-- R214: Per R201. -/
def DCL_RAIL_STATUS.LOSS_ACT (i : Nat) : Fld := ⟨.field, 0x60090010 + 0x100 * i, 15, 1, 0⟩
/-- R214: REGEN_K × 255, rounded down. -/
def DCL_RAIL_STATUS.REGEN_K (i : Nat) : Fld := ⟨.field, 0x60090010 + 0x100 * i, 16, 8, 255⟩
/-- R214: Latest conversion clipped. -/
def DCL_RAIL_STATUS.CLIP (i : Nat) : Fld := ⟨.field, 0x60090010 + 0x100 * i, 24, 1, 0⟩
/-- R214: OV1 taken since last clear. -/
def DCL_RAIL_FLAGS.OV1_SEEN (i : Nat) : Fld := ⟨.field, 0x60090014 + 0x100 * i, 0, 1, 0⟩
/-- R214: As OV1_SEEN, for OV2. -/
def DCL_RAIL_FLAGS.OV2_SEEN (i : Nat) : Fld := ⟨.field, 0x60090014 + 0x100 * i, 1, 1, 0⟩
/-- R214: As OV1_SEEN, for OV3. -/
def DCL_RAIL_FLAGS.OV3_SEEN (i : Nat) : Fld := ⟨.field, 0x60090014 + 0x100 * i, 2, 1, 0⟩
/-- R214: A clipped conversion occurred. -/
def DCL_RAIL_FLAGS.CLIPPED (i : Nat) : Fld := ⟨.field, 0x60090014 + 0x100 * i, 3, 1, 0⟩
/-- R214: Per R210. -/
def DCL_RAIL_FLAGS.EMISMATCH (i : Nat) : Fld := ⟨.field, 0x60090014 + 0x100 * i, 4, 1, 0⟩
/-- R214: OV3 takings. -/
def DCL_RAIL_FLAGS.OV3_CNT (i : Nat) : Fld := ⟨.field, 0x60090014 + 0x100 * i, 8, 8, 0⟩
/-- R214: energy, mJ, LO and HI. -/
def DCL_RAIL.EIN (i : Nat) : Fld := ⟨.field, 0x60090018 + 0x100 * i, 0, 64, 0⟩
/-- R214: energy, mJ, LO and HI. -/
def DCL_RAIL.EOUT (i : Nat) : Fld := ⟨.field, 0x60090020 + 0x100 * i, 0, 64, 0⟩
/-- R214: Rail capacitance. -/
def DCL_RAIL_ECFG.C_RAIL (i : Nat) : Fld := ⟨.field, 0x60090028 + 0x100 * i, 0, 16, 100⟩
/-- R214: Tolerance floor. -/
def DCL_RAIL_ECFG.E_FLOOR (i : Nat) : Fld := ⟨.field, 0x60090028 + 0x100 * i, 16, 8, 10⟩
/-- R214: Feed input full scale. -/
def DCL_RAIL_ECFG.FEED_FS (i : Nat) : Fld := ⟨.field, 0x60090028 + 0x100 * i, 24, 8, 0⟩
/-- R214: Residual of R210. -/
def DCL_RAIL_ERES.ERES (i : Nat) : Fld := ⟨.field, 0x6009002c + 0x100 * i, 0, 32, 0⟩
/-- R215: AUX[c] drives a chopper, per R204. -/
def DCL_CH_CFG.CHOP_EN (i : Nat) : Fld := ⟨.field, 0x60090400 + 0x20 * i, 0, 1, 0⟩
/-- R215: Rail of the chopper. -/
def DCL_CH_CFG.RAIL (i : Nat) : Fld := ⟨.field, 0x60090400 + 0x20 * i, 1, 2, 0⟩
/-- R215: Single-authority chopper, per R205. -/
def DCL_CH_CFG.SHARED (i : Nat) : Fld := ⟨.field, 0x60090400 + 0x20 * i, 3, 1, 1⟩
/-- R215: 0 none. -/
def DCL_CH_CFG.CONT_SA (i : Nat) : Fld := ⟨.field, 0x60090400 + 0x20 * i, 4, 4, 0⟩
/-- R215: Grid resistance. -/
def DCL_CH_CFG.R_GRID (i : Nat) : Fld := ⟨.field, 0x60090400 + 0x20 * i, 16, 16, 0x3e8⟩
/-- R215: Stuck-on current. -/
def DCL_CH_DIAG.I_OFF (i : Nat) : Fld := ⟨.field, 0x60090404 + 0x20 * i, 0, 12, 200⟩
/-- R215: Stuck-open fraction. -/
def DCL_CH_DIAG.OPEN_FRAC (i : Nat) : Fld := ⟨.field, 0x60090404 + 0x20 * i, 16, 8, 64⟩
/-- R215: Chopper current input full scale. -/
def DCL_CH_DIAG.CH_IFS (i : Nat) : Fld := ⟨.field, 0x60090404 + 0x20 * i, 24, 8, 200⟩
/-- R215: Host duty demand. -/
def DCL_CH_DEMAND.DEMAND (i : Nat) : Fld := ⟨.field, 0x60090408 + 0x20 * i, 0, 10, 0⟩
/-- R215: Duty in use, 0.1 %. -/
def DCL_CH_STATUS.DUTY (i : Nat) : Fld := ⟨.field, 0x6009040c + 0x20 * i, 0, 10, 0⟩
/-- R215: Mean current of the last period. -/
def DCL_CH_STATUS.I_MEAN (i : Nat) : Fld := ⟨.field, 0x6009040c + 0x20 * i, 16, 12, 0⟩
/-- R215: Per R205. -/
def DCL_CH_STATUS.ACTIVE (i : Nat) : Fld := ⟨.field, 0x6009040c + 0x20 * i, 28, 1, 0⟩
/-- R215: Per R206. -/
def DCL_CH_FLAGS.STUCK_OPEN (i : Nat) : Fld := ⟨.field, 0x60090410 + 0x20 * i, 0, 1, 0⟩
/-- R215: Per R206. -/
def DCL_CH_FLAGS.STUCK_ON (i : Nat) : Fld := ⟨.field, 0x60090410 + 0x20 * i, 1, 1, 0⟩
/-- R215: Per R207. -/
def DCL_CH_FLAGS.CH_FAULT (i : Nat) : Fld := ⟨.field, 0x60090410 + 0x20 * i, 2, 1, 0⟩
/-- R215: Per R208. -/
def DCL_CH_FLAGS.EXT_FAULT (i : Nat) : Fld := ⟨.field, 0x60090410 + 0x20 * i, 3, 1, 0⟩
/-- R215: Per R207. -/
def DCL_CH_FLAGS.CONT_REQ (i : Nat) : Fld := ⟨.field, 0x60090410 + 0x20 * i, 4, 1, 0⟩
/-- R216: Rail of AXIS[n] in bits [2n + 1:2n]. -/
def DCL_AXIS_MAP.RAIL_OF : Fld := ⟨.field, 0x60090800, 0, 16, 0⟩
/-- R216: Bit 16 + n: loss injection permitted on AXIS[n]. -/
def DCL_AXIS_MAP.LOSS_EN : Fld := ⟨.field, 0x60090800, 16, 8, 0⟩
/-- R216: Loss current. -/
def DCL_AX_CFG.ID_LOSS (i : Nat) : Fld := ⟨.field, 0x60090840 + 0x4 * i, 0, 11, 0⟩
/-- R216: I_BASE of the axis, for R210. -/
def DCL_AX_CFG.AX_IFS (i : Nat) : Fld := ⟨.field, 0x60090840 + 0x4 * i, 16, 11, 100⟩
/-- R216: Bit n: R200 cut in the last sample. -/
def DCL_AXIS_STATUS.REGEN_LIM : Fld := ⟨.field, 0x60090880, 0, 8, 0⟩
/-- R216: Bit 8 + n: injecting. -/
def DCL_AXIS_STATUS.LOSS_INJ : Fld := ⟨.field, 0x60090880, 8, 8, 0⟩
/-- R216: Bit 16 + n: SAFE from OV3 since the last rise of ENABLE. -/
def DCL_AXIS_STATUS.OV3_SAFE : Fld := ⟨.field, 0x60090880, 16, 8, 0⟩
/-- R286: Freeze timer on. -/
def STO_CFG.FREEZE_EN : Fld := ⟨.field, 0x600a0000, 0, 1, 1⟩
/-- R286: Freeze limit. -/
def STO_CFG.FREEZE_MAX : Fld := ⟨.field, 0x600a0000, 4, 8, 10⟩
/-- R286: Driver enable settle. -/
def STO_CFG.EN_SETTLE : Fld := ⟨.field, 0x600a0000, 16, 8, 20⟩
/-- R286: STO test interval. -/
def STO_CFG.TEST_MAX : Fld := ⟨.field, 0x600a0000, 24, 8, 24⟩
/-- R286: STO_EN_N pad levels of clusters 0 and 1. -/
def STO_STATUS.EN_N : Fld := ⟨.field, 0x600a0004, 0, 2, 3⟩
/-- R286: TRIP latched, clusters 0 and 1. -/
def STO_STATUS.TRIP : Fld := ⟨.field, 0x600a0004, 2, 2, 0⟩
/-- R286: Per R278. -/
def STO_STATUS.TEST_DUE : Fld := ⟨.field, 0x600a0004, 4, 1, 0⟩
/-- R286: Hours since the last passed test. -/
def STO_STATUS.SINCE_TEST : Fld := ⟨.field, 0x600a0004, 8, 8, 0⟩
/-- R286: Per R276. -/
def STO_FLAGS.READBACK : Fld := ⟨.field, 0x600a0008, 0, 1, 0⟩
/-- R286: Per R277. -/
def STO_FLAGS.FREEZE_TRIP : Fld := ⟨.field, 0x600a0008, 1, 1, 0⟩
/-- R286: Per R278. -/
def STO_FLAGS.TEST_FAIL : Fld := ⟨.field, 0x600a0008, 2, 1, 0⟩
/-- R286: STO requests. -/
def STO_CNT.STO_REQS : Fld := ⟨.field, 0x600a000c, 0, 16, 0⟩
/-- R286: Freeze trips. -/
def STO_CNT.FREEZE_CNT : Fld := ⟨.field, 0x600a000c, 16, 8, 0⟩
/-- R286: Tests passed. -/
def STO_CNT.TESTS : Fld := ⟨.field, 0x600a000c, 24, 8, 0⟩
/-- R286: Isolation settle time of R22 and R122. -/
def STO_ISO.ISO_SETTLE : Fld := ⟨.field, 0x600a0010, 0, 12, 100⟩
/-- R439: 1: latch class G, then field regions OFF. -/
def FPS_CTL.OFF : Fld := ⟨.field, 0x600b0000, 0, 1, 0⟩
/-- R439: State per R418. -/
def FPS_STATUS.CLE : Fld := ⟨.field, 0x600b0004, 0, 2, 0⟩
/-- R439: State. -/
def FPS_STATUS.PWM : Fld := ⟨.field, 0x600b0004, 2, 2, 0⟩
/-- R439: State. -/
def FPS_STATUS.ANALOG : Fld := ⟨.field, 0x600b0004, 4, 2, 0⟩
/-- R439: Per R430. -/
def FPS_STATUS.G_LATCHED : Fld := ⟨.fieldAon, 0x600b0004, 8, 1, 1⟩
/-- R439: Bit 9 VDD_FCORE_x, 10 VDD_FIO_x, 11 VDDA_x in range. -/
def FPS_STATUS.OK : Fld := ⟨.field, 0x600b0004, 9, 3, 0⟩
/-- R439: Latch engagements. -/
def FPS_CNT.LATCHES : Fld := ⟨.fieldAon, 0x600b0008, 0, 8, 0⟩
/-- R439: Per R430. -/
def FPS_CNT.REL_REFUSED : Fld := ⟨.fieldAon, 0x600b0008, 8, 8, 0⟩
/-- R439: Entries to OFF. -/
def FPS_CNT.OFF_CNT : Fld := ⟨.fieldAon, 0x600b0008, 16, 8, 0⟩
/-- R439: Items counted dropped. -/
def FPS_PORT.DROPPED (i : Nat) : Fld := ⟨.field, 0x600b0040 + 0x4 * i, 0, 16, 0⟩
/-- R439: Old-epoch items discarded. -/
def FPS_PORT.STALE (i : Nat) : Fld := ⟨.field, 0x600b0040 + 0x4 * i, 16, 8, 0⟩
/-- R439: Current epoch. -/
def FPS_PORT.EPOCH (i : Nat) : Fld := ⟨.fieldAon, 0x600b0040 + 0x4 * i, 24, 8, 0⟩
/-- R462: Variant. -/
def DP_IDENT.VARIANT : Fld := ⟨.md, 0x0, 0, 8, 0⟩
/-- R462: Silicon revision. -/
def DP_IDENT.REV : Fld := ⟨.md, 0x0, 8, 8, 161⟩
/-- R462: Part. -/
def DP_IDENT.PART : Fld := ⟨.md, 0x0, 16, 16, 0x930⟩
/-- R462: A command or staging write in progress. -/
def DP_STATUS.BUSY : Fld := ⟨.md, 0x4, 0, 1, 0⟩
/-- R462: 0 closed, 1 open, 2 verifying, 3 verified, 4 rejected, 5 updating. -/
def DP_STATUS.STAGE : Fld := ⟨.mdP, 0x4, 1, 3, 0⟩
/-- R462: Per R453 and R454. -/
def DP_STATUS.VERIFY_CODE : Fld := ⟨.mdP, 0x4, 4, 4, 0⟩
/-- R462: Report ready, per R457. -/
def DP_STATUS.ATT_READY : Fld := ⟨.md, 0x4, 8, 1, 0⟩
/-- R462: Certificate stored. -/
def DP_STATUS.CERT_OK : Fld := ⟨.md, 0x4, 9, 1, 0⟩
/-- R462: Device key fused. -/
def DP_STATUS.KEY_PRESENT : Fld := ⟨.md, 0x4, 10, 1, 0⟩
/-- R462: Per R450. -/
def DP_STATUS.LOG_AVAIL : Fld := ⟨.md, 0x4, 16, 16, 0⟩
/-- R462: 1 STAGE_OPEN, 2 STAGE_CLOSE, 3 STAGE_DISCARD, 4 UPDATE_START, 5 LOG_ACK, 6 ATTEST, 7 CERT_WRITE. -/
def DP_CMD.CMD : Fld := ⟨.md, 0x8, 0, 4, 0⟩
/-- R462: Command argument. -/
def DP_ARG.ARG : Fld := ⟨.md, 0xc, 0, 32, 0⟩
/-- R462: Bytes accepted. -/
def DP_STAGE.STAGE_LEN : Fld := ⟨.mdP, 0x10, 0, 26, 0⟩
/-- R462: Bits [4n + 2:4n] for lane n: 0 none, 1 waiting, 2 transferring, 3 done, 4 failed, 5 refused. -/
def DP_UPD.LANE_UPD : Fld := ⟨.mdP, 0x14, 0, 12, 0⟩
/-- R462: Latest failure or refusal code. -/
def DP_UPD.FAIL_CODE : Fld := ⟨.md, 0x14, 12, 4, 0⟩
/-- R462: Records the ring holds, per R449 and R452. -/
def DP_LOG.CAPACITY : Fld := ⟨.mdP, 0x18, 0, 20, 0xfbfc0⟩
/-- R462: Retired sectors. -/
def DP_LOG.BAD_SECT : Fld := ⟨.mdP, 0x18, 24, 8, 0⟩
/-- R462: Per R449. -/
def DP_LOG_CNT.LOG_LOST : Fld := ⟨.mdP, 0x1c, 0, 16, 0⟩
/-- R462: Per R449 and R452. -/
def DP_LOG_CNT.LOG_OVERRUN : Fld := ⟨.mdP, 0x1c, 16, 16, 0⟩
/-- R462: Per R441. -/
def DP_ERR.ERR_OPCODE : Fld := ⟨.mdP, 0x20, 0, 8, 0⟩
/-- R462: Per R442. -/
def DP_ERR.ERR_ADDR : Fld := ⟨.mdP, 0x20, 8, 8, 0⟩
/-- R462: Per R452 and R459. -/
def DP_ERR.ERR_SEQ : Fld := ⟨.mdP, 0x20, 16, 8, 0⟩
/-- R462: Per R443. -/
def DP_ERR.LONG_BURST : Fld := ⟨.mdP, 0x20, 24, 8, 0⟩
/-- R462: Rainflow hysteresis. -/
def DP_RF_CFG.HYST : Fld := ⟨.mdP, 0x80, 0, 8, 20⟩
/-- R462: State block interval. -/
def DP_RF_CFG.SAVE_MIN : Fld := ⟨.mdP, 0x80, 8, 8, 10⟩
/-- R462: Cycles to failure of bin k. -/
def DP_NF.NF (i : Nat) : Fld := ⟨.mdP, 0x100 + 0x4 * i, 0, 32, 0⟩
/-- R290, R299: severity of source k in BGR_SEV, its reset being the default severity of the source. -/
def BGR_SEV.SEV (k dflt : Nat) : Fld := ⟨.host, 0x40000100 + 4 * (k / 8), 4 * (k % 8), 4, dflt⟩
/-- R300: copy of the severity of field source k in FBG_SEV. -/
def FBG_SEV.SEV (k : Nat) : Fld := ⟨.field, 0x60000100 + 4 * (k / 8), 4 * (k % 8), 4, 0⟩

/-! Internal quantities (no register of a window): each at a model address from 0xF000_0000 up. -/

/-- Lane time in ns (R3). -/
def Int.laneTime : Fld := ⟨.host, 0xf0000000, 0, 64, 0⟩
/-- Field timebase in 1 ns half-ticks since field die reset (R3). -/
def Int.fieldTime : Fld := ⟨.field, 0xf0000008, 0, 64, 0⟩
/-- Physical ns since the last LFO tick of the lane. -/
def Int.lfoPhase : Fld := ⟨.aon, 0xf0000010, 0, 32, 0⟩
/-- R374: events that have reached the pair, one bit per event number. -/
def Int.events (i : Nat) : Fld := ⟨.host, 0xf0000014 + 0x4 * i, 0, 32, 0⟩
/-- R307: Couch epoch agreed on the field side. -/
def Int.fieldLink : Fld := ⟨.field, 0xf0000024, 0, 1, 0⟩
/-- R307: Couch epoch of the field die. -/
def Int.fieldEpoch : Fld := ⟨.fieldAon, 0xf0000028, 0, 8, 0⟩
/-- R307: field AON region powered on since the previous link. -/
def Int.aonFresh : Fld := ⟨.fieldAon, 0xf000002c, 0, 1, 1⟩
/-- R292: CUM of a field source. -/
def Int.cum (i : Nat) : Fld := ⟨.fieldAon, 0xf0000030 + 0x4 * i, 0, 16, 0⟩
/-- R292: CUM last acknowledged. -/
def Int.acked (i : Nat) : Fld := ⟨.fieldAon, 0xf0000430 + 0x4 * i, 0, 16, 0⟩
/-- R292: LAST of a field source. -/
def Int.last (i : Nat) : Fld := ⟨.aon, 0xf0000830 + 0x4 * i, 0, 16, 0⟩
/-- R295: arrival instant of a PEND bit. -/
def Int.pendAt (i : Nat) : Fld := ⟨.host, 0xf0000c30 + 0x8 * i, 0, 64, 0⟩
/-- R298: PEND bit set by an injected occurrence alone. -/
def Int.pendForced (i : Nat) : Fld := ⟨.host, 0xf0001430 + 0x4 * i, 0, 1, 0⟩
/-- R295: the PEND bit has expired. -/
def Int.pendFired (i : Nat) : Fld := ⟨.host, 0xf0001830 + 0x4 * i, 0, 1, 0⟩
/-- R294, R295: the arrival instant of a PEND bit as the first-fault record shows it. -/
def Int.pendStamp (i : Nat) : Fld := ⟨.host, 0xf0001c30 + 0x8 * i, 0, 64, 0⟩
/-- R294: the clock of that instant. -/
def Int.pendTclk (i : Nat) : Fld := ⟨.host, 0xf0002430 + 0x4 * i, 0, 1, 0⟩
/-- R294: the field timebase count of the occurrence that set a PEND bit. -/
def Int.pendFtb (i : Nat) : Fld := ⟨.host, 0xf0002830 + 0x4 * i, 0, 32, 0⟩
/-- R298: an injected and a real occurrence have met in a PEND bit. -/
def Int.pendMet (i : Nat) : Fld := ⟨.host, 0xf0002c30 + 0x4 * i, 0, 1, 0⟩
/-- R22: E0 latched in the host die. -/
def Int.e0 : Fld := ⟨.host, 0xf0003030, 0, 1, 0⟩
/-- R22: lane time of E0. -/
def Int.e0Time : Fld := ⟨.host, 0xf0003034, 0, 64, 0⟩
/-- R22: E5 reached. -/
def Int.e5 : Fld := ⟨.host, 0xf000303c, 0, 1, 0⟩
/-- R22, R303, R309: exit latched in or carried to the field die. -/
def Int.fieldE0 : Fld := ⟨.field, 0xf0003040, 0, 1, 0⟩
/-- R303: STOP line state as decoded by the field die: 0 RUN, 1 STOP, 2 STO, 3 fault. -/
def Int.line : Fld := ⟨.field, 0xf0003044, 0, 2, 2⟩
/-- R248, R425: lease timer in ns. -/
def Int.leaseTime : Fld := ⟨.aon, 0xf0003048, 0, 64, 0⟩
/-- R252, R425: newest lease sequence heard. -/
def Int.watchSeq : Fld := ⟨.aon, 0xf0003050, 0, 16, 0⟩
/-- R252: T_r on the lease timer. -/
def Int.leaseTr : Fld := ⟨.aon, 0xf0003054, 0, 64, 0⟩
/-- R425: lease watch armed. -/
def Int.watchArmed : Fld := ⟨.aon, 0xf000305c, 0, 1, 0⟩
/-- R250: siblings eligible as of the latest frame. -/
def Int.eligMask : Fld := ⟨.host, 0xf0003060, 0, 3, 0⟩
/-- R250: the present spell without a successor has been reported. -/
def Int.noSuccSpell : Fld := ⟨.sa, 0xf0003064, 0, 1, 0⟩
/-- R252: sequence of the claim. -/
def Int.claimSeq : Fld := ⟨.sa, 0xf0003068, 0, 16, 0⟩
/-- R252: lease timer at the CLAIM. -/
def Int.claimAt : Fld := ⟨.sa, 0xf000306c, 0, 64, 0⟩
/-- R264: the claim followed a silent holder. -/
def Int.claimSilent : Fld := ⟨.sa, 0xf0003074, 0, 1, 0⟩
/-- R253: the guard has ended before the SA region was powered. -/
def Int.guardDone : Fld := ⟨.sa, 0xf0003078, 0, 1, 0⟩
/-- R262: planned handover: 0 none, 1 due at the next F1, 2 sent, 3 accepted. -/
def Int.hoPhase : Fld := ⟨.sa, 0xf000307c, 0, 2, 0⟩
/-- R262: target of the planned handover. -/
def Int.hoTarget : Fld := ⟨.sa, 0xf0003080, 0, 2, 3⟩
/-- R262: frames since the HANDOVER. -/
def Int.hoFrames : Fld := ⟨.sa, 0xf0003084, 0, 2, 0⟩
/-- R262: frames until ACCEPT is set in the frame message. -/
def Int.acceptNext : Fld := ⟨.sa, 0xf0003088, 0, 2, 0⟩
/-- R257: a renewal has arrived in this frame. -/
def Int.renewSeen : Fld := ⟨.sa, 0xf000308c, 0, 1, 0⟩
/-- R257: consecutive frames with a renewal. -/
def Int.renewRun : Fld := ⟨.sa, 0xf0003090, 0, 2, 0⟩
/-- R260: lease timer at the end of the present swap interval. -/
def Int.swapAt : Fld := ⟨.sa, 0xf0003094, 0, 64, 0⟩
/-- R260: a role swap is due. -/
def Int.swapDue : Fld := ⟨.sa, 0xf000309c, 0, 1, 0⟩
/-- R261: a return to the preferred lane is due. -/
def Int.prefDue : Fld := ⟨.sa, 0xf00030a0, 0, 1, 0⟩
/-- R258: lease timer at the latest snapshot push. -/
def Int.snapPushAt : Fld := ⟨.sa, 0xf00030a4, 0, 64, 0⟩
/-- R258: a copy has been written to the half. -/
def Int.snapWritten (i : Nat) : Fld := ⟨.aon, 0xf00030ac + 0x4 * i, 0, 1, 0⟩
/-- R258: lease timer at the receipt of the copy. -/
def Int.snapAt (i : Nat) : Fld := ⟨.aon, 0xf00030b4 + 0x8 * i, 0, 64, 0⟩
/-- R257: the SA region is being powered. -/
def Int.saStarting : Fld := ⟨.aon, 0xf00030c4, 0, 1, 0⟩
/-- R222 to R224: fence of the pair. -/
def Int.fenced (i : Nat) : Fld := ⟨.aon, 0xf00030c8 + 0x4 * i, 0, 1, 0⟩
/-- R380: image key fuses. -/
def Int.imageKey : Fld := ⟨.nv, 0xf00030d8, 0, 768, 0⟩
/-- R380: service key fuses. -/
def Int.serviceKey : Fld := ⟨.nv, 0xf0003138, 0, 768, 0⟩
/-- R380: private key of the lane certificate. -/
def Int.laneKey : Fld := ⟨.nv, 0xf0003198, 0, 512, 0⟩
/-- R386: nonce drawn at host AON power-on. -/
def Int.aonNonce : Fld := ⟨.aon, 0xf00031d8, 0, 64, 0⟩
/-- R48: a request waits for missing lanes. -/
def Int.waiting : Fld := ⟨.host, 0xf00031e0, 0, 1, 0⟩
/-- R48: lane time of the latest refusal, 0 when none stands. -/
def Int.refusedAt : Fld := ⟨.host, 0xf00031e4, 0, 64, 0⟩
/-- R48: lane time of the latest write of TARGET. -/
def Int.targetAt : Fld := ⟨.host, 0xf00031ec, 0, 64, 0⟩
/-- R425: level of KEY_ON_x as last reported. -/
def Int.keyOn : Fld := ⟨.aon, 0xf00031f4, 0, 1, 0⟩
/-- R47: KEYOFF_HOLD has expired. -/
def Int.keyOffHeld : Fld := ⟨.host, 0xf00031f8, 0, 1, 0⟩
/-- R44: restrictive proposal standing: 0, 9 or 10. -/
def Int.restrict : Fld := ⟨.host, 0xf00031fc, 0, 4, 0⟩
/-- R58: its cause. -/
def Int.restrictCause : Fld := ⟨.host, 0xf0003200, 0, 8, 0⟩
/-- R303: the SSF requests STO. -/
def Int.ssfSto : Fld := ⟨.host, 0xf0003204, 0, 1, 0⟩
/-- R278: an STO test of the cluster is due. -/
def Int.stoTestDue : Fld := ⟨.field, 0xf0003208, 0, 2, 0⟩
/-- R42, R57: lane state of a lane as last heard. -/
def Int.known (i : Nat) : Fld := ⟨.host, 0xf000320c + 0x4 * i, 0, 4, 15⟩
/-- R27, R43: lane that rejoins at the next frame start, 7 none. -/
def Int.rejoin : Fld := ⟨.host, 0xf0003218, 0, 3, 7⟩
/-- R27: device mode of that rejoin. -/
def Int.rejoinMode : Fld := ⟨.host, 0xf000321c, 0, 4, 0⟩
/-- R49: consecutive in-window frames of a lane. -/
def Int.admitRun (i : Nat) : Fld := ⟨.host, 0xf0003220 + 0x4 * i, 0, 8, 0⟩
/-- R49: admission of a lane. -/
def Int.admitted (i : Nat) : Fld := ⟨.host, 0xf000322c + 0x4 * i, 0, 1, 0⟩
/-- R49: consecutive frames in which a lane was present. -/
def Int.presRun (i : Nat) : Fld := ⟨.host, 0xf0003238 + 0x4 * i, 0, 8, 0⟩
/-- R27: consecutive frames in band of a JOINING lane. -/
def Int.bandRun (i : Nat) : Fld := ⟨.host, 0xf0003244 + 0x4 * i, 0, 8, 0⟩
/-- R237: consecutive late frames. -/
def Int.lateRun (i : Nat) : Fld := ⟨.host, 0xf0003250 + 0x4 * i, 0, 8, 0⟩
/-- R237: consecutive on-time frames. -/
def Int.onTimeRun (i : Nat) : Fld := ⟨.host, 0xf000325c + 0x4 * i, 0, 8, 0⟩
/-- R237: consecutive frames with this lane SLOW. -/
def Int.slowRun : Fld := ⟨.host, 0xf0003268, 0, 16, 0⟩
/-- R232: lanes on time in the latest frame. -/
def Int.heardView : Fld := ⟨.host, 0xf000326c, 0, 3, 0⟩
/-- R500: FRAME value held pending, 0 none. -/
def Int.framePending : Fld := ⟨.host, 0xf0003270, 0, 12, 0⟩
/-- R231: the frame message of this frame has been sent. -/
def Int.readyDone : Fld := ⟨.host, 0xf0003274, 0, 1, 0⟩
/-- R231: between F0 and F3 of a frame. -/
def Int.frameOpen : Fld := ⟨.host, 0xf0003278, 0, 1, 0⟩
/-- R234: consecutive frames in DISAGREE. -/
def Int.disRun2 (i : Nat) : Fld := ⟨.host, 0xf000327c + 0x4 * i, 0, 8, 0⟩
/-- R29: lanes in authority at the latest window close. -/
def Int.prevActive : Fld := ⟨.host, 0xf00032bc, 0, 3, 0⟩
/-- R281: consecutive frames with a different reading. -/
def Int.sealRun (i : Nat) : Fld := ⟨.host, 0xf00032c0 + 0x4 * i, 0, 8, 0⟩
/-- R18: modelled rise in 2^-24 of 0.1 K. -/
def Int.thetaFine (i : Nat) : Fld := ⟨.aon, 0xf00032cc + 0x8 * i, 0, 64, 0⟩
/-- R18: the winding is limited to 100 %. -/
def Int.derated (i : Nat) : Fld := ⟨.aon, 0xf000330c + 0x4 * i, 0, 1, 0⟩
/-- R421: level the present entry goes toward. -/
def Int.pscAsk : Fld := ⟨.host, 0xf000332c, 0, 2, 0⟩
/-- R421: blocks that have answered, by ID. -/
def Int.pscAnswered : Fld := ⟨.host, 0xf0003330, 0, 32, 0⟩
/-- R421: the field regions are OFF. -/
def Int.pscN3 : Fld := ⟨.host, 0xf0003334, 0, 1, 0⟩
/-- R421: N4 has passed. -/
def Int.pscN4 : Fld := ⟨.host, 0xf0003338, 0, 1, 0⟩
/-- R432: CRC of the retention list and saved values. -/
def Int.retCrc : Fld := ⟨.aon, 0xf000333c, 0, 32, 0⟩
/-- R119: axes marked absent for their actuators. -/
def Int.axisAbsent : Fld := ⟨.host, 0xf0003340, 0, 8, 0⟩
/-- R364 to R368: 0 idle, 1 reading the header, 2 reading sections, 3 configuring, 4 configured, 5 both slots rejected, 6 waiting for the field CRC. -/
def Int.loadPhase : Fld := ⟨.host, 0xf0003344, 0, 3, 0⟩
/-- R366: section being read. -/
def Int.loadSect : Fld := ⟨.host, 0xf0003348, 0, 7, 0⟩
/-- R365: the present read has been repeated. -/
def Int.norRetry : Fld := ⟨.host, 0xf000334c, 0, 1, 0⟩
/-- R364: the slot tried first has been rejected. -/
def Int.slotTried : Fld := ⟨.host, 0xf0003350, 0, 1, 0⟩
/-- R368: CRC the loader computes over the items it sends. -/
def Int.crcHost : Fld := ⟨.host, 0xf0003354, 0, 32, 0⟩
/-- R368: CRC of the field die over accepted register writes. -/
def Int.crcField : Fld := ⟨.field, 0xf0003358, 0, 32, 4294967295⟩
/-- R368: the configuration has been repeated. -/
def Int.crcRepeat : Fld := ⟨.host, 0xf000335c, 0, 1, 0⟩
/-- R368: the field CRC has been read and agrees. -/
def Int.crcDone : Fld := ⟨.host, 0xf0003360, 0, 1, 0⟩
/-- R360: WAKE steps of the host die done, by number. -/
def Int.wakeDone : Fld := ⟨.host, 0xf0003364, 0, 6, 0⟩
/-- R360: WAKE steps of the field die done, by number. -/
def Int.fieldWake : Fld := ⟨.field, 0xf0003368, 0, 4, 0⟩
/-- R47: failed WAKE attempts of this start. -/
def Int.wakeFails : Fld := ⟨.aon, 0xf000336c, 0, 2, 0⟩
/-- R359: ns since P1. -/
def Int.bootTime : Fld := ⟨.aon, 0xf0003370, 0, 64, 0⟩
/-- R370: an operating mode has been entered since host die reset. -/
def Int.operated : Fld := ⟨.host, 0xf0003378, 0, 1, 0⟩
/-- R252: consecutive Nguas cycles with valid frames. -/
def Int.ngbOk : Fld := ⟨.net, 0xf000337c, 0, 2, 0⟩
/-- R317: token counter of an operation. -/
def Int.opTokens (i : Nat) : Fld := ⟨.host, 0xf0003380 + 0x4 * i, 0, 16, 0⟩
/-- R317: trigger flag of an operation. -/
def Int.opFlag (i : Nat) : Fld := ⟨.host, 0xf0007380 + 0x4 * i, 0, 1, 0⟩
/-- R317: lane time of the trigger. -/
def Int.opTrigAt (i : Nat) : Fld := ⟨.host, 0xf000b380 + 0x8 * i, 0, 64, 0⟩
/-- R317: instance number of an operation. -/
def Int.opInst (i : Nat) : Fld := ⟨.host, 0xf0013380 + 0x4 * i, 0, 16, 0⟩
/-- R321: consecutive missed instances of an operation. -/
def Int.dlRun (i : Nat) : Fld := ⟨.host, 0xf0017380 + 0x4 * i, 0, 8, 0⟩
/-- R227: pairs in debug halt. -/
def Int.halted : Fld := ⟨.host, 0xf001b380, 0, 4, 0⟩
/-- R486: a die temperature sensor of the lane reads out of range. -/
def Int.overTemp : Fld := ⟨.aon, 0xf001b384, 0, 1, 0⟩
/-- R268: lane time of S0. -/
def Int.s0Time : Fld := ⟨.host, 0xf001b388, 0, 64, 0⟩
/-- R271: vehicle speed at S0. -/
def Int.v0 : Fld := ⟨.host, 0xf001b390, 0, 16, 0⟩
/-- R271: magnitude of the axis speed at S0. -/
def Int.w0 (i : Nat) : Fld := ⟨.host, 0xf001b394 + 0x4 * i, 0, 32, 0⟩
/-- R271: consecutive violations of an axis envelope. -/
def Int.envRun (i : Nat) : Fld := ⟨.host, 0xf001b3b4 + 0x4 * i, 0, 4, 0⟩
/-- R271: consecutive violations of the vehicle envelope. -/
def Int.envRunVeh : Fld := ⟨.host, 0xf001b3d4, 0, 4, 0⟩
/-- R271, R302: axis speed of the latest status item. -/
def Int.axisSpeed (i : Nat) : Fld := ⟨.host, 0xf001b3d8 + 0x4 * i, 0, 32, 0⟩
/-- R270: axes the SSF ramps down. -/
def Int.rampAxes : Fld := ⟨.host, 0xf001b3f8, 0, 8, 0⟩
/-- R87: gate permission as last sent. -/
def Int.permitted : Fld := ⟨.host, 0xf001b3fc, 0, 1, 0⟩
/-- R141: active PERIOD of a group. -/
def Int.actPeriod (i : Nat) : Fld := ⟨.field, 0xf001b400 + 0x4 * i, 0, 24, 50000⟩
/-- R141: active PHASE of a group. -/
def Int.actPhase (i : Nat) : Fld := ⟨.field, 0xf001b430 + 0x4 * i, 0, 24, 0⟩
/-- R141: active RISE of an output. -/
def Int.actRise (i : Nat) : Fld := ⟨.field, 0xf001b460 + 0x4 * i, 0, 27, 134217720⟩
/-- R141: active FALL of an output. -/
def Int.actFall (i : Nat) : Fld := ⟨.field, 0xf001b530 + 0x4 * i, 0, 27, 0⟩
/-- R141: active DT of a pair. -/
def Int.actDt (i : Nat) : Fld := ⟨.field, 0xf001b600 + 0x4 * i, 0, 16, 500⟩
/-- R141, R169: the active COMPL of a pair is 0, for pairs 0 to 23. -/
def Int.actIndep (i : Nat) : Fld := ⟨.field, 0xf001b668 + 0x4 * i, 0, 1, 0⟩
/-- R141: a COMMIT waits. -/
def Int.commit (i : Nat) : Fld := ⟨.field, 0xf001b6d0 + 0x4 * i, 0, 1, 0⟩
/-- R141: field timebase of the waiting COMMIT. -/
def Int.commitAt (i : Nat) : Fld := ⟨.field, 0xf001b700 + 0x8 * i, 0, 64, 0⟩
/-- R141, R160: field timebase of the latest COMMIT. -/
def Int.commitLast (i : Nat) : Fld := ⟨.field, 0xf001b760 + 0x8 * i, 0, 64, 0⟩
/-- R157: no period start since RUN rose. -/
def Int.runNew (i : Nat) : Fld := ⟨.field, 0xf001b7c0 + 0x4 * i, 0, 1, 0⟩
/-- R161: a parity error in a PWM register. -/
def Int.pwmBad : Fld := ⟨.field, 0xf001b7f0, 0, 1, 0⟩
/-- R143: RISE shadow written since the last commit taken. -/
def Int.wroteRise (i : Nat) : Fld := ⟨.field, 0xf001b7f4 + 0x4 * i, 0, 1, 0⟩
/-- R143: FALL shadow written since the last commit taken. -/
def Int.wroteFall (i : Nat) : Fld := ⟨.field, 0xf001b8c4 + 0x4 * i, 0, 1, 0⟩
/-- R136: field timebase of the latest period start. -/
def Int.groupAt (i : Nat) : Fld := ⟨.field, 0xf001b994 + 0x8 * i, 0, 64, 0⟩
/-- R154: length of the running period in ticks. -/
def Int.groupLen (i : Nat) : Fld := ⟨.field, 0xf001b9f4 + 0x4 * i, 0, 25, 50000⟩
/-- R157: outputs stay at 0 until a commit is taken. -/
def Int.holdOff (i : Nat) : Fld := ⟨.field, 0xf001ba24 + 0x4 * i, 0, 1, 0⟩
/-- R155: ALIGNED has been 1 since RUN rose. -/
def Int.alignedOnce (i : Nat) : Fld := ⟨.field, 0xf001ba54 + 0x4 * i, 0, 1, 0⟩
/-- R155: consecutive periods with an error above 25 ticks. -/
def Int.misRun (i : Nat) : Fld := ⟨.field, 0xf001ba84 + 0x4 * i, 0, 11, 0⟩
/-- R158: auxiliary group held until the next rise of RUN. -/
def Int.auxHeld (i : Nat) : Fld := ⟨.field, 0xf001bab4 + 0x4 * i, 0, 1, 0⟩
/-- R136: reference level of an output. -/
def Int.refLvl (i : Nat) : Fld := ⟨.field, 0xf001bae4 + 0x4 * i, 0, 1, 0⟩
/-- R140, R151: level the compares give an output. -/
def Int.outOn (i : Nat) : Fld := ⟨.field, 0xf001bbb4 + 0x4 * i, 0, 1, 0⟩
/-- R140: turn-on waiting for the dead time: 1 high side, 2 low side. -/
def Int.dtPend (i : Nat) : Fld := ⟨.field, 0xf001bc84 + 0x4 * i, 0, 2, 0⟩
/-- R156: ASC of the pair waits for the dead time. -/
def Int.ascPend (i : Nat) : Fld := ⟨.field, 0xf001bcec + 0x4 * i, 0, 1, 0⟩
/-- R156: the pending dead time of a compare began before that of the ASC pattern. -/
def Int.dtBefore (i : Nat) : Fld := ⟨.field, 0xf001bd54 + 0x4 * i, 0, 1, 0⟩
/-- R151: the turn-off edge of the running interval is moved later. -/
def Int.moved (i : Nat) : Fld := ⟨.field, 0xf001bdbc + 0x4 * i, 0, 1, 0⟩
/-- R151: by how many steps. -/
def Int.movedBy (i : Nat) : Fld := ⟨.field, 0xf001be8c + 0x4 * i, 0, 27, 0⟩
/-- R150: the running interval is suppressed. -/
def Int.supp (i : Nat) : Fld := ⟨.field, 0xf001bf5c + 0x4 * i, 0, 1, 0⟩
/-- R90: field timebase at which the outputs of an axis last went off. -/
def Int.offAt (i : Nat) : Fld := ⟨.field, 0xf001c02c + 0x8 * i, 0, 64, 0⟩
/-- R159: the PWM domain clock is stopped. -/
def Int.pwmStopped : Fld := ⟨.field, 0xf001c06c, 0, 1, 0⟩
/-- R296: urgent STOP of the FBG. -/
def Int.fieldStop : Fld := ⟨.field, 0xf001c070, 0, 1, 0⟩
/-- R274: gate pads of the group forced low by STO. -/
def Int.stoGroup (i : Nat) : Fld := ⟨.field, 0xf001c074 + 0x4 * i, 0, 1, 1⟩
/-- R274: field timebase at U1. -/
def Int.stoRelAt (i : Nat) : Fld := ⟨.field, 0xf001c094 + 0x8 * i, 0, 64, 0⟩
/-- R278: field timebase of the last passed test of a cluster. -/
def Int.stoPassed (i : Nat) : Fld := ⟨.field, 0xf001c0a4 + 0x8 * i, 0, 64, 0⟩
/-- R277: seal reading as the host die reports it. -/
def Int.sealSeen : Fld := ⟨.field, 0xf001c0b4, 0, 3, 0⟩
/-- R122, R499: the phase-isolation output is at its isolating level. -/
def Int.isoOut (i : Nat) : Fld := ⟨.field, 0xf001c0b8 + 0x4 * i, 0, 1, 1⟩
/-- R122: the settle time from a rise of ENABLE runs. -/
def Int.isoWait (i : Nat) : Fld := ⟨.field, 0xf001c0d8 + 0x4 * i, 0, 1, 0⟩
/-- R107: the safe-state pattern is finished. -/
def Int.safeDone (i : Nat) : Fld := ⟨.field, 0xf001c0f8 + 0x4 * i, 0, 1, 0⟩
/-- R274: the axis has stopped and its never-rise code is not yet in effect. -/
def Int.stopping (i : Nat) : Fld := ⟨.field, 0xf001c118 + 0x4 * i, 0, 1, 0⟩
/-- R499: ENABLE has risen since field die reset. -/
def Int.enSeen (i : Nat) : Fld := ⟨.field, 0xf001c138 + 0x4 * i, 0, 1, 0⟩
/-- R83: field timebase at which RUNNING rose. -/
def Int.runAt (i : Nat) : Fld := ⟨.field, 0xf001c158 + 0x8 * i, 0, 64, 0⟩
/-- R130: FOX_CTL in effect since the last rise of RUNNING. -/
def Int.ctlNow (i : Nat) : Fld := ⟨.field, 0xf001c198 + 0x4 * i, 0, 32, 6553632⟩
/-- R78: bank of the pending local request. -/
def Int.bankTarget (i : Nat) : Fld := ⟨.field, 0xf001c1b8 + 0x4 * i, 0, 1, 0⟩
/-- R67: d accumulator. -/
def Int.accD (i : Nat) : Fld := ⟨.field, 0xf001c1d8 + 0x8 * i, 0, 48, 0⟩
/-- R67: q accumulator. -/
def Int.accQ (i : Nat) : Fld := ⟨.field, 0xf001c218 + 0x8 * i, 0, 48, 0⟩
/-- R85: speed accumulator. -/
def Int.accW (i : Nat) : Fld := ⟨.field, 0xf001c258 + 0x8 * i, 0, 48, 0⟩
/-- R71: id_ref. -/
def Int.idRef (i : Nat) : Fld := ⟨.field, 0xf001c298 + 0x4 * i, 0, 32, 0⟩
/-- R71: iq_ref. -/
def Int.iqRef (i : Nat) : Fld := ⟨.field, 0xf001c2b8 + 0x4 * i, 0, 32, 0⟩
/-- R70: sign of the d cut of the previous sample. -/
def Int.limD (i : Nat) : Fld := ⟨.field, 0xf001c2d8 + 0x4 * i, 0, 2, 0⟩
/-- R70: sign of the q cut of the previous sample. -/
def Int.limQ (i : Nat) : Fld := ⟨.field, 0xf001c2f8 + 0x4 * i, 0, 2, 0⟩
/-- R85: sign of the q-current cut of the previous sample. -/
def Int.limIq (i : Nat) : Fld := ⟨.field, 0xf001c318 + 0x4 * i, 0, 2, 0⟩
/-- R71: T_cmd. -/
def Int.tCmd (i : Nat) : Fld := ⟨.field, 0xf001c338 + 0x4 * i, 0, 32, 0⟩
/-- R85: w_target. -/
def Int.wTarget (i : Nat) : Fld := ⟨.field, 0xf001c358 + 0x4 * i, 0, 32, 0⟩
/-- R84: samples since the last speed-loop execution. -/
def Int.spdCnt (i : Nat) : Fld := ⟨.field, 0xf001c378 + 0x4 * i, 0, 8, 0⟩
/-- R84: speed-loop executions since the last position-loop execution. -/
def Int.posCnt (i : Nat) : Fld := ⟨.field, 0xf001c398 + 0x4 * i, 0, 8, 0⟩
/-- R81: last valid position set-point. -/
def Int.posHold (i : Nat) : Fld := ⟨.field, 0xf001c3b8 + 0x4 * i, 0, 32, 0⟩
/-- R80: position at the moment RUNNING was set. -/
def Int.posStart (i : Nat) : Fld := ⟨.field, 0xf001c3d8 + 0x4 * i, 0, 32, 0⟩
/-- R112: m_alpha of the previous sample. -/
def Int.mAl (i : Nat) : Fld := ⟨.field, 0xf001c3f8 + 0x4 * i, 0, 32, 0⟩
/-- R112: m_beta of the previous sample. -/
def Int.mBe (i : Nat) : Fld := ⟨.field, 0xf001c418 + 0x4 * i, 0, 32, 0⟩
/-- R124: modulation magnitude before the voltage limit. -/
def Int.magM (i : Nat) : Fld := ⟨.field, 0xf001c438 + 0x4 * i, 0, 32, 0⟩
/-- R112: alpha of the observer flux. -/
def Int.psiA (i : Nat) : Fld := ⟨.field, 0xf001c458 + 0x4 * i, 0, 32, 0⟩
/-- R112: beta of the observer flux. -/
def Int.psiB (i : Nat) : Fld := ⟨.field, 0xf001c478 + 0x4 * i, 0, 32, 0⟩
/-- R124: state of the field-weakening regulator. -/
def Int.fw (i : Nat) : Fld := ⟨.field, 0xf001c498 + 0x4 * i, 0, 32, 0⟩
/-- R115: consecutive samples above RES_THR. -/
def Int.resRun (i : Nat) : Fld := ⟨.field, 0xf001c4b8 + 0x4 * i, 0, 3, 0⟩
/-- R118: samples since entry to TRACK. -/
def Int.trackCnt (i : Nat) : Fld := ⟨.field, 0xf001c4d8 + 0x4 * i, 0, 5, 0⟩
/-- R107: samples in ACQUIRE with back-EMF below BEMF_MIN. -/
def Int.acqLow (i : Nat) : Fld := ⟨.field, 0xf001c4f8 + 0x4 * i, 0, 6, 0⟩
/-- R107: samples in ACQUIRE. -/
def Int.acqCnt (i : Nat) : Fld := ⟨.field, 0xf001c518 + 0x4 * i, 0, 6, 0⟩
/-- R108: consecutive steady samples. -/
def Int.acqRun (i : Nat) : Fld := ⟨.field, 0xf001c538 + 0x4 * i, 0, 4, 0⟩
/-- R108: angle of the previous sample. -/
def Int.acqAng (i : Nat) : Fld := ⟨.field, 0xf001c558 + 0x4 * i, 0, 32, 0⟩
/-- R108: angle change of the previous sample. -/
def Int.acqDel (i : Nat) : Fld := ⟨.field, 0xf001c578 + 0x4 * i, 0, 32, 0⟩
/-- R108: 0 no angle yet, 1 an angle, 2 an angle change. -/
def Int.acqHave (i : Nat) : Fld := ⟨.field, 0xf001c598 + 0x4 * i, 0, 2, 0⟩
/-- R121: last valid speed. -/
def Int.lastSpeed (i : Nat) : Fld := ⟨.field, 0xf001c5b8 + 0x4 * i, 0, 32, 0⟩
/-- R121: locked since RUNNING rose. -/
def Int.everLocked (i : Nat) : Fld := ⟨.field, 0xf001c5d8 + 0x4 * i, 0, 1, 0⟩
/-- R120: field timebase of the two latest rotor-lost declarations. -/
def Int.lostAt (i j : Nat) : Fld := ⟨.field, 0xf001c5f8 + 0x10 * i + 0x8 * j, 0, 64, 0⟩
/-- R120: how many of them are held. -/
def Int.lostN (i : Nat) : Fld := ⟨.field, 0xf001c678 + 0x4 * i, 0, 2, 0⟩
/-- R117: field timebase of L0. -/
def Int.lostT (i : Nat) : Fld := ⟨.field, 0xf001c698 + 0x8 * i, 0, 64, 0⟩
/-- R107: samples in HALL that allow TRACK. -/
def Int.fuseRun (i : Nat) : Fld := ⟨.field, 0xf001c6d8 + 0x4 * i, 0, 7, 0⟩
/-- R114: consecutive edges out of tolerance. -/
def Int.hallBad (i : Nat) : Fld := ⟨.field, 0xf001c6f8 + 0x4 * i, 0, 2, 0⟩
/-- R125: sum of the qualifying ratios. -/
def Int.keSum (i : Nat) : Fld := ⟨.field, 0xf001c718 + 0x8 * i, 0, 64, 0⟩
/-- R125: qualifying samples. -/
def Int.keCnt (i : Nat) : Fld := ⟨.field, 0xf001c758 + 0x4 * i, 0, 9, 0⟩
/-- R125: run of non-qualifying samples. -/
def Int.keIdle (i : Nat) : Fld := ⟨.field, 0xf001c778 + 0x4 * i, 0, 11, 0⟩
/-- R109: test pulse under way, 1 to 14, 0 none. -/
def Int.srPulse (i : Nat) : Fld := ⟨.field, 0xf001c798 + 0x4 * i, 0, 5, 0⟩
/-- R109: next test pulse. -/
def Int.srNext (i : Nat) : Fld := ⟨.field, 0xf001c7b8 + 0x4 * i, 0, 5, 1⟩
/-- R107: attempts since RUNNING rose. -/
def Int.srTry (i : Nat) : Fld := ⟨.field, 0xf001c7d8 + 0x4 * i, 0, 2, 0⟩
/-- R110: field timebase of S0. -/
def Int.srAt (i : Nat) : Fld := ⟨.field, 0xf001c7f8 + 0x8 * i, 0, 64, 0⟩
/-- R109: field timebase at which the return of the present pulse ends. -/
def Int.srBack (i : Nat) : Fld := ⟨.field, 0xf001c838 + 0x8 * i, 0, 64, 0⟩
/-- R110: field timebase at which the present gap began. -/
def Int.srGap (i : Nat) : Fld := ⟨.field, 0xf001c878 + 0x8 * i, 0, 64, 0⟩
/-- R109: admittance of an axis test. -/
def Int.srY (i j : Nat) : Fld := ⟨.field, 0xf001c8b8 + 0x60 * i + 0x8 * j, 0, 48, 0⟩
/-- R109: end current of a polarity test. -/
def Int.srPeak (i j : Nat) : Fld := ⟨.field, 0xf001cbb8 + 0x8 * i + 0x4 * j, 0, 32, 0⟩
/-- R109: axis angle. -/
def Int.srAxis (i : Nat) : Fld := ⟨.field, 0xf001cbf8 + 0x4 * i, 0, 32, 0⟩
/-- R83: value the interpolation starts from. -/
def Int.spFrom (i : Nat) : Fld := ⟨.field, 0xf001cc18 + 0x4 * i, 0, 32, 0⟩
/-- R83: latest agreed value. -/
def Int.spTo (i : Nat) : Fld := ⟨.field, 0xf001cc38 + 0x4 * i, 0, 32, 0⟩
/-- R83: latest agreed acceleration. -/
def Int.spAcc (i : Nat) : Fld := ⟨.field, 0xf001cc58 + 0x4 * i, 0, 32, 0⟩
/-- R83: apply instant of the latest agreed message, field timebase. -/
def Int.spAt (i : Nat) : Fld := ⟨.field, 0xf001cc78 + 0x8 * i, 0, 64, 0⟩
/-- R83: time between the last two apply instants. -/
def Int.spGap (i : Nat) : Fld := ⟨.field, 0xf001ccb8 + 0x8 * i, 0, 64, 0⟩
/-- R83: an agreed message has taken effect. -/
def Int.spHave (i : Nat) : Fld := ⟨.field, 0xf001ccf8 + 0x4 * i, 0, 1, 0⟩
/-- R81: the last four conversions in mV. -/
def Int.ainSum (i j : Nat) : Fld := ⟨.field, 0xf001cd18 + 0x10 * i + 0x4 * j, 0, 16, 0⟩
/-- R81: place of the next conversion. -/
def Int.ainN (i : Nat) : Fld := ⟨.field, 0xf001cd58 + 0x4 * i, 0, 2, 0⟩
/-- R81: consecutive conversions outside LOW to HIGH. -/
def Int.ainBad (i : Nat) : Fld := ⟨.field, 0xf001cd68 + 0x4 * i, 0, 4, 0⟩
/-- R81: consecutive conversions inside. -/
def Int.ainGood (i : Nat) : Fld := ⟨.field, 0xf001cd78 + 0x4 * i, 0, 4, 0⟩
/-- R81: the input is in fault. -/
def Int.ainFault (i : Nat) : Fld := ⟨.field, 0xf001cd88 + 0x4 * i, 0, 1, 0⟩
/-- R81: scaled set-point. -/
def Int.ainX (i : Nat) : Fld := ⟨.field, 0xf001cd98 + 0x4 * i, 0, 32, 0⟩
/-- R81: the scaled value has lain inside the dead band. -/
def Int.ainBand (i : Nat) : Fld := ⟨.field, 0xf001cda8 + 0x4 * i, 0, 1, 0⟩
/-- R82: set-point of a pulse input. -/
def Int.pinX (i : Nat) : Fld := ⟨.field, 0xf001cdb8 + 0x4 * i, 0, 32, 0⟩
/-- R82: step-and-direction position. -/
def Int.pinPos (i : Nat) : Fld := ⟨.field, 0xf001cdc8 + 0x4 * i, 0, 32, 0⟩
/-- R82: filtered level. -/
def Int.pinLvl (i : Nat) : Fld := ⟨.field, 0xf001cdd8 + 0x4 * i, 0, 1, 0⟩
/-- R82: the latest filtered edges, twice the time plus 2 plus the level. -/
def Int.pinHist (i j : Nat) : Fld := ⟨.field, 0xf001cde8 + 0x48 * i + 0xc * j, 0, 65, 0⟩
/-- R81, R82: the scaled value has lain inside the dead band. -/
def Int.pinBand (i : Nat) : Fld := ⟨.field, 0xf001cf08 + 0x4 * i, 0, 1, 0⟩
/-- R82: field timebase of the latest rising edge. -/
def Int.pinRise (i : Nat) : Fld := ⟨.field, 0xf001cf18 + 0x8 * i, 0, 64, 0⟩
/-- R82: field timebase of the latest falling edge. -/
def Int.pinFall (i : Nat) : Fld := ⟨.field, 0xf001cf38 + 0x8 * i, 0, 64, 0⟩
/-- R82: rising edges seen, up to 2. -/
def Int.pinHave (i : Nat) : Fld := ⟨.field, 0xf001cf58 + 0x4 * i, 0, 2, 0⟩
/-- R82: consecutive good edges. -/
def Int.pinGood (i : Nat) : Fld := ⟨.field, 0xf001cf68 + 0x4 * i, 0, 4, 0⟩
/-- R82: the input is in fault. -/
def Int.pinFault (i : Nat) : Fld := ⟨.field, 0xf001cf78 + 0x4 * i, 0, 1, 0⟩
/-- R90: zero code of the WAKE trim. -/
def Int.izTrim (i j : Nat) : Fld := ⟨.field, 0xf001cf88 + 0x8 * i + 0x4 * j, 0, 14, 8192⟩
/-- R90: sum of the zero samples of the present 256. -/
def Int.zSum (i j : Nat) : Fld := ⟨.field, 0xf001cfc8 + 0x8 * i + 0x4 * j, 0, 22, 0⟩
/-- R90: zero samples of the present 256. -/
def Int.zCnt (i : Nat) : Fld := ⟨.field, 0xf001d008 + 0x4 * i, 0, 8, 0⟩
/-- R148: shift of a phase. -/
def Int.winDelta (i j : Nat) : Fld := ⟨.field, 0xf001d028 + 0xc * i + 0x4 * j, 0, 16, 0⟩
/-- R196: latest voltage code of a rail. -/
def Int.railCode (i : Nat) : Fld := ⟨.field, 0xf001d088 + 0x4 * i, 0, 14, 0⟩
/-- R196: latest feed-current code. -/
def Int.feedCode (i : Nat) : Fld := ⟨.field, 0xf001d098 + 0x4 * i, 0, 14, 0⟩
/-- R206: latest chopper-current code. -/
def Int.chopCode (i : Nat) : Fld := ⟨.field, 0xf001d0a8 + 0x4 * i, 0, 14, 0⟩
/-- R89: cluster that takes the next conversion of an input. -/
def Int.bgTurn (i : Nat) : Fld := ⟨.field, 0xf001d0b8 + 0x4 * i, 0, 1, 0⟩
/-- R198: consecutive conversions toward taking or releasing OV1, OV2, OV3. -/
def Int.ovRun (i j : Nat) : Fld := ⟨.field, 0xf001d128 + 0xc * i + 0x4 * j, 0, 4, 0⟩
/-- R201: source 0x85 raised in this OV2 episode. -/
def Int.lossSeen (i : Nat) : Fld := ⟨.field, 0xf001d158 + 0x4 * i, 0, 1, 0⟩
/-- R210: u_ref in V / 16383. -/
def Int.uRef (i : Nat) : Fld := ⟨.field, 0xf001d168 + 0x4 * i, 0, 25, 0⟩
/-- R200: REGEN_K of the latest conversion in 2^-31. -/
def Int.regenK (i : Nat) : Fld := ⟨.field, 0xf001d178 + 0x4 * i, 0, 32, 2147483648⟩
/-- R206: sum of the chopper-current codes of the period. -/
def Int.chIsum (i : Nat) : Fld := ⟨.field, 0xf001d188 + 0x8 * i, 0, 40, 0⟩
/-- R206: sum of the rail voltages of the period. -/
def Int.chUsum (i : Nat) : Fld := ⟨.field, 0xf001d1a8 + 0x8 * i, 0, 40, 0⟩
/-- R206: conversions in the period. -/
def Int.chN (i : Nat) : Fld := ⟨.field, 0xf001d1c8 + 0x4 * i, 0, 24, 0⟩
/-- R206: consecutive periods that look stuck-open. -/
def Int.chOpenRun (i : Nat) : Fld := ⟨.field, 0xf001d1d8 + 0x4 * i, 0, 2, 0⟩
/-- R206: consecutive periods that look stuck-on. -/
def Int.chOnRun (i : Nat) : Fld := ⟨.field, 0xf001d1e8 + 0x4 * i, 0, 2, 0⟩
/-- R207: stuck-open decided since field die reset. -/
def Int.chOpenDone (i : Nat) : Fld := ⟨.field, 0xf001d1f8 + 0x4 * i, 0, 1, 0⟩
/-- R207: stuck-on decided since field die reset. -/
def Int.chOnDone (i : Nat) : Fld := ⟨.field, 0xf001d208 + 0x4 * i, 0, 1, 0⟩
/-- R204: duty of the running period, numerator and denominator. -/
def Int.chDuty (i j : Nat) : Fld := ⟨.field, 0xf001d218 + 0x8 * i + 0x4 * j, 0, 32, 0⟩
/-- R206: counting starts at the next period start. -/
def Int.chArm (i : Nat) : Fld := ⟨.field, 0xf001d238 + 0x4 * i, 0, 1, 0⟩
/-- R206: the never-rise code is active in the running period. -/
def Int.chNever (i : Nat) : Fld := ⟨.field, 0xf001d248 + 0x4 * i, 0, 1, 0⟩
/-- R210: phase currents of the latest sample. -/
def Int.axCur (i j : Nat) : Fld := ⟨.field, 0xf001d258 + 0xc * i + 0x4 * j, 0, 32, 0⟩
/-- R210: duties of the latest sample. -/
def Int.axDuty (i j : Nat) : Fld := ⟨.field, 0xf001d2b8 + 0xc * i + 0x4 * j, 0, 32, 0⟩
/-- R305: lane times of the two latest SYNCs. -/
def Int.ftbL (i : Nat) : Fld := ⟨.field, 0xf001d318 + 0x8 * i, 0, 64, 0⟩
/-- R305: field times of the two latest SYNCs, in 0.25 ns. -/
def Int.ftbF (i : Nat) : Fld := ⟨.field, 0xf001d328 + 0x8 * i, 0, 64, 0⟩
/-- R305: SYNCs of the epoch, up to 2. -/
def Int.syncN : Fld := ⟨.field, 0xf001d338, 0, 2, 0⟩
/-- R244: SA drive enable at the field die. -/
def Int.saDriveOn : Fld := ⟨.field, 0xf001d33c, 0, 1, 0⟩
/-- R245: SA levels at the field die. -/
def Int.saLevels : Fld := ⟨.field, 0xf001d340, 0, 8, 0⟩
/-- R245: outputs that may follow a routed waveform. -/
def Int.saFollow : Fld := ⟨.field, 0xf001d344, 0, 8, 0⟩
/-- R87: gate permission at the field die, by axis. -/
def Int.gatePerm : Fld := ⟨.field, 0xf001d348, 0, 8, 0⟩
/-- R180: timestamp of the last accepted edge or skip. -/
def Int.tPrev (i : Nat) : Fld := ⟨.field, 0xf001d34c + 0x8 * i, 0, 64, 0⟩
/-- R180: intervals of the speed history, newest first. -/
def Int.hist (i j : Nat) : Fld := ⟨.field, 0xf001d38c + 0x18 * i + 0x4 * j, 0, 32, 0⟩
/-- R180: intervals held. -/
def Int.histN (i : Nat) : Fld := ⟨.field, 0xf001d44c + 0x4 * i, 0, 3, 0⟩
/-- R113: edge angle of the last accepted edge in sixths of a turn plus 1, 0 for none. -/
def Int.lastEdge (i : Nat) : Fld := ⟨.field, 0xf001d46c + 0x4 * i, 0, 3, 0⟩
/-- R181: timestamp of the last accepted edge. -/
def Int.tEdge (i : Nat) : Fld := ⟨.field, 0xf001d48c + 0x8 * i, 0, 64, 0⟩
/-- R173: pairs invalid at present. -/
def Int.pairBad (i : Nat) : Fld := ⟨.field, 0xf001d4cc + 0x4 * i, 0, 3, 0⟩
/-- R187: t_L of the latch under way. -/
def Int.latchAt : Fld := ⟨.field, 0xf001d4ec, 0, 64, 0⟩
/-- R187: a latch is being captured. -/
def Int.latchRun : Fld := ⟨.field, 0xf001d4f4, 0, 1, 0⟩
/-- R187: its cause. -/
def Int.latchBy : Fld := ⟨.field, 0xf001d4f8, 0, 1, 0⟩
/-- R187: axes with an edge after t_L. -/
def Int.latchTouched : Fld := ⟨.field, 0xf001d4fc, 0, 8, 0⟩
/-- R187: POS, EDGE_FTB, SPEED and status at t_L. -/
def Int.latSave (i j : Nat) : Fld := ⟨.field, 0xf001d500 + 0x20 * i + 0x8 * j, 0, 64, 0⟩
/-- R186: mapped action instants waiting. -/
def Int.actInstants (i : Nat) : Fld := ⟨.field, 0xf001d600 + 0x8 * i, 0, 64, 0⟩
/-- R186: how many. -/
def Int.actCount : Fld := ⟨.field, 0xf001d620, 0, 3, 0⟩
/-- R309: LINK_TMO as the field die holds it, in us. -/
def Int.fieldTmo : Fld := ⟨.field, 0xf001d624, 0, 16, 2⟩
/-- R305: SYNC_VALID. -/
def Int.syncValid : Fld := ⟨.field, 0xf001d628, 0, 1, 0⟩
/-- R210: E_IN in 2^-20 mJ. -/
def Int.eInFine (i : Nat) : Fld := ⟨.field, 0xf001d62c + 0xc * i, 0, 84, 0⟩
/-- R210: E_OUT in 2^-20 mJ. -/
def Int.eOutFine (i : Nat) : Fld := ⟨.field, 0xf001d65c + 0xc * i, 0, 84, 0⟩
/-- R196: the present run of clipped conversions has been reported. -/
def Int.clipRun (i : Nat) : Fld := ⟨.field, 0xf001d68c + 0x4 * i, 0, 1, 0⟩
/-- R109: the test pulse has ended and its return is applied. -/
def Int.srEnded (i : Nat) : Fld := ⟨.field, 0xf001d69c + 0x4 * i, 0, 1, 0⟩
/-- R184: the armed compare is behind. -/
def Int.cmpBehind (i j : Nat) : Fld := ⟨.field, 0xf001d6bc + 0x10 * i + 0x4 * j, 0, 1, 0⟩
/-- R113: field timebase to which THETA refers. -/
def Int.thAt (i : Nat) : Fld := ⟨.field, 0xf001d73c + 0x8 * i, 0, 64, 0⟩
/-- R279: latest sample of SEAL_x[2:0]. -/
def Int.sealLast : Fld := ⟨.host, 0xf001d77c, 0, 3, 0⟩
/-- R279: equal samples in a row, up to 8. -/
def Int.sealCnt : Fld := ⟨.host, 0xf001d780, 0, 4, 0⟩
/-- R280: consecutive loop samples that differ, up to 2. -/
def Int.loopBad : Fld := ⟨.host, 0xf001d784, 0, 2, 0⟩
/-- R359: the host die is held in reset. -/
def Int.held : Fld := ⟨.aon, 0xf001d788, 0, 1, 1⟩
/-- R304: a field read of the pair is outstanding. -/
def Int.readOut (i : Nat) : Fld := ⟨.host, 0xf001d78c + 0x4 * i, 0, 1, 0⟩
/-- R304: lane time of that read. -/
def Int.readAt (i : Nat) : Fld := ⟨.host, 0xf001d79c + 0x8 * i, 0, 64, 0⟩
/-- R314: lane time at which the frame message of this frame was sent. -/
def Int.frameSentAt : Fld := ⟨.host, 0xf001d7bc, 0, 64, 0⟩
/-- R220, R373, R390: TCM address at which the main core 0 and the checker core 1 of a pair last started. -/
def Int.startPc (i j : Nat) : Fld := ⟨.host, 0xf001d7c4 + 0x8 * i + 0x4 * j, 0, 32, 0⟩
/-- R304, R374: data of the latest register read returned to the pair. -/
def Int.readData (i : Nat) : Fld := ⟨.host, 0xf001d7e4 + 0x4 * i, 0, 32, 0⟩
/-- R305: a SYNC marker is on its way. -/
def Int.syncFly : Fld := ⟨.field, 0xf001d7f4, 0, 1, 0⟩
/-- R305: its lane time. -/
def Int.syncL : Fld := ⟨.field, 0xf001d7f8, 0, 64, 0⟩
/-- R361: no link has started since the field die was reset. -/
def Int.fieldFresh : Fld := ⟨.field, 0xf001d800, 0, 1, 1⟩
/-- R361: a new epoch asks the field die to reset itself. -/
def Int.fieldRstDue : Fld := ⟨.field, 0xf001d804, 0, 1, 0⟩
/-- R307, R314: Couch losses seen by the field die. -/
def Int.fieldLoss : Fld := ⟨.fieldAon, 0xf001d808, 0, 8, 0⟩
/-- R306: credits that the field die holds on its ordered channel. -/
def Int.fieldCredits : Fld := ⟨.field, 0xf001d80c, 0, 5, 16⟩
/-- R306: items of the field die without a returned credit. -/
def Int.fieldOut : Fld := ⟨.field, 0xf001d810, 0, 5, 0⟩
/-- R306: credits of the field die on their way back from the host die. -/
def Int.upBack : Fld := ⟨.host, 0xf001d814, 0, 5, 0⟩
/-- R308, R433: a read of the pair was dropped at an epoch change of its fabric port. -/
def Int.readGone (i : Nat) : Fld := ⟨.host, 0xf001d818 + 0x4 * i, 0, 1, 0⟩
/-- R311: receipt lane time of the frame message in FLT_Pp_RX. -/
def Int.rxTime (i : Nat) : Fld := ⟨.host, 0xf001d828 + 0x8 * i, 0, 64, 0⟩
/-- R307, R314: items of the field die counted dropped. -/
def Int.fieldDropped : Fld := ⟨.fieldAon, 0xf001d838, 0, 16, 0⟩
/-- R402: consecutive SYNCs with the trim at a limit. -/
def Int.trimRun : Fld := ⟨.field, 0xf001d83c, 0, 5, 0⟩
/-- R460: mailbox off after a parity error. -/
def Int.mbxOff : Fld := ⟨.host, 0xf001d840, 0, 1, 0⟩
/-- R369: seal reading at the start of LOAD. -/
def Int.loadSeal : Fld := ⟨.host, 0xf001d844, 0, 3, 0⟩
/-- R369: P7 has passed. -/
def Int.digestSent : Fld := ⟨.host, 0xf001d848, 0, 1, 0⟩
/-- R207: the SA levels are to be sent at the next frame start. -/
def Int.contDue : Fld := ⟨.host, 0xf001d84c, 0, 1, 0⟩
/-- R454, R457: an identity record of the lane since its latest mailbox link start. -/
def Int.mdFresh (i : Nat) : Fld := ⟨.md, 0xf001d850 + 0x4 * i, 0, 1, 0⟩
/-- R444: no record of the lane for 3 telemetry periods. -/
def Int.mdStale (i : Nat) : Fld := ⟨.md, 0xf001d85c + 0x4 * i, 0, 1, 0⟩
/-- R458: the mailbox link of the lane has come up since MD power-up. -/
def Int.mdLinked (i : Nat) : Fld := ⟨.md, 0xf001d868 + 0x4 * i, 0, 1, 0⟩
/-- R458: the MD is dormant. -/
def Int.mdDormant : Fld := ⟨.md, 0xf001d874, 0, 1, 0⟩
/-- R457: a report has been requested. -/
def Int.mdAtt : Fld := ⟨.md, 0xf001d878, 0, 1, 0⟩
/-- R445: die temperature sensor, signed, in 0.1 °C. -/
def Int.mdTemp (i : Nat) : Fld := ⟨.md, 0xf001d87c + 0x4 * i, 0, 16, 0⟩
/-- R445: package humidity in 0.1 %. -/
def Int.mdHumid : Fld := ⟨.md, 0xf001d884, 0, 10, 0⟩
/-- R445: the management supply lies in its recommended range. -/
def Int.mdSupply : Fld := ⟨.md, 0xf001d888, 0, 1, 1⟩
/-- R445: temperature 0, temperature 1, humidity above its limit. -/
def Int.mdOver (i : Nat) : Fld := ⟨.md, 0xf001d88c + 0x4 * i, 0, 1, 0⟩
/-- R450: records of the ring not yet acknowledged. -/
def Int.mdUnack : Fld := ⟨.mdP, 0xf001d898, 0, 32, 0⟩
/-- R448: next record sequence number. -/
def Int.mdSeq : Fld := ⟨.mdP, 0xf001d89c, 0, 32, 0⟩
/-- R449: records lost and not yet reported. -/
def Int.mdLostNow : Fld := ⟨.md, 0xf001d8a0, 0, 16, 0⟩
/-- R452: length staging was opened with. -/
def Int.mdOpenLen : Fld := ⟨.mdP, 0xf001d8a4, 0, 26, 0⟩
/-- R448: MD LFO tick count. -/
def Int.mdTick : Fld := ⟨.nv, 0xf001d8a8, 0, 48, 0⟩
/-- R462: DP_TICK_HI as captured. -/
def Int.mdTickHi : Fld := ⟨.md, 0xf001d8b0, 0, 16, 0⟩
/-- R456: private device key fuses. -/
def Int.mdKey : Fld := ⟨.nv, 0xf001d8b4, 0, 512, 0⟩
/-- R456: the device key is fused. -/
def Int.mdKeyed : Fld := ⟨.nv, 0xf001d8f4, 0, 1, 0⟩
/-- R456: DEVICE_PUB. -/
def Int.mdPub : Fld := ⟨.nv, 0xf001d8f8, 0, 768, 0⟩
/-- R441, R457: Watermark DEVICE_ID. -/
def Int.deviceId : Fld := ⟨.nv, 0xf001d958, 0, 96, 0⟩
/-- R454: next expected chunk offset. -/
def Int.updOff : Fld := ⟨.host, 0xf001d964, 0, 26, 0⟩
/-- R378: SEQ of the loaded slot. -/
def Int.loadedSeq : Fld := ⟨.host, 0xf001d968, 0, 32, 0⟩
/-- R223: LFO ticks of the latest lockstep faults of a pair, newest first. -/
def Int.winTick (i j : Nat) : Fld := ⟨.aon, 0xf001d96c + 0x18 * i + 0x8 * j, 0, 48, 0⟩
/-- R223: how many of them are held. -/
def Int.winN (i : Nat) : Fld := ⟨.aon, 0xf001d9cc + 0x4 * i, 0, 2, 0⟩
/-- R221: M5 of a restart has passed. -/
def Int.m5 (i : Nat) : Fld := ⟨.host, 0xf001d9dc + 0x4 * i, 0, 1, 0⟩
/-- R225: a frame has started since M5. -/
def Int.rsOpen (i : Nat) : Fld := ⟨.host, 0xf001d9ec + 0x4 * i, 0, 1, 0⟩
/-- R224: frames ended since M5. -/
def Int.rsFrames (i : Nat) : Fld := ⟨.host, 0xf001d9fc + 0x4 * i, 0, 8, 0⟩
/-- R225: the pair has been in RESYNC since the start of this frame. -/
def Int.rsWhole (i : Nat) : Fld := ⟨.host, 0xf001da0c + 0x4 * i, 0, 1, 0⟩
/-- R225: consecutive matching frames. -/
def Int.rsRun (i : Nat) : Fld := ⟨.host, 0xf001da1c + 0x4 * i, 0, 2, 0⟩
/-- R227: retirement count of the main core as single steps advance it. -/
def Int.retired (i : Nat) : Fld := ⟨.host, 0xf001da2c + 0x8 * i, 0, 64, 0⟩
/-- R227: core registers as the debugger wrote them, main core 0 and checker 1. -/
def Int.coreReg (i j k : Nat) : Fld := ⟨.host, 0xf001da4c + 0x1000 * i + 0x800 * j + 0x8 * k, 0, 64, 0⟩
/-- R53: a halt stopped the field clocks. -/
def Int.haltClk : Fld := ⟨.host, 0xf0021a4c, 0, 1, 0⟩
/-- R325: pairs whose withdrawal is under way. -/
def Int.withdraw : Fld := ⟨.host, 0xf0021a50, 0, 4, 0⟩
/-- R319: a NEXT read of the target waits. -/
def Int.nextWait (i : Nat) : Fld := ⟨.host, 0xf0021a54 + 0x4 * i, 0, 1, 0⟩
/-- R329: executing time of a target in the running window, in ns. -/
def Int.obsExec (i : Nat) : Fld := ⟨.host, 0xf0021a68 + 0x8 * i, 0, 48, 0⟩
/-- R329: sum of G1 to G3 of the window, in ns. -/
def Int.obsWait (i : Nat) : Fld := ⟨.host, 0xf0021a90 + 0x8 * i, 0, 48, 0⟩
/-- R329: operations in that sum. -/
def Int.obsN (i : Nat) : Fld := ⟨.host, 0xf0021ab8 + 0x4 * i, 0, 32, 0⟩
/-- R329: longest G1 to G3 of a class in the running window. -/
def Int.obsMax (i : Nat) : Fld := ⟨.host, 0xf0021acc + 0x4 * i, 0, 32, 0⟩
/-- R329: lane time at the start of the window. -/
def Int.obsFrom : Fld := ⟨.host, 0xf0021b0c, 0, 64, 0⟩
/-- R329: frames of the running window. -/
def Int.obsFrames : Fld := ⟨.host, 0xf0021b14, 0, 8, 0⟩
/-- R425: an ordinary wake has arrived during an entry. -/
def Int.wakePend : Fld := ⟨.host, 0xf0021b18, 0, 1, 0⟩
/-- R432: values have been saved since host AON power-on. -/
def Int.retSaved : Fld := ⟨.aon, 0xf0021b1c, 0, 1, 0⟩
/-- R238: EN, LANES and AXES of a channel in force in the running frame, at the bits of CHm_CFG. -/
def Int.chSnap (i : Nat) : Fld := ⟨.host, 0xf0021b20 + 0x4 * i, 0, 16, 0⟩
/-- R233: acceleration agreed with APPLIED. -/
def Int.chAcc (i : Nat) : Fld := ⟨.host, 0xf0021b60 + 0x4 * i, 0, 32, 0⟩
/-- R234: consecutive frames out of band among three contributors. -/
def Int.disRun3 (i : Nat) : Fld := ⟨.host, 0xf0021ba0 + 0x4 * i, 0, 8, 0⟩
/-- R230: lane time of F0 of the running frame. -/
def Int.frameAt : Fld := ⟨.host, 0xf0021be0, 0, 64, 0⟩
/-- R232: a window has closed, so heardView stands for a frame. -/
def Int.viewHave : Fld := ⟨.host, 0xf0021be8, 0, 1, 0⟩
/-- R259: contactor requests that present siblings report. -/
def Int.contHeard : Fld := ⟨.host, 0xf0021bec, 0, 8, 0⟩
/-- R28: exits that the latest frame message of a sibling carried. -/
def Int.exitsSeen (i : Nat) : Fld := ⟨.aon, 0xf0021bf0 + 0x4 * i, 0, 8, 0⟩
/-- R29: lanes that count as lost. -/
def Int.gone : Fld := ⟨.host, 0xf0021bfc, 0, 3, 0⟩
/-- R273: the conditions of standstill hold. -/
def Int.stillRun : Fld := ⟨.host, 0xf0021c00, 0, 1, 0⟩
/-- R273: lane time of the first F3 from which they hold. -/
def Int.stillAt : Fld := ⟨.host, 0xf0021c04, 0, 64, 0⟩
/-- R271: an S0 has been latched since host die reset. -/
def Int.s0Have : Fld := ⟨.host, 0xf0021c0c, 0, 1, 0⟩
/-- R346: consecutive cycles with a valid SYNC frame heard in LISTEN. -/
def Int.ngbHeardRun : Fld := ⟨.net, 0xf0021c10, 0, 2, 0⟩
/-- R346: cycle number of the latest of them. -/
def Int.ngbHeardCycle : Fld := ⟨.net, 0xf0021c14, 0, 16, 0⟩
/-- R346: its schedule mode. -/
def Int.ngbHeardMode : Fld := ⟨.net, 0xf0021c18, 0, 3, 0⟩
/-- R341: global time of the start of that cycle. -/
def Int.ngbHeardTime : Fld := ⟨.net, 0xf0021c1c, 0, 64, 0⟩
/-- R346: complete cycles synchronised and silent in SYNCING. -/
def Int.ngbQuiet : Fld := ⟨.net, 0xf0021c24, 0, 2, 0⟩
/-- R346: cycles in COLD without a valid SYNC frame of a running node. -/
def Int.ngbAlone : Fld := ⟨.net, 0xf0021c28, 0, 8, 0⟩
/-- R340: consecutive cycles without a deviation. -/
def Int.ngbMiss : Fld := ⟨.net, 0xf0021c2c, 0, 8, 0⟩
/-- R349: consecutive cycles of RUN without a valid copy on the channel. -/
def Int.ngbChMiss (i : Nat) : Fld := ⟨.net, 0xf0021c30 + 0x4 * i, 0, 2, 0⟩
/-- R336: global time of the start of the running cycle. -/
def Int.ngbCycleTime : Fld := ⟨.net, 0xf0021c38, 0, 64, 0⟩
/-- R341: what lane time has still to be slewed, in ns. -/
def Int.ngbSlew : Fld := ⟨.host, 0xf0021c40, 0, 64, 0⟩
/-- R351: a wake pattern is requested. -/
def Int.ngbWakeReq : Fld := ⟨.net, 0xf0021c48, 0, 1, 0⟩
/-- R351: channels of the latest wake pattern sent. -/
def Int.ngbWakeSent : Fld := ⟨.net, 0xf0021c4c, 0, 2, 0⟩
/-- R351: channels of the latched wake. -/
def Int.ngbWakeCh : Fld := ⟨.aon, 0xf0021c50, 0, 2, 0⟩
/-- R334: the schedule is locked. -/
def Int.ngbLock : Fld := ⟨.host, 0xf0021c54, 0, 1, 0⟩
/-- R338: cycle number of the frame in copy 0. -/
def Int.bufCycle (i : Nat) : Fld := ⟨.net, 0xf0021c58 + 0x4 * i, 0, 16, 0⟩
/-- R338: copy 0 has been written since the latest action instant. -/
def Int.bufNew (i : Nat) : Fld := ⟨.net, 0xf0021e58 + 0x4 * i, 0, 1, 0⟩
/-- R338: channel of that copy. -/
def Int.bufCh (i : Nat) : Fld := ⟨.net, 0xf0022058 + 0x4 * i, 0, 1, 0⟩
/-- R356: the port is off until host die reset after a parity error. -/
def Int.canOff : Fld := ⟨.net, 0xf0022258, 0, 1, 0⟩
/-- R353: bus-off recovery runs. -/
def Int.canRecov : Fld := ⟨.net, 0xf002225c, 0, 1, 0⟩
/-- R364: slot being tried. -/
def Int.loadSlot : Fld := ⟨.host, 0xf0022260, 0, 1, 0⟩
/-- R361: a calibration result lies outside its limits. -/
def Int.loadStop : Fld := ⟨.host, 0xf0022264, 0, 1, 0⟩
/-- R404: consecutive crystal windows out of range. -/
def Int.xBad : Fld := ⟨.host, 0xf0022268, 0, 2, 0⟩
/-- R404: the same of the field die. -/
def Int.fxBad : Fld := ⟨.field, 0xf002226c, 0, 2, 0⟩
/-- R404: the same of the management die. -/
def Int.mdXBad : Fld := ⟨.md, 0xf0022270, 0, 2, 0⟩
/-- R405: XF_HOLD runs. -/
def Int.xfHold : Fld := ⟨.host, 0xf0022274, 0, 1, 0⟩
/-- R405: lane time at which the hold on the HFO began. -/
def Int.xfAt : Fld := ⟨.host, 0xf0022278, 0, 64, 0⟩
/-- R408: LFO tick of the crystal failure decision. -/
def Int.xfTick : Fld := ⟨.host, 0xf0022280, 0, 48, 0⟩
/-- R408: the same of the field die. -/
def Int.fxfTick : Fld := ⟨.field, 0xf0022288, 0, 48, 0⟩
/-- R408: consecutive HFO counts out of range. -/
def Int.hfoBad : Fld := ⟨.aon, 0xf0022290, 0, 2, 0⟩
/-- R408: the same of the field die. -/
def Int.fhfoBad : Fld := ⟨.fieldAon, 0xf0022294, 0, 2, 0⟩
/-- R408: the same of the management die. -/
def Int.mdHfoBad : Fld := ⟨.md, 0xf0022298, 0, 2, 0⟩
/-- R408: an HFO failure recorded on the LFO. -/
def Int.hfoRec : Fld := ⟨.aon, 0xf002229c, 0, 1, 0⟩
/-- R408: its LFO tick. -/
def Int.hfoTick : Fld := ⟨.aon, 0xf00222a0, 0, 48, 0⟩
/-- R409: a switch of a domain, or of the reference (4), is in progress. -/
def Int.swPend (i : Nat) : Fld := ⟨.host, 0xf00222a8 + 0x4 * i, 0, 1, 0⟩
/-- R409: its new source, 1 HFO. -/
def Int.swTo (i : Nat) : Fld := ⟨.host, 0xf00222bc + 0x4 * i, 0, 1, 0⟩
/-- R409: it is made native whatever SW_MODE holds. -/
def Int.swNative (i : Nat) : Fld := ⟨.host, 0xf00222d0 + 0x4 * i, 0, 1, 0⟩
/-- R414: the latest request kept meanwhile, 1 + source. -/
def Int.swNext (i : Nat) : Fld := ⟨.host, 0xf00222e4 + 0x4 * i, 0, 2, 0⟩
/-- R411: steps of the divider ramp done. -/
def Int.ramp (i : Nat) : Fld := ⟨.host, 0xf00222f8 + 0x4 * i, 0, 4, 0⟩
/-- R409: the same of the field die. -/
def Int.fswPend (i : Nat) : Fld := ⟨.field, 0xf002230c + 0x4 * i, 0, 1, 0⟩
/-- R409: the same of the field die. -/
def Int.fswTo (i : Nat) : Fld := ⟨.field, 0xf0022320 + 0x4 * i, 0, 1, 0⟩
/-- R409: the same of the field die. -/
def Int.fswNative (i : Nat) : Fld := ⟨.field, 0xf0022334 + 0x4 * i, 0, 1, 0⟩
/-- R414: the same of the field die. -/
def Int.fswNext (i : Nat) : Fld := ⟨.field, 0xf0022348 + 0x4 * i, 0, 2, 0⟩
/-- R411: the same of the field die. -/
def Int.framp (i : Nat) : Fld := ⟨.field, 0xf002235c + 0x4 * i, 0, 4, 0⟩
/-- R403: spread depth in effect. -/
def Int.sscDepth : Fld := ⟨.host, 0xf0022370, 0, 5, 0⟩
/-- R403: spread rate in effect. -/
def Int.sscRate : Fld := ⟨.host, 0xf0022374, 0, 7, 30⟩
/-- R403: the same of the field die. -/
def Int.fsscDepth : Fld := ⟨.field, 0xf0022378, 0, 5, 0⟩
/-- R403: the same of the field die. -/
def Int.fsscRate : Fld := ⟨.field, 0xf002237c, 0, 7, 30⟩
/-- R423: the SA region was on when an entry stopped it. -/
def Int.pscSa : Fld := ⟨.host, 0xf0022380, 0, 1, 0⟩
/-- R413, R427: a wake at level 2 is under way. -/
def Int.deepWake : Fld := ⟨.host, 0xf0022384, 0, 1, 0⟩
/-- R471: the field die is held in reset until its supplies are in range. -/
def Int.fieldHeld : Fld := ⟨.fieldAon, 0xf0022388, 0, 1, 1⟩
/-- R384: the BST keeps the STOP line at STO. -/
def Int.bstSto : Fld := ⟨.host, 0xf002238c, 0, 1, 0⟩
/-- R393: unit of the direct test, as FAIL_UNIT names it. -/
def Int.directUnit : Fld := ⟨.host, 0xf0022390, 0, 3, 0⟩
/-- R394: the condition of the token under verification has ceased. -/
def Int.tokenBad : Fld := ⟨.host, 0xf0022394, 0, 1, 0⟩
/-- R390: next segment of a pair. -/
def Int.seg (i : Nat) : Fld := ⟨.host, 0xf0022398 + 0x4 * i, 0, 7, 0⟩
/-- R391: ms of slicing since the last cover of a pair. -/
def Int.coverMs (i : Nat) : Fld := ⟨.host, 0xf00223a8 + 0x4 * i, 0, 32, 0⟩
/-- R391: the late cover of a pair has been reported. -/
def Int.coverLate (i : Nat) : Fld := ⟨.host, 0xf00223b8 + 0x4 * i, 0, 1, 0⟩
/-- R212: choppers off after a DCL parity error. -/
def Int.dclBad : Fld := ⟨.field, 0xf00223c8, 0, 1, 0⟩
/-- R188: edges refused after an FBI parity error. -/
def Int.fbiBad : Fld := ⟨.field, 0xf00223cc, 0, 1, 0⟩
/-- R284: STO on both clusters after an STO parity error. -/
def Int.stoBad : Fld := ⟨.field, 0xf00223d0, 0, 1, 0⟩
/-- R214: EIN_HI as captured by the latest read of EIN_LO. -/
def Int.eInHi (i : Nat) : Fld := ⟨.field, 0xf00223d4 + 0x4 * i, 0, 32, 0⟩
/-- R214: EOUT_HI as captured by the latest read of EOUT_LO. -/
def Int.eOutHi (i : Nat) : Fld := ⟨.field, 0xf00223e4 + 0x4 * i, 0, 32, 0⟩
/-- R116: u_dc of the latest sample of an axis. -/
def Int.udcLast (i : Nat) : Fld := ⟨.field, 0xf00223f4 + 0x4 * i, 0, 32, 0⟩
/-- R204: duty last computed, numerator and denominator. -/
def Int.chNext (i j : Nat) : Fld := ⟨.field, 0xf0022414 + 0x8 * i + 0x4 * j, 0, 32, 0⟩
/-- R22: lane time of an exit decision that the field die latched. -/
def Int.fieldE0Time : Fld := ⟨.field, 0xf0022434, 0, 64, 0⟩
/-- R55: the device mode has equalled TARGET since it was written. -/
def Int.targetDone : Fld := ⟨.host, 0xf002243c, 0, 1, 0⟩
/-- R278: clusters without a passed test for TEST_MAX. -/
def Int.stoDue : Fld := ⟨.field, 0xf0022440, 0, 2, 0⟩
/-- R58, R299, R396: high word as captured by the latest read of its low word: CFG_MODE_TIME, BGR_FIRST, BGR_PREV, BGR_LOG, BST_TICK. -/
def Int.hiCopy (i : Nat) : Fld := ⟨.host, 0xf0022444 + 0x4 * i, 0, 32, 0⟩
/-- R221: outputs of the pair held after a fault on the main path or after E0. -/
def Int.pairStop (i : Nat) : Fld := ⟨.host, 0xf0022458 + 0x4 * i, 0, 1, 0⟩
/-- R219: lane time of the latest delay-stage parity error of the pair. -/
def Int.parAt (i : Nat) : Fld := ⟨.host, 0xf0022468 + 0x8 * i, 0, 64, 0⟩
/-- R219: bit groups of that parity error. -/
def Int.parGroups (i : Nat) : Fld := ⟨.host, 0xf0022488 + 0x8 * i, 0, 64, 0⟩

end Sys2Proof.Machine
end

