-- ==== Sys2Proof/Machine/RegisterTable.lean ====
section
/-! DEFINITION. The register tables as data: for each field its access code (R8), its legal range (R9) and the
strides of its indices, from which register writes, image lists and register reads work. -/

namespace Sys2Proof.Machine

/-- Access codes of R8; ld is RO with "loaded at LOAD" (R367). -/
inductive Access where
  | ro | rw | wo | w1c | w1s | rc | ld
deriving DecidableEq, Repr

/-- The legal range of a field and the value an illegal value takes (R9); a named entry is a range that depends on
other fields or is an enumeration, computed by clampValue. -/
inductive Clamp where
  | any
  | range (lo hi : Nat)
  | srange (lo hi : Int)
  | accWin | actOfs | ainHigh | angleMode | applyOfs | bankReq | canDlc | compl | dsjw | dslpEn | freezeEn | lanesFitted | leasePeriod | ngbTarget | nsjw | packagePos | pinMode | prefLane | pwmPeriod | railFs | runEn | saRoute | ssRole | startDegraded | target | vec
deriving DecidableEq, Repr

/-- One row of a register table: the field at index 0, its access, its clamp, and (stride, count) per index. -/
structure Row where
  fld : Fld
  acc : Access
  clamp : Clamp
  dims : List (Nat × Nat)
deriving DecidableEq, Repr

/-- The Dp rows. -/
def rowsDp : List Row := [
  ⟨DP_IDENT.VARIANT, .ro, .any, []⟩,
  ⟨DP_IDENT.REV, .ro, .any, []⟩,
  ⟨DP_IDENT.PART, .ro, .any, []⟩,
  ⟨DP_STATUS.BUSY, .ro, .any, []⟩,
  ⟨DP_STATUS.STAGE, .ro, .any, []⟩,
  ⟨DP_STATUS.VERIFY_CODE, .ro, .any, []⟩,
  ⟨DP_STATUS.ATT_READY, .ro, .any, []⟩,
  ⟨DP_STATUS.CERT_OK, .ro, .any, []⟩,
  ⟨DP_STATUS.KEY_PRESENT, .ro, .any, []⟩,
  ⟨DP_STATUS.LOG_AVAIL, .ro, .any, []⟩,
  ⟨DP_CMD.CMD, .wo, .any, []⟩,
  ⟨DP_ARG.ARG, .rw, .any, []⟩,
  ⟨DP_STAGE.STAGE_LEN, .ro, .any, []⟩,
  ⟨DP_UPD.LANE_UPD, .ro, .any, []⟩,
  ⟨DP_UPD.FAIL_CODE, .ro, .any, []⟩,
  ⟨DP_LOG.CAPACITY, .ro, .any, []⟩,
  ⟨DP_LOG.BAD_SECT, .ro, .any, []⟩,
  ⟨DP_LOG_CNT.LOG_LOST, .ro, .any, []⟩,
  ⟨DP_LOG_CNT.LOG_OVERRUN, .ro, .any, []⟩,
  ⟨DP_ERR.ERR_OPCODE, .ro, .any, []⟩,
  ⟨DP_ERR.ERR_ADDR, .ro, .any, []⟩,
  ⟨DP_ERR.ERR_SEQ, .ro, .any, []⟩,
  ⟨DP_ERR.LONG_BURST, .ro, .any, []⟩,
  ⟨DP_RF_CFG.HYST, .rw, .range 5 100, []⟩,
  ⟨DP_RF_CFG.SAVE_MIN, .rw, .range 1 60, []⟩,
  ⟨DP_NF.NF 0, .rw, .any, [(4, 32)]⟩]

/-- The Bgr rows. -/
def rowsBgr : List Row := [
  ⟨BGR_CFG.REACT_T, .rw, .range 2 10000, []⟩,
  ⟨BGR_CFG.IRQ_PAIRS, .rw, .any, []⟩,
  ⟨BGR_CFG.LOG_MD, .rw, .any, []⟩,
  ⟨BGR_STATE.STATE, .ro, .any, []⟩,
  ⟨BGR_STATE.PEND_ANY, .ro, .any, []⟩,
  ⟨BGR_STATE.ESC_TIMER, .ro, .any, []⟩,
  ⟨BGR_STATE.SELF, .w1c, .any, []⟩,
  ⟨BGR_STATE.DRY, .w1c, .any, []⟩,
  ⟨BGR_STATE.EXIT_ONLY, .ro, .any, []⟩,
  ⟨BGR_STATE.NEW, .w1c, .any, []⟩,
  ⟨BGR_STATE.SEV_WR_REFUSED, .ro, .any, []⟩,
  ⟨BGR_STATE.FORCED_CNT, .ro, .any, []⟩,
  ⟨BGR_STATE.FORCE_REFUSED, .ro, .any, []⟩,
  ⟨BGR_FIRST.ID, .ro, .any, []⟩,
  ⟨BGR_FIRST.SEV, .ro, .any, []⟩,
  ⟨BGR_FIRST.FORCED, .ro, .any, []⟩,
  ⟨BGR_FIRST.OBSERVED, .ro, .any, []⟩,
  ⟨BGR_FIRST.ORIGIN, .ro, .any, []⟩,
  ⟨BGR_FIRST.TCLK, .ro, .any, []⟩,
  ⟨BGR_FIRST.VALID, .w1c, .any, []⟩,
  ⟨BGR_FIRST.OVERFLOW, .w1c, .any, []⟩,
  ⟨BGR_FIRST.LATER_MAX, .ro, .any, []⟩,
  ⟨BGR_FIRST.LATER_CNT, .ro, .any, []⟩,
  ⟨BGR_FIRST_T.T, .ro, .any, []⟩,
  ⟨BGR_FIRST_FTB.FTB, .ro, .any, []⟩,
  ⟨BGR_ESC.ESC_TIME, .ro, .any, []⟩,
  ⟨BGR_PREV.PREV, .ro, .any, []⟩,
  ⟨BGR_PREV_T.T, .ro, .any, []⟩,
  ⟨BGR_LOG.ID, .ro, .any, []⟩,
  ⟨BGR_LOG.SEV, .ro, .any, []⟩,
  ⟨BGR_LOG.QUAL, .ro, .any, []⟩,
  ⟨BGR_LOG.TCLK, .ro, .any, []⟩,
  ⟨BGR_LOG.USED, .ro, .any, []⟩,
  ⟨BGR_LOG.LOG_LOST, .ro, .any, []⟩,
  ⟨BGR_LOG_T.T, .ro, .any, []⟩,
  ⟨BGR_LOG_POP.POP, .wo, .any, []⟩,
  ⟨BGR_FORCE.BITS 0, .w1s, .any, [(4, 8)]⟩,
  ⟨BGR_PEND.BITS 0, .w1c, .any, [(4, 8)]⟩,
  ⟨BGR_CNT.CNT 0, .ro, .any, [(2, 256)]⟩]

/-- The Ckg rows. -/
def rowsCkg : List Row := [
  ⟨CKG_CFG.SSC_DEPTH, .rw, .range 0 16, []⟩,
  ⟨CKG_CFG.SSC_RATE, .rw, .range 10 100, []⟩,
  ⟨CKG_CFG.SW_MODE, .rw, .any, []⟩,
  ⟨CKG_CFG.RAMP_HOLD, .rw, .range 1 255, []⟩,
  ⟨CKG_CFG.XTOL, .rw, .range 30 100, []⟩,
  ⟨CKG_HOLD.XF_HOLD, .rw, .range 1 1000, []⟩,
  ⟨CKG_STATUS.REF, .ro, .any, []⟩,
  ⟨CKG_STATUS.XTAL_OK, .ro, .any, []⟩,
  ⟨CKG_STATUS.PLL_LOCK, .ro, .any, []⟩,
  ⟨CKG_STATUS.SW_BUSY, .ro, .any, []⟩,
  ⟨CKG_STATUS.XCOUNT, .ro, .any, []⟩,
  ⟨CKG_STATUS.HOLD_LEFT, .ro, .any, []⟩,
  ⟨CKG_FLAGS.XTAL_FAIL, .w1c, .any, []⟩,
  ⟨CKG_FLAGS.LOCK_LOST, .w1c, .any, []⟩,
  ⟨CKG_FLAGS.LOST_INDET, .w1c, .any, []⟩,
  ⟨CKG_FLAGS.HFO_FAIL, .w1c, .any, []⟩,
  ⟨CKG_CNT.XFAIL_CNT, .ro, .any, []⟩,
  ⟨CKG_CNT.UNLOCK_CNT, .ro, .any, []⟩,
  ⟨CKG_CNT.INDET_CNT, .ro, .any, []⟩,
  ⟨CKG_CNT.SWITCHES, .ro, .any, []⟩,
  ⟨CKG_DOM_CTL.SRC 0, .ro, .any, [(4, 4)]⟩,
  ⟨CKG_DOM_CTL.RUN_EN 0, .rw, .runEn, [(4, 4)]⟩,
  ⟨CKG_DOM_CTL.SLP_EN 0, .rw, .any, [(4, 4)]⟩,
  ⟨CKG_DOM_CTL.DSLP_EN 0, .rw, .dslpEn, [(4, 4)]⟩,
  ⟨CKG_DOM_CTL.SW_TIME 0, .ro, .any, [(4, 4)]⟩]

/-- The Psc rows. -/
def rowsPsc : List Row := [
  ⟨PSC_MODE.LEVEL, .rw, .any, []⟩,
  ⟨PSC_CTL.G_RELEASE, .wo, .any, []⟩,
  ⟨PSC_STATUS.LEVEL_NOW, .ro, .any, []⟩,
  ⟨PSC_STATUS.STAGE, .ro, .any, []⟩,
  ⟨PSC_STATUS.DOZE_ABORT, .w1c, .any, []⟩,
  ⟨PSC_STATUS.CORE, .ro, .any, []⟩,
  ⟨PSC_STATUS.FABRIC, .ro, .any, []⟩,
  ⟨PSC_STATUS.NET, .ro, .any, []⟩,
  ⟨PSC_STATUS.SA, .ro, .any, []⟩,
  ⟨PSC_STATUS.G_LATCHED, .ro, .any, []⟩,
  ⟨PSC_STATUS.DOZED, .ro, .any, []⟩,
  ⟨PSC_WAKE.WAKES, .w1c, .any, []⟩,
  ⟨PSC_WAKE.REPLAYS, .ro, .any, []⟩,
  ⟨PSC_WAKE_TICK.TICK, .ro, .any, []⟩,
  ⟨PSC_CNT.ENTRIES, .ro, .any, []⟩,
  ⟨PSC_CNT.REFUSED, .ro, .any, []⟩,
  ⟨PSC_CNT.ABORTED, .ro, .any, []⟩,
  ⟨PSC_CNT.LATE_REFUSED, .ro, .any, []⟩,
  ⟨PSC_REFUSE.ID, .ro, .any, []⟩,
  ⟨PSC_REFUSE.REASON, .ro, .any, []⟩,
  ⟨PSC_REFUSE.STAGE, .ro, .any, []⟩,
  ⟨PSC_REFUSE.LVL, .ro, .any, []⟩,
  ⟨PSC_REFUSE.ABORT_AP, .ro, .any, []⟩,
  ⟨PSC_REFUSE.ABORT_SRC, .ro, .any, []⟩,
  ⟨PSC_RET.N, .rw, .range 0 1024, []⟩,
  ⟨PSC_RET.RET_BAD, .w1c, .any, []⟩,
  ⟨PSC_RET.SKIPPED, .ro, .any, []⟩,
  ⟨PSC_SUPPLY.OK, .ro, .any, []⟩,
  ⟨PSC_PORT.DROPPED 0, .ro, .any, [(4, 7)]⟩,
  ⟨PSC_PORT.STALE 0, .ro, .any, [(4, 7)]⟩,
  ⟨PSC_PORT.EPOCH 0, .ro, .any, [(4, 7)]⟩]

/-- The Lsc rows. -/
def rowsLsc : List Row := [
  ⟨LSC_CFG.SPLIT3, .ro, .any, []⟩,
  ⟨LSC_CFG.RESYNC_LIMIT, .rw, .range 2 255, []⟩,
  ⟨LSC_RESTART_VEC.VEC, .rw, .vec, []⟩,
  ⟨LSC_DBG.LOG_USED, .ro, .any, []⟩,
  ⟨LSC_DBG.LOG_FULL, .w1c, .any, []⟩,
  ⟨LSC_DBG.REFUSED_WR, .ro, .any, []⟩,
  ⟨LSC_DBG.REPLAYED, .ro, .any, []⟩,
  ⟨LSC_PAIR_STATUS.STATE 0, .ro, .any, [(32, 4)]⟩,
  ⟨LSC_PAIR_STATUS.CAUSE 0, .ro, .any, [(32, 4)]⟩,
  ⟨LSC_PAIR_STATUS.WIN_COUNT 0, .ro, .any, [(32, 4)]⟩,
  ⟨LSC_PAIR_STATUS.CMP_TESTED 0, .ro, .any, [(32, 4)]⟩,
  ⟨LSC_PAIR_STATUS.RESTORED 0, .wo, .any, [(32, 4)]⟩,
  ⟨LSC_PAIR_STATUS.GIVE_UP 0, .wo, .any, [(32, 4)]⟩,
  ⟨LSC_PAIR_CNT.MM_CNT 0, .ro, .any, [(32, 4)]⟩,
  ⟨LSC_PAIR_CNT.DLY_CNT 0, .ro, .any, [(32, 4)]⟩,
  ⟨LSC_PAIR_CNT.RAIL_CNT 0, .ro, .any, [(32, 4)]⟩,
  ⟨LSC_PAIR_CNT.RESTART_CNT 0, .ro, .any, [(32, 4)]⟩,
  ⟨LSC_PAIR_CKPT.COMMIT 0, .wo, .any, [(32, 4)]⟩,
  ⟨LSC_PAIR_CKPT.VALID_HALF 0, .ro, .any, [(32, 4)]⟩,
  ⟨LSC_PAIR_CKPT.VALID 0, .ro, .any, [(32, 4)]⟩,
  ⟨LSC_PAIR_CKPT.SEQ 0, .ro, .any, [(32, 4)]⟩,
  ⟨LSC_PAIR_MMINFO.GROUP 0, .ro, .any, [(32, 4)]⟩,
  ⟨LSC_PAIR_MMINFO.RAILS 0, .ro, .any, [(32, 4)]⟩,
  ⟨LSC_PAIR_MMINFO.STAGE 0, .ro, .any, [(32, 4)]⟩]

/-- The LscAgr rows. -/
def rowsLscAgr : List Row := [
  ⟨LSC_AGR_CFG.FRAME, .rw, .range 250 2000, []⟩,
  ⟨LSC_AGR_CFG.APPLY_OFS, .rw, .applyOfs, []⟩,
  ⟨LSC_AGR_CFG.READY, .w1s, .any, []⟩,
  ⟨LSC_AGR_LIMITS.DIS_FRAMES, .rw, .range 1 255, []⟩,
  ⟨LSC_AGR_LIMITS.SLOW_EXIT, .rw, .range 8 65535, []⟩,
  ⟨LSC_AGR_STATUS.MUTUAL, .ro, .any, []⟩,
  ⟨LSC_AGR_STATUS.SLOW, .ro, .any, []⟩,
  ⟨LSC_AGR_STATUS.SELF_LATE, .ro, .any, []⟩,
  ⟨LSC_AGR_STATUS.VIEW_SPLIT, .w1c, .any, []⟩,
  ⟨LSC_AGR_STATUS.BANK_SPLIT, .w1c, .any, []⟩,
  ⟨LSC_AGR_LATE.LATE_A, .ro, .any, []⟩,
  ⟨LSC_AGR_LATE.LATE_B, .ro, .any, []⟩,
  ⟨LSC_AGR_LATE.LATE_C, .ro, .any, []⟩,
  ⟨LSC_AGR_FRAMENO.FRAMENO, .ro, .any, []⟩,
  ⟨LSC_CH_CFG.EN 0, .rw, .any, [(32, 16)]⟩,
  ⟨LSC_CH_CFG.LANES 0, .rw, .lanesFitted, [(32, 16)]⟩,
  ⟨LSC_CH_CFG.AXES 0, .rw, .any, [(32, 16)]⟩,
  ⟨LSC_CH_CFG.BANK_REQ 0, .rw, .bankReq, [(32, 16)]⟩,
  ⟨LSC_CH_BAND.BAND 0, .rw, .srange 0 2147483647, [(32, 16)]⟩,
  ⟨LSC_CH_DEMAND.DEMAND 0, .rw, .any, [(32, 16)]⟩,
  ⟨LSC_CH_ACC.ACC 0, .rw, .any, [(32, 16)]⟩,
  ⟨LSC_CH_APPLIED.APPLIED 0, .ro, .any, [(32, 16)]⟩,
  ⟨LSC_CH_STAT.RULE 0, .ro, .any, [(32, 16)]⟩,
  ⟨LSC_CH_STAT.CONTRIB 0, .ro, .any, [(32, 16)]⟩,
  ⟨LSC_CH_STAT.DIS_RUN 0, .ro, .any, [(32, 16)]⟩,
  ⟨LSC_CH_STAT.DISAGREE 0, .w1c, .any, [(32, 16)]⟩,
  ⟨LSC_CH_STAT.OUTLIER 0, .ro, .any, [(32, 16)]⟩]

/-- The Sch rows. -/
def rowsSch : List Row := [
  ⟨SCH_CFG.NA_LIMIT, .ld, .range 1 31, []⟩,
  ⟨SCH_CFG.HANG_K, .ld, .range 2 15, []⟩,
  ⟨SCH_CFG.DL_EXIT, .ld, .range 1 255, []⟩,
  ⟨SCH_CFG.OBS_WIN, .ld, .range 1 255, []⟩,
  ⟨SCH_CFG.LOCK, .ro, .any, []⟩,
  ⟨SCH_CAP.CAP, .ld, .any, []⟩,
  ⟨SCH_CAP.NEXT_WAIT, .ld, .range 1 255, []⟩,
  ⟨SCH_CAP.WD_WAIT, .ld, .range 1 255, []⟩,
  ⟨SCH_STATUS.SAFE_PAIRS, .ro, .any, []⟩,
  ⟨SCH_STATUS.GRAPH_WR_REFUSED, .ro, .any, []⟩,
  ⟨SCH_STATUS.READY_ALL, .ro, .any, []⟩,
  ⟨SCH_FLAGS.OVERRUN, .w1c, .any, []⟩,
  ⟨SCH_FLAGS.BUDGET_OVR, .w1c, .any, []⟩,
  ⟨SCH_FLAGS.WD_REFUSED, .w1c, .any, []⟩,
  ⟨SCH_POST.INDEX, .wo, .any, []⟩,
  ⟨SCH_T_NEXT.INDEX 0, .ro, .any, [(32, 5)]⟩,
  ⟨SCH_T_NEXT.INST 0, .ro, .any, [(32, 5)]⟩,
  ⟨SCH_T_NEXT.SHADOW 0, .ro, .any, [(32, 5)]⟩,
  ⟨SCH_T_NEXT.IDLE 0, .ro, .any, [(32, 5)]⟩,
  ⟨SCH_T_DONE.INDEX 0, .wo, .any, [(32, 5)]⟩,
  ⟨SCH_T_SRES.RESULT 0, .wo, .any, [(32, 5)]⟩,
  ⟨SCH_T_STATUS.QDEPTH 0, .ro, .any, [(32, 5)]⟩,
  ⟨SCH_T_STATUS.EXEC 0, .ro, .any, [(32, 5)]⟩,
  ⟨SCH_T_STATUS.SLOW 0, .ro, .any, [(32, 5)]⟩,
  ⟨SCH_T_STATUS.EXEC_IDX 0, .ro, .any, [(32, 5)]⟩,
  ⟨SCH_T_STATUS.PROTO_ERR 0, .ro, .any, [(32, 5)]⟩,
  ⟨SCH_T_OBS.LOAD 0, .ro, .any, [(32, 5)]⟩,
  ⟨SCH_T_OBS.WAIT_MEAN 0, .ro, .any, [(32, 5)]⟩,
  ⟨SCH_T_CNT.DONE_CNT 0, .ro, .any, [(32, 5)]⟩,
  ⟨SCH_T_CNT.RETURNED 0, .ro, .any, [(32, 5)]⟩,
  ⟨SCH_CL_STAT.READY 0, .ro, .any, [(16, 16)]⟩,
  ⟨SCH_CL_STAT.WAIT_MAX 0, .ro, .any, [(16, 16)]⟩,
  ⟨SCH_CL_DL.DL_MISS 0, .ro, .any, [(16, 16)]⟩,
  ⟨SCH_FLOW.BOUND 0, .ld, .range 0 4, [(4, 256)]⟩,
  ⟨SCH_FLOW.HOME 0, .ld, .range 0 4, [(4, 256)]⟩,
  ⟨SCH_FLOW.REBOUND 0, .ro, .any, [(4, 256)]⟩]

/-- The Flt rows. -/
def rowsFlt : List Row := [
  ⟨FLT_CFG.LINK_TMO, .rw, .range 1 50, []⟩,
  ⟨FLT_P_STATUS.LINK 0, .ro, .any, [(64, 2)]⟩,
  ⟨FLT_P_STATUS.CREDITS 0, .ro, .any, [(64, 2)]⟩,
  ⟨FLT_P_STATUS.OUTSTANDING 0, .ro, .any, [(64, 2)]⟩,
  ⟨FLT_P_STATUS.EPOCH 0, .ro, .any, [(64, 2)]⟩,
  ⟨FLT_P_CNT.DROPPED 0, .ro, .any, [(64, 2)]⟩,
  ⟨FLT_P_CNT.STALE 0, .ro, .any, [(64, 2)]⟩,
  ⟨FLT_P_LQ.CRC_ERR 0, .ro, .any, [(64, 2)]⟩,
  ⟨FLT_P_LQ.RESTARTS 0, .ro, .any, [(64, 2)]⟩,
  ⟨FLT_P_LQ.LAT_MAX 0, .ro, .any, [(64, 2)]⟩]

/-- The Lse rows. -/
def rowsLse : List Row := [
  ⟨LSE_CFG.LEASE_PERIOD, .ld, .leasePeriod, []⟩,
  ⟨LSE_CFG.GUARD, .ld, .range 20 255, []⟩,
  ⟨LSE_CFG.PREF, .ld, .prefLane, []⟩,
  ⟨LSE_CFG.SWAP_EN, .ld, .any, []⟩,
  ⟨LSE_CFG.SD_HOLD, .ld, .range 1 255, []⟩,
  ⟨LSE_TIMING.SWAP_INTERVAL, .ld, .range 10 65535, []⟩,
  ⟨LSE_TIMING.HOLDOFF, .ld, .range 100 10000, []⟩,
  ⟨LSE_CLK.CLK_TOL, .ld, .range 10 1000, []⟩,
  ⟨LSE_CLK.TOL_IN_USE, .ro, .any, []⟩,
  ⟨LSE_CTL.RENEW, .w1s, .any, []⟩,
  ⟨LSE_CTL.HANDOVER, .wo, .any, []⟩,
  ⟨LSE_CTL.SA_CONT_CLR, .wo, .any, []⟩,
  ⟨LSE_STATUS.ROLE, .ro, .any, []⟩,
  ⟨LSE_STATUS.HOLDER, .ro, .any, []⟩,
  ⟨LSE_STATUS.SUCCESSOR, .ro, .any, []⟩,
  ⟨LSE_STATUS.ELIGIBLE, .ro, .any, []⟩,
  ⟨LSE_STATUS.DRIVING, .ro, .any, []⟩,
  ⟨LSE_STATUS.SEQ, .ro, .any, []⟩,
  ⟨LSE_FLAGS.EXPIRED, .w1c, .any, []⟩,
  ⟨LSE_FLAGS.SNAP_STALE, .w1c, .any, []⟩,
  ⟨LSE_FLAGS.CLAIM_CONFLICT, .w1c, .any, []⟩,
  ⟨LSE_FLAGS.NO_SUCC, .w1c, .any, []⟩,
  ⟨LSE_FLAGS.READBACK, .w1c, .any, []⟩,
  ⟨LSE_FLAGS.HANDOVER_FAIL, .w1c, .any, []⟩,
  ⟨LSE_CNT.TAKEOVERS, .ro, .any, []⟩,
  ⟨LSE_CNT.HANDOVERS, .ro, .any, []⟩,
  ⟨LSE_CNT.EXPIRIES, .ro, .any, []⟩,
  ⟨LSE_CNT.SWAP_DEFER, .ro, .any, []⟩,
  ⟨LSE_SA.LEVEL, .rw, .any, []⟩,
  ⟨LSE_SA.INACTIVE, .ld, .any, []⟩,
  ⟨LSE_SA.SAFE, .ld, .any, []⟩,
  ⟨LSE_SA.SA_CONT, .ro, .any, []⟩,
  ⟨LSE_GAP.GAP_LAST, .ro, .any, []⟩,
  ⟨LSE_GAP.GAP_MAX, .ro, .any, []⟩]

/-- The Ssf rows. -/
def rowsSsf : List Row := [
  ⟨SSF_CFG.SSREQ_FILT, .ld, .range 1 255, []⟩,
  ⟨SSF_CFG.ENV_FILT, .ld, .range 1 15, []⟩,
  ⟨SSF_CFG.VEH_EN, .ld, .any, []⟩,
  ⟨SSF_CFG.T_DLY, .ld, .range 0 10000, []⟩,
  ⟨SSF_ENV.DEC_ENV, .ld, .range 1 1000, []⟩,
  ⟨SSF_ENV.V_MARGIN, .ld, .any, []⟩,
  ⟨SSF_ENV.SS1_TMAX, .ld, .range 1 255, []⟩,
  ⟨SSF_STILL.V_STILL, .ld, .range 1 255, []⟩,
  ⟨SSF_STILL.T_STILL, .ld, .range 10 1000, []⟩,
  ⟨SSF_STILL.VEH_TIMEOUT, .ld, .range 2 255, []⟩,
  ⟨SSF_AXIS.SS_ROLE, .ld, .ssRole, []⟩,
  ⟨SSF_AXIS.STILL_MASK, .ld, .any, []⟩,
  ⟨SSF_WLIM.W_STILL, .ld, .range 1 255, []⟩,
  ⟨SSF_WLIM.W_MARGIN, .ld, .any, []⟩,
  ⟨SSF_WLIM.W_ENV_DEC, .ld, .range 1 65535, []⟩,
  ⟨SSF_STATUS.SS_ACTIVE, .ro, .any, []⟩,
  ⟨SSF_STATUS.STILL, .ro, .any, []⟩,
  ⟨SSF_STATUS.SSREQ, .ro, .any, []⟩,
  ⟨SSF_STATUS.VEH_VALID, .ro, .any, []⟩,
  ⟨SSF_STATUS.V_ENV, .ro, .any, []⟩,
  ⟨SSF_FLAGS.ENV_VIOL, .w1c, .any, []⟩,
  ⟨SSF_FLAGS.TMAX, .w1c, .any, []⟩,
  ⟨SSF_FLAGS.VEH_LOST, .w1c, .any, []⟩,
  ⟨SSF_FLAGS.SEAL_CHG, .w1c, .any, []⟩,
  ⟨SSF_FLAGS.LOOP_FAULT, .w1c, .any, []⟩,
  ⟨SSF_FLAGS.SEAL_SPLIT, .w1c, .any, []⟩,
  ⟨SSF_FLAGS.NO_SET, .ro, .any, []⟩,
  ⟨SSF_SEAL.READING, .ro, .any, []⟩,
  ⟨SSF_SEAL.LOOP_OK, .ro, .any, []⟩,
  ⟨SSF_SEAL.LOADED_SET, .ro, .any, []⟩,
  ⟨SSF_SEAL.PEER_A, .ro, .any, []⟩,
  ⟨SSF_SEAL.PEER_B, .ro, .any, []⟩,
  ⟨SSF_SEAL.PEER_C, .ro, .any, []⟩,
  ⟨SSF_SEAL.SEAL_CNT, .ro, .any, []⟩,
  ⟨SSF_VEH.VEH_SPEED, .ro, .any, []⟩,
  ⟨SSF_VEH.VEH_SLOT, .ld, .any, []⟩]

/-- The Ngb rows. -/
def rowsNgb : List Row := [
  ⟨NGB_CFG.NODE, .ld, .any, []⟩,
  ⟨NGB_CFG.COLDSTART, .ld, .any, []⟩,
  ⟨NGB_CFG.ALONE_OK, .ld, .any, []⟩,
  ⟨NGB_CFG.LISTEN_BASE, .ld, .range 100 65535, []⟩,
  ⟨NGB_TIMING.ACC_WIN, .ld, .accWin, []⟩,
  ⟨NGB_TIMING.TX_WIN, .ld, .range 1 255, []⟩,
  ⟨NGB_TIMING.GUARD, .ld, .range 1 255, []⟩,
  ⟨NGB_TIMING.CS_SLOT, .ld, .range 5 255, []⟩,
  ⟨NGB_SYNC.OFS_MAX, .ld, .range 10 4095, []⟩,
  ⟨NGB_SYNC.RATE_MAX, .ld, .range 1 255, []⟩,
  ⟨NGB_SYNC.SYNC_LOSS, .ld, .range 1 255, []⟩,
  ⟨NGB_START.CS_ALONE, .ld, .range 6 255, []⟩,
  ⟨NGB_MODE.CYCLE 0, .ld, .range 250 8000, [(4, 8)]⟩,
  ⟨NGB_MODE.ACT_OFS 0, .ld, .actOfs, [(4, 8)]⟩,
  ⟨NGB_PROP.PROP 0, .ld, .any, [(1, 64)]⟩,
  ⟨NGB_STATUS.NSTATE, .ro, .any, []⟩,
  ⟨NGB_STATUS.MODE, .ro, .any, []⟩,
  ⟨NGB_STATUS.SW_PEND, .ro, .any, []⟩,
  ⟨NGB_STATUS.SW_MODE, .ro, .any, []⟩,
  ⟨NGB_STATUS.CH_X_OK, .ro, .any, []⟩,
  ⟨NGB_STATUS.CH_Y_OK, .ro, .any, []⟩,
  ⟨NGB_STATUS.TIME_VALID, .ro, .any, []⟩,
  ⟨NGB_STATUS.CYCLE_NO, .ro, .any, []⟩,
  ⟨NGB_CLK.OFS_LAST, .ro, .any, []⟩,
  ⟨NGB_CLK.RATE, .ro, .any, []⟩,
  ⟨NGB_MEMB.MEMB, .ro, .any, []⟩,
  ⟨NGB_MODE_REQ.TARGET, .rw, .ngbTarget, []⟩,
  ⟨NGB_CTL.WAKE_TX, .wo, .any, []⟩,
  ⟨NGB_CTL.WAKE_CH, .rw, .any, []⟩,
  ⟨NGB_CTL.REINT, .wo, .any, []⟩,
  ⟨NGB_FLAGS.BLOCKED, .w1c, .any, []⟩,
  ⟨NGB_FLAGS.SYNC_LOST, .w1c, .any, []⟩,
  ⟨NGB_FLAGS.MODE_SPLIT, .w1c, .any, []⟩,
  ⟨NGB_FLAGS.COPY_DIFF, .w1c, .any, []⟩,
  ⟨NGB_FLAGS.WAKE_RX, .w1c, .any, []⟩,
  ⟨NGB_FLAGS.COLLISION, .w1c, .any, []⟩,
  ⟨NGB_FLAGS.DRIFT, .w1c, .any, []⟩,
  ⟨NGB_FLAGS.STEPPED, .ro, .any, []⟩,
  ⟨NGB_FLAGS.WAKE_CH_RX, .ro, .any, []⟩,
  ⟨NGB_CNT.GAP_CNT, .ro, .any, []⟩,
  ⟨NGB_CNT.HDR_ERR, .ro, .any, []⟩,
  ⟨NGB_CNT.CRC_X, .ro, .any, []⟩,
  ⟨NGB_CNT.CRC_Y, .ro, .any, []⟩,
  ⟨NGB_CNT2.BLOCK_CNT, .ro, .any, []⟩,
  ⟨NGB_CNT2.DRIFT_CNT, .ro, .any, []⟩,
  ⟨NGB_CNT2.COLL_CNT, .ro, .any, []⟩,
  ⟨NGB_CNT2.SCHED_CLAMP, .ro, .any, []⟩,
  ⟨NGB_STEP.STEP, .ro, .any, []⟩,
  ⟨NGB_BUF_STAT.CYCLE 0, .ro, .any, [(4, 128)]⟩,
  ⟨NGB_BUF_STAT.VALID 0, .ro, .any, [(4, 128)]⟩,
  ⟨NGB_BUF_STAT.CH 0, .ro, .any, [(4, 128)]⟩]

/-- The Can rows. -/
def rowsCan : List Row := [
  ⟨CAN_CFG.EN, .rw, .any, []⟩,
  ⟨CAN_CFG.FD_EN, .rw, .any, []⟩,
  ⟨CAN_CFG.AUTO_RECOV, .rw, .any, []⟩,
  ⟨CAN_CFG.LISTEN_ONLY, .rw, .any, []⟩,
  ⟨CAN_CFG.RECOVER, .wo, .any, []⟩,
  ⟨CAN_NBT.NBRP, .rw, .range 1 31, []⟩,
  ⟨CAN_NBT.NTSEG1, .rw, .range 2 255, []⟩,
  ⟨CAN_NBT.NTSEG2, .rw, .range 1 127, []⟩,
  ⟨CAN_NBT.NSJW, .rw, .nsjw, []⟩,
  ⟨CAN_DBT.DBRP, .rw, .range 1 31, []⟩,
  ⟨CAN_DBT.DTSEG1, .rw, .range 1 31, []⟩,
  ⟨CAN_DBT.DTSEG2, .rw, .range 1 15, []⟩,
  ⟨CAN_DBT.DSJW, .rw, .dsjw, []⟩,
  ⟨CAN_TDC.TDC_EN, .rw, .any, []⟩,
  ⟨CAN_TDC.TDC_OFS, .rw, .any, []⟩,
  ⟨CAN_STATUS.STATE, .ro, .any, []⟩,
  ⟨CAN_STATUS.TEC, .ro, .any, []⟩,
  ⟨CAN_STATUS.REC, .ro, .any, []⟩,
  ⟨CAN_STATUS.LEVEL, .ro, .any, []⟩,
  ⟨CAN_FLAGS.BUSOFF, .w1c, .any, []⟩,
  ⟨CAN_FLAGS.PASSIVE, .w1c, .any, []⟩,
  ⟨CAN_FLAGS.RX_OVF, .w1c, .any, []⟩,
  ⟨CAN_FLAGS.HEAD, .ro, .any, []⟩,
  ⟨CAN_CNT.BUSOFF_CNT, .ro, .any, []⟩,
  ⟨CAN_CNT.OVF_CNT, .ro, .any, []⟩,
  ⟨CAN_CNT.NOMATCH, .ro, .any, []⟩,
  ⟨CAN_CNT.REMOTE_CNT, .ro, .any, []⟩,
  ⟨CAN_TXREQ.REQ, .w1s, .any, []⟩,
  ⟨CAN_TXDONE.DONE, .w1c, .any, []⟩,
  ⟨CAN_POP.POP, .wo, .any, []⟩,
  ⟨CAN_FILT_ID.FILT_ID 0, .rw, .any, [(8, 32)]⟩,
  ⟨CAN_FILT_ID.XTD 0, .rw, .any, [(8, 32)]⟩,
  ⟨CAN_FILT_ID.FEN 0, .rw, .any, [(8, 32)]⟩,
  ⟨CAN_FILT_MASK.MASK 0, .rw, .any, [(8, 32)]⟩,
  ⟨CAN_TXB.IDENT 0, .rw, .any, [(80, 16)]⟩,
  ⟨CAN_TXB.XTD 0, .rw, .any, [(80, 16)]⟩,
  ⟨CAN_TXB.DLC 0, .rw, .canDlc, [(80, 16)]⟩,
  ⟨CAN_TXB.FDF 0, .rw, .any, [(80, 16)]⟩,
  ⟨CAN_TXB.BRS 0, .rw, .any, [(80, 16)]⟩,
  ⟨CAN_TXB.ESI 0, .rw, .any, [(80, 16)]⟩,
  ⟨CAN_TXB.DATA 0 0, .rw, .any, [(80, 16), (4, 16)]⟩,
  ⟨CAN_RXE.IDENT 0, .ro, .any, [(80, 32)]⟩,
  ⟨CAN_RXE.XTD 0, .ro, .any, [(80, 32)]⟩,
  ⟨CAN_RXE.DLC 0, .ro, .any, [(80, 32)]⟩,
  ⟨CAN_RXE.FDF 0, .ro, .any, [(80, 32)]⟩,
  ⟨CAN_RXE.BRS 0, .ro, .any, [(80, 32)]⟩,
  ⟨CAN_RXE.ESI 0, .ro, .any, [(80, 32)]⟩,
  ⟨CAN_RXE.FILT 0, .ro, .any, [(80, 32)]⟩,
  ⟨CAN_RXE.TS 0, .ro, .any, [(80, 32)]⟩,
  ⟨CAN_RXE.DATA 0 0, .ro, .any, [(80, 32), (4, 16)]⟩]

/-- The Bst rows. -/
def rowsBst : List Row := [
  ⟨BST_CFG.SLICE_PERIOD, .ld, .range 100 1000, []⟩,
  ⟨BST_STATUS.PHASE, .ro, .any, []⟩,
  ⟨BST_STATUS.CERT_USED, .ro, .any, []⟩,
  ⟨BST_STATUS.CERT_RESULT, .ro, .any, []⟩,
  ⟨BST_STATUS.ST_FAIL, .ro, .any, []⟩,
  ⟨BST_STATUS.SD_FAIL, .ro, .any, []⟩,
  ⟨BST_STATUS.FAIL_UNIT, .ro, .any, []⟩,
  ⟨BST_SLICE.NEXT_PAIR, .ro, .any, []⟩,
  ⟨BST_SLICE.SEG, .ro, .any, []⟩,
  ⟨BST_SLICE.REFUSED, .ro, .any, []⟩,
  ⟨BST_COVER.COVER, .ro, .any, []⟩,
  ⟨BST_CNT.SLICES, .ro, .any, []⟩,
  ⟨BST_CNT.FULL_PASS, .ro, .any, []⟩,
  ⟨BST_CNT.DIRECT_REFUSED, .ro, .any, []⟩,
  ⟨BST_CERT.AGE, .ro, .any, []⟩,
  ⟨BST_DIRECT.TEST, .wo, .any, []⟩,
  ⟨BST_DIRECT.UNIT, .wo, .any, []⟩,
  ⟨BST_DIRECT.SEGMENT, .wo, .any, []⟩,
  ⟨BST_DIRECT.GO, .wo, .any, []⟩,
  ⟨BST_TICK.TICK, .ro, .any, []⟩]

/-- The Lcs rows. -/
def rowsLcs : List Row := [
  ⟨LCS_STATE.STATE, .ro, .any, []⟩,
  ⟨LCS_STATE.FUSE_OK, .ro, .any, []⟩,
  ⟨LCS_STATE.DBG_OPEN, .ro, .any, []⟩,
  ⟨LCS_STATE.RETIRE_PEND, .ro, .any, []⟩,
  ⟨LCS_CTL.SUBMIT, .wo, .any, []⟩,
  ⟨LCS_RESULT.BUSY, .ro, .any, []⟩,
  ⟨LCS_RESULT.CODE, .ro, .any, []⟩,
  ⟨LCS_RESULT.TRANS_CNT, .ro, .any, []⟩,
  ⟨LCS_CHAL.CHAL 0, .ro, .any, [(4, 4)]⟩,
  ⟨LCS_DIEID.DIEID 0, .ro, .any, [(4, 4)]⟩,
  ⟨LCS_TOKEN.BYTES 0, .rw, .any, [(4, 88)]⟩]

/-- The Cfg rows. -/
def rowsCfg : List Row := [
  ⟨CFG_BOOT.SLOT, .ro, .any, []⟩,
  ⟨CFG_BOOT.FALLBACK, .ro, .any, []⟩,
  ⟨CFG_BOOT.RESULT_A, .ro, .any, []⟩,
  ⟨CFG_BOOT.RESULT_B, .ro, .any, []⟩,
  ⟨CFG_BOOT.WAKE_TRIES, .ro, .any, []⟩,
  ⟨CFG_BOOT.SEQ_LO, .ro, .any, []⟩,
  ⟨CFG_VERSION.VERSION, .ro, .any, []⟩,
  ⟨CFG_LOAD.CLAMP_CNT, .ro, .any, []⟩,
  ⟨CFG_LOAD.SKIP_CNT, .ro, .any, []⟩,
  ⟨CFG_LOAD.RECLAMP, .ro, .any, []⟩,
  ⟨CFG_CLAMP_ADDR.ADDR, .ro, .any, []⟩,
  ⟨CFG_T_WAKE.T, .ro, .any, []⟩,
  ⟨CFG_T_LOAD.T, .ro, .any, []⟩,
  ⟨CFG_T_TEST.T, .ro, .any, []⟩,
  ⟨CFG_CAL.MEM_OK, .ro, .any, []⟩,
  ⟨CFG_CAL.ADC_OK, .ro, .any, []⟩,
  ⟨CFG_CAL.DL_OK, .ro, .any, []⟩,
  ⟨CFG_CAL.BARRIER, .ro, .any, []⟩,
  ⟨CFG_DIGEST.DIGEST 0, .ro, .any, [(4, 12)]⟩,
  ⟨CFG_PEER.REC, .ro, .any, []⟩,
  ⟨CFG_PEER.MATCH, .ro, .any, []⟩,
  ⟨CFG_PEER.PEER_MISMATCH, .ro, .any, []⟩,
  ⟨CFG_READY.READY, .ro, .any, []⟩,
  ⟨CFG_READY.PULL, .ro, .any, []⟩,
  ⟨CFG_READY.READY_N_LVL, .ro, .any, []⟩,
  ⟨CFG_SCRUB.SWEEP_MS, .ro, .any, []⟩,
  ⟨CFG_SCRUB.SWEEPS, .ro, .any, []⟩,
  ⟨CFG_FIELD_CRC.CRC, .ro, .any, []⟩]

/-- The CfgMode rows. -/
def rowsCfgMode : List Row := [
  ⟨CFG_TOPOLOGY.LANE_ID, .ro, .any, []⟩,
  ⟨CFG_TOPOLOGY.LANES_FITTED, .ro, .any, []⟩,
  ⟨CFG_TOPOLOGY.LANES_PRESENT, .ro, .any, []⟩,
  ⟨CFG_TOPOLOGY.PACKAGE_POS, .ld, .packagePos, []⟩,
  ⟨CFG_TOPOLOGY.PACKAGES, .ld, .range 1 4, []⟩,
  ⟨CFG_GUARANTEE.COND_RECOMMENDED, .ro, .any, []⟩,
  ⟨CFG_GUARANTEE.COND_SIGNED, .ro, .any, []⟩,
  ⟨CFG_GUARANTEE.COND_LIFECYCLE, .ro, .any, []⟩,
  ⟨CFG_GUARANTEE.HOLD, .ro, .any, []⟩,
  ⟨CFG_GUARANTEE.LAPSED, .w1c, .any, []⟩,
  ⟨CFG_EXITS.EXITS_A, .ro, .any, []⟩,
  ⟨CFG_EXITS.EXITS_B, .ro, .any, []⟩,
  ⟨CFG_EXITS.EXITS_C, .ro, .any, []⟩,
  ⟨CFG_LANE_RST.AUTO_REJOIN, .ld, .any, []⟩,
  ⟨CFG_LANE_RST.REJOIN_DELAY, .ld, .range 1 255, []⟩,
  ⟨CFG_LANE_RST.RESET, .wo, .any, []⟩,
  ⟨CFG_LANE_RST.RST_REFUSED, .ro, .any, []⟩,
  ⟨CFG_MODE_STATUS.DEVICE_MODE, .ro, .any, []⟩,
  ⟨CFG_MODE_STATUS.PREV_MODE, .ro, .any, []⟩,
  ⟨CFG_MODE_STATUS.LANE_STATE, .ro, .any, []⟩,
  ⟨CFG_MODE_STATUS.LANES_LOST, .ro, .any, []⟩,
  ⟨CFG_MODE_STATUS.STOP_PENDING, .ro, .any, []⟩,
  ⟨CFG_MODE_STATUS.START_REFUSED, .w1c, .any, []⟩,
  ⟨CFG_MODE_STATUS.AGREE_SPLIT, .w1c, .any, []⟩,
  ⟨CFG_MODE_STATUS.MISMATCH, .ro, .any, []⟩,
  ⟨CFG_MODE_STATUS.KEYOFF_HELD, .ro, .any, []⟩,
  ⟨CFG_MODE_STATUS.HALT_REFUSED, .ro, .any, []⟩,
  ⟨CFG_MODE_REQ.TARGET, .rw, .target, []⟩,
  ⟨CFG_MODE_POLICY.START_DEGRADED, .ld, .startDegraded, []⟩,
  ⟨CFG_MODE_POLICY.KEYOFF_HOLD, .ld, .range 1 255, []⟩,
  ⟨CFG_MODE_POLICY.LANE_WAIT, .ld, .range 1 255, []⟩,
  ⟨CFG_LANE_STATES.STATE_A, .ro, .any, []⟩,
  ⟨CFG_LANE_STATES.STATE_B, .ro, .any, []⟩,
  ⟨CFG_LANE_STATES.STATE_C, .ro, .any, []⟩,
  ⟨CFG_MODE_CAUSE.CAUSE, .ro, .any, []⟩,
  ⟨CFG_MODE_CAUSE.CAUSE_LANE, .ro, .any, []⟩,
  ⟨CFG_MODE_TIME.T, .ro, .any, []⟩,
  ⟨CFG_SAFE_PAR.BOOST, .ld, .range 100 150, []⟩,
  ⟨CFG_SAFE_PAR.ISO_SETTLE, .ld, .range 5 500, []⟩,
  ⟨CFG_SAFE_PAR.SVC_ILIM, .ld, .range 0 1000, []⟩,
  ⟨CFG_THERM_W0.IR_RMS 0, .ld, .range 1 65535, [(8, 8)]⟩,
  ⟨CFG_THERM_W0.DT_R 0, .ld, .range 1 2000, [(8, 8)]⟩,
  ⟨CFG_THERM_W1.TAU 0, .ld, .range 10 65535, [(8, 8)]⟩,
  ⟨CFG_THERM_W1.THETA 0, .ro, .any, [(8, 8)]⟩]

/-- The Cou rows. -/
def rowsCou : List Row := [
  ⟨COU_CFG.SYNC_PERIOD, .rw, .range 2 100, []⟩,
  ⟨COU_CFG.READ_TMO, .rw, .range 1 255, []⟩,
  ⟨COU_CFG.SYNC_TOL, .rw, .range 4 255, []⟩,
  ⟨COU_CFG.LINK_TMO, .rw, .range 1 20, []⟩,
  ⟨COU_STATUS.LINK, .ro, .any, []⟩,
  ⟨COU_STATUS.LINE, .ro, .any, []⟩,
  ⟨COU_STATUS.SYNC_VALID, .ro, .any, []⟩,
  ⟨COU_STATUS.CREDITS, .ro, .any, []⟩,
  ⟨COU_STATUS.OUTSTANDING, .ro, .any, []⟩,
  ⟨COU_STATUS.EPOCH, .ro, .any, []⟩,
  ⟨COU_CNT.DROPPED, .ro, .any, []⟩,
  ⟨COU_CNT.STALE, .ro, .any, []⟩,
  ⟨COU_LQ.CRC_ERR, .ro, .any, []⟩,
  ⟨COU_LQ.RESTARTS, .ro, .any, []⟩,
  ⟨COU_LQ.LAT_MAX, .ro, .any, []⟩,
  ⟨COU_FIELD.F_DROPPED, .ro, .any, []⟩,
  ⟨COU_FIELD.F_LOSS, .ro, .any, []⟩,
  ⟨COU_EVQ.KIND, .rc, .any, []⟩,
  ⟨COU_EVQ.AXIS, .rc, .any, []⟩,
  ⟨COU_EVQ.INDEX, .rc, .any, []⟩,
  ⟨COU_EVQ.CAUSE, .rc, .any, []⟩,
  ⟨COU_EVQ.LEVEL, .ro, .any, []⟩,
  ⟨COU_EVQ_LOST.EVQ_LOST, .ro, .any, []⟩]

/-- The Mbx rows. -/
def rowsMbx : List Row := [
  ⟨MBX_CFG.UPD_EN, .rw, .any, []⟩,
  ⟨MBX_CFG.TEL_PERIOD, .rw, .range 1 255, []⟩,
  ⟨MBX_STATUS.LINK, .ro, .any, []⟩,
  ⟨MBX_STATUS.UPD_STATE, .ro, .any, []⟩,
  ⟨MBX_STATUS.UPD_CODE, .ro, .any, []⟩,
  ⟨MBX_STATUS.EPOCH, .ro, .any, []⟩,
  ⟨MBX_VER.ROLLBACK, .ro, .any, []⟩,
  ⟨MBX_VER.COMMIT, .wo, .any, []⟩,
  ⟨MBX_VER.COMMIT_REFUSED, .w1c, .any, []⟩,
  ⟨MBX_CNT.DROPPED, .ro, .any, []⟩,
  ⟨MBX_CNT.UPDATES, .ro, .any, []⟩,
  ⟨MBX_CNT.UPD_FAIL, .ro, .any, []⟩,
  ⟨MBX_LOGW.DATA 0, .rw, .any, [(4, 9)]⟩,
  ⟨MBX_SEND.ID, .wo, .any, []⟩]

/-- The Fbg rows. -/
def rowsFbg : List Row := [
  ⟨FBG_STATUS.LINK, .ro, .any, []⟩,
  ⟨FBG_STATUS.STOP_SENT, .ro, .any, []⟩,
  ⟨FBG_STATUS.BACKLOG, .ro, .any, []⟩,
  ⟨FBG_STATUS.UNDELIV, .ro, .any, []⟩]

/-- The Fck rows. -/
def rowsFck : List Row := [
  ⟨FCK_CFG.SSC_DEPTH, .rw, .range 0 16, []⟩,
  ⟨FCK_CFG.SSC_RATE, .rw, .range 10 100, []⟩,
  ⟨FCK_CFG.SW_MODE, .rw, .any, []⟩,
  ⟨FCK_CFG.RAMP_HOLD, .rw, .range 1 255, []⟩,
  ⟨FCK_CFG.XTOL, .rw, .range 30 100, []⟩,
  ⟨FCK_STATUS.REF, .ro, .any, []⟩,
  ⟨FCK_STATUS.XTAL_OK, .ro, .any, []⟩,
  ⟨FCK_STATUS.PLL_LOCK, .ro, .any, []⟩,
  ⟨FCK_STATUS.SW_BUSY, .ro, .any, []⟩,
  ⟨FCK_STATUS.XCOUNT, .ro, .any, []⟩,
  ⟨FCK_FLAGS.XTAL_FAIL, .w1c, .any, []⟩,
  ⟨FCK_FLAGS.LOCK_LOST, .w1c, .any, []⟩,
  ⟨FCK_FLAGS.LOST_INDET, .w1c, .any, []⟩,
  ⟨FCK_FLAGS.HFO_FAIL, .w1c, .any, []⟩,
  ⟨FCK_CNT.XFAIL_CNT, .ro, .any, []⟩,
  ⟨FCK_CNT.UNLOCK_CNT, .ro, .any, []⟩,
  ⟨FCK_CNT.INDET_CNT, .ro, .any, []⟩,
  ⟨FCK_CNT.SWITCHES, .ro, .any, []⟩,
  ⟨FCK.TRIM, .ro, .any, []⟩,
  ⟨FCK_DOM_CTL.SRC 0, .ro, .any, [(4, 3)]⟩,
  ⟨FCK_DOM_CTL.RUN_EN 0, .rw, .runEn, [(4, 3)]⟩,
  ⟨FCK_DOM_CTL.SLP_EN 0, .rw, .any, [(4, 3)]⟩,
  ⟨FCK_DOM_CTL.DSLP_EN 0, .rw, .dslpEn, [(4, 3)]⟩,
  ⟨FCK_DOM_CTL.SW_TIME 0, .ro, .any, [(4, 3)]⟩]

/-- The CleAx rows. -/
def rowsCleAx : List Row := [
  ⟨CLE_AX_CTL.ENABLE 0, .rw, .any, [(2048, 8)]⟩,
  ⟨CLE_AX_CTL.UPDATE 0, .rw, .any, [(2048, 8)]⟩,
  ⟨CLE_AX_CTL.SVM_MODE 0, .rw, .any, [(2048, 8)]⟩,
  ⟨CLE_AX_CTL.PHASE_PAIR 0, .rw, .range 0 2, [(2048, 8)]⟩,
  ⟨CLE_AX_CTL.DEC_EN 0, .rw, .any, [(2048, 8)]⟩,
  ⟨CLE_AX_CTL.DCFF_EN 0, .rw, .any, [(2048, 8)]⟩,
  ⟨CLE_AX_CTL.ACCFF_EN 0, .rw, .any, [(2048, 8)]⟩,
  ⟨CLE_AX_CTL.LOOP 0, .rw, .range 0 2, [(2048, 8)]⟩,
  ⟨CLE_AX_CTL.SP_SRC 0, .rw, .any, [(2048, 8)]⟩,
  ⟨CLE_AX_CTL.SP_INPUT 0, .rw, .any, [(2048, 8)]⟩,
  ⟨CLE_AX_CTL.INTERP 0, .rw, .any, [(2048, 8)]⟩,
  ⟨CLE_AX_CTL.SPD_SRC 0, .rw, .any, [(2048, 8)]⟩,
  ⟨CLE_AX_CTL.POS_SRC 0, .rw, .any, [(2048, 8)]⟩,
  ⟨CLE_AX_LOOP.SPD_DIV 0, .rw, .range 1 255, [(2048, 8)]⟩,
  ⟨CLE_AX_LOOP.POS_DIV 0, .rw, .range 1 255, [(2048, 8)]⟩,
  ⟨CLE_AX_BANK.BANK_ACTIVE 0, .ro, .any, [(2048, 8)]⟩,
  ⟨CLE_AX_BANK.PENDING 0, .ro, .any, [(2048, 8)]⟩,
  ⟨CLE_AX_BANK.REQ 0, .wo, .any, [(2048, 8)]⟩,
  ⟨CLE_AX_BANK.TARGET 0, .wo, .any, [(2048, 8)]⟩,
  ⟨CLE_AX_BANK.SWAPPED 0, .w1c, .any, [(2048, 8)]⟩,
  ⟨CLE_AX_BANK.CONFLICT 0, .w1c, .any, [(2048, 8)]⟩,
  ⟨CLE_AX_BANK.SWAP_COUNT 0, .ro, .any, [(2048, 8)]⟩,
  ⟨CLE_AX_SAT.FLAGS 0, .w1c, .any, [(2048, 8)]⟩,
  ⟨CLE_AX_STATUS.RUNNING 0, .ro, .any, [(2048, 8)]⟩,
  ⟨CLE_AX_STATUS.HELD 0, .ro, .any, [(2048, 8)]⟩,
  ⟨CLE_AX_STATUS.VLIM_D 0, .ro, .any, [(2048, 8)]⟩,
  ⟨CLE_AX_STATUS.VLIM_Q 0, .ro, .any, [(2048, 8)]⟩,
  ⟨CLE_AX_STATUS.ILIM_ACT 0, .ro, .any, [(2048, 8)]⟩,
  ⟨CLE_AX_STATUS.SP_LOST 0, .ro, .any, [(2048, 8)]⟩,
  ⟨CLE_AX_STATUS.SP_INPUT_FAULT 0, .ro, .any, [(2048, 8)]⟩,
  ⟨CLE_AX_STATUS.RAMP_ACTIVE 0, .ro, .any, [(2048, 8)]⟩,
  ⟨CLE_AX_STATUS.DC_LOW 0, .ro, .any, [(2048, 8)]⟩,
  ⟨CLE_AX_STATUS.SP_LATE 0, .ro, .any, [(2048, 8)]⟩,
  ⟨CLE_AX_STATUS.LATE_LATCH 0, .ro, .any, [(2048, 8)]⟩,
  ⟨CLE_AX_SHARE.SHARE 0, .rw, .range 0 65536, [(2048, 8)]⟩,
  ⟨CLE_AX_ILIM.ILIM 0, .rw, .range 0 1500, [(2048, 8)]⟩,
  ⟨CLE_AX_VAL.SP_VALUE 0, .ro, .any, [(2048, 8)]⟩,
  ⟨CLE_AX_VAL.ID_MEAS 0, .ro, .any, [(2048, 8)]⟩,
  ⟨CLE_AX_VAL.IQ_MEAS 0, .ro, .any, [(2048, 8)]⟩,
  ⟨CLE_AX_VAL.M_D 0, .ro, .any, [(2048, 8)]⟩,
  ⟨CLE_AX_VAL.M_Q 0, .ro, .any, [(2048, 8)]⟩,
  ⟨CLE_AX_VAL.W_REF 0, .ro, .any, [(2048, 8)]⟩,
  ⟨CLE_AX_VAL.A_REF 0, .ro, .any, [(2048, 8)]⟩,
  ⟨CLE_AX_VAL.POS_SP 0, .ro, .any, [(2048, 8)]⟩,
  ⟨CLE_AX_FOX_CTL.ANGLE_MODE 0, .rw, .angleMode, [(2048, 8)]⟩,
  ⟨CLE_AX_FOX_CTL.HALLS_FITTED 0, .rw, .any, [(2048, 8)]⟩,
  ⟨CLE_AX_FOX_CTL.FW_EN 0, .rw, .any, [(2048, 8)]⟩,
  ⟨CLE_AX_FOX_CTL.KE_EN 0, .rw, .any, [(2048, 8)]⟩,
  ⟨CLE_AX_FOX_CTL.KE_HIGH_ACT 0, .rw, .any, [(2048, 8)]⟩,
  ⟨CLE_AX_FOX_CTL.ASC_SIDE 0, .rw, .any, [(2048, 8)]⟩,
  ⟨CLE_AX_FOX_CTL.START_MODE 0, .rw, .range 0 2, [(2048, 8)]⟩,
  ⟨CLE_AX_FOX_CTL.SR_PULSE 0, .rw, .range 20 200, [(2048, 8)]⟩,
  ⟨CLE_AX_FOX_STATUS.STATE 0, .ro, .any, [(2048, 8)]⟩,
  ⟨CLE_AX_FOX_STATUS.ANGLE_SRC 0, .ro, .any, [(2048, 8)]⟩,
  ⟨CLE_AX_FOX_STATUS.LOCKED 0, .ro, .any, [(2048, 8)]⟩,
  ⟨CLE_AX_FOX_STATUS.FW_ACTIVE 0, .ro, .any, [(2048, 8)]⟩,
  ⟨CLE_AX_FOX_STATUS.FW_LIMIT 0, .ro, .any, [(2048, 8)]⟩,
  ⟨CLE_AX_FOX_STATUS.KE_VALID 0, .ro, .any, [(2048, 8)]⟩,
  ⟨CLE_AX_FOX_STATUS.HALL_DROPPED 0, .ro, .any, [(2048, 8)]⟩,
  ⟨CLE_AX_FOX_STATUS.SAFE_PATTERN 0, .ro, .any, [(2048, 8)]⟩,
  ⟨CLE_AX_FOX_STATUS.KE_LOW 0, .w1c, .any, [(2048, 8)]⟩,
  ⟨CLE_AX_FOX_STATUS.KE_HIGH 0, .w1c, .any, [(2048, 8)]⟩,
  ⟨CLE_AX_FOX_STATUS.SR_FAIL 0, .w1c, .any, [(2048, 8)]⟩,
  ⟨CLE_AX_FOX_STATUS.RESUME_FAIL 0, .w1c, .any, [(2048, 8)]⟩,
  ⟨CLE_AX_FOX_CNT.LOST 0, .ro, .any, [(2048, 8)]⟩,
  ⟨CLE_AX_FOX_CNT.LOST_HALL 0, .ro, .any, [(2048, 8)]⟩,
  ⟨CLE_AX_FOX_CNT.LOST_RESUMED 0, .ro, .any, [(2048, 8)]⟩,
  ⟨CLE_AX_FOX_CNT.SR_RUNS 0, .ro, .any, [(2048, 8)]⟩,
  ⟨CLE_AX_FOX.THETA 0, .ro, .any, [(2048, 8)]⟩,
  ⟨CLE_AX_FOX.OMEGA 0, .ro, .any, [(2048, 8)]⟩,
  ⟨CLE_AX_FOX.RESIDUAL 0, .ro, .any, [(2048, 8)]⟩,
  ⟨CLE_AX_FOX.KE_RATIO 0, .ro, .any, [(2048, 8)]⟩,
  ⟨CLE_AX_FOX.SR_ANGLE 0, .ro, .any, [(2048, 8)]⟩,
  ⟨CLE_AX_FOX.SR_TIME 0, .ro, .any, [(2048, 8)]⟩,
  ⟨CLE_AX_FOX.TLOST 0, .ro, .any, [(2048, 8)]⟩]

/-- The Cle rows. -/
def rowsCle : List Row := [
  ⟨CLE_COEF.K 0 0 0, .rw, .any, [(1024, 8), (256, 2), (4, 64)]⟩,
  ⟨CLE_GLB_CFG.SP_TIMEOUT, .rw, .range 100 10000, []⟩,
  ⟨CLE_GLB_CNT.MAP_WR_REFUSED, .ro, .any, []⟩,
  ⟨CLE_GLB_CNT.BANK_WR_REFUSED, .ro, .any, []⟩,
  ⟨CLE_AIN_CFG.OFFSET 0, .rw, .range 0 5000, [(16, 4)]⟩,
  ⟨CLE_AIN_CFG.DB 0, .rw, .any, [(16, 4)]⟩,
  ⟨CLE_AIN_GAIN.GAIN 0, .rw, .any, [(16, 4)]⟩,
  ⟨CLE_AIN_WIRE.LOW 0, .rw, .range 0 5000, [(16, 4)]⟩,
  ⟨CLE_AIN_WIRE.HIGH 0, .rw, .ainHigh, [(16, 4)]⟩,
  ⟨CLE_PIN_CFG.MODE 0, .rw, .pinMode, [(16, 4)]⟩,
  ⟨CLE_PIN_CFG.TIMEOUT 0, .rw, .range 1 255, [(16, 4)]⟩,
  ⟨CLE_PIN_FREQ.F_CTR 0, .rw, .range 0 50000, [(16, 4)]⟩,
  ⟨CLE_PIN_FREQ.F_SPAN 0, .rw, .range 1 50000, [(16, 4)]⟩,
  ⟨CLE_MAP.PSI 0 0 0, .rw, .any, [(16384, 8), (8192, 2), (8, 1024)]⟩,
  ⟨CLE_MAP.L_INC 0 0 0, .rw, .srange 0 2147483647, [(16384, 8), (8192, 2), (8, 1024)]⟩]

/-- The Pwm rows. -/
def rowsPwm : List Row := [
  ⟨PWM_GROUP_CTL.RUN 0, .rw, .any, [(64, 12)]⟩,
  ⟨PWM_GROUP_CTL.DPL_LOCK 0, .rw, .any, [(64, 12)]⟩,
  ⟨PWM_GROUP_CTL.XFER 0, .rw, .any, [(64, 12)]⟩,
  ⟨PWM_GROUP_CTL.SYNC_EN 0, .rw, .any, [(64, 12)]⟩,
  ⟨PWM_GROUP_PERIOD.PERIOD 0, .rw, .pwmPeriod, [(64, 12)]⟩,
  ⟨PWM_GROUP_PHASE.PHASE 0, .rw, .any, [(64, 12)]⟩,
  ⟨PWM_GROUP_COMMIT.COMMIT 0, .wo, .any, [(64, 12)]⟩,
  ⟨PWM_GROUP_STATUS.COUNTING 0, .ro, .any, [(64, 12)]⟩,
  ⟨PWM_GROUP_STATUS.PERIOD_PENDING 0, .ro, .any, [(64, 12)]⟩,
  ⟨PWM_GROUP_STATUS.ALIGNED 0, .ro, .any, [(64, 12)]⟩,
  ⟨PWM_GROUP_STATUS.OVERRIDE 0, .ro, .any, [(64, 12)]⟩,
  ⟨PWM_GROUP_STATUS.MIXED_COMMIT 0, .w1c, .any, [(64, 12)]⟩,
  ⟨PWM_GROUP_STATUS.EDGE_BEYOND 0, .w1c, .any, [(64, 12)]⟩,
  ⟨PWM_GROUP_STATUS.FROZEN 0, .w1c, .any, [(64, 12)]⟩,
  ⟨PWM_GROUP_STATUS.PHASE_ERR 0, .ro, .any, [(64, 12)]⟩,
  ⟨PWM_GROUP_CNT.MIXED_CNT 0, .ro, .any, [(64, 12)]⟩,
  ⟨PWM_GROUP_CNT.BEYOND_CNT 0, .ro, .any, [(64, 12)]⟩,
  ⟨PWM_GROUP_CNT.HOST_WR_REFUSED 0, .ro, .any, [(64, 12)]⟩,
  ⟨PWM_GROUP_CNT.WIN_SHORT 0, .ro, .any, [(64, 12)]⟩,
  ⟨PWM_GROUP_WIN.WIN_MIN 0, .rw, .any, [(64, 8)]⟩,
  ⟨PWM_GROUP_WIN.WIN_PHASES 0, .rw, .any, [(64, 8)]⟩,
  ⟨PWM_PAIR_CFG.DT 0, .rw, .range 0 8191, [(4, 26)]⟩,
  ⟨PWM_PAIR_CFG.COMPL 0, .rw, .compl, [(4, 26)]⟩]

/-- The PwmOut rows. -/
def rowsPwmOut : List Row := [
  ⟨PWM_OUT_RISE.RISE 0, .rw, .any, [(16, 52)]⟩,
  ⟨PWM_OUT_FALL.FALL 0, .rw, .any, [(16, 52)]⟩,
  ⟨PWM_OUT_CFG.MIN_PULSE 0, .rw, .range 1 1023, [(16, 52)]⟩,
  ⟨PWM_OUT_CFG.MINPULSE_MODE 0, .rw, .range 0 2, [(16, 52)]⟩,
  ⟨PWM_OUT_CFG.SA_ROUTE 0, .rw, .saRoute, [(16, 52)]⟩,
  ⟨PWM_OUT_CNT.SHORT_CNT 0, .ro, .any, [(16, 52)]⟩,
  ⟨PWM_OUT_CNT.CARRY 0, .ro, .any, [(16, 52)]⟩]

/-- The Fbi rows. -/
def rowsFbi : List Row := [
  ⟨FBI_AX_CFG.EN 0, .rw, .any, [(256, 8)]⟩,
  ⟨FBI_AX_CFG.FILT 0, .rw, .range 2 1000, [(256, 8)]⟩,
  ⟨FBI_AX_CFG.SPD_AVG 0, .rw, .any, [(256, 8)]⟩,
  ⟨FBI_AX_CFG.SS_TIME 0, .rw, .range 1 1000, [(256, 8)]⟩,
  ⟨FBI_AX_T60.T60_BASE 0, .rw, .range 1 16777215, [(256, 8)]⟩,
  ⟨FBI_AX_STATUS.SECTOR 0, .ro, .any, [(256, 8)]⟩,
  ⟨FBI_AX_STATUS.CODE 0, .ro, .any, [(256, 8)]⟩,
  ⟨FBI_AX_STATUS.SPD_STATUS 0, .ro, .any, [(256, 8)]⟩,
  ⟨FBI_AX_STATUS.LAST_DIR 0, .ro, .any, [(256, 8)]⟩,
  ⟨FBI_AX_STATUS.WIRE 0, .w1c, .any, [(256, 8)]⟩,
  ⟨FBI_AX_STATUS.SAT_HIGH 0, .w1c, .any, [(256, 8)]⟩,
  ⟨FBI_AX_STATUS.SAT_LOW 0, .w1c, .any, [(256, 8)]⟩,
  ⟨FBI_AX_STATUS.POS_UNCERTAIN 0, .ro, .any, [(256, 8)]⟩,
  ⟨FBI_AX.POS 0, .ro, .any, [(256, 8)]⟩,
  ⟨FBI_AX.POS_SET 0, .wo, .any, [(256, 8)]⟩,
  ⟨FBI_AX.SOFT_MIN 0, .rw, .any, [(256, 8)]⟩,
  ⟨FBI_AX.SOFT_MAX 0, .rw, .any, [(256, 8)]⟩,
  ⟨FBI_AX.OVR_HIGH 0, .ro, .any, [(256, 8)]⟩,
  ⟨FBI_AX.EDGE_FTB 0, .ro, .any, [(256, 8)]⟩,
  ⟨FBI_AX.SPEED 0, .ro, .any, [(256, 8)]⟩,
  ⟨FBI_AX_CNT.SKIP_CNT 0, .ro, .any, [(256, 8)]⟩,
  ⟨FBI_AX_CNT.ILLEGAL_CNT 0, .ro, .any, [(256, 8)]⟩,
  ⟨FBI_AX_CNT.WIRE_CNT 0, .ro, .any, [(256, 8)]⟩,
  ⟨FBI_AX_CNT.REV_CNT 0, .ro, .any, [(256, 8)]⟩,
  ⟨FBI_AX.OVR_LOW 0, .ro, .any, [(256, 8)]⟩,
  ⟨FBI_AX_REF.REF_HIGH 0, .ro, .any, [(256, 8)]⟩,
  ⟨FBI_AX_REF.REF_LOW 0, .ro, .any, [(256, 8)]⟩]

/-- The FbiCmp rows. -/
def rowsFbiCmp : List Row := [
  ⟨FBI_AX_CMP_VAL.VAL 0 0, .rw, .any, [(256, 8), (16, 4)]⟩,
  ⟨FBI_AX_CMP_CTL.DIR 0 0, .rw, .range 0 2, [(256, 8), (16, 4)]⟩,
  ⟨FBI_AX_CMP_CTL.REPEAT 0 0, .rw, .any, [(256, 8), (16, 4)]⟩,
  ⟨FBI_AX_CMP_CTL.EVT_EN 0 0, .rw, .any, [(256, 8), (16, 4)]⟩,
  ⟨FBI_AX_CMP_CTL.ARMED 0 0, .ro, .any, [(256, 8), (16, 4)]⟩,
  ⟨FBI_AX_CMP_CTL.HIT 0 0, .w1c, .any, [(256, 8), (16, 4)]⟩,
  ⟨FBI_AX_CMP_CTL.BEHIND 0 0, .w1c, .any, [(256, 8), (16, 4)]⟩,
  ⟨FBI_AX_CMP_CTL.EFF_DIR 0 0, .ro, .any, [(256, 8), (16, 4)]⟩,
  ⟨FBI_AX_CMP_HIT_FTB.HIT_FTB 0 0, .ro, .any, [(256, 8), (16, 4)]⟩,
  ⟨FBI_AX_LAT.LAT_POS 0, .ro, .any, [(256, 8)]⟩,
  ⟨FBI_AX_LAT.LAT_EDGE_FTB 0, .ro, .any, [(256, 8)]⟩,
  ⟨FBI_AX_LAT.LAT_SPEED 0, .ro, .any, [(256, 8)]⟩,
  ⟨FBI_AX_LAT_STAT.LAT_SECTOR 0, .ro, .any, [(256, 8)]⟩,
  ⟨FBI_AX_LAT_STAT.LAT_SPD_STATUS 0, .ro, .any, [(256, 8)]⟩,
  ⟨FBI_AX_LAT_STAT.LAT_DIR 0, .ro, .any, [(256, 8)]⟩,
  ⟨FBI_AX_LAT_STAT.LAT_OVR 0, .ro, .any, [(256, 8)]⟩,
  ⟨FBI_LATCH_CFG.LAT_SRC, .rw, .any, []⟩,
  ⟨FBI_LATCH_STATUS.LATCHED, .w1c, .any, []⟩,
  ⟨FBI_LATCH_STATUS.LAT_CAUSE, .ro, .any, []⟩,
  ⟨FBI_LATCH_STATUS.LATCH_MISSED, .ro, .any, []⟩,
  ⟨FBI_LAT.LAT_FTB, .ro, .any, []⟩]

/-- The Adc rows. -/
def rowsAdc : List Row := [
  ⟨ADC_CFG.MTEMP_PERIOD, .rw, .range 1 255, []⟩,
  ⟨ADC_CFG.ZW_SETTLE, .rw, .range 1 255, []⟩,
  ⟨ADC_CFG.ZERO_LIM, .rw, .range 1 255, []⟩,
  ⟨ADC_CL_STATUS.REF_OK 0, .ro, .any, [(4, 2)]⟩,
  ⟨ADC_CL_STATUS.TRIM_OK 0, .ro, .any, [(4, 2)]⟩,
  ⟨ADC_CL_STATUS.BG_LATE 0, .ro, .any, [(4, 2)]⟩,
  ⟨ADC_CL_STATUS.BG_SKIP 0, .ro, .any, [(4, 2)]⟩,
  ⟨ADC_AX_IZERO.IZERO0 0, .ro, .any, [(32, 8)]⟩,
  ⟨ADC_AX_IZERO.IZERO1 0, .ro, .any, [(32, 8)]⟩,
  ⟨ADC_AX_VGAIN.VPH_GAIN 0, .rw, .srange 0 2147483647, [(32, 8)]⟩,
  ⟨ADC_AX_ICODE.I0_CODE 0, .ro, .any, [(32, 8)]⟩,
  ⟨ADC_AX_ICODE.I1_CODE 0, .ro, .any, [(32, 8)]⟩,
  ⟨ADC_AX_VCODE.VA_CODE 0, .ro, .any, [(32, 8)]⟩,
  ⟨ADC_AX_VCODE.VB_CODE 0, .ro, .any, [(32, 8)]⟩,
  ⟨ADC_AX_VCODEC.VC_CODE 0, .ro, .any, [(32, 8)]⟩,
  ⟨ADC_AX_ZCNT.ZSAMPLES 0, .ro, .any, [(32, 8)]⟩,
  ⟨ADC_MTCFG.MT_OFS, .rw, .any, []⟩,
  ⟨ADC_MTCFG.MT_GAIN, .rw, .range 1 65535, []⟩,
  ⟨ADC_MTEMP.T 0, .ro, .any, [(4, 12)]⟩,
  ⟨ADC_CORE_TRIM.OFS_TRIM 0, .ro, .any, [(4, 16)]⟩,
  ⟨ADC_CORE_TRIM.GAIN_TRIM 0, .ro, .any, [(4, 16)]⟩]

/-- The Dcl rows. -/
def rowsDcl : List Row := [
  ⟨DCL_RAIL_CFG.EN 0, .rw, .any, [(256, 4)]⟩,
  ⟨DCL_RAIL_CFG.ERESET 0, .wo, .any, [(256, 4)]⟩,
  ⟨DCL_RAIL_CFG.FILT 0, .rw, .range 1 15, [(256, 4)]⟩,
  ⟨DCL_RAIL_CFG.RAIL_FS 0, .rw, .railFs, [(256, 4)]⟩,
  ⟨DCL_RAIL_OV12.OV1 0, .rw, .any, [(256, 4)]⟩,
  ⟨DCL_RAIL_OV12.OV2 0, .rw, .any, [(256, 4)]⟩,
  ⟨DCL_RAIL_OV3.OV3 0, .rw, .any, [(256, 4)]⟩,
  ⟨DCL_RAIL_OV3.HYST 0, .rw, .any, [(256, 4)]⟩,
  ⟨DCL_RAIL_CH.CH_ON 0, .rw, .any, [(256, 4)]⟩,
  ⟨DCL_RAIL_CH.CH_FULL 0, .rw, .any, [(256, 4)]⟩,
  ⟨DCL_RAIL_STATUS.U_V 0, .ro, .any, [(256, 4)]⟩,
  ⟨DCL_RAIL_STATUS.OV1_ACT 0, .ro, .any, [(256, 4)]⟩,
  ⟨DCL_RAIL_STATUS.OV2_ACT 0, .ro, .any, [(256, 4)]⟩,
  ⟨DCL_RAIL_STATUS.OV3_ACT 0, .ro, .any, [(256, 4)]⟩,
  ⟨DCL_RAIL_STATUS.LOSS_ACT 0, .ro, .any, [(256, 4)]⟩,
  ⟨DCL_RAIL_STATUS.REGEN_K 0, .ro, .any, [(256, 4)]⟩,
  ⟨DCL_RAIL_STATUS.CLIP 0, .ro, .any, [(256, 4)]⟩,
  ⟨DCL_RAIL_FLAGS.OV1_SEEN 0, .w1c, .any, [(256, 4)]⟩,
  ⟨DCL_RAIL_FLAGS.OV2_SEEN 0, .w1c, .any, [(256, 4)]⟩,
  ⟨DCL_RAIL_FLAGS.OV3_SEEN 0, .w1c, .any, [(256, 4)]⟩,
  ⟨DCL_RAIL_FLAGS.CLIPPED 0, .w1c, .any, [(256, 4)]⟩,
  ⟨DCL_RAIL_FLAGS.EMISMATCH 0, .w1c, .any, [(256, 4)]⟩,
  ⟨DCL_RAIL_FLAGS.OV3_CNT 0, .ro, .any, [(256, 4)]⟩,
  ⟨DCL_RAIL.EIN 0, .ro, .any, [(256, 4)]⟩,
  ⟨DCL_RAIL.EOUT 0, .ro, .any, [(256, 4)]⟩,
  ⟨DCL_RAIL_ECFG.C_RAIL 0, .rw, .range 1 65535, [(256, 4)]⟩,
  ⟨DCL_RAIL_ECFG.E_FLOOR 0, .rw, .any, [(256, 4)]⟩,
  ⟨DCL_RAIL_ECFG.FEED_FS 0, .rw, .any, [(256, 4)]⟩,
  ⟨DCL_RAIL_ERES.ERES 0, .ro, .any, [(256, 4)]⟩,
  ⟨DCL_CH_CFG.CHOP_EN 0, .rw, .any, [(32, 4)]⟩,
  ⟨DCL_CH_CFG.RAIL 0, .rw, .any, [(32, 4)]⟩,
  ⟨DCL_CH_CFG.SHARED 0, .rw, .any, [(32, 4)]⟩,
  ⟨DCL_CH_CFG.CONT_SA 0, .rw, .range 0 8, [(32, 4)]⟩,
  ⟨DCL_CH_CFG.R_GRID 0, .rw, .range 1 65535, [(32, 4)]⟩,
  ⟨DCL_CH_DIAG.I_OFF 0, .rw, .any, [(32, 4)]⟩,
  ⟨DCL_CH_DIAG.OPEN_FRAC 0, .rw, .range 1 255, [(32, 4)]⟩,
  ⟨DCL_CH_DIAG.CH_IFS 0, .rw, .range 1 255, [(32, 4)]⟩,
  ⟨DCL_CH_DEMAND.DEMAND 0, .rw, .range 0 1000, [(32, 4)]⟩,
  ⟨DCL_CH_STATUS.DUTY 0, .ro, .any, [(32, 4)]⟩,
  ⟨DCL_CH_STATUS.I_MEAN 0, .ro, .any, [(32, 4)]⟩,
  ⟨DCL_CH_STATUS.ACTIVE 0, .ro, .any, [(32, 4)]⟩,
  ⟨DCL_CH_FLAGS.STUCK_OPEN 0, .w1c, .any, [(32, 4)]⟩,
  ⟨DCL_CH_FLAGS.STUCK_ON 0, .w1c, .any, [(32, 4)]⟩,
  ⟨DCL_CH_FLAGS.CH_FAULT 0, .ro, .any, [(32, 4)]⟩,
  ⟨DCL_CH_FLAGS.EXT_FAULT 0, .rw, .any, [(32, 4)]⟩,
  ⟨DCL_CH_FLAGS.CONT_REQ 0, .ro, .any, [(32, 4)]⟩,
  ⟨DCL_AXIS_MAP.RAIL_OF, .rw, .any, []⟩,
  ⟨DCL_AXIS_MAP.LOSS_EN, .rw, .any, []⟩,
  ⟨DCL_AX_CFG.ID_LOSS 0, .rw, .range 0 1500, [(4, 8)]⟩,
  ⟨DCL_AX_CFG.AX_IFS 0, .rw, .range 1 2047, [(4, 8)]⟩,
  ⟨DCL_AXIS_STATUS.REGEN_LIM, .ro, .any, []⟩,
  ⟨DCL_AXIS_STATUS.LOSS_INJ, .ro, .any, []⟩,
  ⟨DCL_AXIS_STATUS.OV3_SAFE, .ro, .any, []⟩]

/-- The Sto rows. -/
def rowsSto : List Row := [
  ⟨STO_CFG.FREEZE_EN, .rw, .freezeEn, []⟩,
  ⟨STO_CFG.FREEZE_MAX, .rw, .range 1 255, []⟩,
  ⟨STO_CFG.EN_SETTLE, .rw, .range 1 255, []⟩,
  ⟨STO_CFG.TEST_MAX, .rw, .range 1 168, []⟩,
  ⟨STO_STATUS.EN_N, .ro, .any, []⟩,
  ⟨STO_STATUS.TRIP, .ro, .any, []⟩,
  ⟨STO_STATUS.TEST_DUE, .ro, .any, []⟩,
  ⟨STO_STATUS.SINCE_TEST, .ro, .any, []⟩,
  ⟨STO_FLAGS.READBACK, .w1c, .any, []⟩,
  ⟨STO_FLAGS.FREEZE_TRIP, .w1c, .any, []⟩,
  ⟨STO_FLAGS.TEST_FAIL, .w1c, .any, []⟩,
  ⟨STO_CNT.STO_REQS, .ro, .any, []⟩,
  ⟨STO_CNT.FREEZE_CNT, .ro, .any, []⟩,
  ⟨STO_CNT.TESTS, .ro, .any, []⟩,
  ⟨STO_ISO.ISO_SETTLE, .rw, .range 5 500, []⟩]

/-- The Fps rows. -/
def rowsFps : List Row := [
  ⟨FPS_CTL.OFF, .rw, .any, []⟩,
  ⟨FPS_STATUS.CLE, .ro, .any, []⟩,
  ⟨FPS_STATUS.PWM, .ro, .any, []⟩,
  ⟨FPS_STATUS.ANALOG, .ro, .any, []⟩,
  ⟨FPS_STATUS.G_LATCHED, .ro, .any, []⟩,
  ⟨FPS_STATUS.OK, .ro, .any, []⟩,
  ⟨FPS_CNT.LATCHES, .ro, .any, []⟩,
  ⟨FPS_CNT.REL_REFUSED, .ro, .any, []⟩,
  ⟨FPS_CNT.OFF_CNT, .ro, .any, []⟩,
  ⟨FPS_PORT.DROPPED 0, .ro, .any, [(4, 3)]⟩,
  ⟨FPS_PORT.STALE 0, .ro, .any, [(4, 3)]⟩,
  ⟨FPS_PORT.EPOCH 0, .ro, .any, [(4, 3)]⟩]

/-- Every row of the lane register tables. -/
def laneRows : List Row :=
  rowsBgr ++ rowsCkg ++ rowsPsc ++ rowsLsc ++ rowsLscAgr ++ rowsSch ++ rowsFlt ++ rowsLse ++ rowsSsf ++ rowsNgb ++ rowsCan ++ rowsBst ++ rowsLcs ++ rowsCfg ++ rowsCfgMode ++ rowsCou ++ rowsMbx ++ rowsFbg ++ rowsFck ++ rowsCleAx ++ rowsCle ++ rowsPwm ++ rowsPwmOut ++ rowsFbi ++ rowsFbiCmp ++ rowsAdc ++ rowsDcl ++ rowsSto ++ rowsFps

end Sys2Proof.Machine
end

