-- ==== Sys2Proof/Machine/State.lean ====
section
/-! DEFINITION. The state of the package as plain data, the reasons a step can stop, and the state after reset. -/

namespace Sys2Proof.Machine

/-- Why a command stops with a fault: nothing does. The spec answers every access it does not assign (R6), every protocol error
and every failure of hardware with an effect on the machine, so no command ends a run; the type has no constructor, and safe it is. -/
inductive Fault where
deriving DecidableEq, Repr

/-- Why a command is refused. -/
inductive Refusal where
  /-- For the dispatch arm of a command without a meaning. Every command has one, so no arm answers it. Safe. -/
  | notModelled (mnemonic : String)
deriving DecidableEq, Repr

/-- Values by key: register fields under `Fld.key`, keys rising, none equal to its reset value. -/
abbrev Store := List (Nat × Nat)

/-- Bytes by address, addresses rising, none equal to what an unlisted address reads as. -/
abbrev Memory := List Host.Cell

/-- What the ball region and the fuses fix for a host die (R1, R14, R379); no command changes it. -/
structure Strap where
  id : LaneId
  variant : Variant
deriving DecidableEq, Repr

/-- One arrival of a fault at the collector (R288): its source, whether it was injected (R297), how many occurrences
it carries, and for a field source the field timebase count of R292. -/
structure Arrival where
  src : Nat
  forced : Bool
  count : Nat
  ftb : Nat
deriving DecidableEq, Repr

/-- An entry of the collector's log (R289, R299). -/
structure LogEntry where
  src : Nat
  sev : Nat
  forced : Bool
  observed : Bool
  tclk : Nat
  time : Nat
deriving DecidableEq, Repr

/-- A field fault message of the Couch (R292, R302). -/
structure FieldMsg where
  src : Nat
  cum : Nat
  ftb : Nat
  forced : Bool
deriving DecidableEq, Repr

/-- What an agreed set-point message carries for one channel of axes (R83, R235, R236); SHARE and ILIM may stay unchanged
(R270). -/
structure Setpoint where
  axes : Nat
  value : Int
  acc : Int
  share : Option Nat
  ilim : Option Nat
  bank : Nat
  applyAt : Nat
deriving DecidableEq, Repr

/-- A Control message, host to field (R302). -/
inductive Control where
  | gatePermission (mask : Nat)
  | gRelease
  | saDrive (on : Bool) (mask level follow : Nat)
  | sealReading (reading : Nat)
  | actionInstant (time index : Nat)
  | severityCopy (src sev : Nat)
  | inject (src : Nat)
  | linkTmo (us : Nat)
  | fieldOff
  | clearEnable (axes : Nat)
deriving DecidableEq, Repr

/-- An item of the ordered host-to-field channel (R302). -/
inductive DownItem where
  | write (addr data : Nat)
  | readReq (addr pair : Nat)
  | readCrc
  | crcRestart
  | faultAck (src cum : Nat)
  | setpoint (m : Setpoint)
  | control (c : Control)
deriving DecidableEq, Repr

/-- An item of the ordered field-to-host channel (R302). -/
inductive UpItem where
  | readResponse (pair data : Nat) (err : Bool)
  | crcResponse (crc : Nat)
  | event (kind axis index cause : Nat)
  | status (speeds foxStates running : List Nat) (syncValid gLatched : Bool)
  | fault (m : FieldMsg)
deriving DecidableEq, Repr

/-- An event item of COU_EVQ (R374). -/
structure EvItem where
  kind : Nat
  axis : Nat
  index : Nat
  cause : Nat
deriving DecidableEq, Repr

/-- A frame message of Felt (R43, R231, R232, R249, R251, R259, R281, R310). -/
structure FrameMsg where
  mode : Nat
  state : Nat
  target : Nat
  restrict : Nat
  cause : Nat
  keyOff : Nat
  keyOn : Bool
  ssOk : Bool
  still : Bool
  mismatch : Bool
  /-- Lane time of the latest write of TARGET, and of the latest refusal, 0 when none (R48). -/
  wroteAt : Nat
  refusedAt : Nat
  late : Bool
  demands : List Int
  accs : List Int
  bankReq : List Nat
  absent : Nat
  view : Nat
  renewal : Bool
  seq : Nat
  successor : Nat
  accept : Bool
  barred : Bool
  exits : Nat
  /-- CH_FAULT of the choppers, from the lease holder (R208). -/
  chFault : Option Nat
  contReq : Nat
  sealRd : Nat
  loopOk : Bool
deriving DecidableEq, Repr

/-- A state snapshot of the lease holder (R258). -/
structure Snapshot where
  level : Nat
  saCont : Nat
  chFault : Nat
  swapLeft : Nat
  seq : Nat
  time : Nat
deriving DecidableEq, Repr

/-- A digest record (R369). -/
structure DigestRecord where
  digest : Nat
  sealRd : Nat
  loopFault : Bool
  loadedSet : Nat
  noSet : Bool
  reply : Bool
deriving DecidableEq, Repr

/-- A message of a Felt link (R310), by class. -/
inductive FeltMsg where
  | claim (seq : Nat)
  | release (seq successor : Nat)
  | handover (seq : Nat)
  | frame (m : FrameMsg)
  | stopRequest
  | contReq (mask : Nat)
  | snapshot (m : Snapshot)
  | digest (m : DigestRecord)
deriving DecidableEq, Repr

/-- An instance of an operation of the graph, from its ready list to its completion (R317 to R323). -/
structure OpInst where
  index : Nat
  inst : Nat
  readyAt : Nat
  trigAt : Nat
  startAt : Nat
  shadow : Bool
  /-- The pair a shadow copy is for (R225). -/
  shadowFor : Nat
  missed : Bool
  noTarget : Bool
  budgetRep : Bool
  hangRep : Bool
deriving DecidableEq, Repr

/-- The scheduler's lists (R318, R319): the ready lists of every class together, oldest first, the queue of each
target, and its executing operation. -/
structure Sched where
  ready : List OpInst
  queues : List (List OpInst)
  exec : List (Option OpInst)
  /-- Shadow results of the running frame: 16 × pair + channel, and result word (R225). -/
  shadowResults : List (Nat × Nat)
deriving DecidableEq, Repr

/-- A logged debugger write waiting for the checker (R227, R228): register, value, retirement count. -/
structure DebugWrite where
  pair : Nat
  reg : Nat
  value : Nat
  retired : Nat
deriving DecidableEq, Repr

/-- A valid frame copy of the running Nguas cycle, a node's own read-back included (R333, R340, R348 to R350). -/
structure NguasCopy where
  slot : Nat
  node : Nat
  channel : Nat
  /-- The copy that was taken for its slot. -/
  taken : Bool
  sync : Bool
  conf : Bool
  mreq : Nat
  dev : Int
  payload : List Nat
deriving DecidableEq, Repr

/-- A log record on its way to the management die or in its queue (R448). -/
structure LogRecord where
  type : Nat
  origin : Nat
  qual : Nat
  ident : Nat
  time : Nat
  data : List Nat
deriving DecidableEq, Repr

/-- A telemetry record of a lane (R444): lane time, mode and state, the four die temperatures, the supply OK bits of host and
field, the link quality words, module temperatures and rail voltages. -/
structure Telemetry where
  time : Nat
  mode : Nat
  state : Nat
  dieTemps : List Int
  ok : Nat
  fieldOk : Nat
  links : List Nat
  modules : List Int
  rails : List Nat
deriving DecidableEq, Repr

/-- An identity record of a lane (R440). -/
structure Identity where
  dieId : Nat
  state : Nat
  slot : Nat
  seq : Nat
  version : Nat
  rollback : Nat
  digest : Nat
  imageKey : Nat
deriving DecidableEq, Repr

/-- A message of the update mailbox, lane to management die (R440, R444, R449, R454). -/
inductive MbxUp where
  | identity (i : Identity)
  | telemetry (t : Telemetry)
  | log (r : LogRecord)
  | ready
  | refuse (code : Nat)
  | result (ok : Bool) (code : Nat)
deriving DecidableEq, Repr

/-- One lane: a host die, a field die and the Couch between them (R10, R12). -/
structure Lane where
  /-- Wired identity. -/
  strap : Strap
  /-- Register fields and named internal quantities. -/
  regs : Store
  /-- Shared SRAM, pair TCMs and Squirrel store (R5, R431). -/
  mem : Memory
  /-- The lane's configuration NOR (R362, R386). -/
  nor : Memory
  /-- The model's own counter of free values drawn. -/
  free : Nat
  /-- Faults on their way to the collector (R288). -/
  inbox : List Arrival
  /-- The collector's log, oldest first (R289). -/
  log : List LogEntry
  /-- The COU queue, and after its 64 items the writes of stalled cores (R304). -/
  couQueue : List DownItem
  /-- Host-to-field items sent and not yet taken (R301). -/
  down : List DownItem
  /-- Credits on their way back to the host, true for a NACK (R306). -/
  downCredits : List Bool
  /-- Field-to-host items sent and not yet taken (R301). -/
  up : List UpItem
  /-- Field-to-host items that wait in the field die for a credit (R306). -/
  upQueue : List UpItem
  /-- Occurrences of field sources not yet acknowledged, oldest first, kept in the field AON region (R292). -/
  occurrences : List FieldMsg
  /-- Urgent field-to-host fault messages (R302). -/
  urgent : List FieldMsg
  /-- COU_EVQ (R374). -/
  evq : List EvItem
  /-- Shadow writes and rail conversions of the last instants: field key, value before, field timebase (R141). -/
  recent : List (Nat × Nat × Nat)
  /-- Set-point messages taken by the field die and waiting for their apply instant (R83). -/
  setpoints : List Setpoint
  /-- Felt messages sent on port 0 and port 1 and not yet taken by the sibling (R310). -/
  felt0 : List FeltMsg
  felt1 : List FeltMsg
  /-- Felt messages that wait for a credit on port 0 and port 1, the higher class first (R306, R310). -/
  feltWait0 : List FeltMsg
  feltWait1 : List FeltMsg
  /-- Frame messages of this frame by lane, kept until its window closes (R232). -/
  heard : List (Option FrameMsg)
  /-- FLT_Pp_RX: the latest frame message of each port (R311). -/
  feltRx : List (Option FrameMsg)
  /-- The frame message this lane sent in this frame. -/
  sent : Option FrameMsg
  sched : Sched
  debugLog : List DebugWrite
  /-- Valid copies of the running Nguas cycle (R338). -/
  ngbCopies : List NguasCopy
  /-- The bytes of the latest frame that the node sent: header, payload and CRC (R331, R332). -/
  ngbLine : List Nat
  /-- Mailbox messages sent to the management die and not yet taken. -/
  mbxUp : List MbxUp
  /-- The header of the offer the update unit has accepted (R454). -/
  update : List Byte
deriving DecidableEq, Repr

/-- A log record in the ring or its queue (R448): the record, the MD tick count at receipt, its sequence number. -/
structure MdRecord where
  body : LogRecord
  tmd : Nat
  seq : Nat
deriving DecidableEq, Repr

/-- The rainflow count of one module (R446): turning points in 0.1 K, cycles by bin, consumed life in 2^-32 ppm. -/
structure Wear where
  points : List Int
  bins : List Nat
  life : Nat
deriving DecidableEq, Repr

/-- What a state block holds (R447). -/
structure MdSaved where
  regs : Store
  wear : List Wear
  cert : List Byte
deriving DecidableEq, Repr

/-- The management die (R440 to R462). -/
structure Md where
  regs : Store
  /-- Window 4: report, certificate buffer, nonce (R456, R457). -/
  win : Memory
  /-- The staging area of the management NOR (R452). -/
  stage : Memory
  /-- Log records queued for programming, oldest first (R449). -/
  queue : List MdRecord
  /-- The log ring, oldest first (R449). -/
  ring : List MdRecord
  /-- Offers sent to each lane and not yet taken (R454). -/
  offers : List (List (List Byte))
  telemetry : List (Option Telemetry)
  identity : List (Option Identity)
  /-- Twelve modules of each of the lanes A, B, C (R446). -/
  wear : List Wear
  /-- The stored device certificate (R456). -/
  cert : List Byte
  /-- The newest state block (R447). -/
  saved : MdSaved
  /-- The bytes the data port returned to its latest command. -/
  out : List Byte
  /-- The model's own counter of free values drawn. -/
  free : Nat
deriving DecidableEq, Repr

/-- The package: variant, lanes, management die, physical time, and the commands that wait, first in first out. -/
structure State where
  variant : Variant
  a : Lane
  b : Lane
  c : Lane
  md : Md
  /-- Physical time in ns since power-on, the clock every other clock is measured against. -/
  phys : Nat
  pending : List Instr
deriving DecidableEq, Repr

/-- The scheduler with nothing ready, queued or executing. -/
def Sched.reset : Sched := { ready := [], queues := [[], [], [], [], []], exec := [none, none, none, none, none], shadowResults := [] }

/-- A lane at power-on: every register at its reset value, every queue empty. -/
def Lane.reset (k : Strap) : Lane :=
  { strap := k, regs := [], mem := [], nor := [], free := 0, inbox := [], log := [], couQueue := [], down := [],
    downCredits := [], up := [], upQueue := [], occurrences := [], urgent := [], evq := [], recent := [], setpoints := [], felt0 := [], felt1 := [], feltWait0 := [], feltWait1 := [],
    heard := [none, none, none], feltRx := [none, none], sent := none, sched := Sched.reset, debugLog := [],
    ngbCopies := [], ngbLine := [], mbxUp := [], update := [] }

/-- The wear counts of a module that has counted nothing. -/
def Wear.reset : Wear := { points := [], bins := List.replicate 32 0, life := 0 }

/-- The management die at power-on. -/
def Md.reset : Md :=
  { regs := [], win := [], stage := [], queue := [], ring := [], offers := [[], [], []], telemetry := [none, none, none],
    identity := [none, none, none], wear := List.replicate 36 Wear.reset, cert := [],
    saved := { regs := [], wear := List.replicate 36 Wear.reset, cert := [] }, out := [], free := 0 }

/-- The package right after power-on reset: a PG930-T, every register at its reset value, nothing pending.
(DESIGN CHOICE, assumption 2, DESIGN CHOICE, assumption 4) -/
def State.reset : State :=
  { variant := .t, a := Lane.reset ⟨.a, .t⟩, b := Lane.reset ⟨.b, .t⟩, c := Lane.reset ⟨.c, .t⟩, md := Md.reset,
    phys := 0, pending := [] }

end Sys2Proof.Machine
end

