-- ==== Sys2Proof/Machine/Ops.lean ====
section
/-! DEFINITION. The named operations over registers, memory, queues and lanes. -/

namespace Sys2Proof

/-- The lane of a number. -/
def laneNumbered (n : Nat) : LaneId := if n % 3 = 0 then .a else if n % 3 = 1 then .b else .c

/-- Lanes a variant fits (R1). -/
def Variant.fitted (v : Variant) (l : LaneId) : Bool := match v, l with
  | .d, .c => false
  | _, _ => true

/-- Mask of the fitted lanes, LANES_FITTED (R14). -/
def Variant.mask (v : Variant) : Nat := match v with
  | .t => 7
  | .d => 3

/-- The number of fitted lanes. -/
def Variant.lanes (v : Variant) : Nat := match v with
  | .t => 3
  | .d => 2

/-- The lanes a variant fits, in order. -/
def Variant.list (v : Variant) : List LaneId := match v with
  | .t => [.a, .b, .c]
  | .d => [.a, .b]

end Sys2Proof

namespace Sys2Proof.Machine

/-! ### Sorted maps by key -/

/-- The value listed under a key. -/
def mapGet {α : Type} (m : List (Nat × α)) (k : Nat) : Option α :=
  match m with
  | [] => none
  | (a, v) :: r => if a = k then some v else mapGet r k

/-- The map with `v` listed under `k`, keys rising. -/
def mapSet {α : Type} (m : List (Nat × α)) (k : Nat) (v : α) : List (Nat × α) :=
  match m with
  | [] => [(k, v)]
  | (a, w) :: r => if k < a then (k, v) :: (a, w) :: r else if a = k then (k, v) :: r else (a, w) :: mapSet r k v

/-- The map with nothing listed under `k`. -/
def mapErase {α : Type} (m : List (Nat × α)) (k : Nat) : List (Nat × α) := m.filter (fun e => e.1 ≠ k)

/-- Keys strictly rising. -/
abbrev mapSorted {α : Type} (m : List (Nat × α)) : Prop := m.Pairwise (fun x y => x.1 < y.1)

/-! ### Register fields -/

/-- The value of a field. -/
def Store.rd (s : Store) (f : Fld) : Nat := (mapGet s f.key).getD f.reset

/-- The store with a field written; bits beyond the field's width are dropped. -/
def Store.wr (s : Store) (f : Fld) (v : Nat) : Store :=
  if v % 2 ^ f.width = f.reset then mapErase s f.key else mapSet s f.key (v % 2 ^ f.width)

/-- The store with every field of one region at its reset value. -/
def Store.resetHome (s : Store) (h : Home) : Store := s.filter (fun e => e.1 / 2 ^ 48 ≠ h.code)

/-- The value of a field of the lane. -/
def Lane.rd (L : Lane) (f : Fld) : Nat := L.regs.rd f

/-- A field read as two's complement. -/
def Lane.rdI (L : Lane) (f : Fld) : Int := toInt f.width (L.regs.rd f)

/-- A one-bit field read as a truth value. -/
def Lane.on (L : Lane) (f : Fld) : Bool := L.regs.rd f ≠ 0

/-- The lane with a field written. -/
def Lane.wr (L : Lane) (f : Fld) (v : Nat) : Lane := { L with regs := L.regs.wr f v }

/-- The lane with a signed field written. -/
def Lane.wrI (L : Lane) (f : Fld) (v : Int) : Lane := L.wr f (ofInt f.width v)

/-- The lane with a field set to 1. -/
def Lane.set (L : Lane) (f : Fld) : Lane := L.wr f 1

/-- The lane with a field cleared. -/
def Lane.clr (L : Lane) (f : Fld) : Lane := L.wr f 0

/-- The lane with a truth value written to a field. -/
def Lane.put (L : Lane) (f : Fld) (b : Bool) : Lane := L.wr f (bit b)

/-- The lane with bit `k` of a field written. -/
def Lane.putBit (L : Lane) (f : Fld) (k : Nat) (b : Bool) : Lane := L.wr f (Sys2Proof.putBit (L.rd f) k b)

/-- Bit `k` of a field. -/
def Lane.bitOf (L : Lane) (f : Fld) (k : Nat) : Bool := (L.rd f).testBit k

/-- The lane with a counter raised by `n`, saturating at its largest value. -/
def Lane.add (L : Lane) (f : Fld) (n : Nat) : Lane := L.wr f (min (L.rd f + n) (2 ^ f.width - 1))

/-- The lane with a counter raised by one, saturating at its largest value. -/
def Lane.inc (L : Lane) (f : Fld) : Lane := L.add f 1

/-- The lane with a saturating value written. -/
def Lane.sat (L : Lane) (f : Fld) (v : Nat) : Lane := L.wr f (min v (2 ^ f.width - 1))

/-- Apply `g` when `b` holds. -/
def Lane.iff (L : Lane) (b : Bool) (g : Lane → Lane) : Lane := if b then g L else L

/-- A value nothing constrains, below `2 ^ w`, and the lane with its counter advanced. (DESIGN CHOICE, assumption 8) -/
def Lane.fresh (L : Lane) (w : Nat) : Nat × Lane :=
  ((Config.freeValue L.free).toNat % 2 ^ w, { L with free := L.free + 1 })

/-- The lane with a value nothing constrains in a field. (DESIGN CHOICE, assumption 8) -/
def Lane.wrFree (L : Lane) (f : Fld) : Lane := (L.fresh f.width).2.wr f (L.fresh f.width).1

/-- Repeat `g` for 0 to `n - 1`. -/
def Lane.forN (L : Lane) (n : Nat) (g : Nat → Lane → Lane) : Lane := (List.range n).foldl (fun K i => g i K) L

/-! ### Memory -/

/-- The byte at an address of a memory whose unlisted addresses read as `d`. -/
def Memory.byte (m : Memory) (d : Byte) (a : Nat) : Byte := (mapGet m a).getD d

/-- The memory with a byte written. -/
def Memory.setByte (m : Memory) (d : Byte) (a : Nat) (v : Byte) : Memory := if v = d then mapErase m a else mapSet m a v

/-- Addresses rising, and no cell equal to what an unlisted address reads as. -/
abbrev Memory.wf (m : Memory) (d : Byte) : Prop := mapSorted m ∧ ∀ c ∈ m, c.2 ≠ d

/-- `n` bytes from an address, lowest address first. -/
def Memory.bytes (m : Memory) (d : Byte) (a n : Nat) : List Byte := (List.range n).map (fun i => m.byte d (a + i))

/-- The little-endian number of `n` bytes (R4). -/
def Memory.num (m : Memory) (d : Byte) (a n : Nat) : Nat :=
  (m.bytes d a n).foldr (fun b t => b.toNat + 256 * t) 0

/-- The memory with bytes written from an address. -/
def Memory.setBytes (m : Memory) (d : Byte) (a : Nat) (bs : List Byte) : Memory :=
  match bs with
  | [] => m
  | b :: r => (m.setByte d a b).setBytes d (a + 1) r

/-- The bytes of a number, lowest first. -/
def bytesOf (n v : Nat) : List Byte := (List.range n).map (fun i => BitVec.ofNat 8 (v / 256 ^ i))

/-- The little-endian number of bytes. -/
def numOf (bs : List Byte) : Nat := bs.foldr (fun b t => b.toNat + 256 * t) 0

/-- The memory with an `n`-byte number written. -/
def Memory.setNum (m : Memory) (d : Byte) (a n v : Nat) : Memory := m.setBytes d a (bytesOf n v)

/-- What an unlisted byte of SRAM, TCM and Squirrel reads as: the zero of the memory initialisation of R360.
(DESIGN CHOICE, assumption 7) -/
def ramDefault : Byte := 0

/-- What an unlisted byte of a NOR reads as: the erased state. (DESIGN CHOICE, assumption 7) -/
def norDefault : Byte := 0xFF

/-- The key of a pair's TCM view (R5): offset `off` of pair `p`. (DESIGN CHOICE, assumption 17) -/
def tcmAddr (p off : Nat) : Nat := 2 ^ 32 * (p + 1) + off

/-- A little-endian word of the lane's memory. -/
def Lane.memWord (L : Lane) (a n : Nat) : Nat := L.mem.num ramDefault a n

/-- The lane with a number written to memory. -/
def Lane.setMem (L : Lane) (a n v : Nat) : Lane := { L with mem := L.mem.setNum ramDefault a n v }

/-- A little-endian word of the lane's NOR. -/
def Lane.norWord (L : Lane) (a n : Nat) : Nat := L.nor.num norDefault a n

/-! ### CRC-32C (R301, R368) -/

/-- One bit of CRC-32C, reflected polynomial 0x82F6_3B78 of 0x1EDC_6F41. -/
def crcBit (c : Nat) : Nat := if c % 2 = 1 then (c / 2) ^^^ 0x82F63B78 else c / 2

/-- CRC-32C over one more byte. -/
def crcByte (c : Nat) (b : Byte) : Nat :=
  crcBit (crcBit (crcBit (crcBit (crcBit (crcBit (crcBit (crcBit (c ^^^ b.toNat))))))))

/-- CRC-32C register over more bytes. -/
def crcBytes (c : Nat) (bs : List Byte) : Nat := bs.foldl crcByte c

/-- The initial value of the CRC register. -/
def crcInit : Nat := 0xFFFFFFFF

/-- The CRC-32C of bytes (R332). -/
def crc32c (bs : List Byte) : Nat := crcBytes crcInit bs ^^^ 0xFFFFFFFF

/-! ### Lanes of the package -/

/-- The number of this lane. -/
def Lane.me (L : Lane) : Nat := L.strap.id.num

/-- The numbers of the other fitted lanes. -/
def Lane.siblings (L : Lane) : List Nat := (L.strap.variant.list.map LaneId.num).filter (· ≠ L.me)

/-- A lane of the package. -/
def State.lane (s : State) (l : LaneId) : Lane := match l with
  | .a => s.a
  | .b => s.b
  | .c => s.c

/-- The package with a lane replaced; the wired identity of the lane stays (R14). -/
def State.setLane (s : State) (l : LaneId) (L : Lane) : State := match l with
  | .a => { s with a := { L with strap := s.a.strap } }
  | .b => { s with b := { L with strap := s.b.strap } }
  | .c => { s with c := { L with strap := s.c.strap } }

/-- The outcome of a command to one lane: its effect on that lane, and none where the lane is not fitted (R2). (DEDUCED, assumption 15) -/
def State.onLane (s : State) (l : LaneId) (g : Lane → Lane) : State :=
  if s.variant.fitted l then s.setLane l (g (s.lane l)) else s

/-- The outcome of a command to the management die. -/
def State.onMd (s : State) (g : Md → Md) : State := { s with md := g s.md }

/-! ### Time -/

/-- Lane time in ns. -/
def Lane.now (L : Lane) : Nat := L.rd Int.laneTime

/-- Field timebase in 1 ns half-ticks. -/
def Lane.ftb (L : Lane) : Nat := L.rd Int.fieldTime

/-- The LFO tick count. -/
def Lane.lfo (L : Lane) : Nat := L.rd BST_TICK.TICK

/-- A timestamp of the host die and its TCLK mark: lane time while the root PLL is locked, else LFO ticks (R294). -/
def Lane.stamp (L : Lane) : Nat × Nat := if L.on CKG_STATUS.PLL_LOCK then (L.now, 0) else (L.lfo, 1)

/-! ### Raising faults and events -/

/-- A block of the host die reports one occurrence of a source to the collector (R287, R288). (DEDUCED, assumption 20) -/
def Lane.raise (L : Lane) (src : Nat) : Lane := { L with inbox := L.inbox ++ [⟨src, false, 1, 0⟩] }

/-- A dozing pair wakes; NAP ends with it, and an entry under way is to be aborted at its next abort point; past N4 and at
level 2 an ordinary wake has no effect (R420, R425). -/
def Lane.wakePair (L : Lane) (p : Nat) : Lane :=
  if ! L.bitOf PSC_STATUS.DOZED p || L.on Int.pscN4 || L.rd PSC_STATUS.LEVEL_NOW = 2 then L else
  let K := (L.putBit PSC_STATUS.DOZED p false).iff (L.rd PSC_STATUS.STAGE ≠ 0) (fun K => K.set Int.wakePend)
  K.iff (K.rd PSC_STATUS.LEVEL_NOW = 1) (fun J => (J.wr PSC_STATUS.LEVEL_NOW 0).wr PSC_STATUS.CORE 0)

/-- An event reaches the event inputs of a pair in service, one that is neither fenced nor withdrawn (R374); a dozing pair that
enables it wakes (R420). (DESIGN CHOICE, assumption 14) -/
def Lane.eventTo (L : Lane) (p ev : Nat) : Lane :=
  if L.rd (LSC_PAIR_STATUS.STATE p) = 3 || L.rd (LSC_PAIR_STATUS.STATE p) = 5 then L else
  (L.putBit (Int.events p) ev true).iff (Config.eventEnabled p ev) (fun K => K.wakePair p)

/-- A level-sensitive event stands at the pairs of a mask while `on` holds, and is lowered at the others (R289, R374). -/
def Lane.level (L : Lane) (ev mask : Nat) (on : Bool) : Lane :=
  L.forN 4 (fun p K => if on && mask.testBit p then K.eventTo p ev else K.putBit (Int.events p) ev false)

/-- Whether a level-sensitive event that the pair enables stands at it: BGR_EVT, CAN_EVT or COU_EVT (R374). -/
def Lane.levelStands (L : Lane) (p : Nat) : Bool :=
  [24, 26, 27].any (fun ev => L.bitOf (Int.events p) ev && Config.eventEnabled p ev)

/-- An event of the host die reaches every pair (R374). -/
def Lane.event (L : Lane) (ev : Nat) : Lane := L.forN 4 (fun p K => K.eventTo p ev)

/-- A bus error to the issuing pair, host event 1 (R6, R304, R374). -/
def Lane.busError (L : Lane) (p : Nat) : Lane := L.eventTo p 1

/-- A log record is sent to the management die; without the link or a credit it is dropped and counted (R449, R461). -/
def Lane.sendMbx (L : Lane) (m : MbxUp) : Lane :=
  if L.on MBX_STATUS.LINK ∧ L.mbxUp.length < 8 then { L with mbxUp := L.mbxUp ++ [m] } else L.inc MBX_CNT.DROPPED

/-- The log record of an event of this lane (R448): type, qualifier, identity and data. -/
def Lane.logRecord (L : Lane) (type qual ident : Nat) (data : List Nat) : LogRecord :=
  { type := type, origin := L.me + 4 * L.stamp.2, qual := qual, ident := ident, time := L.stamp.1, data := data }

/-! ### The Couch -/

/-- In the prepare stage of an entry to level 2 or 3 the COU and the Felt ports issue no new item (R422). (DEDUCED, assumption 74) -/
def Lane.portsClosed (L : Lane) : Bool := L.rd PSC_STATUS.STAGE = 1 && 2 ≤ L.rd Int.pscAsk

/-- Items leave the COU queue while credits are held and the port is open (R306, R422). (DESIGN CHOICE, assumption 26) -/
def Lane.pump (L : Lane) : Lane :=
  let n := if L.portsClosed then 0 else min (L.rd COU_STATUS.CREDITS) L.couQueue.length
  let K : Lane := { L with down := L.down ++ L.couQueue.take n, couQueue := L.couQueue.drop n }
  (K.wr COU_STATUS.CREDITS (L.rd COU_STATUS.CREDITS - n)).wr COU_STATUS.OUTSTANDING (L.rd COU_STATUS.OUTSTANDING + n)

/-- The host die queues an item for the field die; nothing is sent while no epoch is agreed (R304, R306). -/
def Lane.toField (L : Lane) (i : DownItem) : Lane :=
  if L.on COU_STATUS.LINK then { L with couQueue := L.couQueue ++ [i] }.pump else L

/-- The field die takes the first item of the ordered channel, and its credit starts back (R306). (DEDUCED, assumption 25) -/
def Lane.takeDown (L : Lane) : Lane := { L with down := L.down.drop 1, downCredits := L.downCredits ++ [false] }

/-- Items of the field die leave their queue while it holds credits (R306). (DESIGN CHOICE, assumption 27) -/
def Lane.pumpUp (L : Lane) : Lane :=
  let n := min (L.rd Int.fieldCredits) L.upQueue.length
  let K : Lane := { L with up := L.up ++ L.upQueue.take n, upQueue := L.upQueue.drop n }
  (K.wr Int.fieldCredits (L.rd Int.fieldCredits - n)).wr Int.fieldOut (L.rd Int.fieldOut + n)

/-- The field die sends an item on its ordered channel (R302, R306). (DESIGN CHOICE, assumption 27) -/
def Lane.toHost (L : Lane) (i : UpItem) : Lane := if L.on Int.fieldLink then { L with upQueue := L.upQueue ++ [i] }.pumpUp else L

/-- The host die takes the first item of the field die's ordered channel, and its credit starts back (R306). -/
def Lane.takeUp (L : Lane) : Lane := { L with up := L.up.drop 1 }.wr Int.upBack (L.rd Int.upBack + 1)

/-- A credit reaches the field die (R306). -/
def Lane.fieldCredit (L : Lane) : Lane :=
  ((L.wr Int.fieldCredits (min 16 (L.rd Int.fieldCredits + 1))).wr Int.fieldOut (L.rd Int.fieldOut - 1)).pumpUp

/-- A field event item is sent to the host die (R302, R374). (DEDUCED, assumption 32) -/
def Lane.fieldEvent (L : Lane) (kind axis index cause : Nat) : Lane := L.toHost (.event kind axis index cause)

/-- The fault message of a field source as it now stands: its CUM and the instant of its oldest occurrence not yet
acknowledged (R292). -/
def Lane.fieldMsg (L : Lane) (src : Nat) : FieldMsg :=
  ⟨src, L.rd (Int.cum src), ((L.occurrences.find? (fun m => m.src == src)).map (fun m => m.ftb)).getD L.ftb, false⟩

/-- A fault message leaves on the path its severity has: urgent for S3 and S4, else ordered (R302). -/
def Lane.sendFault (L : Lane) (m : FieldMsg) : Lane :=
  if L.on Int.fieldLink && decide (3 ≤ L.rd (FBG_SEV.SEV m.src)) then { L with urgent := L.urgent ++ [m] } else L.toHost (.fault m)

/-- Undelivered occurrences are those since the last acknowledged count (R292, R300). -/
def Lane.syncBacklog (L : Lane) : Lane :=
  let open_ := (List.range 64).map (fun i => (L.rd (Int.cum (0x60 + i)) + 65536 - L.rd (Int.acked (0x60 + i))) % 65536)
  (L.sat FBG_STATUS.BACKLOG (open_.filter (· ≠ 0)).length).sat FBG_STATUS.UNDELIV open_.sum

/-- One real occurrence of a field source at the FBG: CUM counts it, its instant is kept, a message goes out (R292).
The forcing of the gates by an S4 source is `Lane.fieldRaise`. (DESIGN CHOICE, assumption 28) -/
def Lane.fieldCount (L : Lane) (src : Nat) : Lane :=
  let K := L.wr (Int.cum src) (L.rd (Int.cum src) + 1)
  let K : Lane := { K with occurrences := K.occurrences ++ [⟨src, K.rd (Int.cum src), K.ftb, false⟩] }
  (K.sendFault (K.fieldMsg src)).syncBacklog

/-! ### Felt -/

/-- The sibling port `p` leads to, in the order A, B, C, A (R310). -/
def Lane.portPeer (L : Lane) (p : Nat) : Nat := (L.me + (if p = 0 then 1 else 2)) % 3

/-- The port that leads to sibling `n` (R310). -/
def Lane.portTo (L : Lane) (n : Nat) : Nat := if (L.me + 1) % 3 = n then 0 else 1

/-- Messages waiting on a port. -/
def Lane.felt (L : Lane) (p : Nat) : List FeltMsg := if p = 0 then L.felt0 else L.felt1

/-- The lane with the messages of a port replaced. -/
def Lane.setFelt (L : Lane) (p : Nat) (ms : List FeltMsg) : Lane := if p = 0 then { L with felt0 := ms } else { L with felt1 := ms }

/-- The priority of a message's class, 1 first (R310). -/
def FeltMsg.priority : FeltMsg → Nat
  | .claim _ => 1
  | .release _ _ => 1
  | .handover _ => 1
  | .frame _ => 2
  | .stopRequest => 3
  | .contReq _ => 3
  | .snapshot _ => 4
  | .digest _ => 4

/-- Messages waiting in the lane for a credit of a port. -/
def Lane.feltWait (L : Lane) (p : Nat) : List FeltMsg := if p = 0 then L.feltWait0 else L.feltWait1

/-- The lane with the waiting messages of a port replaced. -/
def Lane.setFeltWait (L : Lane) (p : Nat) (ms : List FeltMsg) : Lane :=
  if p = 0 then { L with feltWait0 := ms } else { L with feltWait1 := ms }

/-- Waiting messages of a port are sent while it holds credits and is open (R306, R422). (DESIGN CHOICE, assumption 27) -/
def Lane.pumpFelt (L : Lane) (p : Nat) : Lane :=
  let n := if L.portsClosed then 0 else min (L.rd (FLT_P_STATUS.CREDITS p)) (L.feltWait p).length
  let K := (L.setFelt p (L.felt p ++ (L.feltWait p).take n)).setFeltWait p ((L.feltWait p).drop n)
  (K.wr (FLT_P_STATUS.CREDITS p) (L.rd (FLT_P_STATUS.CREDITS p) - n)).wr (FLT_P_STATUS.OUTSTANDING p) (L.rd (FLT_P_STATUS.OUTSTANDING p) + n)

/-- A message is sent on a Felt port whose link is up; without a credit it waits behind those of its own and of higher classes
(R306, R310). (DESIGN CHOICE, assumption 27) -/
def Lane.sendFelt (L : Lane) (p : Nat) (m : FeltMsg) : Lane :=
  if L.on (FLT_P_STATUS.LINK p) then
    let w := L.feltWait p
    (L.setFeltWait p (w.filter (fun x => x.priority ≤ m.priority) ++ m :: w.filter (fun x => m.priority < x.priority))).pumpFelt p
  else L

/-- A message is sent on every Felt port. -/
def Lane.sendFeltAll (L : Lane) (m : FeltMsg) : Lane := (L.sendFelt 0 m).sendFelt 1 m

/-- The first element a choice accepts, and the list without it. (DEDUCED, assumption 25) -/
def takeFirst {α β : Type} (pick : α → Option β) : List α → Option (β × List α)
  | [] => none
  | x :: r => match pick x with
    | some y => some (y, r)
    | none => (takeFirst pick r).map (fun t => (t.1, x :: t.2))

/-- A Felt message that a choice accepts is received: lane `src` has sent it, lane `l` acts on it. Messages of one
class keep their order; a class may overtake another (R310). Without such a message nothing happens.
(DEDUCED, assumption 15, DEDUCED, assumption 25) -/
def State.recvFelt {β : Type} (s : State) (l src : LaneId) (pick : FeltMsg → Option β) (g : β → Lane → Lane) : State :=
  if l = src ∨ ¬ (s.variant.fitted l ∧ s.variant.fitted src) then s else
  let S := s.lane src
  match takeFirst pick (S.felt (S.portTo l.num)) with
  | none => s
  | some (m, rest) => (s.setLane src (S.setFelt (S.portTo l.num) rest)).onLane l (g m)

end Sys2Proof.Machine
end

