-- ==== Sys2Proof/Machine/MdOps.lean ====
section
/-! DEFINITION. Operations of the management die: its registers, the event log and its ring, the rainflow count, and the
serving of updates (R441 to R454). -/

namespace Sys2Proof.Machine

/-- The value of a field of the management die. -/
def Md.rd (M : Md) (f : Fld) : Nat := M.regs.rd f

/-- A one-bit field read as a truth value. -/
def Md.on (M : Md) (f : Fld) : Bool := M.regs.rd f ≠ 0

/-- The die with a field written. -/
def Md.wr (M : Md) (f : Fld) (v : Nat) : Md := { M with regs := M.regs.wr f v }

/-- The die with a counter raised by `n`, saturating at its largest value. -/
def Md.add (M : Md) (f : Fld) (n : Nat) : Md := M.wr f (min (M.rd f + n) (2 ^ f.width - 1))

/-- The die with a counter raised by one, saturating. -/
def Md.inc (M : Md) (f : Fld) : Md := M.add f 1

/-- Apply `g` when `b` holds. -/
def Md.iff (M : Md) (b : Bool) (g : Md → Md) : Md := if b then g M else M

/-- A value nothing constrains, below `2 ^ w`, and the die with its counter advanced. (DESIGN CHOICE, assumption 8) -/
def Md.fresh (M : Md) (w : Nat) : Nat × Md := ((Config.freeValue M.free).toNat % 2 ^ w, { M with free := M.free + 1 })

/-! ### The log (R448 to R450) -/

/-- Records in the part of the ring that its sectors hold: all sectors but the erased one (R449, R452). -/
def Md.ringSize (M : Md) : Nat := M.rd DP_LOG.CAPACITY

/-- LOG_AVAIL counts complete unacknowledged Reams, saturating (R450). -/
def Md.syncLog (M : Md) : Md := M.wr DP_STATUS.LOG_AVAIL (min 65535 (M.rd Int.mdUnack / 8))

/-- The oldest `n` records leave the ring; those not acknowledged count in LOG_OVERRUN (R449, R452). (DESIGN CHOICE, assumption 66) -/
def Md.dropOldest (M : Md) (n : Nat) : Md :=
  let left := M.ring.length - n
  let unack := M.rd Int.mdUnack
  (({ M with ring := M.ring.drop n }.add DP_LOG_CNT.LOG_OVERRUN (unack - min unack left)).wr Int.mdUnack (min unack left)).syncLog

/-- A record arrives for the log: queued with the tick count of its receipt, or lost at a full queue (R449).
(DESIGN CHOICE, assumption 66) -/
def Md.log (M : Md) (r : LogRecord) : Md :=
  if M.queue.length < 4096 then { M with queue := M.queue ++ [⟨r, M.rd Int.mdTick, 0⟩] }
  else (M.inc DP_LOG_CNT.LOG_LOST).inc Int.mdLostNow

/-- A record of the management die itself, its sub-code and data open (R445, R448). (DESIGN CHOICE, assumption 66) -/
def Md.ownLog (M : Md) (type : Nat) : Md :=
  (M.fresh 8).2.log { type := type, origin := 7, qual := 0, ident := (M.fresh 8).1, time := M.rd Int.mdTick, data := [] }

/-- The oldest queued record is programmed: the oldest sector makes room where the next sector would be the last erased one
(R449). (DESIGN CHOICE, assumption 66) -/
def Md.program (M : Md) : Md :=
  match M.queue with
  | [] => M
  | q :: r =>
    let K := { M with queue := r }.iff (decide (M.ringSize ≤ M.ring.length)) (fun K => K.dropOldest 64)
    let n := K.rd Int.mdSeq
    let K := { K with ring := K.ring ++ [{ q with seq := n }] }.wr Int.mdSeq (n + 1)
    let K := (K.wr Int.mdUnack (K.rd Int.mdUnack + 1)).syncLog
    let lost := K.rd Int.mdLostNow
    if lost = 0 then K else
      (K.wr Int.mdLostNow 0).log { type := 8, origin := 7, qual := 0, ident := 0, time := M.rd Int.mdTick, data := bytesOf 4 lost |>.map BitVec.toNat }

/-- The 64 bytes of a record (R448). -/
def MdRecord.bytes (q : MdRecord) : List Byte :=
  let b := bytesOf 1 q.body.type ++ bytesOf 1 q.body.origin ++ bytesOf 1 q.body.qual ++ bytesOf 1 q.body.ident ++ bytesOf 4 q.seq ++
    bytesOf 8 q.body.time ++ bytesOf 8 (q.tmd % 2 ^ 48) ++ (List.range 36).map (fun i => BitVec.ofNat 8 (q.body.data.getD i 0))
  b ++ bytesOf 4 (crc32c b)

/-! ### Rainflow (R446) -/

/-- Closed cycles between the four latest turning points are taken out, newest point first in the list. -/
def rainClose (fuel : Nat) (points : List Int) (cycles : List (Int × Int)) : List Int × List (Int × Int) :=
  match fuel, points with
  | fuel + 1, d :: c :: b :: a :: r =>
    if (c - b).natAbs ≤ (b - a).natAbs ∧ (c - b).natAbs ≤ (d - c).natAbs then rainClose fuel (d :: a :: r) ((b, c) :: cycles)
    else (points, cycles)
  | _, _ => (points, cycles)

/-- A telemetry value enters a series with reversals taken at a hysteresis; newest point first. -/
def rainAdd (hyst : Nat) (points : List Int) (x : Int) : List Int :=
  match points with
  | [] => [x]
  | [p] => if hyst ≤ (x - p).natAbs then [x, p] else [p]
  | b :: a :: r =>
    if (a < b ∧ b ≤ x) ∨ (b < a ∧ x ≤ b) then x :: a :: r
    else if hyst ≤ (x - b).natAbs then x :: b :: a :: r else b :: a :: r

/-- The bin of a closed cycle, in 0.1 K; none below 2 K. -/
def rainBin (lo hi : Int) : Option Nat :=
  let d := (hi - lo).natAbs
  let peak := max lo hi
  let t := if peak ≤ 900 then 0 else if peak ≤ 1100 then 1 else if peak ≤ 1300 then 2 else 3
  if d < 20 then none
  else some (8 * t + (if d < 50 then 0 else if d < 100 then 1 else if d < 200 then 2 else if d < 300 then 3 else if d < 450 then 4
    else if d < 600 then 5 else if d < 800 then 6 else 7))

/-- A closed cycle is counted and its share of life consumed (R446). (DESIGN CHOICE, assumption 70) -/
def Md.countCycle (M : Md) (w : Wear) (c : Int × Int) : Wear :=
  match rainBin c.1 c.2 with
  | none => w
  | some k =>
    let nf := M.rd (DP_NF.NF k)
    { w with bins := w.bins.set k (w.bins.getD k 0 + 1),
             life := if nf = 0 then w.life else min (1000000 * 2 ^ 32) (w.life + (divRound 446 (1000 * 2 ^ 32) nf).toNat) }

/-- One module takes a telemetry value (R446). -/
def Md.wearAdd (M : Md) (w : Wear) (x : Int) : Wear :=
  let r := rainClose (w.points.length + 1) (rainAdd (M.rd DP_RF_CFG.HYST) w.points x) []
  r.2.reverse.foldl (fun v c => M.countCycle v c) { w with points := r.1 }

/-! ### Updates (R454) -/

/-- The update state of lane `n`: 0 none, 1 waiting, 2 transferring, 3 done, 4 failed, 5 refused. -/
def Md.laneUpd (M : Md) (n : Nat) : Nat := slice (4 * n) 3 (M.rd DP_UPD.LANE_UPD)

/-- The update state of a lane written. -/
def Md.setLaneUpd (M : Md) (n v : Nat) : Md :=
  M.wr DP_UPD.LANE_UPD (M.rd DP_UPD.LANE_UPD - slice (4 * n) 4 (M.rd DP_UPD.LANE_UPD) * 16 ^ n + v * 16 ^ n)

/-- Bytes of the staged image. -/
def Md.staged (M : Md) (o n : Nat) : List Byte := M.stage.bytes norDefault o n

/-- Owl serves the next waiting lane with an offer; with none left the image is VERIFIED again (R454). -/
def Md.serveNext (M : Md) : Md :=
  if (List.range 3).any (fun n => M.laneUpd n = 2) then M else
  match (List.range 3).find? (fun n => M.laneUpd n = 1) with
  | some n => { (M.setLaneUpd n 2).wr DP_STATUS.STAGE 5 with offers := M.offers.set n (M.offers.getD n [] ++ [M.staged 0 0x2000]) }
  | none => M.wr DP_STATUS.STAGE 3

/-- A lane's transfer ends (R454, R459). -/
def Md.endTransfer (M : Md) (n v : Nat) (code : Option Nat) : Md :=
  if M.laneUpd n ≠ 2 then M else
  let K := M.setLaneUpd n v
  (match code with
   | some c => K.wr DP_UPD.FAIL_CODE c
   | none => K).serveNext

/-- A mailbox link start of a lane: an identity record is awaited, and a transfer under way has failed (R454, R457, R458). -/
def Md.linkStart (M : Md) (n : Nat) : Md :=
  let K := ((M.wr (Int.mdFresh n) 0).wr (Int.mdLinked n) 1)
  { K with offers := K.offers.set n [] }.endTransfer n 4 none

end Sys2Proof.Machine
end

