-- ==== Sys2Proof/Machine/Fixed.lean ====
section
/-! DEFINITION. The number formats of the control engine (R63, R64, R105): Q1.31, Q8.24, angle32, their products, square
roots and trigonometric values. Where the spec names no rounding, the result is one of the two neighbours. -/

namespace Sys2Proof.Machine

/-- The nearest Q1.31 value (R63, R64): +1.0 is the largest positive value. -/
def satQ (x : Int) : Int := clampI (-2147483648) 2147483647 x

/-- Whether a result lies outside Q1.31 (R64). -/
def cutQ (x : Int) : Bool := x ≠ satQ x

/-- +1.0 in Q1.31. -/
def oneQ : Int := 2147483647

/-- A product of a value with a factor of `frac` fractional bits, rounded to nearest (R63). (DESIGN CHOICE, assumption 10) -/
def mulF (site frac : Nat) (x y : Int) : Int := nearest site (x * y) (2 ^ frac)

/-- A product with a Q1.31 factor. -/
def mulQ (site : Nat) (x y : Int) : Int := mulF site 31 x y

/-- A product with a Q8.24 factor. -/
def mulK (site : Nat) (x k : Int) : Int := mulF site 24 x k

/-- The square root of a Q2.62 number in Q1.31. (DESIGN CHOICE, assumption 12) -/
def sqrtQ (site : Nat) (n : Nat) : Int :=
  if n.sqrt * n.sqrt = n then n.sqrt else if Config.roundUp site n 0 then n.sqrt + 1 else n.sqrt

/-- The magnitude of a vector in Q1.31. -/
def magQ (site : Nat) (x y : Int) : Int := sqrtQ site (x * x + y * y).toNat

/-- Terms `n` down to 1 of the Taylor series of the sine and cosine in scale 2^60: with `x2` the square of the angle,
each step gives 1 − x²/(k (k + 1)) × the next. -/
def taylor (x2 : Int) (odd : Nat) : Nat → Int
  | 0 => 2 ^ 60
  | n + 1 =>
    let k := 2 * (12 - n) - 1 + odd
    2 ^ 60 - x2 * taylor x2 odd n / 2 ^ 60 / ((k * (k + 1) : Nat) : Int)

/-- Cosine and sine in scale 2^60 of an angle below a quarter turn, given in 2^-32 of a turn. -/
def quarterTrig (r : Nat) : Int × Int :=
  let x : Int := (r : Int) * 1811004864519280710 / 2 ^ 30
  let x2 := x * x / 2 ^ 60
  (taylor x2 0 12, x * taylor x2 1 12 / 2 ^ 60)

/-- Cosine and sine in scale 2^60 of an angle32. (DESIGN CHOICE, assumption 12) -/
def trig (a : Nat) : Int × Int :=
  let p := quarterTrig (a % 2 ^ 30)
  match a / 2 ^ 30 % 4 with
  | 0 => p
  | 1 => (-p.2, p.1)
  | 2 => (-p.1, -p.2)
  | _ => (p.2, -p.1)

/-- The cosine of an angle32 in Q1.31. (DESIGN CHOICE, assumption 12) -/
def cosQ (a : Nat) : Int := satQ (divRound 66 (trig a).1 (2 ^ 29))

/-- The sine of an angle32 in Q1.31. (DESIGN CHOICE, assumption 12) -/
def sinQ (a : Nat) : Int := satQ (divRound 67 (trig a).2 (2 ^ 29))

/-- The largest angle below half a turn at or before a vector of the upper half plane, by bisection. -/
def bisectArg (x y : Int) : Nat → Nat → Nat
  | 0, a => a
  | n + 1, a =>
    let b := a + 2 ^ n
    bisectArg x y n (if 0 ≤ (trig b).1 * y - (trig b).2 * x then b else a)

/-- The angle of a vector as angle32; that of the zero vector is open. (DESIGN CHOICE, assumption 12) -/
def argQ (site : Nat) (x y : Int) : Nat :=
  if x = 0 ∧ y = 0 then (Config.divZero site 0).toNat % 2 ^ 32
  else
    let up := 0 < y ∨ (y = 0 ∧ 0 < x)
    let a := if up then bisectArg x y 31 0 else bisectArg (-x) (-y) 31 0 + 2 ^ 31
    (a + bit ((trig a).1 * y ≠ (trig a).2 * x && Config.roundUp site (x * 2 ^ 32 + y) 0)) % 2 ^ 32

/-- The difference of two angles as a signed angle32 (R112). -/
def wrapA (x : Int) : Int := toInt 32 (ofInt 32 x)

/-- A division by √3 (R66, R72). -/
def bySqrt3 (site : Nat) (x : Int) : Int := nearest site (x * 2662558164157085850) (2 ^ 62)

/-- A product with √3 / 2 (R72). -/
def halfSqrt3 (site : Nat) (x : Int) : Int := nearest site (x * 3993837246235628775) (2 ^ 62)

end Sys2Proof.Machine
end

