-- ==== Sys2Proof/Machine/Sources.lean ====
section
/-! DEFINITION. The fault sources the chapters define and their default severities (R287, R290). -/

namespace Sys2Proof.Machine

/-- Sources 0x1 to 0x17 and their default severities. -/
def sources0 : List (Nat × Nat) := [(0x1, 4), (0x2, 0), (0x8, 2), (0x9, 4), (0xa, 4), (0xb, 4), (0xc, 1), (0xd, 4), (0x10, 2), (0x11, 2), (0x12, 2), (0x13, 2), (0x14, 2), (0x15, 2), (0x16, 2), (0x17, 2)]
/-- Sources 0x18 to 0x32 and their default severities. -/
def sources1 : List (Nat × Nat) := [(0x18, 2), (0x19, 2), (0x1a, 2), (0x1b, 2), (0x1c, 2), (0x1d, 2), (0x1e, 2), (0x1f, 2), (0x20, 2), (0x21, 2), (0x22, 2), (0x23, 1), (0x24, 4), (0x30, 4), (0x31, 3), (0x32, 1)]
/-- Sources 0x33 to 0x47 and their default severities. -/
def sources2 : List (Nat × Nat) := [(0x33, 1), (0x34, 3), (0x35, 2), (0x36, 2), (0x37, 1), (0x38, 2), (0x39, 4), (0x3a, 2), (0x40, 4), (0x41, 0), (0x42, 2), (0x43, 2), (0x44, 2), (0x45, 4), (0x46, 4), (0x47, 4)]
/-- Sources 0x48 to 0x61 and their default severities. -/
def sources3 : List (Nat × Nat) := [(0x48, 1), (0x49, 1), (0x4a, 0), (0x4b, 1), (0x4c, 1), (0x4d, 4), (0x50, 0), (0x51, 1), (0x52, 2), (0x58, 0), (0x59, 2), (0x5a, 2), (0x5b, 2), (0x5c, 2), (0x60, 4), (0x61, 2)]
/-- Sources 0x62 to 0x72 and their default severities. -/
def sources4 : List (Nat × Nat) := [(0x62, 0), (0x63, 1), (0x64, 1), (0x65, 2), (0x66, 3), (0x68, 1), (0x69, 2), (0x6a, 2), (0x6b, 2), (0x6c, 2), (0x6d, 1), (0x6e, 1), (0x6f, 4), (0x70, 4), (0x71, 1), (0x72, 1)]
/-- Sources 0x73 to 0x84 and their default severities. -/
def sources5 : List (Nat × Nat) := [(0x73, 0), (0x74, 0), (0x75, 2), (0x76, 2), (0x77, 2), (0x78, 2), (0x79, 2), (0x7a, 1), (0x7b, 0), (0x7c, 1), (0x7d, 4), (0x80, 1), (0x81, 2), (0x82, 2), (0x83, 2), (0x84, 2)]
/-- Sources 0x85 to 0x99 and their default severities. -/
def sources6 : List (Nat × Nat) := [(0x85, 1), (0x86, 2), (0x87, 1), (0x88, 4), (0x8a, 2), (0x8b, 2), (0x8c, 1), (0x8d, 4), (0x90, 4), (0x91, 4), (0x92, 2), (0x93, 1), (0x94, 4), (0x95, 4), (0x98, 4), (0x99, 4)]
/-- Sources 0x9a to 0xb2 and their default severities. -/
def sources7 : List (Nat × Nat) := [(0x9a, 4), (0x9b, 4), (0x9c, 4), (0x9d, 4), (0x9e, 4), (0xa0, 2), (0xa1, 1), (0xa2, 2), (0xa3, 2), (0xa4, 2), (0xa5, 1), (0xa6, 2), (0xa7, 1), (0xb0, 1), (0xb1, 2), (0xb2, 2)]
/-- Sources 0xb3 to 0xca and their default severities. -/
def sources8 : List (Nat × Nat) := [(0xb3, 1), (0xb4, 1), (0xb5, 2), (0xb6, 2), (0xb7, 4), (0xc0, 2), (0xc1, 2), (0xc2, 4), (0xc3, 2), (0xc4, 2), (0xc5, 0), (0xc6, 0), (0xc7, 1), (0xc8, 2), (0xc9, 4), (0xca, 0)]
/-- Sources 0xcb to 0xe0 and their default severities. -/
def sources9 : List (Nat × Nat) := [(0xcb, 1), (0xcc, 1), (0xcd, 0), (0xce, 0), (0xcf, 2), (0xd0, 0), (0xd1, 1), (0xd2, 1), (0xd3, 4), (0xd4, 4), (0xd5, 4), (0xd6, 4), (0xd7, 4), (0xd8, 4), (0xd9, 4), (0xe0, 2)]
/-- Sources 0xe1 to 0xf5 and their default severities. -/
def sources10 : List (Nat × Nat) := [(0xe1, 4), (0xe2, 1), (0xe3, 0), (0xe4, 2), (0xe5, 1), (0xe6, 1), (0xe7, 0), (0xe8, 4), (0xe9, 4), (0xea, 4), (0xf0, 0), (0xf1, 2), (0xf2, 0), (0xf3, 4), (0xf4, 0), (0xf5, 2)]
/-- Sources 0xf6 to 0xfd and their default severities. -/
def sources11 : List (Nat × Nat) := [(0xf6, 1), (0xf7, 1), (0xf8, 1), (0xf9, 2), (0xfa, 2), (0xfb, 2), (0xfc, 2), (0xfd, 4)]

/-- Every defined source with its default severity. -/
def sourceTable : List (Nat × Nat) := sources0 ++ sources1 ++ sources2 ++ sources3 ++ sources4 ++ sources5 ++ sources6 ++ sources7 ++ sources8 ++ sources9 ++ sources10 ++ sources11

/-- Whether a chapter defines the source; others are reserved and never raised (R287). -/
def sourceDefined (k : Nat) : Bool := (mapGet sourceTable k).isSome

/-- The default severity of a source, 0 for a reserved one. -/
def sourceSeverity (k : Nat) : Nat := (mapGet sourceTable k).getD 0

/-- The floor of a source (R290). -/
def sourceFloor (k : Nat) : Nat := if sourceSeverity k = 4 then 4 else 0

/-- The field sources of R287. -/
def fieldSource (k : Nat) : Bool := 0x60 ≤ k && k < 0xA0

end Sys2Proof.Machine
end

