-- ==== Sys2Proof/Machine/ModeBase.lean ====
section
/-! DEFINITION. The codes of device modes and lane states (R41, R42), the STOP line the host drives (R303), and what
a host die reset and a field die reset clear (R26, R299, R361). -/

namespace Sys2Proof.Machine

abbrev mDormant : Nat := 1
abbrev mWake : Nat := 2
abbrev mLoad : Nat := 3
abbrev mTest : Nat := 4
abbrev mStandby : Nat := 5
abbrev mOperate3 : Nat := 6
abbrev mOperate2 : Nat := 7
abbrev mOperate1 : Nat := 8
abbrev mSafeStop : Nat := 9
abbrev mTorqueOff : Nat := 10
abbrev mService : Nat := 11
abbrev mShutdown : Nat := 12

abbrev stReset : Nat := 0
abbrev stBoot : Nat := 1
abbrev stReady : Nat := 2
abbrev stJoining : Nat := 3
abbrev stActive : Nat := 4
abbrev stExited : Nat := 5
abbrev stFailed : Nat := 6
abbrev stAsleep : Nat := 7

/-- The device-mode copy of the lane. -/
def Lane.mode (L : Lane) : Nat := L.rd CFG_MODE_STATUS.DEVICE_MODE

/-- The lane state. -/
def Lane.state (L : Lane) : Nat := L.rd CFG_MODE_STATUS.LANE_STATE

/-- An operating mode: OPERATE-3, -2 or -1. -/
def operating (m : Nat) : Bool := mOperate3 ≤ m && m ≤ mOperate1

/-- READY, JOINING or ACTIVE (R42). -/
def liveState (s : Nat) : Bool := stReady ≤ s && s ≤ stActive

/-- Modes in which R52 places the gate outputs off. -/
def gatesOff (m : Nat) : Bool := ! (operating m || m = mSafeStop || m = mService)

/-- The STOP line as the host drives it: STOP from E0, STO while R52 or the SSF asks for it, else RUN (R303). A lane that is
still in its own WAKE, LOAD and TEST, or failed or asleep, keeps its gate outputs off whatever mode it has adopted (R52,
R54). -/
def Lane.hostLine (L : Lane) : Nat :=
  if L.on Int.e0 then 1 else if gatesOff L.mode || ! liveState L.state || L.on Int.ssfSto || L.on Int.bstSto then 2 else 0

/-- COU_STATUS.LINE follows what the host drives. -/
def Lane.updateLine (L : Lane) : Lane := L.wr COU_STATUS.LINE L.hostLine

/-- READY_x and the pull on READY_N follow the lane state and the device mode (R372). (UNVERIFIED, assumption 23) -/
def Lane.syncReady (L : Lane) : Lane :=
  let r := liveState L.state
  (L.put CFG_READY.READY r).put CFG_READY.PULL (r && mStandby ≤ L.mode && L.mode ≠ mShutdown)

/-- The state of a lane in CFG_LANE_STATES (R57). -/
def laneStateOf (n : Nat) : Fld :=
  if n = 0 then CFG_LANE_STATES.STATE_A else if n = 1 then CFG_LANE_STATES.STATE_B else CFG_LANE_STATES.STATE_C

/-- The update unit's transfer fails, with a failure code where the rule sets one; a reply goes to the management die (R440,
R454). -/
def Lane.updateFails (L : Lane) (code : Option Nat) : Lane :=
  if L.rd MBX_STATUS.UPD_STATE = 0 ∨ 4 ≤ L.rd MBX_STATUS.UPD_STATE then L else
  let K := ({ L with update := [] }.wr MBX_STATUS.UPD_STATE 5).inc MBX_CNT.UPD_FAIL
  let K := (K.event 30).raise 0x51
  let K := match code with
    | some c => K.wr MBX_STATUS.UPD_CODE c
    | none => K
  if ! K.on MBX_STATUS.LINK then K else
  match code with
  | some c => K.sendMbx (.result false c)
  | none => (K.fresh 4).2.sendMbx (.result false (K.fresh 4).1)

/-- The lane state changes; its mirror and READY_x follow, and a slot update under way fails outside READY
(R42, R57, R372, R454). -/
def Lane.setState (L : Lane) (st : Nat) : Lane :=
  let K := (L.wr CFG_MODE_STATUS.LANE_STATE st).wr (laneStateOf L.me) st
  ((K.wr (Int.known L.me) st).syncReady.updateLine).iff (st ≠ stReady) (fun J => J.updateFails none)

/-- A 32-bit register read from its fields: value, bit. -/
def packWord (fs : List (Nat × Nat)) : Nat := (fs.map (fun f => f.1 * 2 ^ f.2)).sum

/-- The word of BGR_FIRST (R299). -/
def Lane.firstWord (L : Lane) : Nat :=
  packWord [(L.rd BGR_FIRST.ID, 0), (L.rd BGR_FIRST.SEV, 8), (L.rd BGR_FIRST.FORCED, 11), (L.rd BGR_FIRST.OBSERVED, 12),
    (L.rd BGR_FIRST.ORIGIN, 13), (L.rd BGR_FIRST.TCLK, 14), (L.rd BGR_FIRST.VALID, 16), (L.rd BGR_FIRST.OVERFLOW, 17),
    (L.rd BGR_FIRST.LATER_MAX, 18), (L.rd BGR_FIRST.LATER_CNT, 24)]

/-- A new challenge is drawn (R381). (DESIGN CHOICE, assumption 6) -/
def Lane.newChallenge (L : Lane) : Lane := L.forN 4 (fun k K => K.wrFree (LCS_CHAL.CHAL k))

/-- A host die reset: every register outside the host AON region at its reset value, BGR_FIRST passed to BGR_PREV, or the HFO
failure that the AON region recorded where there is no BGR_FIRST (R408), the queues of the host die empty, the lane's life-cycle
SERVICE ended or its retirement fused, a new challenge drawn (R26, R293, R299, R240, R380, R381). A fault detected and not yet at
the collector keeps its count (R39). A failed lane stays failed until power cycle (R42). The supply monitors go on showing what
they see (R434). Memories keep their contents until WAKE initialises them (R360). (DESIGN CHOICE, assumption 4, DESIGN CHOICE,
assumption 30, DEDUCED, assumption 31) (DESIGN CHOICE, assumption 4, DESIGN CHOICE, assumption 30, DEDUCED, assumption 31) -/
def Lane.hostReset (L : Lane) : Lane :=
  let lost := L.on Int.hfoRec && ! L.on BGR_FIRST.VALID
  let first := if lost then 0x0D + 4 * 2 ^ 8 + 2 ^ 14 + 2 ^ 16 else L.firstWord
  let time := if lost then L.rd Int.hfoTick else L.rd BGR_FIRST_T.T
  let lc := if L.on LCS_STATE.RETIRE_PEND then 4 else if L.rd LCS_STATE.STATE = 3 then 2 else L.rd LCS_STATE.STATE
  let K : Lane := { L with regs := ((L.regs.resetHome .host).resetHome .net).resetHome .sa, inbox := [], log := [], couQueue := [],
                             down := [], downCredits := [], evq := [], felt0 := [], felt1 := [], feltWait0 := [], feltWait1 := [], heard := [none, none, none],
                             feltRx := [none, none], sent := none, sched := Sched.reset, debugLog := [],
                             ngbCopies := [], ngbLine := [], mbxUp := [], update := [] }
  let K := L.inbox.foldl (fun J a => if a.forced then J.inc BGR_STATE.FORCED_CNT else J.add (BGR_CNT.CNT a.src) a.count) K
  let K := (((K.wr BGR_PREV.PREV first).wr BGR_PREV_T.T time).wr LCS_STATE.STATE lc).clr Int.hfoRec
  let K := K.forN 4 (fun p J => J.iff (J.on (Int.fenced p)) (fun J => J.wr (LSC_PAIR_STATUS.STATE p) 3))
  let K := K.iff (K.strap.variant = .d) (fun J => (J.wr CFG_LANE_STATES.STATE_C 0xE).wr SSF_SEAL.PEER_C 0xE)
  let K := K.iff (L.on LCS_STATE.RETIRE_PEND) (fun J => ((J.clr Int.imageKey).clr Int.serviceKey).clr Int.laneKey)
  let K := K.iff (L.state = stFailed) (fun J => (J.wr CFG_MODE_STATUS.LANE_STATE stFailed).wr (laneStateOf J.me) stFailed)
  (K.newChallenge.wr PSC_SUPPLY.OK (L.rd PSC_SUPPLY.OK)).set Int.held

/-- A field die reset: every register of the field die outside its AON region at its reset value (R361). The supply
monitors go on showing what they see (R434). -/
def Lane.fieldReset (L : Lane) : Lane :=
  { L with regs := L.regs.resetHome .field, up := [], upQueue := [], urgent := [], recent := [], setpoints := [] }.wr FPS_STATUS.OK (L.rd FPS_STATUS.OK)

/-- A fabric port of the host die starts with a new epoch, both its sides having held the same one (R307, R433). -/
def Lane.portStart (L : Lane) (k : Nat) : Lane := L.wr (PSC_PORT.EPOCH k) (L.rd (PSC_PORT.EPOCH k) + 1)

/-- A fabric port of the field die starts with a new epoch (R307, R433). -/
def Lane.fieldPortStart (L : Lane) (k : Nat) : Lane := L.wr (FPS_PORT.EPOCH k) (L.rd (FPS_PORT.EPOCH k) + 1)

/-- The field die is reset and released again, and each of its fabric ports starts once (R307, R309, R433). -/
def Lane.fieldRestart (L : Lane) : Lane := L.fieldReset.forN 3 (fun k K => K.fieldPortStart k)

/-- Whether the outputs of a pair are held in it: from a lockstep fault until its cores start again, on the main path and after E0
for good, and while it is fenced (R217, R221, R222, R323). -/
def Lane.pairHeld (L : Lane) (p : Nat) : Bool :=
  let st := L.rd (LSC_PAIR_STATUS.STATE p)
  L.on (Int.pairStop p) || st = 3 || (st = 1 && ! L.on (Int.m5 p))

end Sys2Proof.Machine
end

