-- ==== Sys2Proof/Machine/Pwm.lean ====
section
/-! DEFINITION. The PWM unit and the STO channel of the field die: outputs, dead time, short intervals, overrides
(R135 to R160), and the STO request and its release (R274). -/

namespace Sys2Proof.Machine

/-! ### Outputs, groups and pairs (R135) -/

/-- The group of an output. -/
def groupOf (k : Nat) : Nat := if k < 48 then k / 6 else 8 + (k - 48)

/-- The outputs of a group. -/
def outsOf (g : Nat) : List Nat := if g < 8 then (List.range 6).map (fun i => 6 * g + i) else [48 + (g - 8)]

/-- The pairs of an axis group; auxiliary outputs are always independent. -/
def pairsOf (g : Nat) : List Nat := if g < 8 then [3 * g, 3 * g + 1, 3 * g + 2] else []

/-- The never-rise or never-fall code (R138). -/
def never (pos : Nat) : Bool := pos / 8 = 0xFFFFFF

/-- Whether the active COMPL of the output's pair is 1 (R140, R169): the stored bit is inverted for pairs 0 to 23. -/
def Lane.compl (L : Lane) (k : Nat) : Bool := k < 48 && ! L.on (Int.actIndep (k / 2))

/-- Whether the compares of an output are those that its pair runs from: with COMPL = 1 the odd ones have no effect (R140). -/
def Lane.compared (L : Lane) (k : Nat) : Bool := ! (k % 2 = 1 && L.compl k)

/-- The outputs of a group whose compares act. -/
def Lane.comparedOf (L : Lane) (g : Nat) : List Nat := (outsOf g).filter (fun k => L.compared k)

/-- Steps of the active period of a group. -/
def Lane.steps (L : Lane) (g : Nat) : Nat := 8 * L.rd (Int.actPeriod g)

/-- A shadow or conversion as it stood 4 ns before `b` (R141): the value before the first later change. (DEDUCED, assumption 37) -/
def Lane.asOf (L : Lane) (f : Fld) (b : Nat) : Nat :=
  ((L.recent.find? (fun (e : Nat × Nat × Nat) => e.1 == f.key && decide (b < e.2.2 + 4))).map (fun e => e.2.1)).getD (L.rd f)

/-- A shadow or conversion changes at field time `t`; changes more than 16 ns old are forgotten. -/
def Lane.wrAt (L : Lane) (f : Fld) (v t : Nat) : Lane :=
  { L with recent := L.recent.filter (fun (e : Nat × Nat × Nat) => decide (t < e.2.2 + 16)) ++ [(f.key, L.rd f, t)] }.wr f v

/-- Whether a shadow was written later than 4 ns before `b` (R141). -/
def Lane.lateWrite (L : Lane) (f : Fld) (b : Nat) : Bool :=
  L.recent.any (fun (e : Nat × Nat × Nat) => e.1 == f.key && decide (b < e.2.2 + 4))

/-- COMMIT: a group's shadows are to move at its next transfer point. While one waits a second one has no further effect,
unless the waiting one is used up at a point for which the second comes too late (R141, R160). -/
def Lane.commitGroup (L : Lane) (g t : Nat) : Lane :=
  if L.on (Int.commit g) then L.wr (Int.commitLast g) t
  else ((L.set (Int.commit g)).wr (Int.commitAt g) t).wr (Int.commitLast g) t

/-- The COMMIT taken at `b` is used up; one that came later than 4 ns before `b` waits for the next transfer point (R141, R160). -/
def Lane.useCommit (L : Lane) (g b : Nat) : Lane :=
  if b < L.rd (Int.commitLast g) + 4 then L.wr (Int.commitAt g) (L.rd (Int.commitLast g)) else L.clr (Int.commit g)

/-- A RISE shadow is written at field time `t` (R141, R143). -/
def Lane.putRise (L : Lane) (k v t : Nat) : Lane := (L.wrAt (PWM_OUT_RISE.RISE k) v t).wrAt (Int.wroteRise k) 1 t

/-- A FALL shadow is written at field time `t` (R141, R143). -/
def Lane.putFall (L : Lane) (k v t : Nat) : Lane := (L.wrAt (PWM_OUT_FALL.FALL k) v t).wrAt (Int.wroteFall k) 1 t

/-! ### Pads -/

/-- The level a gate or auxiliary pad is driven to (R156, R157, R274, R278, R429). -/
def Lane.padLevel (L : Lane) (k : Nat) : Bool :=
  let g := groupOf k
  if L.on FPS_STATUS.G_LATCHED then false
  else if k < 48 && L.on (Int.stoGroup g) then false
  else if L.rd (PWM_GROUP_STATUS.OVERRIDE g) = 1 then false
  else if L.rd (PWM_GROUP_STATUS.OVERRIDE g) = 2 then ! L.on (Int.ascPend (k / 2)) && k % 2 = 1
  else if L.rd (PWM_GROUP_STATUS.OVERRIDE g) = 3 then ! L.on (Int.ascPend (k / 2)) && k % 2 = 0
  else ! L.on (Int.holdOff g) && L.on (Int.outOn k)

/-- The instant at which outputs of an axis group last went off is kept (R90). -/
def Lane.markOff (L : Lane) (g : Nat) : Lane := if g < 8 then L.wr (Int.offAt g) L.ftb else L

/-! ### Overrides (R156, R157) -/

/-- Whether an axis holds the ASC pattern of its safe state. -/
def Lane.inAsc (L : Lane) (n : Nat) : Bool :=
  L.rd (CLE_AX_FOX_STATUS.STATE n) = 6 && L.rd (CLE_AX_FOX_STATUS.SAFE_PATTERN n) = 1

/-- The override kind a group is to have (R156). -/
def Lane.wantKind (L : Lane) (g : Nat) : Nat :=
  let st := L.rd (CLE_AX_FOX_STATUS.STATE g)
  if g < 8 && L.inAsc g then (if (L.rd (Int.ctlNow g)).testBit 6 then 3 else 2)
  else if g < 8 && (st = 6 || st = 5 || st = 1 || (st = 2 && L.rd (Int.srPulse g) = 0)) then 1
  else if ! L.on (PWM_GROUP_CTL.RUN g) || L.on Int.pwmBad || L.on Int.fieldE0 || L.on Int.fieldStop || L.rd Int.line ≠ 0 || L.on (Int.auxHeld g) then 1
  else 0

/-- The override of a group follows its causes. ASC starts with every output off for the dead time; a release of kind 1
holds the outputs at 0 until a commit is taken; an override clears CARRY (R152, R156, R157). -/
def Lane.syncOverride (L : Lane) (g : Nat) : Lane :=
  let old := L.rd (PWM_GROUP_STATUS.OVERRIDE g)
  let new := L.wantKind g
  if old = new then L else
  let K := L.wr (PWM_GROUP_STATUS.OVERRIDE g) new
  let K := if new = 0 then K.set (Int.holdOff g)
           else ((outsOf g).foldl (fun J k => J.clr (PWM_OUT_CNT.CARRY k)) K).markOff g
  (pairsOf g).foldl (fun J p => (J.put (Int.ascPend p) (2 ≤ new)).put (Int.dtBefore p) (2 ≤ new && J.rd (Int.dtPend p) ≠ 0)) K

/-- Every override follows its causes. -/
def Lane.syncOverrides (L : Lane) : Lane := L.forN 12 (fun g K => K.syncOverride g)

/-! ### STO (R274) -/

/-- The axes of a cluster. -/
def axesOf (c : Nat) : List Nat := [4 * c, 4 * c + 1, 4 * c + 2, 4 * c + 3]

/-- STO is requested for a cluster: its gate pads are low, STO_EN_N is deasserted and an ASC axis goes to all-off.
A test of the cluster under way gives way to it and is repeated at the next entry (R278). (DESIGN CHOICE, assumption 39) -/
def Lane.requestSto (L : Lane) (c : Nat) : Lane :=
  let K := (L.inc STO_CNT.STO_REQS).putBit STO_STATUS.EN_N c true
  let K := K.clr (Int.stoRelAt c)
  (axesOf c).foldl (fun J n =>
    let J := ((J.set (Int.stoGroup n)).markOff n).clr (Int.stopping n)
    if J.inAsc n then (J.wr (CLE_AX_FOX_STATUS.SAFE_PATTERN n) 2).syncOverride n else J) (K.putBit Int.stoTestDue c false)

/-- Whether every axis of a cluster is all-off (R122, R274). (DEDUCED, assumption 29) -/
def Lane.clusterOff (L : Lane) (c : Nat) : Bool :=
  (axesOf c).all (fun n => ! L.on (CLE_AX_STATUS.RUNNING n) && ! L.on (Int.stopping n) && ! L.inAsc n)

/-- Whether STO stands on a cluster in full. -/
def Lane.stoHolds (L : Lane) (c : Nat) : Bool :=
  L.bitOf STO_STATUS.EN_N c && (axesOf c).all (fun n => L.on (Int.stoGroup n))

/-- E5: once both clusters of an exited lane have STO, the lane is EXITED (R22, R25). (DEDUCED, assumption 29) -/
def Lane.checkE5 (L : Lane) : Lane :=
  if L.on Int.e0 && L.on Int.fieldE0 && ! L.on Int.e5 && L.stoHolds 0 && L.stoHolds 1 then
    (L.set Int.e5).setState stExited
  else L

/-- The last running axis of a cluster reaching all-off requests STO (R274). -/
def Lane.checkCluster (L : Lane) (c : Nat) : Lane :=
  if L.clusterOff c && ! L.stoHolds c then (L.requestSto c).checkE5 else L.checkE5

/-- A stopping axis whose group override kind 1 has taken is all-off, and its cluster is looked at (R274). -/
def Lane.settleStopping (L : Lane) : Lane :=
  L.forN 8 (fun n K => K.iff (K.on (Int.stopping n) && K.rd (PWM_GROUP_STATUS.OVERRIDE n) = 1) (fun J => (J.clr (Int.stopping n)).checkCluster (n / 4)))

/-- U0 and U1: an axis of the cluster starts running, with no trip latched, no STO parity error and no STO request of the
line standing (R274, R284). -/
def Lane.releaseSto (L : Lane) (c : Nat) : Lane :=
  if ! L.bitOf STO_STATUS.EN_N c || L.bitOf STO_STATUS.TRIP c || L.on Int.stoBad || L.rd Int.line = 2 then L
  else (L.putBit STO_STATUS.EN_N c false).wr (Int.stoRelAt c) L.ftb

/-! ### Field S4 sources (R296) -/

/-- One real occurrence of a field source: it is counted and sent, and an S4 source forces every gate output off through
the urgent STOP path without waiting for the host (R292, R296). (DESIGN CHOICE, assumption 28) -/
def Lane.fieldRaise (L : Lane) (src : Nat) : Lane :=
  let K := L.fieldCount src
  if L.rd (FBG_SEV.SEV src) = 4 then
    (((K.set FBG_STATUS.STOP_SENT).set Int.fieldStop).syncOverrides).settleStopping
  else K

/-! ### Short intervals (R150 to R152) -/

/-- The dead time of a pair begins; the high side (1) or the low side (2) turns on when it ends (R140). -/
def Lane.startDt (L : Lane) (p side : Nat) : Lane := (L.wr (Int.dtPend p) side).clr (Int.dtBefore p)

/-- The evaluation of the interval that starts now on output `k`, `c` being its reference length: whether it is emitted,
and the lane with the counters, CARRY and the moved turn-off edge. -/
def Lane.judgeInterval (L : Lane) (k c : Nat) : Bool × Lane :=
  let e := if L.compl k then k / 2 * 2 else k
  let dt := if L.compl k then 8 * L.rd (Int.actDt (k / 2)) else 0
  let least := dt + 8 * L.rd (PWM_OUT_CFG.MIN_PULSE e)
  let mode := L.rd (PWM_OUT_CFG.MINPULSE_MODE e)
  let carry := if mode = 2 then L.rd (PWM_OUT_CNT.CARRY k) else 0
  if least ≤ c + carry then
    (true, if carry = 0 then L else ((L.set (Int.moved k)).wr (Int.movedBy k) carry).clr (PWM_OUT_CNT.CARRY k))
  else
    let K := (L.inc (PWM_OUT_CNT.SHORT_CNT k)).fieldRaise 0x73
    if mode = 1 then (true, (K.set (Int.moved k)).wr (Int.movedBy k) (least - c))
    else if mode = 2 then (false, K.sat (PWM_OUT_CNT.CARRY k) (carry + c))
    else (false, K)

/-- As judgeInterval; an interval that has no end in sight is not short. -/
def Lane.judge (L : Lane) (k : Nat) (c : Option Nat) : Bool × Lane := match c with
  | none => (true, L)
  | some n => L.judgeInterval k n

/-- The reference level of an output changes, `c` being the length of the interval that starts (R136, R140, R150,
R151). -/
def Lane.setRef (L : Lane) (k : Nat) (b : Bool) (c : Option Nat) : Lane :=
  if ! L.compared k || L.on (Int.refLvl k) = b then L else
  let K := L.put (Int.refLvl k) b
  if K.compl k then
    -- `up` starts its interval, `other` ends its own
    let up := if b then k else k + 1
    let other := if b then k + 1 else k
    if K.on (Int.supp other) then K.clr (Int.supp other)
    else
      let j := K.judge up c
      if ! j.1 then j.2.set (Int.supp up)
      else if j.2.on (Int.moved other) then j.2
      else ((j.2.clr (Int.outOn other)).markOff (groupOf k)).startDt (k / 2) (if b then 1 else 2)
  else if b then
    let j := K.judge k c
    if j.1 then j.2.set (Int.outOn k) else j.2.set (Int.supp k)
  else if K.on (Int.supp k) then K.clr (Int.supp k)
  else if K.on (Int.moved k) then K
  else (K.clr (Int.outOn k)).markOff (groupOf k)

/-- The moved turn-off edge of an output acts, once its scheduled turn-off has passed; it does not where the other side's
interval is dropped, through which this side stays on (R151). -/
def Lane.movedOff (L : Lane) (k : Nat) : Lane :=
  if ! L.on (Int.moved k) then L else
  if L.compl k && L.on (Int.supp (if k % 2 = 0 then k + 1 else k - 1)) then (L.clr (Int.moved k)).clr (Int.movedBy k)
  else if L.compl k then
    let wantsOff := if k % 2 = 0 then ! L.on (Int.refLvl k) else L.on (Int.refLvl (k - 1))
    if wantsOff then
      ((((L.clr (Int.moved k)).clr (Int.movedBy k)).clr (Int.outOn k)).markOff (groupOf k)).startDt (k / 2) (if k % 2 = 0 then 2 else 1)
    else L
  else if L.on (Int.refLvl k) then L
  else (((L.clr (Int.moved k)).clr (Int.movedBy k)).clr (Int.outOn k)).markOff (groupOf k)

/-- The reference length from a position to the ending compare (R150): none where that compare does not act. -/
def Lane.lengthTo (L : Lane) (g start stop : Nat) : Option Nat :=
  if never stop || L.steps g ≤ stop then none
  else some (if start < stop then stop - start else stop + L.steps g - start)

/-- The compare of an output acts (R136, R138, R139): `rise` tells which. -/
def Lane.compareActs (L : Lane) (k : Nat) (rise : Bool) : Lane :=
  let g := groupOf k
  let r := L.rd (Int.actRise k)
  let f := L.rd (Int.actFall k)
  if never r || never f then L
  else if r = f then
    (if rise && decide (r < L.steps g) then (L.setRef k true (some 0)).setRef k false (L.lengthTo g f r) else L)
  else if rise then (if r < L.steps g then L.setRef k true (L.lengthTo g r f) else L)
  else if f < L.steps g then L.setRef k false (L.lengthTo g f r) else L

/-- Never codes govern from the transfer that activates them, and clear CARRY (R138, R152, R160). -/
def Lane.neverCodes (L : Lane) (k : Nat) : Lane :=
  if ! L.compared k then L
  else if never (L.rd (Int.actRise k)) then (L.clr (PWM_OUT_CNT.CARRY k)).setRef k false none
  else if never (L.rd (Int.actFall k)) then (L.clr (PWM_OUT_CNT.CARRY k)).setRef k true none
  else L

/-- COMPL of a pair has become `on` (R140): independent outputs follow their own reference levels at once; of a complementary
pair the side that is not to be on goes off, and the other one turns on after DT unless it is on. -/
def Lane.changeCompl (L : Lane) (p : Nat) (on : Bool) : Lane :=
  let hi := 2 * p
  let lo := hi + 1
  let K := [Int.supp hi, Int.supp lo, Int.moved hi, Int.moved lo, Int.movedBy hi, Int.movedBy lo, Int.dtPend p, Int.dtBefore p].foldl (fun J f => J.clr f) L
  if ! on then ((K.put (Int.outOn hi) (K.on (Int.refLvl hi))).put (Int.outOn lo) (K.on (Int.refLvl lo))).markOff (groupOf hi)
  else
    let s := K.on (Int.refLvl hi)
    let K := (K.clr (Int.outOn (if s then lo else hi))).markOff (groupOf hi)
    if K.on (Int.outOn (if s then hi else lo)) then K else K.startDt p (if s then 1 else 2)

/-- Whether a compare position lies at or beyond the active period (R139). -/
def Lane.isBeyond (L : Lane) (g pos : Nat) : Bool := ! never pos && decide (L.steps g ≤ pos)

/-- One compare lies at or beyond the period (R139). -/
def Lane.beyond (L : Lane) (g pos : Nat) : Lane :=
  if L.isBeyond g pos then
    ((L.set (PWM_GROUP_STATUS.EDGE_BEYOND g)).inc (PWM_GROUP_CNT.BEYOND_CNT g)).fieldRaise 0x72
  else L

/-! ### U2 (R274) -/

/-- U2: a commit of a group taken at or after U1 + EN_SETTLE frees its pads (R274). -/
def Lane.freeGroup (L : Lane) (g : Nat) : Lane :=
  if g < 8 && ! L.bitOf STO_STATUS.EN_N (g / 4) && L.rd (Int.stoRelAt (g / 4)) + 1000 * L.rd STO_CFG.EN_SETTLE ≤ L.ftb then
    L.clr (Int.stoGroup g)
  else L

end Sys2Proof.Machine
end

