-- ==== Sys2Proof/Machine/Axis.lean ====
section
/-! DEFINITION. The axis of the field die as its blocks share it: coefficients and maps (R74 to R78), the safe state and
its pattern (R121, R122), enabling, stopping and restarting (R87, R107), and the field side of a lane exit (R22). -/

namespace Sys2Proof.Machine

/-! ### Coefficients and maps -/

/-- Coefficient `k` of the active bank, as a word (R77). -/
def Lane.coef (L : Lane) (n k : Nat) : Nat := L.rd (CLE_COEF.K n (L.rd (CLE_AX_BANK.BANK_ACTIVE n)) k)

/-- Coefficient `k` of the active bank, signed. -/
def Lane.coefI (L : Lane) (n k : Nat) : Int := toInt 32 (L.coef n k)

/-- The grid coordinate of a current (R75): the lower index, the fraction in Q1.31, and whether the clamp cut. -/
def Lane.gridAt (L : Lane) (n : Nat) (i : Int) (lo inv : Nat) : Nat × Int × Bool :=
  let x := mulK 75 (i - L.coefI n lo) (L.coefI n inv)
  let c := clampI 0 (31 * 2 ^ 31) x
  let i0 := min (c / 2 ^ 31) 30
  (i0.toNat, c - i0 * 2 ^ 31, x ≠ c)

/-- PSI of quantity `q` at a current, interpolated bilinearly (R75). -/
def Lane.psiAt (L : Lane) (n q : Nat) (d iq : Int) : Int :=
  let x := L.gridAt n d 21 22
  let y := L.gridAt n iq 23 24
  let p (i j : Nat) : Int := toInt 32 (L.rd (CLE_MAP.PSI n q (32 * j + i)))
  let w (s t v : Int) : Int := mulQ 75 (mulQ 75 s t) v
  let fx := x.2.1
  let fy := y.2.1
  satQ (w (2 ^ 31 - fx) (2 ^ 31 - fy) (p x.1 y.1) + w fx (2 ^ 31 - fy) (p (x.1 + 1) y.1) +
    w (2 ^ 31 - fx) fy (p x.1 (y.1 + 1)) + w fx fy (p (x.1 + 1) (y.1 + 1)))

/-- Whether either clamp of the interpolation cuts (R75). -/
def Lane.mapCut (L : Lane) (n : Nat) (d iq : Int) : Bool := (L.gridAt n d 21 22).2.2 || (L.gridAt n iq 23 24).2.2

/-- PSI_d(0,0). -/
def Lane.psi0 (L : Lane) (n : Nat) : Int := L.psiAt n 0 0 0

/-- The rail an axis reads (R216). -/
def Lane.railOf (L : Lane) (n : Nat) : Nat := slice (2 * n) 2 (L.rd DCL_AXIS_MAP.RAIL_OF)

/-- u_dc: the latest conversion of the axis's rail, per unit of the rail input full scale (R69, R196). -/
def Lane.udc (L : Lane) (n : Nat) : Int := satQ (nearest 196 ((L.rd (Int.railCode (L.railOf n)) : Int) * 2 ^ 31) 16383)

/-- A rail sample `u` over DC_NUM, taken as 0 while DC_NUM is 0 (R121). -/
def Lane.overNum (L : Lane) (n : Nat) (u : Int) : Int :=
  if L.coef n 6 = 0 then 0 else divRound 121 (u * 2 ^ 24) (L.coef n 6)

/-- u_dc / DC_NUM (R121). (DESIGN CHOICE, assumption 34, DESIGN CHOICE, assumption 111) -/
def Lane.uNum (L : Lane) (n : Nat) : Int := L.overNum n (L.udc n)

/-- DEC_K × |ω| × PSI_d(0,0) (R116, R121). -/
def Lane.backEmf (L : Lane) (n : Nat) (w : Int) : Int := mulK 121 (mulQ 121 w.natAbs (L.psi0 n)) (L.coefI n 5)

/-- ZC_MARGIN × u_dc / DC_NUM (R116, R121). -/
def Lane.zcBound (L : Lane) (n : Nat) : Int := mulQ 121 (L.uNum n) (L.coefI n 61)

/-- The condition of R121 that selects ASC at speed `w`. (DEDUCED, assumption 36) -/
def Lane.ascCond (L : Lane) (n : Nat) (w : Int) : Bool :=
  decide (L.coefI n 59 ≤ w.natAbs) || decide (L.zcBound n ≤ L.backEmf n w)

/-- The speed ω_s of R121. (DESIGN CHOICE, assumption 110) -/
def Lane.safeSpeed (L : Lane) (n : Nat) : Int :=
  let st := L.rd (CLE_AX_FOX_STATUS.STATE n)
  if st = 4 then L.rdI (CLE_AX_FOX.OMEGA n)
  else if st = 3 then L.rdI (FBI_AX.SPEED n)
  else if st = 5 || (st = 1 && L.rd (Int.acqRun n) ≠ 0) then toInt 32 (L.rd (Int.lastSpeed n))
  else if L.on (Int.everLocked n) then toInt 32 (L.rd (Int.lastSpeed n)) else 0

/-! ### Running -/

/-- P_meas: the Hall count, or the observer's angle count, whose unit the spec leaves open (R85). -/
def Lane.positionOf (L : Lane) (n : Nat) : Int × Lane :=
  if L.on (CLE_AX_CTL.POS_SRC n) then (toInt 32 (L.fresh 32).1, (L.fresh 32).2) else (L.rdI (FBI_AX.POS n), L)

/-- Whether the axis may run: enabled, permitted and not in its safe state (R87). -/
def Lane.mayRun (L : Lane) (n : Nat) : Bool :=
  L.on (CLE_AX_CTL.ENABLE n) && L.bitOf Int.gatePerm n && L.rd (CLE_AX_FOX_STATUS.STATE n) ≠ 6

/-- The loops of an axis are cleared: integrators, interpolation and Calender acceleration (R87), the field-weakening state
(R124) and CARRY of its outputs (R152). (DESIGN CHOICE, assumption 108) -/
def Lane.clearLoops (L : Lane) (n : Nat) : Lane :=
  let K := [Int.accD n, Int.accQ n, Int.accW n, Int.limD n, Int.limQ n, Int.limIq n, Int.fw n, Int.spdCnt n, Int.posCnt n,
    Int.spAcc n, Int.spHave n, Int.magM n, Int.mAl n, Int.mBe n, Int.idRef n, Int.iqRef n, Int.tCmd n,
    CLE_AX_VAL.A_REF n, CLE_AX_STATUS.RAMP_ACTIVE n, CLE_AX_STATUS.SP_LOST n].foldl (fun J f => J.clr f) L
  (outsOf n).foldl (fun J k => J.clr (PWM_OUT_CNT.CARRY k)) K

/-- A bank swap takes effect (R78, R97). -/
def Lane.swapBank (L : Lane) (n b : Nat) : Lane :=
  let K := L.clr (CLE_AX_BANK.PENDING n)
  if K.rd (CLE_AX_BANK.BANK_ACTIVE n) = b then K
  else ((K.wr (CLE_AX_BANK.BANK_ACTIVE n) b).set (CLE_AX_BANK.SWAPPED n)).inc (CLE_AX_BANK.SWAP_COUNT n)

/-- A pending swap takes effect when the axis does not run (R78). -/
def Lane.settleBank (L : Lane) (n : Nat) : Lane :=
  if L.on (CLE_AX_BANK.PENDING n) then L.swapBank n (L.rd (Int.bankTarget n)) else L

/-- The CLE writes the never-rise code to every output of the axis and requests the commit (R87). (DEDUCED, assumption 36) -/
def Lane.writeNever (L : Lane) (n : Nat) : Lane :=
  let K := (outsOf n).foldl (fun J k => J.putRise k 0x7FFFFF8 J.ftb) L
  K.commitGroup n K.ftb

/-- What every end of running shares (R78, R87, R121). -/
def Lane.endRun (L : Lane) (n : Nat) : Lane :=
  let K := (L.clr (CLE_AX_STATUS.RUNNING n)).clr (CLE_AX_FOX_STATUS.LOCKED n)
  let K := ((K.wr (CLE_AX_FOX_STATUS.ANGLE_SRC n) 0).clr (CLE_AX_FOX_STATUS.FW_ACTIVE n)).clr (CLE_AX_FOX_STATUS.FW_LIMIT n)
  let K := K.putBit DCL_AXIS_STATUS.LOSS_INJ n false
  ((K.wr (Int.srPulse n) 0).clearLoops n).settleBank n

/-- The speed at which TRACK or HALL is left is kept as the last valid speed (R121). (DESIGN CHOICE, assumption 110) -/
def Lane.keepSpeed (L : Lane) (n : Nat) : Lane := match L.rd (CLE_AX_FOX_STATUS.STATE n) with
  | 4 => L.wr (Int.lastSpeed n) (L.rd (CLE_AX_FOX.OMEGA n))
  | 3 => L.wr (Int.lastSpeed n) (L.rd (FBI_AX.SPEED n))
  | _ => L

/-- HELD: enabled without gate permission (R87). -/
def Lane.syncHeld (L : Lane) (n : Nat) : Lane :=
  L.put (CLE_AX_STATUS.HELD n) (L.on (CLE_AX_CTL.ENABLE n) && ! L.bitOf Int.gatePerm n)

/-- The axis stops without a safe-state cause (R87, R107, R274). (DEDUCED, assumption 36) -/
def Lane.stopAxis (L : Lane) (n : Nat) : Lane :=
  if ! L.on (CLE_AX_STATUS.RUNNING n) then L else
  let K := (((L.keepSpeed n).endRun n).wr (CLE_AX_FOX_STATUS.STATE n) 0).writeNever n
  let K := K.syncOverride n
  if K.rd (PWM_GROUP_STATUS.OVERRIDE n) = 1 then K.checkCluster (n / 4) else K.set (Int.stopping n)

/-- The axis enters its safe state, with the pattern of R121 and the isolation of R122, and the entry is reported with its
cause (R107, R302). (DEDUCED, assumption 32) -/
def Lane.enterSafe (L : Lane) (n cause : Nat) : Lane :=
  if L.rd (CLE_AX_FOX_STATUS.STATE n) = 6 then L else
  let asc := L.ascCond n (L.safeSpeed n) && ! L.stoHolds (n / 4)
  let K := ((L.keepSpeed n).wr (CLE_AX_FOX_STATUS.STATE n) 6).wr (CLE_AX_FOX_STATUS.SAFE_PATTERN n) (if asc then 1 else 2)
  let K := (((K.endRun n).set (Int.isoOut n)).clr (Int.isoWait n)).clr (Int.safeDone n)
  let K := ((K.clr (Int.stopping n)).syncHeld n).clr (Int.acqHave n)
  let K := ((K.syncOverride n).fieldEvent 3 n 0 cause)
  K.checkCluster (n / 4)

/-- The stored FOX_CTL takes effect (R130, R131). -/
def Lane.loadFoxCtl (L : Lane) (n : Nat) : Lane :=
    let ctl := packWord [(L.rd (CLE_AX_FOX_CTL.ANGLE_MODE n), 0), (L.rd (CLE_AX_FOX_CTL.HALLS_FITTED n), 2),
      (L.rd (CLE_AX_FOX_CTL.FW_EN n), 3), (L.rd (CLE_AX_FOX_CTL.KE_EN n), 4), (L.rd (CLE_AX_FOX_CTL.KE_HIGH_ACT n), 5),
      (L.rd (CLE_AX_FOX_CTL.ASC_SIDE n), 6), (L.rd (CLE_AX_FOX_CTL.START_MODE n), 8), (L.rd (CLE_AX_FOX_CTL.SR_PULSE n), 16)]
    L.wr (Int.ctlNow n) ctl

/-- RUNNING follows the run conditions of R87; at a rise FOX_CTL takes effect and what counts from the rise is cleared
(R80, R84, R106, R107, R120, R130, R132). The Fox acts on RUNNING at the axis's next sample. -/
def Lane.syncRun (L : Lane) (n : Nat) : Lane :=
  if L.mayRun n && ! L.on (CLE_AX_STATUS.RUNNING n) then
    let K := ((L.set (CLE_AX_STATUS.RUNNING n)).clr (CLE_AX_STATUS.HELD n)).loadFoxCtl n
    let K := [Int.everLocked n, Int.srTry n, Int.hallBad n, Int.resRun n, Int.stopping n, Int.fuseRun n, Int.spdCnt n, Int.posCnt n,
      CLE_AX_FOX_STATUS.HALL_DROPPED n, CLE_AX_FOX_STATUS.KE_VALID n].foldl (fun J f => J.clr f) K
    let K := (K.wr (Int.fw n) (K.coef n 12)).wr (Int.runAt n) K.ftb
    let r := K.positionOf n
    (((r.2.wrI (Int.posHold n) r.1).wrI (Int.posStart n) r.1).syncOverride n).releaseSto (n / 4)
  else if ! L.mayRun n && L.on (CLE_AX_STATUS.RUNNING n) then L.stopAxis n
  else L

/-- A write of ENABLE (R87, R107, R122, R199, R202, R499): a rise leaves a finished safe state and starts the settle time; while
OV3 is taken on its rail the axis stays in or enters SAFE; clearing ENABLE is a safe-state cause. (DEDUCED, assumption 36) -/
def Lane.writeEnable (L : Lane) (n : Nat) (on : Bool) : Lane :=
  if L.on (CLE_AX_CTL.ENABLE n) = on then L
  else if ! on then ((L.clr (CLE_AX_CTL.ENABLE n)).enterSafe n 0).syncHeld n
  else
    let K := (L.set (CLE_AX_CTL.ENABLE n)).putBit DCL_AXIS_STATUS.OV3_SAFE n false
    let safe := K.rd (CLE_AX_FOX_STATUS.STATE n) = 6
    let ov := K.on (DCL_RAIL_STATUS.OV3_ACT (K.railOf n))
    if safe && (! K.on (Int.safeDone n) || ov) then K.syncHeld n
    else if ov then ((K.putBit DCL_AXIS_STATUS.OV3_SAFE n true).enterSafe n 0x82).syncHeld n
    else
      let wait := safe || ! K.on (Int.enSeen n) || K.on (Int.isoOut n)
      let K := if safe then (K.wr (CLE_AX_FOX_STATUS.STATE n) 0).wr (CLE_AX_FOX_STATUS.SAFE_PATTERN n) 0 else K
      let K := (K.set (Int.enSeen n)).clr (Int.isoOut n)
      let K := K.iff wait (fun J => J.set (Int.isoWait n))
      ((K.syncOverride n).syncRun n).syncHeld n

/-- The gate permission at the field die changes (R87). -/
def Lane.setGatePerm (L : Lane) (mask : Nat) : Lane :=
  (L.wr Int.gatePerm mask).forN 8 (fun n K => (K.syncRun n).syncHeld n)

/-- Every axis enters its safe state for one cause. -/
def Lane.allSafe (L : Lane) (cause : Nat) : Lane := L.forN 8 (fun n K => K.enterSafe n cause)

/-! ### Lane exit on the field die -/

/-- ACTIVE of a chopper follows SHARED and the lease; a fall discards the counts, a rise starts them at the next period
(R205, R206, R209). -/
def Lane.syncActive (L : Lane) (c : Nat) : Lane :=
  let on := ! L.on (DCL_CH_CFG.SHARED c) || L.on Int.saDriveOn
  if L.on (DCL_CH_STATUS.ACTIVE c) = on then L
  else (((L.put (DCL_CH_STATUS.ACTIVE c) on).clr (Int.chOpenRun c)).clr (Int.chOnRun c)).put (Int.chArm c) on

/-- The SA drive enable at the field die changes (R205, R244). -/
def Lane.setSaDrive (L : Lane) (on : Bool) : Lane := (L.put Int.saDriveOn on).forN 4 (fun c K => K.syncActive c)

/-- The level of SA[m] at its pad, none while the lane does not drive it (R168, R244, R245): an output that may follow takes the
waveform of the auxiliary output that routes to it, any other the level the host die sent. Of several that route to it the first
governs. (DESIGN CHOICE, assumption 114) -/
def Lane.saPad (L : Lane) (m : Nat) : Option Bool :=
  if ! L.on Int.saDriveOn then none
  else match (if L.bitOf Int.saFollow m then (List.range 4).find? (fun c => L.rd (PWM_OUT_CFG.SA_ROUTE (48 + c)) = m + 1) else none) with
    | some c => some (L.padLevel (48 + c))
    | none => some (L.bitOf Int.saLevels m)

/-- E1 of a lane exit on the field die: gate outputs off or to their ASC pattern, SA outputs floating, phase isolation at
its isolating level; E5 follows where nothing holds ASC (R22, R156, R309). E0 of an exit that the field die latches itself is recorded in
lane time (R22). -/
def Lane.fieldExit (L : Lane) (cause : Nat) : Lane :=
  if L.on Int.fieldE0 then L.checkE5 else
  let K := (((L.set Int.fieldE0).wr Int.fieldE0Time (if L.on Int.e0 then L.rd Int.e0Time else L.now)).setSaDrive false).syncOverrides
  let K := (K.allSafe cause).forN 8 (fun n J => J.set (Int.isoOut n))
  ((K.checkCluster 0).checkCluster 1).checkE5

end Sys2Proof.Machine
end

