-- ==== Sys2Proof/Machine/RegAccess.lean ====
section
/-! DEFINITION. Register words from their fields: the fields at an address, the word a read gives, the word a write
stores, and the clamps of R9 (R4, R6, R8, R9). -/

namespace Sys2Proof.Machine

/-- Whether an offset is reached by the strides of a row. -/
def indexAt : List (Nat × Nat) → Nat → Bool
  | [], d => d = 0
  | (st, n) :: r, d => decide (d / st < n) && indexAt r (d % st)

/-- The field of a row whose register begins at address `c`, if there is one. -/
def Row.at? (r : Row) (c : Nat) : Option (Row × Fld) :=
  if r.fld.addr ≤ c ∧ indexAt r.dims (c - r.fld.addr) then some (r, { r.fld with addr := c }) else none

/-- Bit position of a field in the address space. -/
def Fld.pos (f : Fld) : Nat := 8 * f.addr + f.lsb

/-- The severity nibbles of a BGR_SEV or FBG_SEV word. -/
def sevSlots (a : Nat) : List (Row × Fld) :=
  let base := if 0x40000100 ≤ a ∧ a < 0x40000180 then some (a - 0x40000100, false)
    else if 0x60000100 ≤ a ∧ a < 0x60000180 then some (a - 0x60000100, true) else none
  match base with
  | none => []
  | some (o, field) =>
    (List.range 8).map (fun j =>
      let k := 8 * (o / 4) + j
      let f := if field then FBG_SEV.SEV k else BGR_SEV.SEV k (sourceSeverity k)
      (⟨f, .ro, .any, []⟩, f))

/-- The fields with bits in the word at address `a`. -/
def slotsAt (a : Nat) : List (Row × Fld) :=
  (laneRows.flatMap (fun r => [a - 4, a, a + 1, a + 2, a + 3].filterMap r.at?)).filter
    (fun (x : Row × Fld) => decide (x.2.pos < 8 * a + 32) && decide (8 * a < x.2.pos + x.2.width)) ++ sevSlots a

/-- The bits of a field's value in the word at `a`. -/
def Fld.place (f : Fld) (a v : Nat) : Nat :=
  (if 8 * a ≤ f.pos then v * 2 ^ (f.pos - 8 * a) else v / 2 ^ (8 * a - f.pos)) % 2 ^ 32

/-- The value of a field after the word `data` is written at `a`, its value before being `v`. -/
def Fld.take (f : Fld) (a v data : Nat) : Nat :=
  if 8 * a ≤ f.pos then
    let n := min f.width (32 - (f.pos - 8 * a))
    v - v % 2 ^ n + slice (f.pos - 8 * a) n data
  else
    let k := 8 * a - f.pos
    let n := min (f.width - k) 32
    v - slice k n v * 2 ^ k + slice 0 n data * 2 ^ k

/-- Whether a field is stored inverted: COMPL of the pairs 0 to 23, whose reset is 1 (R169). (DESIGN CHOICE, assumption 2) -/
def Fld.inverted (f : Fld) : Bool := (List.range 24).any (fun k => f = PWM_PAIR_CFG.COMPL k)

/-- Earlier faults of the pair within the window of 1,977,600 LFO ticks (R223). (DESIGN CHOICE, assumption 24, DEDUCED, assumption 57) -/
def Lane.winEarlier (L : Lane) (p : Nat) : Nat :=
  ((List.range (L.rd (Int.winN p))).filter (fun i => decide (L.lfo ≤ L.rd (Int.winTick p i) + 1977600))).length

/-- The pair whose WIN_COUNT a field is. (DESIGN CHOICE, assumption 24) -/
def winCountOf (f : Fld) : Option Nat := (List.range 4).find? (fun p => f = LSC_PAIR_STATUS.WIN_COUNT p)

/-- The value of a field as its register shows it: LANE_ID and LANES_FITTED come from the ball region (R14), WIN_COUNT counts the
faults still in the window (R223), HOLD_LEFT is what the hold of R405 has left on a lane time that runs on the HFO, SINCE_TEST
counts the hours since the older of both clusters' passed tests (R286). (DESIGN CHOICE, assumption 2, DESIGN CHOICE, assumption
24, DEDUCED, assumption 55) (DESIGN CHOICE, assumption 2, DESIGN CHOICE, assumption 24, DEDUCED, assumption 55) -/
def Lane.shown (L : Lane) (f : Fld) : Nat :=
  if f.inverted then 1 - L.rd f
  else if f = CFG_TOPOLOGY.LANE_ID then L.me
  else if f = CFG_TOPOLOGY.LANES_FITTED then L.strap.variant.mask
  else if f = CKG_STATUS.HOLD_LEFT then L.rd f - (L.now - L.rd Int.xfAt) / 1000000
  else if f = STO_STATUS.SINCE_TEST then min 255 ((L.ftb - min (L.rd (Int.stoPassed 0)) (L.rd (Int.stoPassed 1))) / 3600000000000)
  else match winCountOf f with
    | some p => min 3 (L.winEarlier p)
    | none => L.rd f

/-- The lane with a value as a register shows it stored. -/
def Lane.store (L : Lane) (f : Fld) (v : Nat) : Lane := L.wr f (if f.inverted then 1 - v % 2 else v)

/-- The word stored at a register address; an address without a field reads 0 (R6), and so does a WO field (R8). -/
def Lane.word (L : Lane) (a : Nat) : Nat :=
  ((slotsAt a).map (fun (x : Row × Fld) => if x.1.acc = .wo then 0 else x.2.place a (L.shown x.2))).sum

/-- The low words whose read captures the high word after it, with the place of the copy: the energy counters of a rail (R214),
CFG_MODE_TIME (R58), the times of BGR_FIRST, BGR_PREV and BGR_LOG (R299), BST_TICK (R396). -/
def lowWords : List (Nat × Fld) :=
  (List.range 4).flatMap (fun r => [(0x60090018 + 0x100 * r, Int.eInHi r), (0x60090020 + 0x100 * r, Int.eOutHi r)]) ++
    [(CFG_MODE_TIME.T.addr, Int.hiCopy 0), (BGR_FIRST_T.T.addr, Int.hiCopy 1), (BGR_PREV_T.T.addr, Int.hiCopy 2),
     (BGR_LOG_T.T.addr, Int.hiCopy 3), (BST_TICK.TICK.addr, Int.hiCopy 4)]

/-- The word that a read of a register returns: a high word reads as the read of its low word captured it (R58, R214, R299, R396).
(DEDUCED, assumption 89) -/
def Lane.readWord (L : Lane) (a : Nat) : Nat := match lowWords.find? (fun e => e.1 + 4 = a) with
  | some e => L.rd e.2
  | none => L.word a

/-- What a read of a register changes: a low word captures its high word (R58, R214, R299, R396). (DEDUCED, assumption 89) -/
def Lane.readEffect (L : Lane) (a : Nat) : Lane := match mapGet lowWords a with
  | some f => L.wr f (L.word (a + 4))
  | none => L

/-- The level of the READY_N ball: low while at least one fitted lane pulls it down (R12, R372). (UNVERIFIED, assumption 23) -/
def State.readyLevel (s : State) : Nat := bit (s.variant.list.all (fun l => ! (s.lane l).on CFG_READY.PULL))

/-- A core of a lane reads a register of its host die: the word, and the state after the read; every host die reads the one ball's level
(R8, R12, R58, R299, R372). (UNVERIFIED, assumption 23, DEDUCED, assumption 89) -/
def State.readHost (s : State) (l : LaneId) (a : Nat) : Nat × State :=
  (((s.lane l).wr CFG_READY.READY_N_LVL s.readyLevel).readWord a, s.onLane l (fun L => L.readEffect a))

/-- A word put back as it was saved, unclamped (R432). -/
def Lane.putWord (L : Lane) (a data : Nat) : Lane :=
  (slotsAt a).foldl (fun K (x : Row × Fld) => K.store x.2 (x.2.take a (K.shown x.2) data)) L

/-- The index of a field of a row with one index. -/
def Row.index (r : Row) (f : Fld) : Nat := match r.dims with
  | (st, _) :: _ => (f.addr - r.fld.addr) / st
  | [] => 0

/-- The least multiple of 10 µs at least twice the frame length and twice the largest CYCLE (R265). -/
def Lane.leaseFloor (L : Lane) : Nat :=
  let c := ((List.range 8).map (fun m => L.rd (NGB_MODE.CYCLE m))).foldl max 0
  (2 * max (L.rd LSC_AGR_CFG.FRAME) c + 9) / 10

/-- The largest value of NGB ACT_OFS (R357). -/
def Lane.actOfsMax (L : Lane) (m : Nat) : Nat := L.rd (NGB_MODE.CYCLE m) - 1

/-- The legal value a written value becomes (R9).-/
def Lane.clampValue (L : Lane) (r : Row) (f : Fld) (v : Nat) : Nat :=
  let i := r.index f
  match r.clamp with
  | .any => v
  | .range lo hi => clampN lo hi v
  | .srange lo hi => ofInt f.width (clampI lo hi (toInt f.width v))
  | .accWin => min 255 (max v (L.rd NGB_TIMING.TX_WIN + L.rd NGB_TIMING.GUARD + 11))
  | .actOfs => min v (L.actOfsMax i)
  | .ainHigh => clampN (L.rd (CLE_AIN_WIRE.LOW i)) 5000 v
  | .angleMode =>
    if ! L.on (CLE_AX_FOX_CTL.HALLS_FITTED i) && v ≠ 1 then 1 else min v 2
  | .applyOfs => clampN 31 (max 31 (min 400 (L.rd LSC_AGR_CFG.FRAME - 20))) v
  | .canDlc => if L.on (CAN_TXB.FDF i) then v else min v 8
  | .bankReq => if v = 1 then 0 else v
  | .compl => if i < 24 then v else 0
  | .dsjw => clampN 1 (max 1 (L.rd CAN_DBT.DTSEG2)) v
  | .nsjw => clampN 1 (max 1 (L.rd CAN_NBT.NTSEG2)) v
  | .dslpEn => if f.addr < 0x60000000 ∧ i ≠ 3 then v else 0
  | .freezeEn => if L.rd Int.sealSeen = 7 then v else 1
  | .lanesFitted => v &&& L.strap.variant.mask
  | .leasePeriod => clampN 100 2000 (max v L.leaseFloor)
  | .ngbTarget => if 1 ≤ v ∧ v ≤ 7 then 0 else v
  | .packagePos => min v (L.rd CFG_TOPOLOGY.PACKAGES - 1)
  | .pinMode => if v = 3 ∧ i % 2 = 1 then 2 else v
  | .prefLane => if L.strap.variant.mask.testBit v then v else 3
  | .pwmPeriod => max (if i < 8 then 5000 else 500) v
  | .railFs => clampN (max 500 (L.rd (DCL_RAIL_OV3.OV3 i))) (max 2000 (L.rd (DCL_RAIL_OV3.OV3 i))) v
  | .runEn =>
    if f.addr < 0x60000000 then (if i ≤ 1 then 1 else v)
    else if (List.range 12).any (fun g => L.on (PWM_GROUP_CTL.RUN g)) then 1 else v
  | .saRoute => if 48 ≤ i then min v 8 else 0
  | .ssRole => (List.range 8).foldl (fun n k => n + min 2 (slice (2 * k) 2 v) * 4 ^ k) 0
  | .startDegraded => if L.strap.variant = .d then 0 else v
  | .target =>
    if 1 ≤ v ∧ v ≤ 4 then 5 else if v = 7 ∨ v = 8 then 6 else if v = 10 then 9 else if 13 ≤ v then 12 else v
  | .vec => min v 0x7FFFC / 4 * 4

/-- Clamps that read other fields of the same word; they apply after those are stored. -/
def Clamp.late : Clamp → Bool
  | .any | .range _ _ | .srange _ _ => false
  | _ => true

/-- The part of a clamp that no other register decides; the loader applies the rest in its final pass (R371). -/
def Clamp.first : Clamp → Clamp
  | .applyOfs => .range 31 400
  | .leasePeriod => .range 100 2000
  | .accWin | .actOfs | .nsjw | .dsjw | .canDlc | .packagePos => .any
  | c => c

/-- Whether the legal range depends on another register. -/
def Clamp.dependent (c : Clamp) : Bool := c.first ≠ c

/-- Fields whose write has an effect of its own, or which a write does not simply store. -/
def specialFields : List Fld :=
  [BGR_FIRST.VALID, BGR_PEND.BITS 0, BGR_FORCE.BITS 0, LSC_AGR_CFG.FRAME, LSC_AGR_CFG.READY, NGB_MODE_REQ.TARGET, CAN_TXREQ.REQ, CFG_MODE_REQ.TARGET,
   LCS_TOKEN.BYTES 0, CLE_AX_CTL.ENABLE 0, CLE_COEF.K 0 0 0, CLE_MAP.PSI 0 0 0, CLE_MAP.L_INC 0 0 0, PWM_GROUP_CTL.RUN 0,
   PWM_GROUP_PERIOD.PERIOD 0, PWM_GROUP_PHASE.PHASE 0, PWM_PAIR_CFG.DT 0, PWM_PAIR_CFG.COMPL 0, PWM_OUT_RISE.RISE 0, PWM_OUT_FALL.FALL 0, FBI_AX_CFG.EN 0,
   FBI_AX_STATUS.WIRE 0, FBI_AX.SOFT_MIN 0, FBI_AX.SOFT_MAX 0, FBI_AX_CMP_VAL.VAL 0 0, DCL_RAIL_OV12.OV1 0, DCL_RAIL_OV12.OV2 0, DCL_RAIL_OV3.OV3 0,
   DCL_RAIL_OV3.HYST 0, DCL_RAIL_CH.CH_ON 0, DCL_RAIL_CH.CH_FULL 0, DCL_RAIL_CFG.EN 0, FPS_CTL.OFF]

/-- Whether a write of the row's field is handled by itself. -/
def Row.special (r : Row) : Bool := specialFields.contains r.fld

/-- The value that a word written at `a` gives a field, before any clamp. (DESIGN CHOICE, assumption 19) -/
def Lane.written (L : Lane) (f : Fld) (a data : Nat) : Nat := f.take a (L.shown f) data

/-- One field takes its clamped value; the number counts the values that the clamp changed (R9, R371). -/
def Lane.storeSlot (a data : Nat) (loader : Bool) (K : Lane × Nat) (x : Row × Fld) : Lane × Nat :=
  let v := K.1.written x.2 a data
  let w := K.1.clampValue (if loader then { x.1 with clamp := x.1.clamp.first } else x.1) x.2 v
  (K.1.store x.2 w, if w = v then K.2 else K.2 + 1)

/-- The fields of the word at `a` that a write stores: RW fields, and for the loader those loaded at LOAD (R8, R367). -/
def storedSlots (a : Nat) (loader : Bool) : List (Row × Fld) :=
  let xs := (slotsAt a).filter (fun (x : Row × Fld) => (decide (x.1.acc = .rw) || (loader && decide (x.1.acc = .ld))) && ! x.1.special)
  xs.filter (fun x => ! x.1.clamp.late) ++ xs.filter (fun x => x.1.clamp.late)

/-- The stored fields of the word at `a` take their values from `data`, clamped; with how many were clamped.
(DESIGN CHOICE, assumption 19) -/
def Lane.storeWord (L : Lane) (a data : Nat) (loader : Bool) : Lane × Nat :=
  (storedSlots a loader).foldl (Lane.storeSlot a data loader) (L, 0)

/-- W1C and W1S fields act on ones (R8). -/
def Lane.onesAct (L : Lane) (a data : Nat) : Lane :=
  (slotsAt a).foldl (fun K (x : Row × Fld) =>
    let v := K.rd x.2
    let d := x.2.take a 0 data
    match x.1.acc, x.1.special with
    | .w1c, false => K.wr x.2 (v - (v &&& d))
    | .w1s, false => K.wr x.2 (v ||| d)
    | _, _ => K) L

/-- A write of a register word (R7, R8, R9): what is stored and cleared; a field of its own rule is left to it. -/
def Lane.writeWord (L : Lane) (a data : Nat) (loader : Bool) : Lane := (L.storeWord a data loader).1.onesAct a data

/-! ### The retention list (R432) -/

/-- The region of a host register address for the retention list: 0 FABRIC, 1 NET, 2 SA. -/
def retRegion (a : Nat) : Option Nat :=
  if a % 4 ≠ 0 then none
  else if (0x40080000 ≤ a && a < 0x400A0000) then some 1
  else if (0x40060000 ≤ a && a < 0x40070000) then some 2
  else if (0x40030000 ≤ a && a < 0x40060000) || (0x40070000 ≤ a && a < 0x40080000) || (0x400C0000 ≤ a && a < 0x400F0000) then some 0
  else none

/-- Entry `i` of the retention list. -/
def Lane.retEntry (L : Lane) (i : Nat) : Nat := L.memWord (0x30000000 + 4 * i) 4

/-- The entries of a list of regions, with their places. -/
def Lane.retEntries (L : Lane) (regions : List Nat) : List (Nat × Nat) :=
  ((List.range (min 1024 (L.rd PSC_RET.N))).map (fun i => (i, L.retEntry i))).filter
    (fun (e : Nat × Nat) => match retRegion e.2 with
      | some r => regions.contains r
      | none => false)

/-- Entries outside FABRIC, NET and SA. -/
def Lane.retSkipped (L : Lane) : Nat :=
  ((List.range (min 1024 (L.rd PSC_RET.N))).filter (fun i => (retRegion (L.retEntry i)).isNone)).length

/-- The CRC-32C over the list and all saved values. -/
def Lane.retCrc (L : Lane) : Nat :=
  let n := min 1024 (L.rd PSC_RET.N)
  crcBytes (crcBytes crcInit (L.mem.bytes ramDefault 0x30000000 (4 * n))) (L.mem.bytes ramDefault 0x30001000 (4 * n))

/-- The values of the entries of some regions are saved, and the CRC kept in the AON region. (DEDUCED, assumption 76) -/
def Lane.retSave (L : Lane) (regions : List Nat) : Lane :=
  let K := (L.retEntries regions).foldl (fun K (e : Nat × Nat) => K.setMem (0x30001000 + 4 * e.1) 4 (L.word e.2)) L
  (K.wr Int.retCrc K.retCrc).set Int.retSaved

/-- The entries that a save skips are counted. -/
def Lane.retCount (L : Lane) : Lane := L.add PSC_RET.SKIPPED L.retSkipped

/-- Whether the CRC of the saved list and values checks. -/
def Lane.retOk (L : Lane) : Bool := L.on Int.retSaved && L.retCrc = L.rd Int.retCrc

/-- At power-on of some regions the CRC is checked and their entries written back in list order; a failed check leaves the
registers at reset and sets RET_BAD. (DEDUCED, assumption 76) -/
def Lane.retRestore (L : Lane) (regions : List Nat) : Lane :=
  if L.retOk then
    (L.retEntries regions).foldl (fun K (e : Nat × Nat) => K.putWord e.2 (K.memWord (0x30001000 + 4 * e.1) 4)) L
  else L.set PSC_RET.RET_BAD

end Sys2Proof.Machine
end

