-- ==== Sys2Proof/Machine/PowerOps.lean ====
section
/-! DEFINITION. Shared operations of the power-state controller: latched wakes, and the end of an entry by abort or
refusal (R421 to R426, R436). -/

namespace Sys2Proof.Machine

/-- STAGE of PSC_STATUS. -/
abbrev pscIdle : Nat := 0
abbrev pscPrepare : Nat := 1
abbrev pscCommit : Nat := 2
abbrev pscSave : Nat := 3
abbrev pscGating : Nat := 4

/-- What has waited in prepare is issued (R306, R422). (DEDUCED, assumption 74) -/
def Lane.pumpPorts (L : Lane) : Lane := (L.pump.pumpFelt 0).pumpFelt 1

/-- The dozed pairs resume at the instruction after DOZE, and DOZE_ABORT is set (R423). -/
def Lane.resumeDozed (L : Lane) : Lane := ((L.wr PSC_STATUS.DOZED 0).set PSC_STATUS.DOZE_ABORT).event 31

/-- The NET region loses its supply, and with it the contents of its registers (R346, R418). -/
def Lane.netOff (L : Lane) : Lane := { L with regs := L.regs.resetHome .net, ngbCopies := [], ngbLine := [] }.wr PSC_STATUS.NET 3

/-- The NET region is powered from OFF: its list entries are restored, then its fabric port starts (R427, R432, R433). -/
def Lane.netOn (L : Lane) : Lane := L.iff (L.rd PSC_STATUS.NET = 3) (fun K => ((K.wr PSC_STATUS.NET 0).retRestore [1]).portStart 4)

/-- The stopped blocks restart in the reverse of their stop order; a field region that was OFF comes back unconfigured,
so the lane goes through host die reset into WAKE (R423). -/
def Lane.restartStopped (L : Lane) : Lane :=
  let off := L.on Int.pscN3 && L.rd Int.pscAsk = 3
  let K := ((L.wr PSC_STATUS.STAGE pscIdle).wr PSC_STATUS.LEVEL_NOW 0).clr Int.pscN3
  let K := (((K.wr PSC_STATUS.CORE 0).wr PSC_STATUS.FABRIC 0).netOn.iff (K.on Int.pscSa) (fun J => (J.clr Int.pscSa).set Int.saStarting)).resumeDozed
  if off then (((K.wr FPS_STATUS.CLE 0).wr FPS_STATUS.PWM 0).wr FPS_STATUS.ANALOG 0).hostReset.fieldRestart else K.pumpPorts

/-- An abort at abort point `ap` by the wakes `src`, 0 for an ordinary wake (R421, R423, R424). -/
def Lane.abortEntry (L : Lane) (ap src : Nat) : Lane :=
  (((L.inc PSC_CNT.ABORTED).wr PSC_REFUSE.ABORT_AP ap).wr PSC_REFUSE.ABORT_SRC src).restartStopped

/-- The abort point that an event now reaches: the next one before N4 (R421, R425). -/
def Lane.nextAbortPoint (L : Lane) : Nat :=
  if L.rd PSC_STATUS.STAGE = pscPrepare then 2 else if L.rd PSC_STATUS.STAGE = pscCommit then 3 else 4

/-- Whether an entry runs and has not passed N4. -/
def Lane.entryOpen (L : Lane) : Bool := L.rd PSC_STATUS.STAGE ≠ pscIdle && ! L.on Int.pscN4

/-- A refusal in the request or prepare stage: the entry ends and nothing has stopped, so dozed
pairs stay dozing (R421, R424). -/
def Lane.refuseEntry (L : Lane) (id reason stage : Nat) : Lane :=
  let K := ((L.inc PSC_CNT.REFUSED).wr PSC_REFUSE.ID id).wr PSC_REFUSE.REASON reason
  let K := (K.wr PSC_REFUSE.STAGE stage).wr PSC_REFUSE.LVL (L.rd Int.pscAsk)
  (K.wr PSC_STATUS.STAGE pscIdle).pumpPorts.raise 0xD0

/-- A refusal in commit, after blocks have stopped: they restart in reverse (R423, R424, R437). -/
def Lane.lateRefuse (L : Lane) (id reason : Nat) : Lane :=
  let K := ((L.inc PSC_CNT.LATE_REFUSED).wr PSC_REFUSE.ID id).wr PSC_REFUSE.REASON reason
  ((K.wr PSC_REFUSE.STAGE 3).wr PSC_REFUSE.LVL (L.rd Int.pscAsk)).restartStopped.raise 0xD1

/-- An E0 during an entry: before N4 the entry aborts; after N4 it completes (R436). (DEDUCED, assumption 21) -/
def Lane.abortForExit (L : Lane) : Lane := if L.entryOpen then L.abortEntry L.nextAbortPoint 0 else L

/-- A privileged wake is latched with the LFO tick count, raises PSC_EVT and aborts an entry before N4 (R374, R426).
(DEDUCED, assumption 75) -/
def Lane.latchWake (L : Lane) (w : Nat) : Lane :=
  let K := ((L.putBit PSC_WAKE.WAKES w true).wr PSC_WAKE_TICK.TICK (L.lfo % 2 ^ 32)).event 31
  if K.entryOpen then K.abortEntry K.nextAbortPoint (2 ^ w) else K

end Sys2Proof.Machine
end

