-- ==== Sys2Proof/Machine/LeaseOps.lean ====
section
/-! DEFINITION. The lease unit's shared operations: roles, the drive of the SA outputs, eligibility, successor,
renewal, claim, release and snapshot (R244 to R263). -/

namespace Sys2Proof.Machine

/-- ROLE of LSE_STATUS. -/
abbrev roleOff : Nat := 0
abbrev roleStandby : Nat := 1
abbrev roleClaiming : Nat := 2
abbrev roleHolder : Nat := 3
abbrev roleHandingOver : Nat := 4
abbrev roleBarred : Nat := 5

/-- The lease timer of the host die (R248, R425). -/
def Lane.leaseNow (L : Lane) : Nat := L.rd Int.leaseTime

/-- ROLE changes raise LSE_EVT (R374). -/
def Lane.setRole (L : Lane) (r : Nat) : Lane := if L.rd LSE_STATUS.ROLE = r then L else (L.wr LSE_STATUS.ROLE r).event 29

/-- The SA region is off: ROLE shows a standby unpowered, but BARRED clears only at host die reset (R248). -/
def Lane.unpowered (L : Lane) : Lane := if L.rd LSE_STATUS.ROLE = roleBarred then L else L.setRole roleOff

/-- HOLDER changes raise LSE_EVT (R374). (DEDUCED, assumption 49) -/
def Lane.setHolder (L : Lane) (h : Nat) : Lane := if L.rd LSE_STATUS.HOLDER = h then L else (L.wr LSE_STATUS.HOLDER h).event 29

/-- Whether the lane holds the lease. -/
def Lane.holds (L : Lane) : Bool := L.rd LSE_STATUS.ROLE = roleHolder ∨ L.rd LSE_STATUS.ROLE = roleHandingOver

/-- Eligibility of this lane (R248). -/
def Lane.eligible (L : Lane) : Bool :=
  (L.rd CFG_MODE_STATUS.LANE_STATE = stReady || L.rd CFG_MODE_STATUS.LANE_STATE = stActive) && ! L.on Int.e0 &&
  ((mStandby ≤ L.mode && L.mode ≤ mService) || (L.mode = mShutdown && L.holds)) && L.rd LSE_STATUS.ROLE ≠ roleBarred

/-- ELIGIBLE of LSE_STATUS follows R248. -/
def Lane.syncEligible (L : Lane) : Lane := L.put LSE_STATUS.ELIGIBLE L.eligible

/-- The outputs whose level rules 1 to 3 of R245 give, the device mode and SA_CONT deciding. -/
def Lane.saForced (L : Lane) : Nat :=
  if L.mode = mTorqueOff ∨ L.mode = mShutdown ∨ L.mode = mStandby then 255 else L.rd LSE_SA.SA_CONT

/-- The level of SA[m] by rules 1, 2, 3 and 5 of R245. -/
def Lane.saLevelOf (L : Lane) (m : Nat) : Bool :=
  if L.bitOf LSE_SA.SA_CONT m then L.bitOf LSE_SA.SAFE m
  else if L.mode = mTorqueOff ∨ L.mode = mShutdown then L.bitOf LSE_SA.SAFE m
  else if L.mode = mStandby then L.bitOf LSE_SA.INACTIVE m
  else L.bitOf LSE_SA.LEVEL m

/-- The levels of the eight outputs. -/
def Lane.saLevels (L : Lane) : Nat := (List.range 8).foldl (fun n m => Sys2Proof.putBit n m (L.saLevelOf m)) 0

/-- The drive enable and levels go to the field die over the Couch (R244, R245, R302). -/
def Lane.driveSa (L : Lane) : Lane := L.toField (.control (.saDrive (L.on LSE_STATUS.DRIVING) 255 L.saLevels (255 - L.saForced)))

/-- The drive enable is cleared (R244). -/
def Lane.undrive (L : Lane) : Lane := if L.on LSE_STATUS.DRIVING then (L.clr LSE_STATUS.DRIVING).driveSa else L

/-- The levels are sent again when something they depend on has changed while the lane drives (R245). -/
def Lane.refreshSa (L : Lane) : Lane := if L.on LSE_STATUS.DRIVING then L.driveSa else L

/-- A newer lease message: its SEQ lies 1 to 32,767 ahead modulo 2^16 (R252). -/
def seqNewer (seq than : Nat) : Bool := 1 ≤ (seq + 65536 - than) % 65536 && (seq + 65536 - than) % 65536 ≤ 32767

/-- The newest sequence and T_r are taken (R252, R425). -/
def Lane.takeSeq (L : Lane) (seq : Nat) : Lane := ((L.wr Int.watchSeq seq).wr LSE_STATUS.SEQ seq).wr Int.leaseTr L.leaseNow

/-- The first eligible lane after the holder, or PREF (R250): 3 when there is none. `elig` is the mask of eligible
lanes, the holder excluded. -/
def successorOf (elig pref holder : Nat) : Nat :=
  if pref < 3 ∧ pref ≠ holder ∧ elig.testBit pref then pref
  else if elig.testBit ((holder + 1) % 3) ∧ (holder + 1) % 3 ≠ holder then (holder + 1) % 3
  else if elig.testBit ((holder + 2) % 3) ∧ (holder + 2) % 3 ≠ holder then (holder + 2) % 3 else 3

/-- SUCCESSOR is chosen; a spell without one sets NO_SUCC and raises source 0xA7 once (R250). (DEDUCED, assumption 49) -/
def Lane.chooseSuccessor (L : Lane) : Lane :=
  let n := successorOf (L.rd Int.eligMask) (L.rd LSE_CFG.PREF) L.me
  let K := L.wr LSE_STATUS.SUCCESSOR n
  if n = 3 then (if K.on Int.noSuccSpell then K else ((K.set Int.noSuccSpell).set LSE_FLAGS.NO_SUCC).raise 0xA7)
  else K.clr Int.noSuccSpell

/-- A lane that claims or holds the lease names its successor anew whenever a lane's eligibility has changed (R250). -/
def Lane.followSuccessor (L : Lane) : Lane :=
  if L.holds || L.rd LSE_STATUS.ROLE = roleClaiming then L.chooseSuccessor else L

/-- The holder releases the lease, naming a successor (R255). -/
def Lane.releaseLease (L : Lane) (successor : Nat) : Lane :=
  let K := L.undrive
  let seq := (K.rd LSE_STATUS.SEQ + 1) % 65536
  let K := (K.takeSeq seq).sendFeltAll (.release seq successor)
  (((K.setRole roleStandby).setHolder 3).wr Int.hoPhase 0).put Int.watchArmed (successor ≠ 3)

/-- A claim ends without a drive: at an exit, on barring, or where the lane is not eligible any more (R263). -/
def Lane.endClaim (L : Lane) : Lane :=
  if L.rd LSE_STATUS.ROLE ≠ roleClaiming then L else
  ((L.setRole roleStandby).clr Int.guardDone).iff (L.rd LSE_STATUS.HOLDER = L.me) (fun K => K.setHolder 3)

/-- The causes of an exit that leave the release path unusable (R24). -/
def releaseBlocked (cause : Nat) : Bool :=
  [0xA6, 0x4D, 0x09, 0x0A, 0x0B, 0x0D, 0xD3, 0xD4, 0xD5, 0xD6, 0xD7, 0xD8].contains cause

/-- At E0 a holder releases in hardware when it is able to; a claim ends; nothing stays driven (R24, R263). -/
def Lane.releaseAtExit (L : Lane) (cause : Nat) : Lane :=
  let K := if L.holds then
      (if releaseBlocked cause then (L.undrive.setRole roleStandby).wr Int.hoPhase 0 else L.releaseLease (L.rd LSE_STATUS.SUCCESSOR))
    else L.endClaim
  K.syncEligible

/-- The lease is lost to barring: a readback fault or an LSE parity error (R247, R248, R263, R264). -/
def Lane.bar (L : Lane) : Lane :=
  let K := if L.holds then L.releaseLease (L.rd LSE_STATUS.SUCCESSOR) else L.endClaim
  (K.setRole roleBarred).syncEligible

/-! ### Snapshots (R258) -/

/-- Offset of a half of the snapshot area. -/
def snapBase (half : Nat) : Nat := 0x3000E000 + 0x800 * half

/-- The bytes of a snapshot, in the order R258 lists its contents. (DESIGN CHOICE, assumption 51) -/
def Snapshot.bytes (m : Snapshot) : List Byte :=
  bytesOf 1 m.level ++ bytesOf 1 m.saCont ++ bytesOf 1 m.chFault ++ bytesOf 8 m.swapLeft ++ bytesOf 2 m.seq ++ bytesOf 8 m.time

/-- A copy is valid when its CRC-32C checks. -/
def Lane.snapValid (L : Lane) (half : Nat) : Bool :=
  L.on (Int.snapWritten half) &&
  L.memWord (snapBase half + 21) 4 = crc32c (L.mem.bytes ramDefault (snapBase half) 21)

/-- The half that holds the newest valid copy, if any (R258). -/
def Lane.newestSnap (L : Lane) : Option Nat :=
  if L.snapValid 0 && (! L.snapValid 1 || L.rd (Int.snapAt 1) ≤ L.rd (Int.snapAt 0)) then some 0
  else if L.snapValid 1 then some 1 else none

/-- A snapshot is written into the half that does not hold the newest valid copy (R258). (DESIGN CHOICE, assumption 51) -/
def Lane.storeSnap (L : Lane) (m : Snapshot) : Lane :=
  let h := match L.newestSnap with
    | some 0 => 1
    | _ => 0
  let K : Lane := { L with mem := (L.mem.setBytes ramDefault (snapBase h) m.bytes).setNum ramDefault (snapBase h + 21) 4 (crc32c m.bytes) }
  (K.set (Int.snapWritten h)).wr (Int.snapAt h) L.leaseNow

/-- CH_FAULT of this lane's choppers, one bit per chopper (R208). -/
def Lane.chFaults (L : Lane) : Nat := (List.range 4).foldl (fun m c => Sys2Proof.putBit m c (L.on (DCL_CH_FLAGS.CH_FAULT c))) 0

/-- The SA outputs that CONT_REQ of this lane's field die names (R207, R259). -/
def Lane.contReqs (L : Lane) : Nat :=
  (List.range 4).foldl (fun m c =>
    let k := L.rd (DCL_CH_CFG.CONT_SA c)
    if L.on (DCL_CH_FLAGS.CONT_REQ c) && k ≠ 0 then setBit m (k - 1) else m) 0

/-- The holder's chopper faults are written to EXT_FAULT of this lane's shared choppers (R208). (DEDUCED, assumption 50) -/
def Lane.writeExt (L : Lane) (faults : Nat) : Lane :=
  L.forN 4 (fun c K =>
    if K.on (DCL_CH_CFG.SHARED c) && K.on (DCL_CH_FLAGS.EXT_FAULT c) ≠ faults.testBit c then
      K.toField (.write (DCL_CH_FLAGS.EXT_FAULT c).addr (8 * bit (faults.testBit c))) else K)

/-- A swap interval in ns. -/
def Lane.swapInterval (L : Lane) : Nat := L.rd LSE_TIMING.SWAP_INTERVAL * 1000000000

/-- The snapshot of this lane as it now stands (R258). -/
def Lane.snapshot (L : Lane) : Snapshot :=
  { level := L.rd LSE_SA.LEVEL, saCont := L.rd LSE_SA.SA_CONT, chFault := L.chFaults, swapLeft := L.rd Int.swapAt - L.leaseNow, seq := L.rd LSE_STATUS.SEQ, time := L.now }

/-- SAFE levels in place of a snapshot (R258). (DEDUCED, assumption 50) -/
def Lane.snapStale (L : Lane) : Lane :=
  ((L.wr LSE_SA.LEVEL (L.rd LSE_SA.SAFE)).set LSE_FLAGS.SNAP_STALE).raise 0xA3

/-- The SA state comes from the copy in half `h`: LEVEL, SA_CONT, which the snapshot only sets, and the role-swap time
(R257 to R259). -/
def Lane.restoreCopy (L : Lane) (h : Nat) : Lane :=
  ((L.wr LSE_SA.SA_CONT (L.rd LSE_SA.SA_CONT ||| L.memWord (snapBase h + 1) 1)).wr LSE_SA.LEVEL (L.memWord (snapBase h) 1)).wr
    Int.swapAt (L.leaseNow + L.memWord (snapBase h + 3) 8)

/-- At the power-up of its SA region a standby restores the SA state from the newest valid copy, if there is one (R257). -/
def Lane.restoreAtPower (L : Lane) : Lane :=
  match L.newestSnap with
  | some h => L.restoreCopy h
  | none => L

/-- At D the standby restores LEVEL, SA_CONT, the chopper faults and the role-swap time from the newest valid copy; LEVEL is
restored as SAFE with SNAP_STALE and source 0xA3 when none is valid or the newest is more than 250 ms old (R258, R259).
(DEDUCED, assumption 50) -/
def Lane.restoreSnap (L : Lane) : Lane :=
  match L.newestSnap with
  | some h =>
    let K := (L.restoreCopy h).writeExt (L.memWord (snapBase h + 2) 1)
    if L.leaseNow - L.rd (Int.snapAt h) ≤ 250000000 then K else K.snapStale
  | none => L.snapStale.wr Int.swapAt (L.leaseNow + L.swapInterval)

/-- D: the claimant's drive enable is set (R252, R256, R258, R259). -/
def Lane.takeDrive (L : Lane) : Lane :=
  let gap := (L.leaseNow - L.rd Int.leaseTr) / 1000
  let K := ((L.sat LSE_GAP.GAP_LAST gap).sat LSE_GAP.GAP_MAX (max gap (L.rd LSE_GAP.GAP_MAX))).inc LSE_CNT.TAKEOVERS
  let K := K.iff (K.on Int.claimSilent) (fun J => J.raise 0xA1)
  let K := ((K.wr Int.leaseTr (K.rd Int.claimAt)).setRole roleHolder).setHolder K.me
  let K := ((K.restoreSnap.clr Int.claimSilent).clr Int.guardDone).wr Int.snapPushAt K.leaseNow
  (K.set LSE_STATUS.DRIVING).driveSa.followSuccessor

/-- CLAIM is sent with the next sequence, which counts as a renewal (R252). `silent` marks a claim made after a silent holder (R264). -/
def Lane.claim (L : Lane) (silent : Bool) : Lane :=
  let seq := (L.rd Int.watchSeq + 1) % 65536
  let K := ((L.wr Int.claimSeq seq).wr Int.claimAt L.leaseNow).put Int.claimSilent silent
  let K := ((K.wr Int.watchSeq seq).wr LSE_STATUS.SEQ seq).set Int.watchArmed
  ((((K.clr Int.guardDone).setRole roleClaiming).setHolder K.me).sendFeltAll (.claim seq)).followSuccessor

/-- A claim or a hold ends because another lane's newer message stands (R253): that receipt becomes T_r. -/
def Lane.stepDown (L : Lane) (seq : Nat) (conflict : Bool) : Lane :=
  let K := (L.undrive.setRole roleStandby).takeSeq seq
  let K := ((K.clr Int.guardDone).wr Int.hoPhase 0).set Int.watchArmed
  if conflict then (K.set LSE_FLAGS.CLAIM_CONFLICT).raise 0xA2 else K

/-- The SA region is powered for a takeover (R257): the wake is latched and the region starts up. -/
def Lane.wakeSa (L : Lane) : Lane :=
  if L.rd PSC_STATUS.SA = 0 then L else (L.set Int.saStarting).latchWake 3

/-- A newer renewal or CLAIM of lane `src` stands: T_r, the holder and the successor it names (R252, R253, R257, R425).
(DEDUCED, assumption 50) -/
def Lane.heedRenewal (L : Lane) (src seq : Nat) (conflict : Bool) : Lane :=
  let K := if L.holds || L.rd LSE_STATUS.ROLE = roleClaiming then L.stepDown seq conflict else L.takeSeq seq
  ((K.setHolder src).set Int.renewSeen).set Int.watchArmed

/-- A renewal, over Felt or Nguas, is received (R250, R252, R253, R257, R425). (DEDUCED, assumption 61) -/
def Lane.renewalFrom (L : Lane) (src seq successor : Nat) : Lane :=
  if L.rd LSE_STATUS.ROLE = roleClaiming ∧ (seq = L.rd Int.claimSeq ∨ seqNewer seq (L.rd Int.claimSeq)) then
    (L.heedRenewal src seq false).wr LSE_STATUS.SUCCESSOR successor
  else if seqNewer seq (L.rd Int.watchSeq) then (L.heedRenewal src seq true).wr LSE_STATUS.SUCCESSOR successor
  else L

end Sys2Proof.Machine
end

