-- ==== Sys2Proof/Machine/SchedOps.lean ====
section
/-! DEFINITION. The scheduler's shared operations: descriptors, readiness, targets, dispatch, return and rebinding
(R315 to R327). -/

namespace Sys2Proof.Machine

/-- Word `w` of operation descriptor `n` (R315). -/
def Lane.descWord (L : Lane) (n w : Nat) : Nat := L.memWord (0x203F0000 + 16 * n + 4 * w) 4

/-- The fields of a descriptor, clamped as R315 says. -/
def Lane.opClass (L : Lane) (n : Nat) : Nat := slice 0 4 (L.descWord n 1)
def Lane.opAffinity (L : Lane) (n : Nat) : Nat := if slice 4 4 (L.descWord n 1) = 0 then 15 else slice 4 4 (L.descWord n 1)
def Lane.opAtomic (L : Lane) (n : Nat) : Bool := (L.descWord n 1).testBit 8
def Lane.opDemand (L : Lane) (n : Nat) : Bool := (L.descWord n 1).testBit 9
def Lane.opTrig (L : Lane) (n : Nat) : Nat := if 5 < slice 10 3 (L.descWord n 1) then 0 else slice 10 3 (L.descWord n 1)
def Lane.opFlow (L : Lane) (n : Nat) : Nat := slice 16 8 (L.descWord n 1)
def Lane.opNpred (L : Lane) (n : Nat) : Nat := max 1 (slice 24 4 (L.descWord n 1))
/-- BUDGET in ns. -/
def Lane.opBudget (L : Lane) (n : Nat) : Nat := 100 * max 1 (slice 0 16 (L.descWord n 2))
/-- DEADLINE in ns. -/
def Lane.opDeadline (L : Lane) (n : Nat) : Nat := 1000 * max 1 (slice 16 16 (L.descWord n 2))
def Lane.opPeriod (L : Lane) (n : Nat) : Nat := max 1 (slice 24 8 (L.descWord n 3))
/-- The successors of an operation; the list ends inside the array. -/
def Lane.opSuccs (L : Lane) (n : Nat) : List Nat :=
  let i := slice 0 15 (L.descWord n 3)
  (List.range (min (slice 16 4 (L.descWord n 3)) (32768 - i))).map (fun j => L.memWord (0x203E0000 + 2 * (i + j)) 2 % 4096)

/-- Whether PAIR[3] is split (R229). -/
def Lane.split3 (L : Lane) : Bool := L.on LSC_CFG.SPLIT3

/-- The pair of a target (R319). -/
def targetPair (t : Nat) : Nat := min t 3

/-- The slots of a target's queue (R319). -/
def Lane.queueSlots (L : Lane) (t : Nat) : Nat := if L.split3 ∧ 3 ≤ t then 15 else 31

/-- The queue of a target. -/
def Lane.queue (L : Lane) (t : Nat) : List OpInst := L.sched.queues.getD t []

/-- The executing operation of a target. -/
def Lane.execOf (L : Lane) (t : Nat) : Option OpInst := L.sched.exec.getD t none

/-- The registers that show the lists follow them (R329). -/
def Lane.syncSched (L : Lane) : Lane :=
  let K := L.wr SCH_STATUS.READY_ALL L.sched.ready.length
  let K := K.forN 16 (fun k J => J.wr (SCH_CL_STAT.READY k) (J.sched.ready.filter (fun o => J.opClass o.index = k)).length)
  K.forN 5 (fun t J =>
    let J := J.wr (SCH_T_STATUS.QDEPTH t) (J.queue t).length
    let slow := J.rd SCH_CFG.NA_LIMIT < (J.queue t).length
    let J := J.iff (slow && ! J.on (SCH_T_STATUS.SLOW t)) (fun J => J.raise 0x37)
    let J := J.put (SCH_T_STATUS.SLOW t) slow
    match J.execOf t with
    | none => (J.clr (SCH_T_STATUS.EXEC t)).clr (SCH_T_STATUS.EXEC_IDX t)
    | some o => (J.set (SCH_T_STATUS.EXEC t)).wr (SCH_T_STATUS.EXEC_IDX t) o.index)

/-- The lane with its scheduler lists replaced. -/
def Lane.setSched (L : Lane) (s : Sched) : Lane := { L with sched := s }.syncSched

/-- An operation in its ready list, by age: instances keep the order of their ready instants (R318, R323). -/
def insertByAge (o : OpInst) : List OpInst → List OpInst
  | [] => [o]
  | x :: r => if o.readyAt < x.readyAt then o :: x :: r else x :: insertByAge o r

/-- Whether an instance of the operation is ready, queued or executing. -/
def Lane.inProgress (L : Lane) (n : Nat) : Bool :=
  L.sched.ready.any (fun o => o.index == n && ! o.shadow) || L.sched.queues.any (fun q => q.any (fun o => o.index == n && ! o.shadow)) ||
  L.sched.exec.any (fun e => e.any (fun o => o.index == n && ! o.shadow))

/-- Whether a target is in service for a class and an AFFINITY (R319). -/
def Lane.targetInService (L : Lane) (t cls aff : Nat) : Bool :=
  let st := L.rd (LSC_PAIR_STATUS.STATE (targetPair t))
  aff.testBit (targetPair t) && (t < 4 || L.split3) && (st = 0 || (st = 4 && 3 ≤ t && 8 ≤ cls)) && ! L.bitOf Int.halted (targetPair t) &&
  ! L.bitOf Int.withdraw (targetPair t)

/-- Whether an operation starts an instance of its atomic flow: none of the flow's operations has it as a successor (R324).
(DEDUCED, assumption 97) -/
def Lane.startsFlow (L : Lane) (n : Nat) : Bool :=
  L.opAtomic n && (List.range 4096).all (fun m => ! (L.opAtomic m && L.opFlow m = L.opFlow n && (L.opSuccs m).contains n))

/-- A flow that was rebound returns to its LOAD binding at the start of an instance, once that target is back in service; a fenced
one never is (R324). (DEDUCED, assumption 97) -/
def Lane.flowHome (L : Lane) (n : Nat) : Lane :=
  let f := L.opFlow n
  let home := L.rd (SCH_FLOW.HOME f)
  if L.opAtomic n && L.rd (SCH_FLOW.BOUND f) ≠ home && L.targetInService home (L.opClass n) (L.opAffinity n) && L.startsFlow n then
    L.wr (SCH_FLOW.BOUND f) home
  else L

/-- Readiness of an operation is judged (R317): it becomes ready with a new instance, or coalesces with an overrun. The start
of a flow's instance brings the flow home (R324). (DEDUCED, assumption 117) -/
def Lane.judgeReady (L : Lane) (n : Nat) : Lane :=
  let need := if L.opTrig n = 0 then L.opNpred n else L.opNpred n - 1
  let met := (if L.opTrig n = 0 then true else L.on (Int.opFlag n)) && need ≤ L.rd (Int.opTokens n)
  if ! met then L
  else if L.inProgress n then
    (((L.clr (Int.opTokens n)).clr (Int.opFlag n)).set SCH_FLAGS.OVERRUN).raise 0x35
  else
    let trig := if L.opTrig n = 0 then L.now else L.rd (Int.opTrigAt n)
    let K := ((L.wr (Int.opTokens n) (L.rd (Int.opTokens n) - need)).clr (Int.opFlag n)).wr (Int.opInst n) (L.rd (Int.opInst n) + 1)
    let o : OpInst := ⟨n, K.rd (Int.opInst n), L.now, trig, 0, false, 0, false, false, false, false⟩
    let shadows := if L.opDemand n then ((List.range 4).filter (fun p => L.rd (LSC_PAIR_STATUS.STATE p) = 2)).map (fun p =>
      { o with shadow := true, shadowFor := p }) else []
    (K.flowHome n).setSched { K.sched with ready := insertByAge o K.sched.ready ++ shadows }

/-- A predecessor's completion adds a token (R317). -/
def Lane.addToken (L : Lane) (n : Nat) : Lane := (L.add (Int.opTokens n) 1).judgeReady n

/-- The operation's trigger event sets its flag (R317). -/
def Lane.trigger (L : Lane) (n : Nat) : Lane := ((L.set (Int.opFlag n)).wr (Int.opTrigAt n) L.now).judgeReady n

/-- Every operation with a trigger kind is triggered, where `cond` holds of it (R315, R317). -/
def Lane.triggerAll (L : Lane) (kind : Nat) (cond : Nat → Bool) : Lane :=
  if L.on SCH_CFG.LOCK then L.forN 4096 (fun n K => K.iff (K.opTrig n = kind && cond n) (fun J => J.trigger n)) else L

/-- Whether a target is eligible for an operation (R319, R322). -/
def Lane.eligibleTarget (L : Lane) (n t : Nat) : Bool :=
  L.targetInService t (L.opClass n) (L.opAffinity n) && (! L.opAtomic n || L.rd (SCH_FLOW.BOUND (L.opFlow n)) = t) &&
  (L.opAtomic n || (L.queue t).length ≤ L.rd SCH_CFG.NA_LIMIT)

/-- The target an operation goes to: the eligible one with the fewest queued operations, a tie to the lowest (R319). -/
def Lane.chooseTarget (L : Lane) (n : Nat) : Option Nat :=
  let ts := (List.range 5).filter (fun t => L.eligibleTarget n t && (L.queue t).length < L.queueSlots t)
  ts.find? (fun t => ts.all (fun u => (L.queue t).length < (L.queue u).length || ((L.queue t).length = (L.queue u).length && t ≤ u)))

/-- Whether an operation stands before another of its atomic flow, in instance and descriptor order (R318). (DEDUCED, assumption 97) -/
def Lane.flowBefore (L : Lane) (x o : OpInst) : Bool :=
  let d := (o.inst + 65536 - x.inst) % 65536
  L.opAtomic x.index && L.opAtomic o.index && L.opFlow x.index = L.opFlow o.index && ! x.shadow && ! o.shadow &&
  ((1 ≤ d && d < 32768) || (d = 0 && x.index < o.index))

/-- A new operation is placed behind every queued one of equal or lower class number, and behind those before it in its atomic
flow (R318). -/
def Lane.enqueue (L : Lane) (o : OpInst) : List OpInst → List OpInst
  | [] => [o]
  | x :: r => if (x :: r).any (fun y => L.opClass y.index ≤ L.opClass o.index || L.flowBefore y o) then x :: L.enqueue o r else o :: x :: r

/-- Operations return to their ready lists at their original ready instants; shadow copies are discarded (R323). -/
def Lane.returnTarget (L : Lane) (t : Nat) (execToo : Bool) : Lane :=
  let back := L.queue t ++ (if execToo then (L.execOf t).toList else [])
  let ops := (back.filter (fun o => ! o.shadow)).map (fun o => { o with startAt := 0, budgetRep := false, hangRep := false })
  let K := L.add (SCH_T_CNT.RETURNED t) ops.length
  K.setSched { K.sched with ready := ops.foldl (fun r o => insertByAge o r) K.sched.ready, queues := K.sched.queues.set t [],
                            exec := if execToo then K.sched.exec.set t none else K.sched.exec }

/-- The flows bound to a target that leaves service are rebound to the first eligible target after it (R324). -/
def Lane.rebindFrom (L : Lane) (t : Nat) : Lane :=
  if ! L.on SCH_CFG.LOCK then L else
  L.forN 4096 (fun n K =>
    if ! K.opAtomic n || K.rd (SCH_FLOW.BOUND (K.opFlow n)) ≠ t then K else
    match ([1, 2, 3, 4].map (fun d => (t + d) % 5)).find? (fun u => K.targetInService u (K.opClass n) (K.opAffinity n)) with
    | none => K
    | some u => (K.wr (SCH_FLOW.BOUND (K.opFlow n)) u).inc (SCH_FLOW.REBOUND (K.opFlow n)))

/-- SAFE_PAIRS: targets 0 to 3 in RUN that may run safety classes (R326). -/
def Lane.safePairs (L : Lane) : Nat :=
  ((List.range 4).filter (fun p => L.rd (LSC_PAIR_STATUS.STATE p) = 0 && ! (p = 3 && L.split3))).length

/-- SAFE_PAIRS is counted again; where it fell, CAP is checked and source 0x30 raised on a clear bit or at 0 (R326). -/
def Lane.checkCapacity (L : Lane) : Lane :=
  let n := L.safePairs
  let K := L.wr SCH_STATUS.SAFE_PAIRS n
  if n < L.rd SCH_STATUS.SAFE_PAIRS ∧ (n = 0 ∨ ! L.bitOf SCH_CAP.CAP (n - 1)) then K.raise 0x30 else K

/-- A pair leaves service: its operations return, its flows are rebound, the capacity is checked (R323, R324, R326). -/
def Lane.pairLeaves (L : Lane) (p : Nat) : Lane :=
  let K := (L.returnTarget p true).iff (p = 3 && L.split3) (fun J => J.returnTarget 4 true)
  let K := (K.rebindFrom p).iff (p = 3 && K.split3) (fun J => J.rebindFrom 4)
  K.checkCapacity

/-- The restart path: the pair is held in reset and its operations return (R221, M4). -/
def Lane.restartPair (L : Lane) (p : Nat) : Lane :=
  let K := [Int.m5 p, Int.rsOpen p, Int.rsFrames p, Int.rsWhole p, Int.rsRun p].foldl (fun J f => J.clr f) (L.wr (LSC_PAIR_STATUS.STATE p) 1)
  K.pairLeaves p

/-- Both cores of a pair start at LSC_RESTART_VEC (R225, R373). -/
def Lane.startAtVec (L : Lane) (p : Nat) : Lane :=
  (L.wr (Int.startPc p 0) (L.rd LSC_RESTART_VEC.VEC)).wr (Int.startPc p 1) (L.rd LSC_RESTART_VEC.VEC)

/-- A withdrawn pair restarts with CAUSE 0: through RESYNC, or at once where it is split (R229, R390). (DEDUCED, assumption 59) -/
def Lane.restartWithdrawn (L : Lane) (p : Nat) : Lane :=
  let K := L.wr (LSC_PAIR_STATUS.CAUSE p) 0
  if p = 3 && K.split3 then (K.wr (LSC_PAIR_STATUS.STATE p) 4).startAtVec p else K.restartPair p

/-- At E0 dispatch stops and operations in flight are returned once (R327). -/
def Lane.schedStop (L : Lane) : Lane := L.forN 5 (fun t K => K.returnTarget t true)

end Sys2Proof.Machine
end

