-- ==== Sys2Proof/Machine/Collector.lean ====
section
/-! DEFINITION. The collector's shared operations: severities, the log, the first-fault record (R293, R294), the
lane exit at E0 (R22, R24), and one collector cycle of arrivals (R288 to R298). -/

namespace Sys2Proof.Machine

/-- The severity of a source (R290). -/
def Lane.severity (L : Lane) (k : Nat) : Nat := L.rd (BGR_SEV.SEV k (sourceSeverity k))

/-- BGR_LOG shows the oldest entry and how many are held (R299). -/
def Lane.syncLog (L : Lane) : Lane :=
  match L.log with
  | [] => ((((L.clr BGR_LOG.ID).clr BGR_LOG.SEV).clr BGR_LOG.QUAL).clr BGR_LOG.TCLK).clr BGR_LOG.USED
  | e :: _ => ((((((L.wr BGR_LOG.ID e.src).wr BGR_LOG.SEV e.sev).wr BGR_LOG.QUAL (bit e.forced + 2 * bit e.observed)).wr
      BGR_LOG.TCLK e.tclk).wr BGR_LOG_T.T e.time).wr BGR_LOG.USED L.log.length)

/-- A log entry is stored, or lost at a full log; with LOG_MD it also goes to the management die (R289). -/
def Lane.logFault (L : Lane) (e : LogEntry) : Lane :=
  let K := if L.log.length < 32 then { L with log := L.log ++ [e] }.syncLog else L.inc BGR_LOG.LOG_LOST
  K.iff (K.on BGR_CFG.LOG_MD) (fun J => J.sendMbx (.log { (J.logRecord 1 (e.sev + 8 * bit e.forced + 16 * bit e.observed) e.src []) with
    origin := J.me + 4 * e.tclk, time := e.time }))

/-- The log entry of an arrival. -/
def Lane.entryOf (L : Lane) (src : Nat) (forced observed : Bool) : LogEntry :=
  { src := src, sev := L.severity src, forced := forced, observed := observed, tclk := L.stamp.2, time := L.stamp.1 }

/-- BGR_STATE.PEND_ANY follows the PEND bits. -/
def Lane.syncPend (L : Lane) : Lane := L.put BGR_STATE.PEND_ANY ((List.range 8).any (fun k => L.rd (BGR_PEND.BITS k) ≠ 0))

/-- BGR_EVT stands at the pairs that IRQ_PAIRS selects while a PEND bit or NEW is set (R289, R374). -/
def Lane.bgrEvent (L : Lane) : Lane := L.level 24 (L.rd BGR_CFG.IRQ_PAIRS) (L.on BGR_STATE.PEND_ANY || L.on BGR_STATE.NEW)

/-- Whether the PEND bit of a source is set. -/
def Lane.pending (L : Lane) (k : Nat) : Bool := L.bitOf (BGR_PEND.BITS (k / 32)) (k % 32)

/-- The first-fault record is written, with an arrival instant and its clock (R294). -/
def Lane.writeFirst (L : Lane) (a : Arrival) (forced observed : Bool) (at' : Nat × Nat) : Lane :=
  let K := ((L.wr BGR_FIRST.ID a.src).wr BGR_FIRST.SEV (L.severity a.src)).put BGR_FIRST.FORCED forced
  let K := ((K.put BGR_FIRST.OBSERVED observed).put BGR_FIRST.ORIGIN (fieldSource a.src)).wr BGR_FIRST.TCLK at'.2
  let K := (K.wr BGR_FIRST_T.T at'.1).iff (fieldSource a.src) (fun J => J.wr BGR_FIRST_FTB.FTB (a.ftb % 2 ^ 32))
  K.set BGR_FIRST.VALID

/-- A later fault of R293: OVERFLOW, LATER_CNT and LATER_MAX. -/
def Lane.laterFault (L : Lane) (sev : Nat) : Lane :=
  ((L.set BGR_FIRST.OVERFLOW).inc BGR_FIRST.LATER_CNT).wr BGR_FIRST.LATER_MAX (max (L.rd BGR_FIRST.LATER_MAX) sev)

/-- The count of exits of a lane (R28). -/
def exitsOf (n : Nat) : Fld := if n = 0 then CFG_EXITS.EXITS_A else if n = 1 then CFG_EXITS.EXITS_B else CFG_EXITS.EXITS_C

/-- The record of an exit's cause, written in CLEAR: of a pending source with the arrival that its PEND bit holds, else as an
occurrence now (R293 to R295, R298). -/
def Lane.exitRecord (L : Lane) (k : Nat) : Lane :=
  if L.pending k then
    L.writeFirst ⟨k, false, 1, L.rd (Int.pendFtb k)⟩ (L.on (Int.pendMet k)) true (L.rd (Int.pendStamp k), L.rd (Int.pendTclk k))
  else L.writeFirst ⟨k, false, 1, L.ftb⟩ false true L.stamp

/-- The exit decision E0 is latched in the host die, and E1 follows in the field die (R22, R24, R293, R303, R327, R436).
`cause` is the fault source of the exit, 0 when it has none; an error in the
first-fault logic itself writes no record (R296). One exit takes place however many causes meet (R238), and a host die in reset
latches nothing. An entry that the exit aborts after its field regions went OFF ends in host die reset (R423). (DEDUCED, assumption 21) -/
def Lane.latchE0 (L : Lane) (cause : Nat) : Lane :=
  if L.on Int.e0 || L.on Int.held then L else
  let K := (L.set Int.e0).wr Int.e0Time L.now
  let K := if cause = 0 then K.iff (K.rd BGR_STATE.STATE ≠ 2) (fun J => J.set BGR_STATE.EXIT_ONLY)
    else K.iff (K.rd BGR_STATE.STATE = 0 && ! (cause = 1 && K.on BGR_STATE.SELF)) (fun J => J.exitRecord cause)
  let K := (K.wr BGR_STATE.STATE 2).inc (exitsOf K.me)
  let K := ((K.releaseAtExit cause).schedStop).forN 4 (fun p J => J.clr (Int.m5 p))
  ((K.wr COU_STATUS.LINE 1).fieldExit cause).abortForExit

/-- The E0 gate of R298: a real fault passes and latches E0, an injected one alone stops there and sets DRY. -/
def Lane.gate (L : Lane) (src : Nat) (forcedAlone : Bool) (since : Nat) : Lane :=
  let K := L.sat BGR_ESC.ESC_TIME since
  if forcedAlone then K.set BGR_STATE.DRY else K.latchE0 src

/-- An S3 arrival sets the PEND bit of its source and records the arrival for it (R295). -/
def Lane.pend (L : Lane) (a : Arrival) (forced observed : Bool) : Lane :=
  let K := ((L.putBit (BGR_PEND.BITS (a.src / 32)) (a.src % 32) true).wr (Int.pendAt a.src) L.now).clr (Int.pendFired a.src)
  let K := ((K.wr (Int.pendStamp a.src) L.stamp.1).wr (Int.pendTclk a.src) L.stamp.2).wr (Int.pendFtb a.src) (a.ftb % 2 ^ 32)
  (K.put (Int.pendForced a.src) (! observed)).put (Int.pendMet a.src) (forced && observed)

/-- A real occurrence meets the PEND bit of an injected one: it is handled as real (R298). -/
def Lane.pendReal (L : Lane) (k : Nat) : Lane := ((L.clr (Int.pendForced k)).clr (Int.pendFired k)).set (Int.pendMet k)

/-- The reactions of one arrival other than the first-fault record (R288, R291, R295 to R298). `forced` and `observed`
are its qualifiers; the occurrence is injected alone when it is not observed. A real one that finds the PEND bit of an injected
one makes it real, an expiry that has stopped at the gate included. -/
def Lane.react (L : Lane) (a : Arrival) (forced observed : Bool) : Lane :=
  let sev := L.severity a.src
  let K := if a.forced then L.inc BGR_STATE.FORCED_CNT else L.add (BGR_CNT.CNT a.src) a.count
  let K := K.iff (1 ≤ sev) (fun J => J.logFault (J.entryOf a.src forced observed))
  let K := K.iff (2 ≤ sev) (fun J => J.set BGR_STATE.NEW)
  let K := if K.pending a.src then K.iff (observed && K.on (Int.pendForced a.src)) (fun J => J.pendReal a.src)
    else K.iff (sev = 3) (fun J => J.pend a forced observed)
  let K := K.syncPend.bgrEvent
  if sev = 4 then (K.fresh 1).2.gate a.src (! observed) (K.fresh 1).1 else K

/-- Whether an arrival outranks another in one cycle: higher severity, then lower ID (R294). -/
def Lane.outranks (L : Lane) (a b : Arrival) : Bool :=
  L.severity b.src < L.severity a.src || (L.severity a.src = L.severity b.src && a.src ≤ b.src)

/-- One collector cycle: the arrivals of a cycle are recorded, counted and reacted to (R288 to R298). An injected
occurrence that meets a real one of its source is that occurrence, recorded as real. (DEDUCED, assumption 20) -/
def Lane.collect (L : Lane) (arrs : List Arrival) : Lane :=
  let forcedSame (a : Arrival) : Bool := arrs.any (fun b => b.forced && b.src == a.src)
  let realSame (a : Arrival) : Bool := arrs.any (fun b => ! b.forced && b.src == a.src)
  let merged := arrs.filter (fun a => ! (a.forced && realSame a))
  let doubles := (arrs.filter (fun a => a.forced && realSame a)).length
  let isForced (a : Arrival) : Bool := a.forced || forcedSame a || (L.pending a.src && (L.on (Int.pendForced a.src) || L.on (Int.pendMet a.src)))
  let K := L.add BGR_STATE.FORCED_CNT doubles
  let K := match merged.find? (fun a => merged.all (fun b => L.outranks a b)) with
    | none => K
    | some best =>
      let rest := if K.rd BGR_STATE.STATE = 0 then merged.erase best else merged
      let K := if K.rd BGR_STATE.STATE = 0 then (K.writeFirst best (isForced best) (! best.forced) L.stamp).wr BGR_STATE.STATE 1 else
        K.iff (merged.any (fun a => ! a.forced && a.src == K.rd BGR_FIRST.ID && K.on BGR_FIRST.FORCED && K.pending a.src))
          (fun J => J.set BGR_FIRST.OBSERVED)
      rest.foldl (fun J a => J.laterFault (J.severity a.src)) K
  merged.foldl (fun J a => J.react a (isForced a) (! a.forced)) K

/-- A block raises a source whose own reaction is the lane exit: the source arrives, and E0 is latched (R22, R293).
(DEDUCED, assumption 20) -/
def Lane.exitOn (L : Lane) (src : Nat) : Lane := ({ L with inbox := [] }.collect (L.inbox ++ [(⟨src, false, 1, 0⟩ : Arrival)])).latchE0 src

end Sys2Proof.Machine
end

