-- ==== Sys2Proof/Machine/Modes.lean ====
section
/-! DEFINITION. The device mode (R41 to R58): transitions and their actions, the stop instant S0 of the safe-stop unit
(R268), and the guarantee register (R34). -/

namespace Sys2Proof.Machine

/-- HOLD is the AND of its conditions; its fall sets LAPSED (R34). -/
def Lane.syncGuarantee (L : Lane) : Lane :=
  let lc := L.rd LCS_STATE.STATE = 2 ∨ L.rd LCS_STATE.STATE = 3
  let K := L.put CFG_GUARANTEE.COND_LIFECYCLE lc
  let hold := K.on CFG_GUARANTEE.COND_RECOMMENDED && K.on CFG_GUARANTEE.COND_SIGNED && lc
  (K.iff (K.on CFG_GUARANTEE.HOLD && ! hold) (fun J => J.set CFG_GUARANTEE.LAPSED)).put CFG_GUARANTEE.HOLD hold

/-- COND_RECOMMENDED shows the lane's supply monitors and die temperature (R34, R434, R486). (DEDUCED, assumption 101) -/
def Lane.syncRecommended (L : Lane) : Lane :=
  (L.put CFG_GUARANTEE.COND_RECOMMENDED (L.rd PSC_SUPPLY.OK = 7 && L.rd FPS_STATUS.OK = 7 && ! L.on Int.overTemp)).syncGuarantee

/-- S0: the stop instant is latched and SS1 starts (R268, R270, R271). A request while SS1 runs has no further
effect (R283). Axes of role 2, and of role 1 outside speed control, lose ENABLE; ramp axes get set-point 0. (DEDUCED, assumption 46) -/
def Lane.startSs1 (L : Lane) : Lane :=
  if L.on SSF_STATUS.SS_ACTIVE then L else
  let K := ((L.set SSF_STATUS.SS_ACTIVE).wr Int.s0Time L.now).wr Int.v0 (L.rd SSF_VEH.VEH_SPEED)
  let K := K.forN 8 (fun n J => (J.wr (Int.w0 n) (J.rdI (Int.axisSpeed n)).natAbs).clr (Int.envRun n))
  let K := K.clr Int.envRunVeh
  let off := (List.range 8).foldl (fun m n =>
    let role := slice (2 * n) 2 (K.rd SSF_AXIS.SS_ROLE)
    if role = 2 ∨ (role = 1 ∧ K.rd (CLE_AX_CTL.LOOP n) ≠ 1) then setBit m n else m) 0
  let ramp := (List.range 8).foldl (fun m n =>
    if slice (2 * n) 2 (K.rd SSF_AXIS.SS_ROLE) = 1 ∧ K.rd (CLE_AX_CTL.LOOP n) = 1 then setBit m n else m) 0
  let K := ((K.wr Int.rampAxes ramp).set Int.s0Have).iff (off ≠ 0) (fun J => J.toField (.control (.clearEnable off)))
  let K := K.iff (ramp ≠ 0) (fun J => J.toField (.setpoint ⟨ramp, 0, 0, none, none, 0, J.now + 10000⟩))
  K.raise 0xB0

/-- The vehicle envelope in 10^-10 of 0.01 km/h, never below 0 (R271); without an S0 the latest vehicle speed. (DEDUCED, assumption 47) -/
def Lane.vEnv (L : Lane) : Nat :=
  if ! L.on Int.s0Have then L.rd SSF_VEH.VEH_SPEED * 10000000000 else
  let dt := L.now - L.rd Int.s0Time - L.rd SSF_CFG.T_DLY * 1000000
  (L.rd Int.v0 + 10 * L.rd SSF_ENV.V_MARGIN) * 10000000000 - L.rd SSF_ENV.DEC_ENV * 36 * dt

/-- `n` bytes of the token buffer from offset `o`, little-endian; `o` and `n` are multiples of four (R381). -/
def Lane.token (L : Lane) (o n : Nat) : Nat :=
  packWord ((List.range (n / 4)).map (fun k => (L.rd (LCS_TOKEN.BYTES (o / 4 + k)), 32 * k)))

/-- The condition of R380 for the transition. -/
def Lane.tokenCondition (L : Lane) : Bool :=
  let st := L.rd LCS_STATE.STATE
  let target := L.token 4 4
  if target = 1 then st = 0 && decide (mWake ≤ L.mode) && decide (L.mode ≤ mStandby)
  else if target = 2 then (st = 1 && L.mode = mStandby) || st = 3
  else if target = 3 then st = 2 && L.mode = mService
  else st ≠ 4 && (L.mode = mStandby || L.mode = mTorqueOff) && L.on SSF_STATUS.STILL

/-- The condition of a token under verification is looked at when the device mode, standstill or the life-cycle state changes: where it
ceases, the token will be rejected (R394). (DEDUCED, assumption 79) -/
def Lane.watchToken (L : Lane) : Lane := L.iff (L.on LCS_RESULT.BUSY && ! L.tokenCondition) (fun K => K.set Int.tokenBad)

/-- Whether both conditions of standstill hold at this instant (R272, R273). -/
def Lane.stillCond (L : Lane) : Bool :=
  decide (mStandby ≤ L.mode) &&
  (List.range 8).all (fun n => ! (L.rd SSF_AXIS.STILL_MASK).testBit n || decide ((L.rdI (Int.axisSpeed n)).natAbs ≤ L.rd SSF_WLIM.W_STILL * 32768)) &&
  (! L.on SSF_CFG.VEH_EN ||
    (if L.on SSF_STATUS.VEH_VALID then decide (L.rd SSF_VEH.VEH_SPEED ≤ 10 * L.rd SSF_STILL.V_STILL) else L.vEnv = 0))

/-- The lane time at which v_env reaches 0 where it stands in for the vehicle speed, else the present one (R271 to R273). -/
def Lane.vEnvZeroAt (L : Lane) : Nat :=
  if ! L.on SSF_CFG.VEH_EN || L.on SSF_STATUS.VEH_VALID || ! L.on Int.s0Have || L.rd SSF_ENV.DEC_ENV = 0 then L.now else
  let slope := L.rd SSF_ENV.DEC_ENV * 36
  L.rd Int.s0Time + L.rd SSF_CFG.T_DLY * 1000000 + ((L.rd Int.v0 + 10 * L.rd SSF_ENV.V_MARGIN) * 10000000000 + slope - 1) / slope

/-- The conditions of standstill are looked at when one of them changes: the time for which they have held starts when they begin to
hold, and ends when one fails (R273). -/
def Lane.evalStill (L : Lane) : Lane :=
  if L.stillCond then L.iff (! L.on Int.stillRun) (fun K => (K.set Int.stillRun).wr Int.stillAt K.now)
  else (((L.clr Int.stillRun).clr SSF_STATUS.STILL).updateFails none).watchToken

/-- A safe-stop request of the lane (R268): SS1 starts at once in an operating mode (R46), TORQUE-OFF is proposed in
SERVICE; in other modes it changes nothing (R47). (DESIGN CHOICE, assumption 22) -/
def Lane.requestStop (L : Lane) (cause : Nat) : Lane :=
  if operating L.mode then (L.startSs1.wr Int.restrict (max (L.rd Int.restrict) mSafeStop)).wr Int.restrictCause cause
  else if L.mode = mService then ((L.set Int.ssfSto).updateLine.wr Int.restrict mTorqueOff).wr Int.restrictCause cause
  else L

/-- The SSF requests STO at once, ahead of the device mode (R46, R47, R303). -/
def Lane.sto (L : Lane) : Lane := (L.set Int.ssfSto).updateLine

/-- The lane proposes TORQUE-OFF (R271, R273). (DEDUCED, assumption 47) -/
def Lane.proposeTorqueOff (L : Lane) (cause : Nat) : Lane :=
  if L.rd Int.restrict = mTorqueOff then L else (L.wr Int.restrict mTorqueOff).wr Int.restrictCause cause

/-- The lane state follows a change between operating and other modes; each JOINING lane counts as admitted when it was present in each
of the last eight frames (R49). A JOINING lane stays so in SAFE-STOP. (DESIGN CHOICE, assumption 99) -/
def Lane.stateForMode (L : Lane) (was : Nat) : Lane :=
  let moving (m : Nat) : Bool := operating m || m = mSafeStop
  if operating L.mode && ! moving was then
    ((if L.state = stReady then L.setState stJoining else L).set Int.operated)
  else if ! moving L.mode && moving was then
    let K := L.forN 3 (fun s J => J.iff (if s = J.me then J.state = stJoining else J.rd (Int.known s) = stJoining)
      (fun J => J.put (Int.admitted s) (8 ≤ J.rd (Int.presRun s))))
    (if K.state = stActive || K.state = stJoining then K.setState stReady else K)
  else L

/-- A direct test in progress is abandoned: a pair taken for it restarts, and the line is released (R380, R384, R393, R394).
(DEDUCED, assumption 81) -/
def Lane.abandonDirect (L : Lane) : Lane :=
  if L.rd BST_STATUS.PHASE ≠ 4 then L else
  let u := L.rd Int.directUnit
  let K := ((L.wr BST_STATUS.PHASE 0).clr Int.bstSto).updateLine
  if 4 ≤ u then K else (K.putBit Int.withdraw u false).iff (K.rd (LSC_PAIR_STATUS.STATE u) = 5) (fun J => J.restartWithdrawn u)

/-- The life-cycle state SERVICE ends when the device mode leaves SERVICE, or by a token (R380, R394). -/
def Lane.endLifecycleService (L : Lane) : Lane :=
  if L.rd LCS_STATE.STATE = 3 then
    ((((L.wr LCS_STATE.STATE 2).clr LCS_STATE.DBG_OPEN).clr Int.halted).inc LCS_RESULT.TRANS_CNT).abandonDirect.syncGuarantee
  else L

/-- On leaving SERVICE with a reading of 0 to 6 that differs from LOADED_SET, the lane resets its host and field dies
and restarts; this is no lane exit (R282). -/
def Lane.serviceSealReset (L : Lane) : Lane :=
  if L.rd SSF_SEAL.READING < 7 ∧ L.rd SSF_SEAL.READING ≠ L.rd SSF_SEAL.LOADED_SET then L.hostReset.fieldRestart else L

/-- Outside SERVICE a reading that differs from the loaded set sets SEAL_CHG (R282). (DEDUCED, assumption 48) -/
def Lane.checkSealChg (L : Lane) : Lane :=
  if L.rd Int.loadPhase = 4 && L.mode ≠ mService && L.rd SSF_SEAL.READING ≠ L.rd SSF_SEAL.LOADED_SET then (L.set SSF_FLAGS.SEAL_CHG).raise 0xB4 else L

/-- The device mode has equalled TARGET: its sending ends until the next write (R55). (DEDUCED, assumption 44) -/
def Lane.syncTarget (L : Lane) : Lane :=
  let t := L.rd CFG_MODE_REQ.TARGET
  L.iff (L.mode = t || (t = 6 && operating L.mode)) (fun K => K.set Int.targetDone)

/-- Offset in the NOR of a copy of the shutdown certificate (R386). -/
def certBase (copy : Nat) : Nat := 0x04000000 + 0x1000 * copy

/-- The bytes a certificate's signature covers, REVOKED taken as 0xFFFF_FFFF (R386). -/
def Lane.certBytes (L : Lane) (copy : Nat) : List Byte :=
  L.nor.bytes norDefault (certBase copy) 4 ++ [0xFF, 0xFF, 0xFF, 0xFF] ++ L.nor.bytes norDefault (certBase copy + 8) 88

/-- Whether a copy carries the magic and a signature that verifies (R386). -/
def Lane.certSigned (L : Lane) (copy : Nat) : Bool :=
  L.norWord (certBase copy) 4 = 0x54435357 &&
  Config.ecdsaOk (L.rd Int.laneKey) (L.certBytes copy) (L.nor.bytes norDefault (certBase copy + 0x60) 96)

/-- The newest copy: the higher TICK among those whose signature verifies (R386). -/
def Lane.newestCert (L : Lane) : Option Nat :=
  if L.certSigned 0 && (! L.certSigned 1 || L.norWord (certBase 1 + 0x20) 8 ≤ L.norWord (certBase 0 + 0x20) 8) then some 0
  else if L.certSigned 1 then some 1 else none

/-- On entry to SHUTDOWN a PG930-T revokes its newest certificate before the full self-test (R51, R389). -/
def Lane.revokeCert (L : Lane) : Lane :=
  if L.strap.variant = .d then L else
  let K := match L.newestCert with
    | none => L
    | some c => { L with nor := L.nor.setNum norDefault (certBase c + 4) 4 0 }
  K.wr BST_STATUS.PHASE 2

/-- Gate permission follows the device mode and goes to the field die (R52, R87): a lane has it in authority, and a READY lane
in SERVICE. (DEDUCED, assumption 53) -/
def Lane.sendPermission (L : Lane) : Lane :=
  let ok := ! gatesOff L.mode && (L.state = stActive || (L.mode = mService && L.state = stReady))
  if ok = L.on Int.permitted then L else
  (L.put Int.permitted ok).toField (.control (.gatePermission (if ok then 255 else 0)))

/-- A lane past its own TEST, its NET domain running, in a device mode that lets its networks act (R52, R346, R354, R412).
(DEDUCED, assumption 118) -/
def Lane.netsAct (L : Lane) (last : Nat) : Bool :=
  L.on (CKG_DOM_CTL.RUN_EN 3) && decide (mStandby ≤ L.mode) && decide (L.mode ≤ last) && L.state ≠ stReset && L.state ≠ stBoot && L.state ≠ stFailed

/-- The CAN port is off, or comes on as error active with both error counts 0 (R353, R354, R358). (PRESUMED, assumption 40) -/
def Lane.syncCan (L : Lane) : Lane :=
  if L.on CAN_CFG.EN && L.netsAct mService && ! L.on Int.canOff then L.iff (L.rd CAN_STATUS.STATE = 3) (fun K => ((K.wr CAN_STATUS.STATE 0).wr CAN_STATUS.TEC 0).wr CAN_STATUS.REC 0)
  else (L.wr CAN_STATUS.STATE 3).clr Int.canRecov

/-- The axes of the channels enabled at the frame's start (R233, R238). (DEDUCED, assumption 116) -/
def Lane.channelAxes (L : Lane) : Nat :=
  (List.range 16).foldl (fun n m => if (L.rd (Int.chSnap m)).testBit 0 then n ||| slice 8 8 (L.rd (Int.chSnap m)) else n) 0

/-- The agreed axes are sent to zero current, with SHARE 0, before the gates go off (R47, R235). (DEDUCED, assumption 116) -/
def Lane.zeroAxes (L : Lane) : Lane :=
  if L.channelAxes = 0 then L
  else L.toField (.setpoint ⟨L.channelAxes, 0, 0, some 0, none, 0, L.rd Int.frameAt + 1000 * L.rd LSC_AGR_CFG.APPLY_OFS⟩)

/-- The actions of a transition into the present mode (R47, R51, R52, R278, R282, R380). (DEDUCED, assumption 116) -/
def Lane.modeActions (L : Lane) (was : Nat) : Lane :=
  let K := (L.stateForMode was).iff (L.mode ≠ mService) (fun J => J.updateFails none)
  let K := K.iff (K.mode = mSafeStop && liveState K.state) (fun J => J.startSs1)
  let K := K.iff (K.mode = mTorqueOff) (fun J => (J.clr SSF_STATUS.SS_ACTIVE).clr Int.ssfSto)
  let K := K.iff (K.mode = mStandby || K.mode = mTorqueOff) (fun J => J.wr Int.stoTestDue 3)
  let K := K.iff (was = mTorqueOff && K.mode = mStandby) (fun J => J.clr CFG_MODE_STATUS.STOP_PENDING)
  let K := K.iff (K.mode = mShutdown) (fun J => J.revokeCert)
  let K := K.iff (K.mode = mShutdown) (fun J => J.endClaim)
  let K := K.iff (operating was && K.mode = mStandby) (fun J => J.zeroAxes)
  let K := (K.updateLine.sendPermission.syncReady.syncEligible).refreshSa.syncCan
  let K := K.iff (was = mService) (fun J => J.endLifecycleService)
  let K := K.iff (was = mService && K.mode = mStandby) (fun J => J.serviceSealReset)
  K.iff (was = mService) (fun J => J.abandonDirect.checkSealChg)

/-- A device-mode transition takes effect with its record and its actions (R45, R58). (DEDUCED, assumption 52) -/
def Lane.setMode (L : Lane) (m cause lane : Nat) : Lane :=
  if L.mode = m then L else
  let was := L.mode
  let K := ((L.wr CFG_MODE_STATUS.PREV_MODE was).wr CFG_MODE_STATUS.DEVICE_MODE m).wr CFG_MODE_CAUSE.CAUSE cause
  let K := ((K.wr CFG_MODE_CAUSE.CAUSE_LANE lane).wr CFG_MODE_TIME.T L.now).clr Int.refusedAt
  (K.syncTarget.modeActions was).watchToken

end Sys2Proof.Machine
end

