-- ==== Sys2Proof/Machine/FaultCmds.lean ====
section
/-! DEFINITION. The commands of the fault collector (R287 to R300). -/

namespace Sys2Proof.Machine

/-- What every meaning answers. -/
abbrev Out := Host.Outcome State Fault Refusal

/-- FAULT_ARRIVAL: the faults reported by blocks since the last cycle, and further host sources, arrive at the
collector in one cycle (R288, R291, R293 to R296). (DEDUCED, assumption 20) -/
def execFaultArrival (l : LaneId) (more : List Nat) (s : State) : Out :=
  .next (s.onLane l (fun L =>
    let extra := (more.filter (fun k => sourceDefined k && ! fieldSource k)).map (fun k => (⟨k, false, 1, 0⟩ : Arrival))
    { L with inbox := [] }.collect (L.inbox ++ extra)))

/-- A field fault message at the collector: its CUM difference is counted, one reaction taken, the message
acknowledged; one already taken adds nothing (R288, R292). -/
def Lane.takeFieldMsg (L : Lane) (m : FieldMsg) : Lane :=
  if m.forced then L.collect [⟨m.src, true, 1, m.ftb⟩]
  else
    let n := (m.cum + 65536 - L.rd (Int.last m.src)) % 65536
    let K := (L.wr (Int.last m.src) m.cum).toField (.faultAck m.src m.cum)
    if n = 0 then K else K.collect [⟨m.src, false, n, m.ftb⟩]

/-- FIELD_FAULT_MESSAGE: an urgent fault message, else the first ordered item where it is one, is received (R292). -/
def execFieldFaultMessage (l : LaneId) (s : State) : Out :=
  .next (s.onLane l (fun L =>
    match L.urgent, L.up with
    | m :: r, _ => { L with urgent := r }.takeFieldMsg m
    | [], .fault m :: _ => L.takeUp.takeFieldMsg m
    | _, _ => L))

/-- FAULT_ACKNOWLEDGE: the FBG takes the acknowledgement of a source's CUM (R292). -/
def execFaultAcknowledge (l : LaneId) (s : State) : Out :=
  .next (s.onLane l (fun L =>
    match L.down with
    | .faultAck src cum :: _ =>
      let K := L.takeDown.wr (Int.acked src) cum
      { K with occurrences := K.occurrences.filter (fun m => ! (m.src = src && (cum + 65536 - m.cum) % 65536 < 32768)) }.syncBacklog
    | _ => L))

/-- PEND_ACK: writing 1 to PEND bits acknowledges S3 faults; with `same` the waiting faults arrive in the same cycle, so
a set wins (R8, R295). -/
def execPendAck (l : LaneId) (k mask : Nat) (same : Bool) (s : State) : Out :=
  .next (s.onLane l (fun L =>
    let w := k % 8
    let K := (L.wr (BGR_PEND.BITS w) (L.rd (BGR_PEND.BITS w) &&& (0xFFFFFFFF ^^^ (mask % 2 ^ 32)))).syncPend.bgrEvent
    if same then { K with inbox := [] }.collect K.inbox else K))

/-- The pending source whose bit has been set longest and has not expired yet. -/
def Lane.oldestPending (L : Lane) : Option Nat :=
  let ks := (List.range 256).filter (fun k => L.pending k && ! L.on (Int.pendFired k))
  ks.find? (fun k => ks.all (fun j => L.rd (Int.pendAt k) < L.rd (Int.pendAt j) || (L.rd (Int.pendAt k) = L.rd (Int.pendAt j) && k ≤ j)))

/-- REACTION_TIMER_EXPIRY: a PEND bit has been held for REACT_T; E0 is latched with it as the cause, or the escalation of
an injected fault stops at the gate (R295, R298). -/
def execReactionTimerExpiry (l : LaneId) (s : State) : Out :=
  .next (s.onLane l (fun L =>
    if L.rd BGR_STATE.STATE = 2 then L else
    match L.oldestPending with
    | none => L
    | some k =>
      let K := L.set (Int.pendFired k)
      let alone := K.on (Int.pendForced k)
      (K.iff (! alone) (fun J => J.set BGR_STATE.ESC_TIMER)).gate k alone ((K.now - K.rd (Int.pendAt k)) / 10)))

/-- FIRST_FAULT_CLEAR: writing 1 to VALID returns LATCHED to CLEAR unless an arrival falls in the same cycle (R293). -/
def execFirstFaultClear (l : LaneId) (same : Bool) (s : State) : Out :=
  .next (s.onLane l (fun L =>
    if L.rd BGR_STATE.STATE ≠ 1 then L
    else if same && ! L.inbox.isEmpty then { L with inbox := [] }.collect L.inbox
    else
      [BGR_FIRST.ID, BGR_FIRST.SEV, BGR_FIRST.FORCED, BGR_FIRST.OBSERVED, BGR_FIRST.ORIGIN, BGR_FIRST.TCLK, BGR_FIRST.VALID,
        BGR_FIRST.OVERFLOW, BGR_FIRST.LATER_MAX, BGR_FIRST.LATER_CNT, BGR_FIRST_T.T, BGR_FIRST_FTB.FTB, BGR_STATE.STATE].foldl
        (fun K f => K.clr f) L))

/-- The modes in which force writes take effect (R297). -/
def forceAllowed (m : Nat) : Bool := m = mTest || m = mStandby || m = mTorqueOff || m = mService

/-- FAULT_FORCE: one occurrence of a source is injected, a field source through the FBG (R297, R298). -/
def execFaultForce (l : LaneId) (src : Nat) (s : State) : Out :=
  .next (s.onLane l (fun L =>
    if ! forceAllowed L.mode then L.inc BGR_STATE.FORCE_REFUSED
    else if ! sourceDefined src then L
    else if fieldSource src then L.toField (.control (.inject src))
    else { L with inbox := [] }.collect (L.inbox ++ [(⟨src, true, 1, 0⟩ : Arrival)])))

/-- LOG_POP: the oldest log entry is removed (R299). -/
def execLogPop (l : LaneId) (s : State) : Out :=
  .next (s.onLane l (fun L => { L with log := L.log.drop 1 }.syncLog))

/-- The severity of a source is stored: clamped to its floor and to 4, and copied to the FBG for a field source; a
reserved one stays 0 (R290, R296). -/
def Lane.storeSeverity (L : Lane) (src v : Nat) : Lane :=
  if ! sourceDefined src then L else
  let sev := max (sourceFloor src) (min v 4)
  (L.wr (BGR_SEV.SEV src (sourceSeverity src)) sev).iff (fieldSource src) (fun K => K.toField (.control (.severityCopy src sev)))

/-- SEVERITY_WRITE: a write to BGR_SEVk is stored only in SERVICE with the seal open, else refused and counted (R290). -/
def execSeverityWrite (l : LaneId) (k data : Nat) (s : State) : Out :=
  .next (s.onLane l (fun L =>
    if L.mode = mService ∧ L.rd SSF_SEAL.READING = 7 then
      L.forN 8 (fun j K => K.storeSeverity (8 * (k % 32) + j) (slice (4 * j) 4 data))
    else L.inc BGR_STATE.SEV_WR_REFUSED))

end Sys2Proof.Machine
end

