-- ==== Sys2Proof/Machine/Dcl.lean ====
section
/-! DEFINITION. The DC-link and chopper supervisor (R196 to R216): thresholds, regeneration limit, loss injection, chopper
duty and diagnosis, and the energy account. -/

namespace Sys2Proof.Machine

/-! ### Thresholds (R197, R198) -/

/-- A value clamped into an interval; the lower bound governs where the interval is empty. -/
def clampLow (lo hi v : Nat) : Nat := max lo (min v hi)

/-- OV1 and OV2 written in one access, clamped in the three steps of R197. -/
def Lane.writeOv12 (L : Lane) (k ov1 ov2 : Nat) : Lane :=
  let up := min ov2 (L.rd (DCL_RAIL_OV3.OV3 k) - 1)
  let low := clampLow (L.rd (DCL_RAIL_CH.CH_FULL k)) (up - 1) ov1
  (L.wr (DCL_RAIL_OV12.OV1 k) low).wr (DCL_RAIL_OV12.OV2 k) (max up (low + 1))

/-- OV3 and HYST written (R197, R214). -/
def Lane.writeOv3 (L : Lane) (k ov3 hyst : Nat) : Lane :=
  (L.wr (DCL_RAIL_OV3.OV3 k) (clampLow (L.rd (DCL_RAIL_OV12.OV2 k) + 1) (L.rd (DCL_RAIL_CFG.RAIL_FS k)) ov3)).wr (DCL_RAIL_OV3.HYST k) hyst

/-- CH_ON and CH_FULL written in one access, clamped in the three steps of R197. -/
def Lane.writeCh (L : Lane) (k on full : Nat) : Lane :=
  let up := min full (L.rd (DCL_RAIL_OV12.OV1 k))
  let low := clampLow 1 (up - 1) on
  (L.wr (DCL_RAIL_CH.CH_ON k) low).wr (DCL_RAIL_CH.CH_FULL k) (max up (low + 1))

/-- THRESHOLD_WRITE: a write of DCL_RAILk_OV12, _OV3 or _CH (R197). -/
def execThresholdWrite (l : LaneId) (rail : Fin 4) (which : Fin 3) (data : Nat) (s : State) : Out :=
  .next (s.onLane l (fun L =>
    match which with
    | 0 => L.writeOv12 rail (slice 0 12 data) (slice 16 12 data)
    | 1 => L.writeOv3 rail (slice 0 12 data) (slice 16 8 data)
    | 2 => L.writeCh rail (slice 0 12 data) (slice 16 12 data)))

/-- Whether the latest conversion of a rail lies above `v` volts; a clipped one lies above everything (R196). -/
def Lane.railAbove (L : Lane) (k v : Nat) : Bool :=
  L.rd (Int.railCode k) = 16383 || decide (v * 16383 < L.rd (Int.railCode k) * L.rd (DCL_RAIL_CFG.RAIL_FS k))

/-- The threshold OV1, OV2 or OV3 of a rail, by index 0 to 2. -/
def ovValue (k i : Nat) : Fld := if i = 0 then DCL_RAIL_OV12.OV1 k else if i = 1 then DCL_RAIL_OV12.OV2 k else DCL_RAIL_OV3.OV3 k

/-- Its ACT bit. -/
def ovAct (k i : Nat) : Fld :=
  if i = 0 then DCL_RAIL_STATUS.OV1_ACT k else if i = 1 then DCL_RAIL_STATUS.OV2_ACT k else DCL_RAIL_STATUS.OV3_ACT k

/-- Its SEEN bit. -/
def ovSeen (k i : Nat) : Fld :=
  if i = 0 then DCL_RAIL_FLAGS.OV1_SEEN k else if i = 1 then DCL_RAIL_FLAGS.OV2_SEEN k else DCL_RAIL_FLAGS.OV3_SEEN k

/-- Each enabled axis on a rail that is not in SAFE enters it at OV3, is recorded, and leaves agreement (R202). -/
def Lane.ov3Axes (L : Lane) (k : Nat) : Lane :=
  L.forN 8 (fun n K => K.iff (K.railOf n = k && K.on (CLE_AX_CTL.ENABLE n) && K.rd (CLE_AX_FOX_STATUS.STATE n) ≠ 6) (fun J =>
    (J.putBit DCL_AXIS_STATUS.OV3_SAFE n true).enterSafe n 0x82))

/-- One threshold is evaluated at a conversion: it is taken or released after FILT consecutive conversions (R198). -/
def Lane.evalOv (L : Lane) (k i : Nat) : Lane :=
  let taken := L.on (ovAct k i)
  let thr := L.rd (ovValue k i)
  let hyst := L.rd (DCL_RAIL_OV3.HYST k)
  let toward := if taken then decide (hyst ≤ thr) && ! L.railAbove k (thr - hyst) else L.railAbove k thr
  let run := if toward then L.rd (Int.ovRun k i) + 1 else 0
  if toward && decide (L.rd (DCL_RAIL_CFG.FILT k) ≤ run) then
    let K := (L.clr (Int.ovRun k i)).put (ovAct k i) (! taken)
    if taken then K.iff (i = 1) (fun J => J.clr (Int.lossSeen k))
    else
      let K := (K.set (ovSeen k i)).fieldRaise (0x80 + i)
      if i = 2 then (K.inc (DCL_RAIL_FLAGS.OV3_CNT k)).ov3Axes k else K.iff (i = 1) (fun J => J.clr (Int.lossSeen k))
  else L.wr (Int.ovRun k i) run

/-! ### Regeneration and loss injection (R199 to R201) -/

/-- REGEN_K of a rail in 2^-31, 1 included, as last recomputed (R199, R200). -/
def Lane.regenQ (L : Lane) (k : Nat) : Int := L.rd (Int.regenK k)

/-- REGEN_K is recomputed, at a conversion or when the rail is no longer monitored: the value in use, and × 255, rounded down, as
shown (R198, R200, R209, R214). -/
def Lane.syncRegen (L : Lane) (k : Nat) : Lane :=
  if ! L.on (DCL_RAIL_STATUS.OV1_ACT k) then (L.wr (DCL_RAIL_STATUS.REGEN_K k) 255).wr (Int.regenK k) (2 ^ 31)
  else if L.on (DCL_RAIL_STATUS.OV2_ACT k) || L.on (DCL_RAIL_STATUS.OV3_ACT k) then (L.clr (DCL_RAIL_STATUS.REGEN_K k)).clr (Int.regenK k)
  else
    let num : Int := (L.rd (DCL_RAIL_OV12.OV2 k) : Int) * 16383 - (L.rd (Int.railCode k) : Int) * L.rd (DCL_RAIL_CFG.RAIL_FS k)
    let den := (L.rd (DCL_RAIL_OV12.OV2 k) - L.rd (DCL_RAIL_OV12.OV1 k)) * 16383
    (L.wr (DCL_RAIL_STATUS.REGEN_K k) (clampI 0 255 (num * 255 / (den : Int))).toNat).wr (Int.regenK k)
      (clampI 0 (2 ^ 31) (divRound 200 (num * 2 ^ 31) den)).toNat

/-- Whether loss injection is active on a rail (R201). -/
def Lane.lossActive (L : Lane) (k : Nat) : Bool :=
  L.on (DCL_RAIL_CFG.EN k) && L.on (DCL_RAIL_STATUS.OV2_ACT k) && ! L.on (DCL_RAIL_STATUS.OV3_ACT k) &&
  (List.range 4).any (fun c => L.on (DCL_CH_CFG.CHOP_EN c) && L.rd (DCL_CH_CFG.RAIL c) = k &&
    (L.on (DCL_CH_FLAGS.CH_FAULT c) || L.on (DCL_CH_FLAGS.EXT_FAULT c)))

/-- LOSS_ACT follows R201 on every rail. -/
def Lane.syncLoss (L : Lane) : Lane := L.forN 4 (fun k K => K.put (DCL_RAIL_STATUS.LOSS_ACT k) (K.lossActive k))

/-! ### Energy (R210) -/

/-- The current of a phase of an axis's latest sample times its duty, summed, in A × 2^62 (R210). -/
def Lane.axisRailCurrent (L : Lane) (n : Nat) : Int :=
  (((List.range 3).map (fun x => (L.rd (Int.axDuty n x) : Int) * toInt 32 (L.rd (Int.axCur n x)))).sum) * L.rd (DCL_AX_CFG.AX_IFS n)

/-- Energy of one conversion in 2^-20 mJ from a current in A × `den`. -/
def Lane.energyOf (L : Lane) (k : Nat) (num : Int) (den : Nat) : Nat :=
  (divRound 210 (num * L.rd (Int.railCode k) * L.rd (DCL_RAIL_CFG.RAIL_FS k) * 2 ^ 20) (16383 * 1000 * den)).toNat

/-- The feed current in A × 8192: positive flows into the rail (R196, R210). (DESIGN CHOICE, assumption 34) -/
def Lane.feedCurrent (L : Lane) (k : Nat) : Int := ((L.rd (Int.feedCode k) : Int) - 8192) * (10 * L.rd (DCL_RAIL_ECFG.FEED_FS k) : Nat)

/-- One conversion is added to the counters (R210). (DESIGN CHOICE, assumption 39) -/
def Lane.addEnergy (L : Lane) (k : Nat) : Lane :=
  let feed := L.feedCurrent k
  let axes := ((List.range 8).filter (fun n => L.railOf n = k)).map (fun n => L.axisRailCurrent n)
  let chops := (List.range 4).filter (fun c => L.on (DCL_CH_CFG.CHOP_EN c) && L.rd (DCL_CH_CFG.RAIL c) = k)
  let chopE := (chops.map (fun c => L.energyOf k ((L.rd (Int.chopCode c) : Int) * (10 * L.rd (DCL_CH_DIAG.CH_IFS c) : Nat)) 16383)).sum
  let into := (axes.map (fun i => if i < 0 then L.energyOf k (-i) (2 ^ 62) else 0)).sum + (if 0 < feed then L.energyOf k feed 8192 else 0)
  let out := (axes.map (fun i => if 0 < i then L.energyOf k i (2 ^ 62) else 0)).sum + (if feed < 0 then L.energyOf k (-feed) 8192 else 0) + chopE
  let K := (L.add (Int.eInFine k) into).add (Int.eOutFine k) out
  (K.sat (DCL_RAIL.EIN k) (K.rd (Int.eInFine k) / 2 ^ 20)).sat (DCL_RAIL.EOUT k) (K.rd (Int.eOutFine k) / 2 ^ 20)

/-- RAIL_CONVERSION: a conversion of a rail voltage; while EN is 0 it is not evaluated (R196, R198 to R202, R210). -/
def execRailConversion (l : LaneId) (rail : Fin 4) (code : Nat) (s : State) : Out :=
  .next (s.onLane l (fun L =>
    if ! L.on (FCK_DOM_CTL.RUN_EN 2) then L else
    let k : Nat := rail
    let K := L.wrAt (Int.railCode k) (min code 16383) L.ftb
    let clip := K.rd (Int.railCode k) = 16383
    let K := (K.wr (DCL_RAIL_STATUS.U_V k) (divRound 196 ((K.rd (Int.railCode k) : Int) * K.rd (DCL_RAIL_CFG.RAIL_FS k)) 16383).toNat).put
      (DCL_RAIL_STATUS.CLIP k) clip
    if ! K.on (DCL_RAIL_CFG.EN k) then K else
    let K := if clip then (if K.on (Int.clipRun k) then K else ((K.set (Int.clipRun k)).set (DCL_RAIL_FLAGS.CLIPPED k)).fieldRaise 0x86)
             else K.clr (Int.clipRun k)
    let K := ((K.evalOv k 0).evalOv k 1).evalOv k 2
    ((K.syncRegen k).syncLoss).addEnergy k))

/-- The rail voltage in V / 16383, exact (R196, R210). -/
def Lane.railVolts (L : Lane) (k : Nat) : Nat := L.rd (Int.railCode k) * L.rd (DCL_RAIL_CFG.RAIL_FS k)

/-- ENERGY_CHECK: ERES is computed and held against the tolerance (R40, R210). -/
def execEnergyCheck (l : LaneId) (rail : Fin 4) (s : State) : Out :=
  .next (s.onLane l (fun L =>
    let k : Nat := rail
    if ! L.on (DCL_RAIL_CFG.EN k) then L else
    let u : Int := L.railVolts k
    let one : Int := 16383 * 16383
    let r : Int := L.rd (Int.uRef k)
    let ein : Int := L.rd (DCL_RAIL.EIN k)
    let eout : Int := L.rd (DCL_RAIL.EOUT k)
    -- in 1/20 mJ over 16383²
    let e := 20 * (ein - eout) * one - (L.rd (DCL_RAIL_ECFG.C_RAIL k) : Int) * (u * u - r * r)
    let K := L.wrI (DCL_RAIL_ERES.ERES k) (clampI (-2147483648) 2147483647 (divRound 211 e (20000 * 16383 * 16383)))
    if 50 * (e.natAbs : Int) ≤ (20 * (ein + eout) + 1000000 * (L.rd (DCL_RAIL_ECFG.E_FLOOR k) : Int)) * one then K
    else (K.set (DCL_RAIL_FLAGS.EMISMATCH k)).fieldRaise 0x87))

/-- Both counters of a rail are cleared and u_ref is captured (R210). -/
def Lane.energyReset (L : Lane) (k : Nat) : Lane :=
  ((((L.clr (Int.eInFine k)).clr (Int.eOutFine k)).clr (DCL_RAIL.EIN k)).clr (DCL_RAIL.EOUT k)).wr (Int.uRef k) (L.railVolts k)

/-- ERESET (R210). -/
def execEreset (l : LaneId) (rail : Fin 4) (s : State) : Out := .next (s.onLane l (fun L => L.energyReset rail))

/-- EN of a rail is written; clearing it releases every threshold at once (R198). -/
def Lane.writeRailEn (L : Lane) (k : Nat) (on : Bool) : Lane :=
  let K := L.put (DCL_RAIL_CFG.EN k) on
  if on then K else
  ([DCL_RAIL_STATUS.OV1_ACT k, DCL_RAIL_STATUS.OV2_ACT k, DCL_RAIL_STATUS.OV3_ACT k, Int.ovRun k 0, Int.ovRun k 1, Int.ovRun k 2,
    Int.clipRun k, Int.lossSeen k].foldl (fun J f => J.clr f) K).syncRegen k |>.syncLoss

/-- RAIL_ENABLE (R198). -/
def execRailEnable (l : LaneId) (rail : Fin 4) (on : Bool) (s : State) : Out := .next (s.onLane l (fun L => L.writeRailEn rail on))

/-! ### Choppers (R204 to R208) -/

/-- The duty of a chopper as a fraction of at most 1, from the rail code `code`: its numerator and denominator. A shared chopper is
held off while EXT_FAULT is 1 (R199, R204, R207, R208). (DEDUCED, assumption 37) -/
def Lane.chopDuty (L : Lane) (c code : Nat) : Nat × Nat :=
  let k := L.rd (DCL_CH_CFG.RAIL c)
  let demand := L.rd (DCL_CH_DEMAND.DEMAND c)
  if L.on (DCL_CH_FLAGS.CH_FAULT c) || (L.on (DCL_CH_CFG.SHARED c) && L.on (DCL_CH_FLAGS.EXT_FAULT c)) || L.on Int.dclBad then (0, 1)
  else if ! L.on (DCL_RAIL_CFG.EN k) then (demand, 1000)
  else if L.on (DCL_RAIL_STATUS.OV1_ACT k) || L.on (DCL_RAIL_STATUS.OV2_ACT k) || L.on (DCL_RAIL_STATUS.OV3_ACT k) then (1, 1)
  else
    let den := (L.rd (DCL_RAIL_CH.CH_FULL k) - L.rd (DCL_RAIL_CH.CH_ON k)) * 16383
    let num := min den (code * L.rd (DCL_RAIL_CFG.RAIL_FS k) - L.rd (DCL_RAIL_CH.CH_ON k) * 16383)
    if num * 1000 ≤ demand * den then (demand, 1000) else (num, den)

/-- At a transfer point of its group the DCL's edges, computed from the last conversion before the W instant, are in the
shadows with a COMMIT (R204). `b` is the transfer point; a period that moves at it is that of the edges. -/
def Lane.chopperEdges (L : Lane) (c b : Nat) (mid : Bool) : Lane :=
  if ! L.on (DCL_CH_CFG.CHOP_EN c) || ! L.on (PWM_GROUP_CTL.RUN (8 + c)) then L else
  let d := L.chopDuty c (L.asOf (Int.railCode (L.rd (DCL_CH_CFG.RAIL c))) b)
  let p := if mid then L.steps (8 + c) else 8 * L.asOf (PWM_GROUP_PERIOD.PERIOD (8 + c)) b
  let fall := (nearest 205 ((d.1 * p : Nat) : Int) d.2).toNat
  let t := b - 4
  let K := (L.putRise (48 + c) (if d.1 = 0 then 0x7FFFFF8 else 0) t).putFall (48 + c) (if d.1 = d.2 then 0x7FFFFF8 else fall) t
  let K := ((K.wr (Int.chNext c 0) d.1).wr (Int.chNext c 1) d.2).wr (DCL_CH_STATUS.DUTY c) (divRound 215 ((d.1 * 1000 : Nat) : Int) d.2).toNat
  if K.on (Int.commit (8 + c)) then K.wr (Int.commitAt (8 + c)) (min t (K.rd (Int.commitAt (8 + c)))) else K.commitGroup (8 + c) t

/-- CH_FAULT after a decision of the diagnosis, and with a stuck-on the contactor request (R206, R207). -/
def Lane.chopFault (L : Lane) (c : Nat) (stuckOn : Bool) : Lane :=
  let K := L.set (DCL_CH_FLAGS.CH_FAULT c)
  let K := if stuckOn then ((K.set (Int.chOnDone c)).set (DCL_CH_FLAGS.STUCK_ON c)).fieldRaise 0x84
           else ((K.set (Int.chOpenDone c)).set (DCL_CH_FLAGS.STUCK_OPEN c)).fieldRaise 0x83
  let K := if stuckOn && decide (K.rd (DCL_CH_CFG.CONT_SA c) ≠ 0) then (K.set (DCL_CH_FLAGS.CONT_REQ c)).fieldEvent 4 0 c 0 else K
  K.syncLoss

/-- The chopper period that ends is judged (R206, R207), and the sums of the next one start. -/
def Lane.chopperPeriod (L : Lane) (c : Nat) : Lane :=
  let n := L.rd (Int.chN c)
  let i := L.rd (Int.chIsum c)
  let k := L.rd (DCL_CH_CFG.RAIL c)
  let clear (K : Lane) : Lane :=
    ((((((K.clr (Int.chN c)).clr (Int.chIsum c)).clr (Int.chUsum c)).clr (Int.chArm c)).wr (Int.chDuty c 0) (K.rd (Int.chNext c 0))).wr (Int.chDuty c 1) (K.rd (Int.chNext c 1))).put (Int.chNever c) (never (K.rd (Int.actRise (48 + c))))
  if ! L.on (DCL_CH_CFG.CHOP_EN c) || ! L.on (DCL_CH_STATUS.ACTIVE c) || L.on (Int.chArm c) || n = 0 then
    clear ((L.clr (Int.chOpenRun c)).clr (Int.chOnRun c))
  else
    let amps := 10 * L.rd (DCL_CH_DIAG.CH_IFS c)
    let K := L.sat (DCL_CH_STATUS.I_MEAN c) (divRound 206 ((i * amps : Nat) : Int) (16383 * n)).toNat
    let d := L.rd (Int.chDuty c 0)
    let den := L.rd (Int.chDuty c 1)
    let open_ := decide (den ≤ d * 10) && decide (i * amps * 256 * L.rd (DCL_CH_CFG.R_GRID c) * den <
      L.rd (DCL_CH_DIAG.OPEN_FRAC c) * d * L.rd (Int.chUsum c) * L.rd (DCL_RAIL_CFG.RAIL_FS k) * 1000)
    let on := L.on (Int.chNever c) && decide (L.rd (DCL_CH_DIAG.I_OFF c) * 16383 * n < i * amps * 10)
    let stop := L.on (Int.chOnDone c)
    let openRun := if open_ && ! L.on (Int.chOpenDone c) && ! stop then L.rd (Int.chOpenRun c) + 1 else 0
    let onRun := if on && ! stop then L.rd (Int.chOnRun c) + 1 else 0
    let K := (K.wr (Int.chOpenRun c) openRun).wr (Int.chOnRun c) onRun
    let K := K.iff (decide (2 ≤ openRun)) (fun J => (J.clr (Int.chOpenRun c)).chopFault c false)
    clear (K.iff (decide (2 ≤ onRun)) (fun J => (J.clr (Int.chOnRun c)).chopFault c true))

end Sys2Proof.Machine
end

