-- ==== Sys2Proof/Machine/PwmCmds.lean ====
section
/-! DEFINITION. The commands of the PWM unit (R135 to R169). -/

namespace Sys2Proof.Machine

/-- Whether the dead time that ends now is that of an ASC pattern: the one of a compare that began before it ends first, unless
the PWM clock is stopped (R156, R159). -/
def Lane.ascDue (L : Lane) (p : Nat) : Bool :=
  L.on (Int.ascPend p) && (L.on Int.pwmStopped || L.rd (Int.dtPend p) = 0 || ! L.on (Int.dtBefore p))

/-- DEAD_TIME_EXPIRY: the pending turn-on of a pair acts: of a compare, which waits while the PWM clock is stopped, or of an
ASC pattern (R140, R156, R159). -/
def execDeadTimeExpiry (l : LaneId) (pair : Fin 26) (s : State) : Out :=
  .next (s.onLane l (fun L =>
    let p : Nat := pair
    if L.ascDue p then L.clr (Int.ascPend p)
    else if L.on Int.pwmStopped then L
    else if L.rd (Int.dtPend p) = 1 then (L.set (Int.outOn (2 * p))).startDt p 0
    else if L.rd (Int.dtPend p) = 2 then (L.set (Int.outOn (2 * p + 1))).startDt p 0
    else L))

/-- COMMIT (R141). -/
def execCommit (l : LaneId) (g : Fin 12) (s : State) : Out := .next (s.onLane l (fun L => L.commitGroup g L.ftb))

/-- COMPARE_EVENT: the counter reaches a RISE (0) or FALL (1) position, or the moved turn-off edge of an interval (2)
(R136, R151, R159). -/
def execCompareEvent (l : LaneId) (out : Fin 52) (kind : Fin 3) (s : State) : Out :=
  .next (s.onLane l (fun L =>
    if ! L.on (PWM_GROUP_STATUS.COUNTING (groupOf out)) || L.on Int.pwmStopped then L else
    match kind with
    | 0 => L.compareActs out true
    | 1 => L.compareActs out false
    | 2 => L.movedOff out))

/-! ### The transfer point (R141 to R144, R153 to R155, R160) -/

/-- The edge shadows a group uses have all been written since the last commit, no later than 4 ns before `b` (R141, R143). -/
def Lane.edgesWritten (L : Lane) (g b : Nat) : Bool :=
  (outsOf g).all (fun k => (k < 48 && k % 2 = 1 && L.asOf (PWM_PAIR_CFG.COMPL (k / 2)) b = 0) ||
    (L.asOf (Int.wroteRise k) b = 1 && L.asOf (Int.wroteFall k) b = 1))

/-- The period of a commit: held back under the period-duty lock, else taken (R143, R144). `b` is the transfer point. -/
def Lane.takePeriod (L : Lane) (g b : Nat) : Lane :=
  let p := L.asOf (PWM_GROUP_PERIOD.PERIOD g) b
  if p = L.rd (Int.actPeriod g) then L.clr (PWM_GROUP_STATUS.PERIOD_PENDING g)
  else if ! L.on (PWM_GROUP_CTL.DPL_LOCK g) || L.edgesWritten g b then (L.wr (Int.actPeriod g) p).clr (PWM_GROUP_STATUS.PERIOD_PENDING g)
  else if L.on (PWM_GROUP_STATUS.PERIOD_PENDING g) then L
  else (((L.set (PWM_GROUP_STATUS.PERIOD_PENDING g)).set (PWM_GROUP_STATUS.MIXED_COMMIT g)).inc (PWM_GROUP_CNT.MIXED_CNT g)).fieldRaise 0x71

/-- The shadows of a group move as they stood 4 ns before the transfer point `b`; at mid-period only FALL moves (R141). -/
def Lane.moveShadows (L : Lane) (g b : Nat) (mid : Bool) : Lane :=
  let K := (outsOf g).foldl (fun J k => J.wr (Int.actFall k) (J.asOf (PWM_OUT_FALL.FALL k) b)) L
  if mid then K else
  let K := (outsOf g).foldl (fun J k => J.wr (Int.actRise k) (J.asOf (PWM_OUT_RISE.RISE k) b)) (K.takePeriod g b)
  let K := K.wr (Int.actPhase g) (K.asOf (PWM_GROUP_PHASE.PHASE g) b)
  (pairsOf g).foldl (fun J p =>
    let v := J.asOf (PWM_PAIR_CFG.COMPL p) b
    let I := (J.wr (Int.actDt p) (J.asOf (PWM_PAIR_CFG.DT p) b)).wr (Int.actIndep p) v
    if v = J.rd (Int.actIndep p) then I else I.changeCompl p (v = 0)) K

/-- A commit is taken: the shadows move, the outputs released from kind 1 follow the compares again, and STO frees the
group (R141, R157, R274). (DEDUCED, assumption 37) -/
def Lane.takeCommit (L : Lane) (g b : Nat) (mid : Bool) : Lane :=
  let K := ((L.moveShadows g b mid).useCommit g b).clr (Int.holdOff g)
  let K := (outsOf g).foldl (fun J k => (J.put (Int.wroteRise k) (J.lateWrite (Int.wroteRise k) b)).put (Int.wroteFall k) (J.lateWrite (Int.wroteFall k) b)) K
  let K := K.freeGroup g
  if decide (g < 8) && K.on (Int.stopping g) then (K.clr (Int.stopping g)).checkCluster (g / 4) else K

/-- The lane time of the boundary `b` by the SYNC mapping of R305; stamps are in 0.25 ns. A stamp that arrives in the cycle of the
boundary is not used yet (R160). -/
def Lane.laneTimeOf (L : Lane) (b : Nat) : Int :=
  let f0 : Int := L.asOf (Int.ftbF 0) b
  let t0 : Int := L.asOf (Int.ftbL 0) b
  t0 + divRound 305 ((4 * (b : Int) - f0) * (t0 - L.asOf (Int.ftbL 1) b)) (f0 - L.asOf (Int.ftbF 1) b).toNat

/-- The field instant of a lane time by the SYNC mapping of R305. -/
def Lane.fieldTimeOf (L : Lane) (t : Nat) : Int :=
  let df : Int := L.rd (Int.ftbF 0) - L.rd (Int.ftbF 1)
  let dl : Int := L.rd (Int.ftbL 0) - L.rd (Int.ftbL 1)
  divRound 306 ((L.rd (Int.ftbF 0) : Int) * dl + ((t : Int) - L.rd (Int.ftbL 0)) * df) (4 * dl).toNat

/-- PHASE_ERR in ticks: the group's period start against the nearest target (R153). -/
def Lane.phaseErr (L : Lane) (g : Nat) : Int :=
  let p := L.rd (Int.actPeriod g)
  let x := (L.laneTimeOf L.ftb - 2 * ((L.rd (Int.actPhase g) % p : Nat) : Int)) % (2 * p : Nat)
  divRound 153 (if x ≤ p then x else x - (2 * p : Nat)) 2

/-- Alignment at a period start: PHASE_ERR, ALIGNED, the length of the period that starts, and the count of R155 (R153 to
R155). While SYNC_VALID is 0 nothing is measured and the period runs at PERIOD ticks. -/
def Lane.align (L : Lane) (g : Nat) : Lane :=
  let p := L.rd (Int.actPeriod g)
  if ! L.on Int.syncValid || L.asOf Int.syncValid L.ftb = 0 then (L.clr (PWM_GROUP_STATUS.ALIGNED g)).wr (Int.groupLen g) p else
  let e := L.phaseErr g
  let K := L.wrI (PWM_GROUP_STATUS.PHASE_ERR g) (clampI (-32768) 32767 e)
  let ok := decide (e.natAbs ≤ 1)
  let K := (K.put (PWM_GROUP_STATUS.ALIGNED g) ok).iff ok (fun J => J.set (Int.alignedOnce g))
  let idle := (outsOf g).all (fun k => ! K.padLevel k) && ! (decide (g < 8) && K.on (CLE_AX_STATUS.RUNNING g))
  let adj : Int := if ! K.on (PWM_GROUP_CTL.SYNC_EN g) then 0 else if idle then -e else if 0 < e then -1 else if e < 0 then 1 else 0
  let K := K.wr (Int.groupLen g) ((p : Int) + adj).toNat
  if decide (25 < e.natAbs) && K.on (Int.alignedOnce g) then
    (if K.rd (Int.misRun g) = 1023 then (K.clr (Int.misRun g)).fieldRaise 0x75 else K.inc (Int.misRun g))
  else K.clr (Int.misRun g)

/-- Whether a group transfers at mid-period (R141). -/
def Lane.midOn (L : Lane) (g : Nat) : Bool := if g < 8 then L.on (CLE_AX_CTL.UPDATE g) else L.on (PWM_GROUP_CTL.XFER g)

/-- The compares of a group at a period start: those beyond the period, and the never codes (R138, R139). -/
def Lane.judgeCompares (L : Lane) (g : Nat) : Lane :=
  let K := (L.comparedOf g).foldl (fun J k => (J.beyond g (J.rd (Int.actRise k))).beyond g (J.rd (Int.actFall k))) L
  (K.comparedOf g).foldl (fun J k => J.neverCodes k) K

/-- What a mid-period transfer has changed: a FALL that it has put beyond the period, and the never codes (R138, R139, R160).
`old` is the group before it. -/
def Lane.judgeMoved (L old : Lane) (g : Nat) : Lane :=
  let K := (L.comparedOf g).foldl (fun J k => if old.isBeyond g (old.rd (Int.actFall k)) then J else J.beyond g (J.rd (Int.actFall k))) L
  (K.comparedOf g).foldl (fun J k => J.neverCodes k) K

/-- A transfer point of a group (R136, R138, R139, R141, R153, R157, R160, R204, R206). -/
def Lane.transfer (L : Lane) (g : Nat) (mid : Bool) : Lane :=
  if ! L.on (PWM_GROUP_STATUS.COUNTING g) || L.on Int.pwmStopped || (mid && (! L.midOn g || L.on (Int.runNew g))) then L else
  let b := L.ftb
  let old := L.iff (decide (8 ≤ g)) (fun J => J.chopperEdges (g - 8) b mid)
  let taken := old.on (Int.commit g) && decide (old.rd (Int.commitAt g) + 4 ≤ b)
  let K := old.iff taken (fun J => J.takeCommit g b mid)
  if mid then K.iff taken (fun J => J.judgeMoved old g)
  else ((((K.clr (Int.runNew g)).wr (Int.groupAt g) b).align g).judgeCompares g).iff (decide (8 ≤ g)) (fun J => J.chopperPeriod (g - 8))

/-- TRANSFER_POINT: a group's period start, or its mid-period. -/
def execTransferPoint (l : LaneId) (g : Fin 12) (mid : Bool) (s : State) : Out := .next (s.onLane l (fun L => L.transfer g mid))

/-- RUN of a group is written (R157, R158, R163): a rise starts the counter, a fall sets override kind 1. -/
def Lane.writeRun (L : Lane) (g : Nat) (on : Bool) : Lane :=
  if L.on (PWM_GROUP_CTL.RUN g) = on then L else
  let K := (L.put (PWM_GROUP_CTL.RUN g) on).put (PWM_GROUP_STATUS.COUNTING g) on
  let K := if on then (((((K.clr (Int.auxHeld g)).wr (Int.groupAt g) K.ftb).clr (Int.alignedOnce g)).clr (Int.misRun g)).set (Int.holdOff g)).set (Int.runNew g)
    else K
  let K := K.syncOverride g
  if ! on && decide (g < 8) && K.on (Int.stopping g) then (K.clr (Int.stopping g)).checkCluster (g / 4) else K

/-- GROUP_RUN (R163). -/
def execGroupRun (l : LaneId) (g : Fin 12) (on : Bool) (s : State) : Out := .next (s.onLane l (fun L => L.writeRun g on))

/-- PAD_READBACK_FAULT: a pad differs from its driven level for more than 24 ns (R158). -/
def execPadReadbackFault (l : LaneId) (out : Fin 52) (s : State) : Out :=
  .next (s.onLane l (fun L =>
    let g := groupOf out
    let K := L.fieldRaise 0x76
    if g < 8 then K.enterSafe g 0x76 else (K.set (Int.auxHeld g)).syncOverride g))

/-- The stopped PWM clock runs again; counters continue, FROZEN is set and source 0x77 is raised (R159). -/
def Lane.resumePwm (L : Lane) : Lane :=
  if ! L.on Int.pwmStopped then L else
  ((L.clr Int.pwmStopped).forN 12 (fun g K => K.iff (K.on (PWM_GROUP_STATUS.COUNTING g)) (fun J => J.set (PWM_GROUP_STATUS.FROZEN g)))).fieldRaise 0x77

/-- PWM_CLOCK_RESUME (R159). -/
def execPwmClockResume (l : LaneId) (s : State) : Out := .next (s.onLane l (fun L => L.resumePwm))

end Sys2Proof.Machine
end

