-- ==== Sys2Proof/Machine/Fox.lean ====
section
/-! DEFINITION. The rotor observer (R105 to R129): Hall health and angle, acquisition, tracking, loss of the rotor, start
from rest, field weakening and the back-EMF check. -/

namespace Sys2Proof.Machine

/-- π in 2^-60. -/
def pi60 : Int := 3622009729038561421

/-- Radians in Q1.31 of a signed angle32. (DESIGN CHOICE, assumption 34) -/
def radOf (d : Int) : Int := nearest 105 (d * pi60) (2 ^ 60)

/-- Signed angle32 of radians in Q1.31. -/
def turnOf (r : Int) : Int := divRound 105 (r * 2 ^ 60) pi60.toNat

/-- A one-bit or two-bit part of the FOX_CTL in effect (R130, R131). -/
def Lane.ctl (L : Lane) (n lsb w : Nat) : Nat := slice lsb w (L.rd (Int.ctlNow n))

/-- ANGLE_MODE in effect. -/
def Lane.angleMode (L : Lane) (n : Nat) : Nat := L.ctl n 0 2

/-- Whether the Halls of an axis are healthy (R106). -/
def Lane.hallsHealthy (L : Lane) (n : Nat) : Bool :=
  L.ctl n 2 1 = 1 && L.rd (FBI_AX_STATUS.WIRE n) = 0 && ! L.on (CLE_AX_FOX_STATUS.HALL_DROPPED n) && L.rd (FBI_AX_STATUS.SPD_STATUS n) ≠ 1

/-- The edge angle of R172 as angle32, `s` in sixths of a turn. -/
def edgeAngle (s : Nat) : Int := divRound 172 ((s % 6 : Nat) * 2 ^ 32) 6

/-- The centre of the present Hall sector, with HALL_OFS (R107, R129). -/
def Lane.sectorCentre (L : Lane) (n : Nat) : Nat :=
  ofInt 32 (divRound 107 (((2 * (L.rd (FBI_AX_STATUS.SECTOR n) % 6) + 1 : Nat) : Int) * 2 ^ 32) 12 + L.coef n 39)

/-- The Hall angle: the last edge angle plus ω_hall × time, at most to the next edge (R113); at standstill the last edge angle,
and before any edge since an entry at the sector centre, that centre (R107). (DESIGN CHOICE, assumption 35) -/
def Lane.hallAngle (L : Lane) (n : Nat) : Nat :=
  let s := L.rd (FBI_AX_STATUS.SECTOR n)
  let dir := L.rd (FBI_AX_STATUS.LAST_DIR n)
  if dir = 0 then (if L.rd (Int.lastEdge n) = 0 then L.sectorCentre n else ofInt 32 (edgeAngle (L.rd (Int.lastEdge n) - 1) + L.coef n 39)) else
  let dt := L.ftb - L.rd (Int.tEdge n)
  let part := min (2 ^ 31) (divRound 113 (((L.rdI (FBI_AX.SPEED n)).natAbs * dt : Nat) : Int) (L.rd (FBI_AX_T60.T60_BASE n))).toNat
  let step := divRound 113 ((part : Int) * 2) 6
  if dir = 1 then ofInt 32 (edgeAngle s + step + L.coef n 39) else ofInt 32 (edgeAngle (s + 1) - step + L.coef n 39)

/-- The sample period in ns: TS_W / ω_BASE (R129, R180). -/
def Lane.samplePeriod (L : Lane) (n : Nat) : Nat :=
  (divRound 180 ((L.coef n 32 * L.rd (FBI_AX_T60.T60_BASE n) * 3 * 2 ^ 29 : Nat) : Int) pi60.toNat).toNat

/-! ### States (R107) -/

/-- Source 0x6A: the start has failed, and the axis enters SAFE (R107). -/
def Lane.startFailed (L : Lane) (n : Nat) : Lane := (L.fieldRaise 0x6A).enterSafe n 0x6A

/-- HALL is entered, at the angle given. -/
def Lane.enterHall (L : Lane) (n theta : Nat) : Lane :=
  let K := ((L.wr (CLE_AX_FOX_STATUS.STATE n) 3).set (CLE_AX_FOX_STATUS.LOCKED n)).set (Int.everLocked n)
  let K := ((K.wr (CLE_AX_FOX_STATUS.ANGLE_SRC n) 2).wr (CLE_AX_FOX.THETA n) theta).clr (Int.fuseRun n)
  K.syncOverride n

/-- TRACK is entered at an angle and a speed; the residual test of R115 runs from the first sample (R107, R114, R115).
(DESIGN CHOICE, assumption 35) -/
def Lane.showTrack (L : Lane) (n theta : Nat) (omega : Int) : Lane :=
  let K := ((L.wr (CLE_AX_FOX_STATUS.STATE n) 4).set (CLE_AX_FOX_STATUS.LOCKED n)).set (Int.everLocked n)
  let K := (K.wr (CLE_AX_FOX_STATUS.ANGLE_SRC n) (if K.angleMode n = 0 && K.hallsHealthy n then 3 else 1)).wr (CLE_AX_FOX.THETA n) theta
  let K := (((K.wrI (CLE_AX_FOX.OMEGA n) omega).clr (Int.resRun n)).wr (Int.trackCnt n) 15).clr (Int.hallBad n)
  let K := K.wr (Int.thAt n) (K.ftb + K.samplePeriod n)
  K.syncOverride n

/-- ψ̂ is set to PSI_d(0,0) at an angle (R107, R118). -/
def Lane.presetFlux (L : Lane) (n theta : Nat) : Lane :=
  (L.wrI (Int.psiA n) (mulQ 118 (L.psi0 n) (cosQ theta))).wrI (Int.psiB n) (mulQ 118 (L.psi0 n) (sinQ theta))

/-- The entry to TRACK from ACQUIRE or REACQ: ψ̂ is preset, and the residual test starts at the sixteenth sample (R118). -/
def Lane.enterTrack (L : Lane) (n theta : Nat) (omega : Int) : Lane :=
  ((L.showTrack n theta omega).presetFlux n theta).clr (Int.trackCnt n)

/-- The presets of the CLE's first sample (R87, R118). (DESIGN CHOICE, assumption 109) -/
def Lane.presetLoops (L : Lane) (n : Nat) (omega : Int) : Lane :=
  let q := if L.on (CLE_AX_CTL.DEC_EN n) then 0 else satQ (mulK 118 (mulQ 118 omega (L.psi0 n)) (L.coefI n 5))
  let w := if L.on (CLE_AX_CTL.SPD_SRC n) then L.rdI (FBI_AX.SPEED n) else omega
  let K := ((L.clr (Int.accD n)).wrI (Int.accQ n) q).wrI (CLE_AX_VAL.W_REF n) w
  let K := ((K.wrI (Int.wTarget n) w).clr (CLE_AX_VAL.A_REF n)).clr (CLE_AX_STATUS.RAMP_ACTIVE n)
  let r := K.positionOf n
  (r.2.wrI (CLE_AX_VAL.POS_SP n) r.1).clr (Int.accW n)

/-- HALL is entered at the sector centre, which stands until an edge where no direction is known (R107, R113). -/
def Lane.enterCentre (L : Lane) (n : Nat) : Lane :=
  ((L.iff (decide (L.rd (FBI_AX_STATUS.LAST_DIR n) = 0)) (fun K => K.clr (Int.lastEdge n))).enterHall n (L.sectorCentre n)).presetLoops n (L.rdI (FBI_AX.SPEED n))

/-- ACQUIRE or REACQ is entered (R107, R108). -/
def Lane.enterAcquire (L : Lane) (n st : Nat) : Lane :=
  let K := L.wr (CLE_AX_FOX_STATUS.STATE n) st
  let K := [Int.acqLow n, Int.acqCnt n, Int.acqRun n, Int.acqHave n, Int.mAl n, Int.mBe n, CLE_AX_FOX_STATUS.LOCKED n,
    CLE_AX_FOX_STATUS.ANGLE_SRC n].foldl (fun J f => J.clr f) K
  (K.putBit DCL_AXIS_STATUS.LOSS_INJ n false).syncOverride n

/-- START_REST is entered, or its second attempt begins (R107, R110, R111). -/
def Lane.enterRest (L : Lane) (n : Nat) : Lane :=
  let K := ((L.wr (CLE_AX_FOX_STATUS.STATE n) 2).inc (Int.srTry n)).inc (CLE_AX_FOX_CNT.SR_RUNS n)
  let K := (((K.wr (Int.srAt n) K.ftb).wr (Int.srGap n) K.ftb).wr (Int.srPulse n) 0).wr (Int.srNext n) 1
  (K.clr (Int.srEnded n)).syncOverride n

/-- An attempt fails: a second one follows the first, and SAFE the second (R107, R111). -/
def Lane.restFailed (L : Lane) (n : Nat) : Lane :=
  if L.rd (Int.srTry n) < 2 then L.enterRest n else (L.set (CLE_AX_FOX_STATUS.SR_FAIL n)).startFailed n

/-- IDLE acts on RUNNING once the settle time has passed (R107, R122). -/
def Lane.idleStep (L : Lane) (n : Nat) : Lane :=
  if ! L.on (CLE_AX_STATUS.RUNNING n) || L.on (Int.isoWait n) then L
  else if L.angleMode n = 2 then (if L.hallsHealthy n then L.enterCentre n else L.startFailed n)
  else if L.ctl n 8 2 = 1 then L.enterRest n
  else L.enterAcquire n 1

/-! ### Back-EMF (R88, R108) -/

/-- The phase voltages of a sample per V_BASE as α and β (R88). -/
def Lane.emf (L : Lane) (n va vb vc : Nat) : Int × Int :=
  let g := L.rdI (ADC_AX_VGAIN.VPH_GAIN n)
  let v (x : Nat) : Int := (x : Int) * g * 128
  (satQ (divRound 88 (2 * v va - v vb - v vc) 3), satQ (bySqrt3 88 (v vb - v vc)))

/-- One sample of ACQUIRE or REACQ: angle and steadiness of the back-EMF; the answer is whether the lock is declared, with
angle and speed (R108). (DESIGN CHOICE, assumption 35) -/
def Lane.acquireStep (L : Lane) (n : Nat) (e : Int × Int) (quiet : Bool) : Bool × Nat × Int × Lane :=
  let big := decide (L.coefI n 43 ≤ magQ 108 e.1 e.2)
  let ang := ofInt 32 ((argQ 108 e.1 e.2 : Int) - 2 ^ 30)
  let del := wrapA ((ang : Int) - L.rd (Int.acqAng n))
  let steady := L.rd (Int.acqHave n) = 2 && decide ((wrapA (del - L.rdI (Int.acqDel n))).natAbs ≤ L.coef n 44)
  let run := if big && quiet && steady then L.rd (Int.acqRun n) + 1 else 0
  let K := (((L.wr (Int.acqAng n) ang).wrI (Int.acqDel n) del).wr (Int.acqHave n) (min 2 (L.rd (Int.acqHave n) + 1))).wr (Int.acqRun n) run
  let omega := satQ (divRound 108 (radOf del * 2 ^ 31) (L.coef n 32))
  (decide (8 ≤ run), ang, omega, (K.inc (Int.acqCnt n)).wr (Int.acqLow n) (if big then 0 else L.rd (Int.acqLow n) + 1))

/-- An angle advanced by one sample (R105). -/
def Lane.advanced (L : Lane) (n theta : Nat) (omega : Int) : Nat := ofInt 32 ((theta : Int) + turnOf (mulQ 105 omega (L.coefI n 32)))

/-- A declared lock leads to TRACK at the angle of the next sample (R105, R107, R118). -/
def Lane.locked (L : Lane) (n ang : Nat) (omega : Int) : Lane :=
  let theta := L.advanced n ang omega
  (L.enterTrack n theta omega).presetLoops n omega

/-- A sample in ACQUIRE; with ANGLE_MODE = 1 the Halls give no angle (R106, R107). -/
def Lane.acquireSample (L : Lane) (n : Nat) (e : Int × Int) (quiet : Bool) : Lane :=
  let r := L.acquireStep n e quiet
  let K := r.2.2.2
  if r.1 then K.locked n r.2.1 r.2.2.1
  else if 16 ≤ K.rd (Int.acqLow n) then
    (if K.hallsHealthy n && K.angleMode n ≠ 1 then K.enterCentre n
     else if K.ctl n 8 2 = 0 then K.enterRest n else K.startFailed n)
  else if decide (48 ≤ K.rd (Int.acqCnt n)) && K.rd (Int.acqLow n) = 0 then K.startFailed n
  else K

/-- A sample in REACQ (R107, R117). -/
def Lane.reacqSample (L : Lane) (n : Nat) (e : Int × Int) (quiet : Bool) : Lane :=
  let r := L.acquireStep n e quiet
  if r.1 then (r.2.2.2.locked n r.2.1 r.2.2.1).inc (CLE_AX_FOX_CNT.LOST_RESUMED n) else r.2.2.2

/-- A sample in SAFE with pattern all-off before the settle time has passed: ASC is taken when the sensed back-EMF comes to
select it (R122). -/
def Lane.safeSample (L : Lane) (n : Nat) (e : Int × Int) : Lane :=
  if L.on (Int.safeDone n) then L
  else if L.rd (CLE_AX_FOX_STATUS.SAFE_PATTERN n) = 2 then
    let r := L.acquireStep n e true
    let K := r.2.2.2
    if decide (1 ≤ L.rd (Int.acqHave n)) && K.ascCond n r.2.2.1 && ! K.stoHolds (n / 4) then
      (K.wr (CLE_AX_FOX_STATUS.SAFE_PATTERN n) 1).syncOverride n
    else K
  else
    -- the early change of R122
    let w := L.rdI (FBI_AX.SPEED n)
    let st := L.rd (FBI_AX_STATUS.SPD_STATUS n)
    let least := mulQ 122 (L.coefI n 59) (2 ^ 31 - L.coefI n 60)
    if (st = 2 || st = 4) && decide ((w.natAbs : Int) < least) && L.coef n 6 ≠ 0 && decide (L.backEmf n w < L.zcBound n) then
      ((L.wr (CLE_AX_FOX_STATUS.SAFE_PATTERN n) 2).syncOverride n).checkCluster (n / 4)
    else L

/-! ### Losing the rotor (R115, R116, R120) -/

/-- The rotor is declared lost, and exactly one path is taken (R115, R116, R120). `omega` and `u` are ω̂ and u_dc
of the last sample. -/
def Lane.rotorLost (L : Lane) (n : Nat) (omega u : Int) : Lane :=
  let t := L.ftb
  let third := L.rd (Int.lostN n) = 2 && decide (t ≤ L.rd (Int.lostAt n 0) + 1000000000)
  let K := (((L.inc (CLE_AX_FOX_CNT.LOST n)).wr (Int.lostT n) t).wr (CLE_AX_FOX.TLOST n) (t / 2)).wrI (Int.lastSpeed n) omega
  let K := ((K.wr (Int.lostAt n 0) (if L.rd (Int.lostN n) = 0 then t else K.rd (Int.lostAt n 1))).wr (Int.lostAt n 1) t).wr (Int.lostN n) (min 2 (L.rd (Int.lostN n) + 1))
  let K := K.fieldRaise 0x68
  if third then K.enterSafe n 0x68
  else if K.angleMode n = 0 && K.hallsHealthy n then (K.enterHall n (K.hallAngle n)).inc (CLE_AX_FOX_CNT.LOST_HALL n)
  else if K.backEmf n omega < mulQ 121 (K.overNum n u) (K.coefI n 61) then K.enterAcquire n 5
  else K.enterSafe n 0x68

/-! ### The flux observer (R112) -/

/-- The dead-time voltage: DT_COMP in the direction of each phase current, as α and β (R112). -/
def Lane.dtComp (L : Lane) (n : Nat) (ia ib ic : Int) : Int × Int :=
  let d := L.coefI n 42
  (divRound 112 (d * (2 * ia.sign - ib.sign - ic.sign)) 3, bySqrt3 112 (d * (ib.sign - ic.sign)))

/-- Rotation of a d-q vector into α-β (R112). -/
def rotQ (theta : Nat) (d q : Int) : Int × Int :=
  (mulQ 112 d (cosQ theta) - mulQ 112 q (sinQ theta), mulQ 112 d (sinQ theta) + mulQ 112 q (cosQ theta))

/-- One step of the observer at the angle of this sample: the residual, the angle error in angle32, and the lane with the
observer flux (R112). (DESIGN CHOICE, assumption 35, DESIGN CHOICE, assumption 111) -/
def Lane.observe (L : Lane) (n theta : Nat) (ia ib ic al be id iq : Int) : Int × Int × Lane :=
  let dt := L.dtComp n ia ib ic
  let va := mulQ 112 (L.rdI (Int.mAl n)) (L.uNum n) + dt.1
  let vb := mulQ 112 (L.rdI (Int.mBe n)) (L.uNum n) + dt.2
  let ts := L.coefI n 32
  let pa := satQ (L.rdI (Int.psiA n) + mulQ 112 ts (va - mulK 112 al (L.coefI n 33)))
  let pb := satQ (L.rdI (Int.psiB n) + mulQ 112 ts (vb - mulK 112 be (L.coefI n 33)))
  let pd := L.psiAt n 0 id iq
  let pq := L.psiAt n 1 id iq
  let c := rotQ theta pd pq
  let r := satQ (magQ 112 (c.1 - pa) (c.2 - pb))
  let qa := satQ (pa + mulQ 112 (c.1 - pa) (L.coefI n 34))
  let qb := satQ (pb + mulQ 112 (c.2 - pb) (L.coefI n 34))
  let m := rotQ theta (pd - L.psi0 n) pq
  let err := wrapA ((argQ 112 (qa - m.1) (qb - m.2) : Int) - theta)
  (r, err, ((L.wrI (Int.psiA n) qa).wrI (Int.psiB n) qb).wrI (CLE_AX_FOX.RESIDUAL n) r)

/-- The PLL of R112: speed and angle for the next sample. -/
def Lane.pllStep (L : Lane) (n theta : Nat) (err : Int) : Lane :=
  let e := radOf err
  let w := satQ (L.rdI (CLE_AX_FOX.OMEGA n) + mulK 112 e (L.coefI n 36))
  let th := ofInt 32 ((theta : Int) + turnOf (mulQ 112 w (L.coefI n 32) + mulK 112 e (L.coefI n 35)))
  ((L.wrI (CLE_AX_FOX.OMEGA n) w).wr (CLE_AX_FOX.THETA n) th).wr (Int.thAt n) (L.ftb + L.samplePeriod n)

/-- The Fox in TRACK, after the observer: the residual test and the change to HALL (R107, R115). -/
def Lane.trackCheck (L : Lane) (n : Nat) (r omega u : Int) : Lane :=
  let cnt := min 31 (L.rd (Int.trackCnt n) + 1)
  let run := if decide (16 ≤ cnt) && decide (L.coefI n 37 < r) then L.rd (Int.resRun n) + 1 else 0
  let K := (L.wr (Int.trackCnt n) cnt).wr (Int.resRun n) (min run 4)
  if 4 ≤ run then K.rotorLost n omega u
  else if K.angleMode n = 0 && K.hallsHealthy n && decide (((K.rdI (CLE_AX_FOX.OMEGA n)).natAbs : Int) < K.coefI n 41) then K.enterHall n (K.hallAngle n)
  else K.wr (CLE_AX_FOX_STATUS.ANGLE_SRC n) (if K.angleMode n = 0 && K.hallsHealthy n then 3 else 1)

/-- The Fox in HALL, after the observer: the change to TRACK, whose next sample has the angle advanced by one sample (R105,
R107). -/
def Lane.hallCheck (L : Lane) (n : Nat) (r : Int) : Lane :=
  let w := L.rdI (FBI_AX.SPEED n)
  let K := (L.wrI (CLE_AX_FOX.OMEGA n) w).wr (CLE_AX_FOX.THETA n) (L.hallAngle n)
  let fits := K.angleMode n = 0 && decide (5 * K.coefI n 41 ≤ 4 * (w.natAbs : Int)) && decide (2 * r < K.coefI n 37)
  let run := if fits then K.rd (Int.fuseRun n) + 1 else 0
  let K := K.wr (Int.fuseRun n) (min run 64)
  if 64 ≤ run then K.showTrack n (K.advanced n (K.rd (CLE_AX_FOX.THETA n)) w) w else K

/-! ### Field weakening and the back-EMF check (R124 to R126) -/

/-- The field-weakening regulator, once per sample (R124). -/
def Lane.weaken (L : Lane) (n : Nat) : Lane :=
  if L.ctl n 3 1 = 0 then (L.clr (CLE_AX_FOX_STATUS.FW_ACTIVE n)).clr (CLE_AX_FOX_STATUS.FW_LIMIT n) else
  let idRef := L.coefI n 12
  let raw := L.rdI (Int.fw n) + mulK 124 (L.coefI n 50 - L.rdI (Int.magM n)) (L.coefI n 51)
  let lo := min (max (L.coefI n 52) (L.coefI n 53 + mulK 124 (L.rdI (Int.iqRef n)).natAbs (L.coefI n 54))) idRef
  let fw := clampI lo idRef raw
  let limit := fw = lo && L.on (CLE_AX_STATUS.VLIM_Q n)
  let K := (L.wrI (Int.fw n) fw).put (CLE_AX_FOX_STATUS.FW_ACTIVE n) (fw < idRef)
  let rise := limit && ! K.on (CLE_AX_FOX_STATUS.FW_LIMIT n)
  (K.put (CLE_AX_FOX_STATUS.FW_LIMIT n) limit).iff rise (fun J => J.fieldRaise 0x6E)

/-- The mean of 256 qualifying samples is judged (R125, R126). -/
def Lane.judgeKe (L : Lane) (n : Nat) (rho : Int) : Lane :=
  let K := (L.wrI (CLE_AX_FOX.KE_RATIO n) rho).set (CLE_AX_FOX_STATUS.KE_VALID n)
  let K := K.iff (decide (rho < K.coefI n 57)) (fun J => (J.set (CLE_AX_FOX_STATUS.KE_LOW n)).fieldRaise 0x6B)
  if K.coefI n 58 < rho then
    let K := (K.set (CLE_AX_FOX_STATUS.KE_HIGH n)).fieldRaise 0x6C
    if K.ctl n 5 1 = 1 then K.enterSafe n 0x6C else K
  else K

/-- A sample that does not qualify; 1,024 in a run discard a partial mean (R125). -/
def Lane.missKe (L : Lane) (n : Nat) : Lane :=
  if L.ctl n 4 1 = 0 then L
  else if 1023 ≤ L.rd (Int.keIdle n) then ((L.clr (Int.keSum n)).clr (Int.keCnt n)).clr (Int.keIdle n)
  else L.inc (Int.keIdle n)

/-- One sample of the back-EMF check (R125). -/
def Lane.checkKe (L : Lane) (n : Nat) (id iq mq : Int) : Lane :=
  if L.ctl n 4 1 = 0 then L else
  let w := L.rdI (CLE_AX_FOX.OMEGA n)
  let den := mulK 125 (mulQ 125 w (L.psiAt n 0 id iq)) (L.coefI n 5)
  if decide (L.coefI n 55 ≤ (w.natAbs : Int)) && decide ((id.natAbs : Int) ≤ L.coefI n 56) && decide ((iq.natAbs : Int) ≤ L.coefI n 56) then
    let num := mulQ 125 mq (L.uNum n) - mulK 125 iq (L.coefI n 33)
    let rho := clampI (-2147483648) 2147483647 (divRound 125 (num * den.sign * 2 ^ 24) den.natAbs)
    let K := ((L.wrI (Int.keSum n) (toInt 64 (L.rd (Int.keSum n)) + rho)).wr (Int.keCnt n) (L.rd (Int.keCnt n) + 1)).clr (Int.keIdle n)
    if K.rd (Int.keCnt n) < 256 then K
    else ((K.clr (Int.keSum n)).clr (Int.keCnt n)).judgeKe n (divRound 126 (toInt 64 (K.rd (Int.keSum n))) 256)
  else L.missKe n

/-! ### Commands of the start from rest and the resume -/

/-- RESUME_DEADLINE: no lock by L0 + 2 ms (R107, R117). -/
def execResumeDeadline (l : LaneId) (ax : Fin 8) (s : State) : Out :=
  .next (s.onLane l (fun L =>
    if L.rd (CLE_AX_FOX_STATUS.STATE ax) = 5 then
      ((L.set (CLE_AX_FOX_STATUS.RESUME_FAIL ax)).fieldRaise 0x69).enterSafe ax 0x69
    else L))

end Sys2Proof.Machine
end

