-- ==== Sys2Proof/Machine/Cle.lean ====
section
/-! DEFINITION. The control engine's pipeline (R59 to R75, R84 to R86, R146 to R149): one current sample of an axis. -/

namespace Sys2Proof.Machine

/-- Sticky flags are set; each change from 0 to 1 raises source 0x63 once (R64). -/
def Lane.flags (L : Lane) (n mask : Nat) : Lane :=
  L.forN 14 (fun b K => K.iff (mask.testBit b && ! K.bitOf (CLE_AX_SAT.FLAGS n) b) (fun J => (J.putBit (CLE_AX_SAT.FLAGS n) b true).fieldRaise 0x63))

/-- A flag of R59 as a mask. -/
def flag (b : Nat) (cut : Bool) : Nat := if cut then 2 ^ b else 0

/-- The sign of a cut as stored: 0 none, 1 positive, 2 negative (R67). -/
def cutSign (raw cut : Int) : Nat := if raw = cut then 0 else if cut < raw then 1 else 2

/-! ### Stage 1 (R66, R88) -/

/-- The three phase currents of a sample: two codes about their zero codes, the third the negated sum; and the flags. -/
def Lane.currents (L : Lane) (n i0 i1 : Nat) : Int × Int × Int × Nat :=
  let x := ((i0 : Int) - L.rd (ADC_AX_IZERO.IZERO0 n)) * 262144
  let y := ((i1 : Int) - L.rd (ADC_AX_IZERO.IZERO1 n)) * 262144
  let z := -(satQ x) - satQ y
  let f := flag 0 (cutQ x || cutQ y || cutQ z)
  match L.rd (CLE_AX_CTL.PHASE_PAIR n) with
  | 0 => (satQ x, satQ y, satQ z, f)
  | 1 => (satQ z, satQ x, satQ y, f)
  | _ => (satQ y, satQ z, satQ x, f)

/-- Clarke and Park transforms: α, β, d, q and the flags. -/
def clarkePark (theta : Nat) (ia ib : Int) : Int × Int × Int × Int × Nat :=
  let be := bySqrt3 66 (ia + 2 * ib)
  let b := satQ be
  let d := mulQ 66 ia (cosQ theta) + mulQ 66 b (sinQ theta)
  let q := -(mulQ 66 ia (sinQ theta)) + mulQ 66 b (cosQ theta)
  (ia, b, satQ d, satQ q, flag 0 (cutQ be || cutQ d || cutQ q))

/-! ### Stage 2 (R67) -/

/-- The PI of R67: the accumulator, the output, and whether a result was cut. -/
def piStep (site : Nat) (acc ref meas kp ki : Int) (lim : Nat) : Int × Int × Bool :=
  let e := satQ (ref - meas)
  let p := mulK site e kp
  let acc := if (lim = 1 ∧ 0 < e) ∨ (lim = 2 ∧ e < 0) then acc else acc + mulK site e ki
  let acc := clampI (-2147483648) 2147483647 acc
  (acc, satQ (p + acc), cutQ (ref - meas) || cutQ (p + acc))

/-! ### Stages 3 to 5 (R68 to R71, R200, R201) -/

/-- K_DC in Q8.24 (R69). (DESIGN CHOICE, assumption 34) -/
def Lane.kdc (L : Lane) (n : Nat) : Int :=
  let den := if L.on (CLE_AX_CTL.DCFF_EN n) then max (L.udc n) (L.coefI n 7) else L.coefI n 8
  divRound 69 (L.coefI n 6 * 2 ^ 31) den.toNat

/-- The square root that limits one axis after the other has been limited (R70, R71). -/
def restOf (site : Nat) (lim d : Int) : Int := sqrtQ site (lim * lim - d * d).toNat

/-- Whether a sample of the axis injects loss current (R201). -/
def Lane.injects (L : Lane) (n : Nat) : Bool :=
  L.bitOf DCL_AXIS_MAP.LOSS_EN n && L.lossActive (L.railOf n)

/-- The limited references of the next sample (R71, R200, R201): id_ref, iq_ref, whether the current limit cut, the sign of
the q cut, whether R200 cut, and the flags of stage 5. -/
def Lane.references (L : Lane) (n : Nat) (tCmd aCmd : Int) : Int × Int × Bool × Nat × Bool × Nat :=
  let acc := if L.on (CLE_AX_CTL.ACCFF_EN n) then mulK 71 aCmd (L.coefI n 9) else 0
  let tTot := satQ (tCmd + acc)
  let raw := mulK 71 (nearest 71 (tTot * L.rd (CLE_AX_SHARE.SHARE n)) 65536) (L.coefI n 10)
  let iq := satQ raw
  let id := if L.ctl n 3 1 = 1 then L.rdI (Int.fw n) else L.coefI n 12
  let loss := -(nearest 201 ((L.rd (DCL_AX_CFG.ID_LOSS n) : Int) * L.coefI n 11) 1000)
  let id := if L.injects n then min id loss else id
  let rawMax := nearest 71 ((L.rd (CLE_AX_ILIM.ILIM n) : Int) * L.coefI n 11) 1000
  let iMax := satQ rawMax
  let idL := clampI (-iMax) iMax id
  let room := restOf 71 iMax idL
  let iqL := clampI (-room) room iq
  let w := L.safeSpeed n
  let regen := decide (iqL * w < 0)
  let most := mulQ 200 (L.regenQ (L.railOf n)) room
  let iqR := if regen then clampI (-most) most iqL else iqL
  (satQ idL, satQ iqR, idL ≠ id || iqL ≠ iq, cutSign iq iqR, iqR ≠ iqL, flag 6 (cutQ (tCmd + acc) || cutQ raw || cutQ rawMax))

/-! ### Stages 6 to 9 (R72, R73, R146 to R149) -/

/-- Space-vector modulation: the three duties, 2^31 − 1 standing for exactly 1, and the flags (R72). -/
def Lane.duties (L : Lane) (n : Nat) (mAl mBe : Int) : Int × Int × Int × Nat :=
  let half := -(nearest 72 mAl 2)
  let b := half + halfSqrt3 72 mBe
  let c := half - halfSqrt3 72 mBe
  let hi := max mAl (max (satQ b) (satQ c))
  let lo := min mAl (min (satQ b) (satQ c))
  let m0 := if L.on (CLE_AX_CTL.SVM_MODE n) then
      (if lo.natAbs ≤ hi.natAbs then 1859775393 - hi else -1859775393 - lo)
    else -(nearest 72 (hi + lo) 2)
  let d (x : Int) : Int := clampI 0 oneQ (1073741824 + bySqrt3 72 (x + m0))
  (d mAl, d (satQ b), d (satQ c), flag 8 (cutQ b || cutQ c || cutQ m0))

/-- The edge positions of a duty (R73). -/
def edgesOf (steps : Nat) (d : Int) : Nat × Nat :=
  ((nearest 73 ((steps : Int) * (2 ^ 31 - d)) (2 ^ 32)).toNat, (nearest 73 ((steps : Int) * (2 ^ 31 + d)) (2 ^ 32)).toNat)

/-- The switching instants of a phase in steps from its period start (R73, R146). -/
def instants (p rise fall dt : Nat) (compl : Bool) : List Nat :=
  if compl then [rise, rise + dt, fall, fall + dt] else [rise, fall, min (fall + dt) (p - 1), rise - dt]

/-- W_pre falls short of `win` at `t` by this much (R146); without an instant before `t` the window is that of the period
before, which these edges do not move. -/
def preShort (xs : List Nat) (win t : Nat) : Nat := match (xs.filter (fun x => decide (x < t))).max? with
  | some x => win - (t - x)
  | none => 0

/-- What W_post at `t` has beyond 100 ns, at most `p` (R146, R147). -/
def postRoom (xs : List Nat) (p t : Nat) : Nat := match (xs.filter (fun x => decide (t ≤ x))).min? with
  | some x => x - t - 400
  | none => p

/-- The shift Δ of R147 for a phase with the switching instants `xs`: wanted, and possible. It is judged at the sampling instants
of the period, which starts with one, and at the next period start. -/
def winShift (p : Nat) (xs : List Nat) (win : Nat) (update : Bool) : Nat × Nat :=
  let ts := if update then [p / 2, p] else [p]
  let want := (ts.map (preShort xs win)).foldl max 0
  (want, ((0 :: ts).map (postRoom xs p)).foldl min want)

/-- Whether stage 8 checks a phase (R146). -/
def Lane.winChecked (L : Lane) (n x : Nat) : Bool :=
  L.rd (PWM_GROUP_WIN.WIN_MIN n) ≠ 0 && (L.on (PWM_GROUP_WIN.WIN_PHASES n) ||
    (match L.rd (CLE_AX_CTL.PHASE_PAIR n) with
      | 0 => x ≠ 2
      | 1 => x ≠ 0
      | _ => x ≠ 1))

/-- A window could not be opened in full (R149). (DEDUCED, assumption 37) -/
def Lane.winShort (L : Lane) (n : Nat) : Lane := ((L.inc (PWM_GROUP_CNT.WIN_SHORT n)).flags n (2 ^ 9)).fieldRaise 0x74

/-- The edges of one phase are written into the shadows (R62, R73, R144, R147 to R149). `mid` tells at which sampling
instant the sample was taken. With UPDATE = 1 the sample at the period start computes the fall of the running period, so it
uses the running period (R144). An edge of an odd output that its range cuts sets EDGE (R59, R73). -/
def Lane.writePhase (L : Lane) (n x : Nat) (d : Int) (mid : Bool) (t : Nat) : Lane :=
  let k := 6 * n + 2 * x
  let update := L.on (CLE_AX_CTL.UPDATE n)
  let p := if L.on (PWM_GROUP_STATUS.PERIOD_PENDING n) then 8 * L.rd (PWM_GROUP_PERIOD.PERIOD n) else L.steps n
  let pf := if update && ! mid then L.steps n else p
  let both := ! update || L.on (PWM_GROUP_STATUS.PERIOD_PENDING n)
  let compl := L.compl k
  let dt := 8 * L.rd (Int.actDt (k / 2))
  let win := 8 * L.rd (PWM_GROUP_WIN.WIN_MIN n)
  let e := edgesOf p d
  let f := (edgesOf pf d).2
  let judged := L.winChecked n x && d ≠ 0 && d ≠ oneQ
  let fresh := ! update || mid
  let s := winShift p (instants p e.1 e.2 dt compl) win update
  let delta := if ! judged then 0 else if fresh then s.2 else L.rd (Int.winDelta n x)
  let K := L.iff fresh (fun J => J.wr (Int.winDelta n x) delta)
  let K := K.iff (judged && fresh && s.1 ≠ s.2) (fun J => J.winShort n)
  let K := K.iff (judged && ! fresh && preShort [f - delta, f - delta + dt] win pf ≠ 0) (fun J => J.winShort n)
  let rise := if d = 0 then 0x7FFFFF8 else e.1 - delta
  let fall := if d = oneQ then 0x7FFFFF8 else f - delta
  let K := if both || mid then K.putRise k rise t else K
  let K := if both || ! mid then K.putFall k fall t else K
  if compl then K else
  let oddRise := if d = oneQ then 0x7FFFFF8 else min (fall + dt) (pf - 1)
  let oddFall := if d = 0 then 0x7FFFFF8 else rise - dt
  let cut := (decide (d ≠ oneQ ∧ pf ≤ fall + dt) && (both || ! mid)) || (decide (d ≠ 0 ∧ rise < dt) && (both || mid))
  let K := (K.flags n (flag 10 cut)).iff (both || ! mid) (fun J => J.putRise (k + 1) oddRise t)
  if both || mid then K.putFall (k + 1) oddFall t else K

/-- Edge positions are in the shadows, and the commit is requested at T2; a T2 too late for the boundary the edges were
computed for counts as a late latch (R60, R62). -/
def Lane.latchEdges (L : Lane) (n : Nat) (mid : Bool) (delay : Nat) (d : Int × Int × Int) : Lane :=
  let t2 := L.ftb + min (max delay 32) 64
  let K := (((L.writePhase n 0 d.1 mid t2).writePhase n 1 d.2.1 mid t2).writePhase n 2 d.2.2 mid t2).commitGroup n t2
  let bound := L.rd (Int.groupAt n) + L.rd (Int.groupLen n) * (if L.on (CLE_AX_CTL.UPDATE n) && ! mid then 1 else 2)
  if bound < t2 + 4 then (K.inc (CLE_AX_STATUS.LATE_LATCH n)).fieldRaise 0x64 else K

/-- The modulation of a vector applied without the current loop: K_DC, space-vector modulation and edges (R109). -/
def Lane.applyVector (L : Lane) (n phi : Nat) (v : Int) : Lane :=
  let m := satQ (mulK 109 v (L.kdc n))
  let d := L.duties n (mulQ 109 m (cosQ phi)) (mulQ 109 m (sinQ phi))
  let t := L.ftb
  let L := ((L.wrI (Int.axDuty n 0) d.1).wrI (Int.axDuty n 1) d.2.1).wrI (Int.axDuty n 2) d.2.2.1
  let K := (((L.writePhase n 0 d.1 true t).writePhase n 0 d.1 false t).writePhase n 1 d.2.1 true t).writePhase n 1 d.2.1 false t
  ((K.writePhase n 2 d.2.2.1 true t).writePhase n 2 d.2.2.1 false t).commitGroup n t

/-! ### Set-points (R80, R83) -/

/-- The agreed value at field time `t`, interpolated where INTERP says so (R83). (DESIGN CHOICE, assumption 105) -/
def Lane.agreedValue (L : Lane) (n t : Nat) : Int :=
  let dest := L.rdI (Int.spTo n)
  let from_ := L.rdI (Int.spFrom n)
  let gap := L.rd (Int.spGap n)
  let dt := t - L.rd (Int.spAt n)
  if ! L.on (CLE_AX_CTL.INTERP n) || gap = 0 || decide (gap ≤ dt) then dest else from_ + divRound 83 ((dest - from_) * dt) gap

/-- The contents of an agreed message take effect for an axis (R78, R83).
(DESIGN CHOICE, assumption 105, DESIGN CHOICE, assumption 108) -/
def Lane.applySetpoint (L : Lane) (n : Nat) (m : Setpoint) : Lane :=
  let K := L.wrI (Int.spFrom n) (L.agreedValue n m.applyAt)
  let K := ((K.wrI (Int.spTo n) m.value).wrI (Int.spAcc n) m.acc).wr (Int.spGap n) (if L.on (Int.spHave n) then m.applyAt - L.rd (Int.spAt n) else 0)
  let K := ((K.wr (Int.spAt n) m.applyAt).set (Int.spHave n)).clr (CLE_AX_STATUS.SP_LOST n)
  let K := match m.share with
    | none => K
    | some v => K.wr (CLE_AX_SHARE.SHARE n) (min v 65536)
  let K := match m.ilim with
    | none => K
    | some v => K.wr (CLE_AX_ILIM.ILIM n) (min v 1500)
  if m.bank < 2 then K
  else
    let K := K.iff (K.on (CLE_AX_BANK.PENDING n) && K.rd (Int.bankTarget n) ≠ m.bank - 2) (fun J => J.set (CLE_AX_BANK.CONFLICT n))
    K.swapBank n (m.bank - 2)

/-- The messages for axis `n` whose apply instant lies at or before `t` take effect, in order (R83). -/
def Lane.applyDue (L : Lane) (n t : Nat) : Lane :=
  let due (m : Setpoint) : Bool := m.axes.testBit n && decide (m.applyAt ≤ t)
  let K := (L.setpoints.filter due).foldl (fun J m => J.applySetpoint n m) L
  let rest := (L.setpoints.map (fun m => if due m then { m with axes := clearBit m.axes n } else m)).filter (fun m => m.axes ≠ 0)
  { K with setpoints := rest }

/-- A per-unit input as a set-point of the axis: in position mode SP_POS_SPAN counts per unit (R80). -/
def Lane.inputValue (L : Lane) (n : Nat) (x : Int) : Int :=
  if L.rd (CLE_AX_CTL.LOOP n) = 2 then nearest 80 (x * L.coefI n 25) (2 ^ 31) else x

/-- Whether the input an axis reads is in fault (R81, R99). -/
def Lane.inputFaulted (L : Lane) (n : Nat) : Bool :=
  let i := L.rd (CLE_AX_CTL.SP_INPUT n)
  (L.rd (CLE_AX_CTL.SP_SRC n) = 1 && L.on (Int.ainFault i)) || (L.rd (CLE_AX_CTL.SP_SRC n) = 2 && L.on (Int.pinFault i))

/-- SP_INPUT_FAULT follows the input the axis reads (R81, R99). -/
def Lane.syncInput (L : Lane) (n : Nat) : Lane := L.put (CLE_AX_STATUS.SP_INPUT_FAULT n) (L.inputFaulted n)

/-- The set-point in use and its acceleration; a faulted input gives 0, or the last valid position (R80, R81, R83).
(DESIGN CHOICE, assumption 103, DESIGN CHOICE, assumption 107) -/
def Lane.setpointOf (L : Lane) (n t : Nat) : Int × Int × Bool :=
  let pos := L.rd (CLE_AX_CTL.LOOP n) = 2
  let hold := L.rdI (Int.posHold n)
  let i := L.rd (CLE_AX_CTL.SP_INPUT n)
  match L.rd (CLE_AX_CTL.SP_SRC n) with
  | 0 => (if pos then L.rdI (Int.posStart n) else 0, 0, false)
  | 1 => if L.on (Int.ainFault i) then (if pos then hold else 0, 0, true) else (L.inputValue n (L.rdI (Int.ainX i)), 0, false)
  | 2 => if L.on (Int.pinFault i) then (if pos then hold else 0, 0, true)
         else if L.rd (CLE_PIN_CFG.MODE i) = 3 then (L.rdI (Int.pinPos i), 0, false) else (L.inputValue n (L.rdI (Int.pinX i)), 0, false)
  | _ => (L.agreedValue n t, L.rdI (Int.spAcc n), false)

/-! ### Outer loops (R84 to R86) -/

/-- The Calender: one step of w_ref toward w_target (R86). -/
def Lane.calender (L : Lane) (n : Nat) (target : Int) : Lane :=
  let w := L.rdI (CLE_AX_VAL.W_REF n)
  let a := L.rdI (CLE_AX_VAL.A_REF n)
  let jerk := L.coefI n 19
  let dtw := L.coefI n 20
  let dw := target - w
  let q := divRound 86 (2 * jerk * (dw.natAbs : Int) * 2 ^ 31) dtw.toNat
  let aStop := dw.sign * sqrtQ 86 q.toNat
  let aMax := if w * dw < 0 then L.coefI n 18 else L.coefI n 17
  let aTgt := clampI (-aMax) aMax aStop
  let rawA := a + clampI (-jerk) jerk (aTgt - a)
  let a1 := satQ rawA
  let rawW := w + mulQ 86 a1 dtw
  let w1 := satQ rawW
  let past := decide (0 < dw ∧ target < w1) || decide (dw < 0 ∧ w1 < target)
  let K := (L.wrI (CLE_AX_VAL.W_REF n) (if past then target else w1)).wrI (CLE_AX_VAL.A_REF n) (if past then 0 else a1)
  (K.put (CLE_AX_STATUS.RAMP_ACTIVE n) (! past && decide (a1 ≠ 0))).flags n (flag 13 (cutQ rawA || cutQ rawW))

/-- The position loop: w_target from the position error (R85). (DESIGN CHOICE, assumption 109) -/
def Lane.positionLoop (L : Lane) (n : Nat) (sp : Int) : Lane :=
  let r := L.positionOf n
  let e := sp - r.1
  let e1 := clampI (-2147483648) 2147483647 e
  let lim := L.coefI n 15
  ((r.2.wrI (CLE_AX_VAL.POS_SP n) sp).wrI (Int.wTarget n) (clampI (-lim) lim (e1 * L.coefI n 16))).flags n (flag 12 (e ≠ e1))

/-- One current sample counts toward the outer loops, from RUNNING on; a count of 0 says that the loop is due (R84).
(DEDUCED, assumption 106) -/
def Lane.countLoops (L : Lane) (n : Nat) : Lane :=
  if L.rd (Int.spdCnt n) + 1 < L.rd (CLE_AX_LOOP.SPD_DIV n) then L.inc (Int.spdCnt n)
  else if L.rd (Int.posCnt n) + 1 < L.rd (CLE_AX_LOOP.POS_DIV n) then (L.clr (Int.spdCnt n)).inc (Int.posCnt n)
  else (L.clr (Int.spdCnt n)).clr (Int.posCnt n)

/-- The outer loops that follow a current sample, where due (R84, R85). (DEDUCED, assumption 106) -/
def Lane.outerLoops (L : Lane) (n : Nat) (sp : Int) : Lane :=
  let mode := L.rd (CLE_AX_CTL.LOOP n)
  if mode = 0 || L.rd (Int.spdCnt n) ≠ 0 then L else
  let K := if mode = 1 then (let lim := L.coefI n 15; L.wrI (Int.wTarget n) (clampI (-lim) lim sp)) else L
  let K := K.calender n (K.rdI (Int.wTarget n))
  let meas := if K.on (CLE_AX_CTL.SPD_SRC n) then K.rdI (FBI_AX.SPEED n) else K.rdI (CLE_AX_FOX.OMEGA n)
  let r := piStep 85 (toInt 48 (K.rd (Int.accW n))) (K.rdI (CLE_AX_VAL.W_REF n)) meas (K.coefI n 13) (K.coefI n 14) (K.rd (Int.limIq n))
  let K := ((K.wrI (Int.accW n) r.1).wrI (Int.tCmd n) r.2.1).flags n (flag 11 r.2.2)
  if mode = 2 && K.rd (Int.posCnt n) = 0 then K.positionLoop n sp else K

/-! ### One sample of a running axis -/

/-- The loop voltages of a sample (R67, R68): v_d, v_q with decoupling, and the lane with accumulators and flags. -/
def Lane.voltages (L : Lane) (n : Nat) (id iq : Int) : Int × Int × Lane :=
  let d := piStep 67 (toInt 48 (L.rd (Int.accD n))) (L.rdI (Int.idRef n)) id (L.coefI n 0) (L.coefI n 1) (L.rd (Int.limD n))
  let q := piStep 67 (toInt 48 (L.rd (Int.accQ n))) (L.rdI (Int.iqRef n)) iq (L.coefI n 2) (L.coefI n 3) (L.rd (Int.limQ n))
  let dec := L.on (CLE_AX_CTL.DEC_EN n)
  let w := L.rdI (CLE_AX_FOX.OMEGA n)
  let back (x : Int) : Int := mulK 68 (mulQ 68 w x) (L.coefI n 5)
  let vd := d.2.1 - (if dec then back (L.psiAt n 1 id iq) else 0)
  let vq := q.2.1 + (if dec then back (L.psiAt n 0 id iq) else 0)
  let K := (L.wrI (Int.accD n) d.1).wrI (Int.accQ n) q.1
  (satQ vd, satQ vq, K.flags n (flag 1 d.2.2 + flag 2 q.2.2 + flag 3 (cutQ vd || cutQ vq) + flag 4 (L.mapCut n id iq)))

/-- Stage 4: DC-link feed-forward and the voltage limit with priority to d (R69, R70). -/
def Lane.modulate (L : Lane) (n : Nat) (vd vq : Int) : Int × Int × Lane :=
  let rd := mulK 69 vd (L.kdc n)
  let rq := mulK 69 vq (L.kdc n)
  let md := satQ rd
  let mq := satQ rq
  let lim := L.coefI n 4
  let md1 := clampI (-lim) lim md
  let room := restOf 70 lim md1
  let mq1 := clampI (-room) room mq
  let K := ((L.wrI (Int.magM n) (satQ (magQ 124 md mq))).wr (Int.limD n) (cutSign md md1)).wr (Int.limQ n) (cutSign mq mq1)
  let K := (K.put (CLE_AX_STATUS.VLIM_D n) (md ≠ md1)).put (CLE_AX_STATUS.VLIM_Q n) (mq ≠ mq1)
  let K := K.put (CLE_AX_STATUS.DC_LOW n) (K.on (CLE_AX_CTL.DCFF_EN n) && decide (K.udc n < K.coefI n 7))
  (md1, mq1, ((K.wrI (CLE_AX_VAL.M_D n) md1).wrI (CLE_AX_VAL.M_Q n) mq1).flags n (flag 5 (cutQ rd || cutQ rq)))

/-- Stage 5 with the set-point of the sample (R71, R80, R200, R201). -/
def Lane.stage5 (L : Lane) (n : Nat) (sp acc : Int) : Lane :=
  let mode := L.rd (CLE_AX_CTL.LOOP n)
  let tCmd := if mode = 0 then satQ sp else L.rdI (Int.tCmd n)
  let aCmd := if mode = 0 then (if L.rd (CLE_AX_CTL.SP_SRC n) = 3 then acc else 0) else L.rdI (CLE_AX_VAL.A_REF n)
  let K := L.weaken n
  let r := K.references n tCmd aCmd
  let K := (((K.wrI (Int.idRef n) r.1).wrI (Int.iqRef n) r.2.1).put (CLE_AX_STATUS.ILIM_ACT n) r.2.2.1).wr (Int.limIq n) r.2.2.2.1
  let K := (K.putBit DCL_AXIS_STATUS.REGEN_LIM n r.2.2.2.2.1).flags n r.2.2.2.2.2
  let inj := K.injects n
  let first := inj && ! K.on (Int.lossSeen (K.railOf n))
  let K := K.putBit DCL_AXIS_STATUS.LOSS_INJ n inj
  K.iff first (fun J => (J.set (Int.lossSeen (J.railOf n))).fieldRaise 0x85)

/-- A sample in TRACK or HALL: the whole pipeline, then the observer for the next sample (R59, R112). `u` is the
u_dc of the sample before (R116). -/
def Lane.runSample (L : Lane) (n : Nat) (mid : Bool) (delay i0 i1 : Nat) (u : Int) : Lane :=
  let hall := L.rd (CLE_AX_FOX_STATUS.STATE n) = 3
  let omega := L.rdI (CLE_AX_FOX.OMEGA n)
  if hall && ! L.hallsHealthy n then (L.missKe n).rotorLost n omega u else
  let theta := if hall then L.hallAngle n else L.rd (CLE_AX_FOX.THETA n)
  let K := L.iff hall (fun J => (J.wrI (CLE_AX_FOX.OMEGA n) (J.rdI (FBI_AX.SPEED n))).wr (CLE_AX_FOX.THETA n) theta)
  let ph := K.currents n i0 i1
  let p := clarkePark theta ph.1 ph.2.1
  let id := p.2.2.1
  let iq := p.2.2.2.1
  let K := ((K.wrI (CLE_AX_VAL.ID_MEAS n) id).wrI (CLE_AX_VAL.IQ_MEAS n) iq).flags n (ph.2.2.2 ||| p.2.2.2.2)
  let ob := K.observe n theta ph.1 ph.2.1 ph.2.2.1 p.1 p.2.1 id iq
  let K := ob.2.2
  let v := K.voltages n id iq
  let m := v.2.2.modulate n v.1 v.2.1
  let sp := m.2.2.setpointOf n m.2.2.ftb
  let K := (m.2.2.wrI (CLE_AX_VAL.SP_VALUE n) sp.1).put (CLE_AX_STATUS.SP_INPUT_FAULT n) sp.2.2
  let K := if sp.2.2 then K else K.wrI (Int.posHold n) (if K.rd (CLE_AX_CTL.LOOP n) = 2 then sp.1 else K.rdI (Int.posHold n))
  let K := K.stage5 n sp.1 sp.2.1
  let ab := rotQ theta m.1 m.2.1
  let d := K.duties n (satQ ab.1) (satQ ab.2)
  let K := ((K.wrI (Int.mAl n) (satQ ab.1)).wrI (Int.mBe n) (satQ ab.2)).flags n (flag 7 (cutQ ab.1 || cutQ ab.2) ||| d.2.2.2)
  let K := ((K.wrI (Int.axCur n 0) ph.1).wrI (Int.axCur n 1) ph.2.1).wrI (Int.axCur n 2) ph.2.2.1
  let K := ((K.wrI (Int.axDuty n 0) d.1).wrI (Int.axDuty n 1) d.2.1).wrI (Int.axDuty n 2) d.2.2.1
  let K := K.latchEdges n mid delay (d.1, d.2.1, d.2.2.1)
  let K := (K.outerLoops n sp.1).checkKe n id iq m.2.1
  if K.rd (CLE_AX_FOX_STATUS.STATE n) = 6 then K
  else if hall then K.hallCheck n ob.1
  else (K.pllStep n theta ob.2.1).trackCheck n ob.1 omega u

/-! ### Zero tracking (R90) -/

/-- Whether a sample of the axis is a zero sample (R90). -/
def Lane.zeroSample (L : Lane) (n : Nat) : Bool :=
  let st := L.rd (CLE_AX_FOX_STATUS.STATE n)
  (st = 0 || st = 1 || st = 5 || (st = 6 && L.rd (CLE_AX_FOX_STATUS.SAFE_PATTERN n) = 2) || L.rd (PWM_GROUP_STATUS.OVERRIDE n) = 1) &&
  (outsOf n).all (fun k => ! L.padLevel k) && decide (L.rd (Int.offAt n) + 1000 * L.rd ADC_CFG.ZW_SETTLE ≤ L.ftb)

/-- The zero code of a channel of an axis. -/
def izero (n c : Nat) : Fld := if c = 0 then ADC_AX_IZERO.IZERO0 n else ADC_AX_IZERO.IZERO1 n

/-- IZERO of one channel moves by at most 1 LSB toward the mean of 256 zero samples, within ZERO_LIM of the trim (R90). -/
def Lane.moveZero (L : Lane) (n c : Nat) : Lane :=
  let mean := divRound 90 (L.rd (Int.zSum n c)) 256
  let trim : Int := L.rd (Int.izTrim n c)
  let lim : Int := L.rd ADC_CFG.ZERO_LIM
  let z : Int := L.rd (izero n c)
  let goal := clampI (trim - lim) (trim + lim) mean
  let K := (L.wrI (izero n c) (z + (goal - z).sign)).clr (Int.zSum n c)
  if lim < (mean - trim).natAbs then K.fieldRaise 0x8B else K

/-- A zero sample is taken (R90). -/
def Lane.trackZero (L : Lane) (n i0 i1 : Nat) : Lane :=
  if ! L.zeroSample n then L else
  let K := (L.inc (ADC_AX_ZCNT.ZSAMPLES n)).add (Int.zSum n 0) i0
  let K := K.add (Int.zSum n 1) i1
  if K.rd (Int.zCnt n) = 255 then ((K.clr (Int.zCnt n)).moveZero n 0).moveZero n 1 else K.inc (Int.zCnt n)

/-- The currents and duties of a sample without the current loop, for R210: the duties are 0 unless a test pulse or its return
is applied (R109). -/
def Lane.restCurrents (L : Lane) (n : Nat) (ia ib ic : Int) : Lane :=
  let K := ((L.wrI (Int.axCur n 0) ia).wrI (Int.axCur n 1) ib).wrI (Int.axCur n 2) ic
  if K.rd (CLE_AX_FOX_STATUS.STATE n) = 2 && K.rd (Int.srPulse n) ≠ 0 then K
  else ((K.clr (Int.axDuty n 0)).clr (Int.axDuty n 1)).clr (Int.axDuty n 2)

/-- CURRENT_SAMPLE: the conversions of an axis end at T0 and its sample runs (R60 to R62, R88, R107). An axis whose group
does not run takes no samples, nor does one whose CLE or ADC domain is stopped (R412). (DEDUCED, assumption 118) -/
def execCurrentSample (l : LaneId) (ax : Fin 8) (mid : Bool) (delay i0 i1 va vb vc : Nat) (s : State) : Out :=
  .next (s.onLane l (fun L =>
    let n : Nat := ax
    if ! L.on (FCK_DOM_CTL.RUN_EN 0) || ! L.on (FCK_DOM_CTL.RUN_EN 2) || ! L.on (PWM_GROUP_CTL.RUN n) || (mid && ! L.on (CLE_AX_CTL.UPDATE n)) then L else
    let i0 := min i0 16383
    let i1 := min i1 16383
    let K := (L.wr (ADC_AX_ICODE.I0_CODE n) i0).wr (ADC_AX_ICODE.I1_CODE n) i1
    let K := ((K.wr (ADC_AX_VCODE.VA_CODE n) (min va 16383)).wr (ADC_AX_VCODE.VB_CODE n) (min vb 16383)).wr (ADC_AX_VCODEC.VC_CODE n) (min vc 16383)
    let u := K.rdI (Int.udcLast n)
    let K := (K.trackZero n i0 i1).wrI (Int.udcLast n) (K.udc n)
    let K := if K.on (CLE_AX_STATUS.RUNNING n) then ((K.applyDue n K.ftb).settleBank n).countLoops n else K
    let e := K.emf n (min va 16383) (min vb 16383) (min vc 16383)
    let ph := K.currents n i0 i1
    let z := K.coefI n 45
    let quiet := decide ((ph.1.natAbs : Int) < z) && decide ((ph.2.1.natAbs : Int) < z) && decide ((ph.2.2.1.natAbs : Int) < z)
    let st := K.rd (CLE_AX_FOX_STATUS.STATE n)
    let K := K.iff (decide (st ≠ 3 ∧ st ≠ 4)) (fun J => (J.missKe n).restCurrents n ph.1 ph.2.1 ph.2.2.1)
    match st with
    | 0 => K.idleStep n
    | 1 => K.acquireSample n e quiet
    | 3 => K.runSample n mid delay i0 i1 u
    | 4 => K.runSample n mid delay i0 i1 u
    | 5 => K.reacqSample n e quiet
    | 6 => K.safeSample n e
    | _ => K))

/-! ### Start from rest (R109 to R111) -/

/-- φ_j = 30° × j as angle32 (R109). -/
def axisDir (j : Nat) : Nat := ofInt 32 (divRound 109 ((j : Int) * 2 ^ 32) 12)

/-- The order of the axis tests (R109). -/
def axisOrder (k : Nat) : Nat := [0, 6, 1, 7, 2, 8, 3, 9, 4, 10, 5, 11].getD (k - 1) 0

/-- The direction of a test pulse: the twelve axis tests in their order, then the two polarity tests. -/
def Lane.pulseDir (L : Lane) (n k : Nat) : Nat :=
  if k ≤ 12 then axisDir (axisOrder k)
  else if k = 13 then L.rd (Int.srAxis n) else (L.rd (Int.srAxis n) + 2 ^ 31) % 2 ^ 32

/-- Its amplitude. -/
def Lane.pulseAmp (L : Lane) (n k : Nat) : Int := if k ≤ 12 then L.coefI n 46 else min (2 * L.coefI n 46) (L.coefI n 4)

/-- TEST_PULSE_START: the next test pulse begins, or the attempt fails where the current has not decayed (R109, R110). -/
def execTestPulseStart (l : LaneId) (ax : Fin 8) (decayed : Bool) (s : State) : Out :=
  .next (s.onLane l (fun L =>
    let n : Nat := ax
    if L.rd (CLE_AX_FOX_STATUS.STATE n) ≠ 2 || L.rd (Int.srPulse n) ≠ 0 then L
    else if ! decayed then L.restFailed n
    else
      let k := L.rd (Int.srNext n)
      let K := (L.wr (Int.srPulse n) k).syncOverride n
      K.applyVector n (K.pulseDir n k) (K.pulseAmp n k)))

/-- The expected inductance: L_INC at the grid point nearest id = iq = 0 (R109). (DESIGN CHOICE, assumption 112) -/
def Lane.lInc0 (L : Lane) (n : Nat) : Nat :=
  let x := L.gridAt n 0 21 22
  let y := L.gridAt n 0 23 24
  let i := if 2 ^ 30 ≤ x.2.1 then x.1 + 1 else x.1
  let j := if 2 ^ 30 ≤ y.2.1 then y.1 + 1 else y.1
  L.rd (CLE_MAP.L_INC n 0 (32 * j + i))

/-- Whether a pulse reached SR_I_LIM in less than 20 % of the predicted time (R109). -/
def Lane.pulseEarly (L : Lane) (n k : Nat) (cur : Int) (len : Nat) : Bool :=
  decide (L.coefI n 47 ≤ cur) && decide ((len : Int) * 5 * L.pulseAmp n k * pi60 * 2 ^ 24 <
    (L.lInc0 n : Int) * L.coefI n 47 * (L.rd (FBI_AX_T60.T60_BASE n) : Int) * 3 * 2 ^ 60)

/-- The twelve admittances give Y0, Y2 and the axis angle; too small a ratio fails the attempt (R109, R111).
(DESIGN CHOICE, assumption 35) -/
def Lane.axisFound (L : Lane) (n : Nat) : Lane :=
  let y (k : Nat) : Int := toInt 48 (L.rd (Int.srY n k))
  let ks := List.range 12
  let y0 := (ks.map y).sum
  let dir (k : Nat) : Nat := 2 * axisDir k % 2 ^ 32
  let re := (ks.map (fun k => mulQ 109 (y k) (cosQ (dir k)))).sum
  let im := -(ks.map (fun k => mulQ 109 (y k) (sinQ (dir k)))).sum
  let ax := argQ 109 re im / 2
  -- |Y2| / Y0 = (|Σ| / 6) / (Σ y / 12)
  if decide (magQ 111 re im * 2 * 2 ^ 31 < L.coefI n 48 * y0) || decide (y0 ≤ 0) then L.restFailed n else L.wr (Int.srAxis n) ax

/-- The two polarity tests give the angle, and the attempt succeeds or fails (R109, R111). -/
def Lane.polarity (L : Lane) (n : Nat) : Lane :=
  let a := L.rdI (Int.srPeak n 0)
  let b := L.rdI (Int.srPeak n 1)
  let iN := max a b
  let iS := min a b
  let ang := if b ≤ a then L.rd (Int.srAxis n) else (L.rd (Int.srAxis n) + 2 ^ 31) % 2 ^ 32
  if decide ((iN - iS) * 2 ^ 31 < L.coefI n 49 * iN) || decide (iN ≤ 0) then L.restFailed n
  else
    let K := (L.wr (CLE_AX_FOX.SR_ANGLE n) (ang / 65536)).sat (CLE_AX_FOX.SR_TIME n) ((L.ftb - L.rd (Int.srAt n)) / 1000)
    ((K.showTrack n ang 0).presetFlux n ang).presetLoops n 0

/-- Pulse `k` ends with a current along its direction after `len` ns: its result is kept, and the opposite vector follows
for the same time (R109). (DEDUCED, assumption 104) -/
def Lane.endPulse (L : Lane) (n k : Nat) (cur : Int) (len : Nat) : Lane :=
  if L.pulseEarly n k cur len then L.restFailed n else
  let K := ((L.set (Int.srEnded n)).wr (Int.srNext n) (k + 1)).wr (Int.srBack n) (L.ftb + len)
  let K := K.applyVector n ((K.pulseDir n k + 2 ^ 31) % 2 ^ 32) (K.pulseAmp n k)
  if k ≤ 12 then K.wrI (Int.srY n (axisOrder k)) (divRound 109 (cur * 2 ^ 51) ((K.pulseAmp n k).toNat * len))
  else K.wrI (Int.srPeak n (k - 13)) cur

/-- The return of pulse `k` ends: the outputs go off and the gap begins; after the twelfth the axis is worked out, after the
fourteenth the angle (R109, R110). (DEDUCED, assumption 104) -/
def Lane.endReturn (L : Lane) (n k : Nat) : Lane :=
  let K := ((L.wr (Int.srPulse n) 0).clr (Int.srEnded n)).wr (Int.srGap n) L.ftb
  let K := K.syncOverride n
  if k = 12 then K.axisFound n else if k = 14 then K.polarity n else K

/-- TEST_PULSE_END: a pulse ends at SR_I_LIM or SR_PULSE with a current along its direction after `length` ns, or the opposite
vector that follows it ends once it has stood for the same time (R109, R110). (DEDUCED, assumption 104) -/
def execTestPulseEnd (l : LaneId) (ax : Fin 8) (current : Int) (length : Nat) (s : State) : Out :=
  .next (s.onLane l (fun L =>
    let n : Nat := ax
    let k := L.rd (Int.srPulse n)
    if L.rd (CLE_AX_FOX_STATUS.STATE n) ≠ 2 || k = 0 then L
    else if ! L.on (Int.srEnded n) then L.endPulse n k (satQ current) (min (max length 1) (1000 * L.ctl n 16 8))
    else if L.ftb < L.rd (Int.srBack n) then L
    else L.endReturn n k))

end Sys2Proof.Machine
end

