-- ==== Sys2Proof/Machine/CleCmds.lean ====
section
/-! DEFINITION. The commands of the control engine's inputs: banks, maps, set-points, analogue and pulse inputs, enable, and
the ADC block's background work (R74 to R92). -/

namespace Sys2Proof.Machine

/-- BANK_SWAP_REQUEST: a local request; while the axis does not run it takes effect at once (R78). -/
def Lane.requestBank (L : Lane) (n b : Nat) : Lane :=
  if L.on (CLE_AX_STATUS.RUNNING n) then (L.set (CLE_AX_BANK.PENDING n)).wr (Int.bankTarget n) b else L.swapBank n b

/-- BANK_SWAP_REQUEST (R78). -/
def execBankSwapRequest (l : LaneId) (ax : Fin 8) (target : Fin 2) (s : State) : Out := .next (s.onLane l (fun L => L.requestBank ax target))

/-- The legal range of coefficient `k` (R77, R129): the clamped word, none for a reserved index. -/
def clampCoef (k v : Nat) : Option Nat :=
  let x := toInt 32 v
  if [0, 1, 2, 3, 4, 6, 10, 11, 13, 14, 15, 16, 33, 34, 35, 36, 38, 41, 42, 43, 45, 46, 47, 48, 49, 50, 51, 54, 55, 56, 59, 61].contains k then
    some (if x < 0 then 0 else v)
  else if [5, 9, 21, 23, 39].contains k then some v
  else if k = 7 || k = 8 then some (if x < 134217728 then 134217728 else v)
  else if k = 12 || k = 52 || k = 53 then some (if 0 < x then 0 else v)
  else if [17, 18, 19, 20, 32, 37].contains k then some (if x < 1 then 1 else v)
  else if k = 22 || k = 24 then some (if x < 260046848 then 260046848 else v)
  else if k = 25 then some (min v 2147483647)
  else if k = 40 || k = 44 then some (min v 1073741824)
  else if k = 57 then some (clampI 0 16777216 x).toNat
  else if k = 58 then some (if x < 16777216 then 16777216 else v)
  else if k = 60 then some (clampI 0 1073741824 x).toNat
  else none

/-- A coefficient write: stored in the inactive bank, refused and counted in the active one (R77, R79). -/
def Lane.writeCoef (L : Lane) (n b k v : Nat) : Lane :=
  if L.rd (CLE_AX_BANK.BANK_ACTIVE n) = b then L.inc CLE_GLB_CNT.BANK_WR_REFUSED
  else match clampCoef k (trunc 32 v) with
    | none => L
    | some w => L.wr (CLE_COEF.K n b k) w

/-- COEFFICIENT_WRITE (R77, R79). -/
def execCoefficientWrite (l : LaneId) (ax : Fin 8) (bank : Fin 2) (k : Fin 64) (value : Nat) (s : State) : Out :=
  .next (s.onLane l (fun L => L.writeCoef ax bank k value))

/-- A map write: refused and counted while the axis is enabled; a negative L_INC is clamped to 0 (R74, R76). (DEDUCED, assumption 95) -/
def Lane.writeMap (L : Lane) (n q e : Nat) (upper : Bool) (v : Nat) : Lane :=
  if L.on (CLE_AX_CTL.ENABLE n) then L.inc CLE_GLB_CNT.MAP_WR_REFUSED
  else if upper then L.wr (CLE_MAP.L_INC n q e) (if toInt 32 v < 0 then 0 else v)
  else L.wr (CLE_MAP.PSI n q e) v

/-- MAP_WRITE (R74, R76). -/
def execMapWrite (l : LaneId) (ax : Fin 8) (q : Fin 2) (i j : Fin 32) (upper : Bool) (value : Nat) (s : State) : Out :=
  .next (s.onLane l (fun L => L.writeMap ax q (32 * j + i) upper value))

/-! ### Analogue and pulse inputs (R81, R82) -/

/-- SP_INPUT_FAULT of every axis follows the input it reads (R81). -/
def Lane.markInputs (L : Lane) : Lane := L.forN 8 (fun n K => K.syncInput n)

/-- AIN_CONVERSION: a set-point input is converted, scaled and checked against its wire limits (R81); with both references
lost none is converted (R90). -/
def execAinConversion (l : LaneId) (k : Fin 4) (mv : Nat) (s : State) : Out :=
  .next (s.onLane l (fun L =>
    let k : Nat := k
    if ! L.on (FCK_DOM_CTL.RUN_EN 2) || (! L.on (ADC_CL_STATUS.REF_OK 0) && ! L.on (ADC_CL_STATUS.REF_OK 1)) then L else
    let at_ := L.rd (Int.ainN k)
    let K := (L.wr (Int.ainSum k at_) mv).wr (Int.ainN k) (at_ + 1)
    let sum : Int := ((List.range 4).map (fun i => K.rd (Int.ainSum k i))).sum
    let x := satQ (nearest 81 ((sum - 4 * K.rd (CLE_AIN_CFG.OFFSET k)) * K.rdI (CLE_AIN_GAIN.GAIN k) * 128) 4)
    let db : Int := (K.rd (CLE_AIN_CFG.DB k) : Int) * 524288
    let inBand := decide ((x.natAbs : Int) ≤ db)
    let K := K.wrI (Int.ainX k) (if inBand then 0 else x - x.sign * db)
    let bad := decide (mv < K.rd (CLE_AIN_WIRE.LOW k)) || decide (K.rd (CLE_AIN_WIRE.HIGH k) < mv)
    let K := if bad then (K.wr (Int.ainBad k) (min 10 (K.rd (Int.ainBad k) + 1))).clr (Int.ainGood k)
             else (K.wr (Int.ainGood k) (min 10 (K.rd (Int.ainGood k) + 1))).clr (Int.ainBad k)
    if ! K.on (Int.ainFault k) then
      (if K.rd (Int.ainBad k) = 10 then (((K.set (Int.ainFault k)).clr (Int.ainBand k)).markInputs).fieldRaise 0x65 else K)
    else
      let K := K.iff inBand (fun J => J.set (Int.ainBand k))
      if K.rd (Int.ainGood k) = 10 ∧ K.on (Int.ainBand k) then (K.clr (Int.ainFault k)).markInputs else K))

/-- A pulse input is in fault (R81, R82). -/
def Lane.pinFails (L : Lane) (k : Nat) : Lane :=
  let K := L.clr (Int.pinGood k)
  if K.on (Int.pinFault k) then K else (((K.set (Int.pinFault k)).clr (Int.pinBand k)).markInputs).fieldRaise 0x65

/-- The dead band of a pulse input's scaled value; a step-and-direction count has none (R81, R82). (DESIGN CHOICE, assumption 103) -/
def Lane.pinInBand (L : Lane) (k : Nat) : Bool :=
  L.rd (CLE_PIN_CFG.MODE k) = 3 || decide (((L.rdI (Int.pinX k)).natAbs : Int) ≤ (L.rd (CLE_AIN_CFG.DB k) : Int) * 524288)

/-- A good edge of a pulse input; ten in a row return a faulted input to use, once its value has lain inside the dead band
(R81, R82). (DESIGN CHOICE, assumption 103) -/
def Lane.pinPasses (L : Lane) (k : Nat) : Lane :=
  let K := L.wr (Int.pinGood k) (min 10 (L.rd (Int.pinGood k) + 1))
  if ! K.on (Int.pinFault k) then K else
  let K := K.iff (K.pinInBand k) (fun J => J.set (Int.pinBand k))
  if K.rd (Int.pinGood k) = 10 ∧ K.on (Int.pinBand k) then (K.clr (Int.pinFault k)).markInputs else K

/-- A filtered edge enters the history of a pulse input, the newest first: twice its time plus 2, plus its level (R82). -/
def Lane.pushPin (L : Lane) (k t : Nat) (level : Bool) : Lane :=
  let K := [5, 4, 3, 2, 1].foldl (fun J i => J.wr (Int.pinHist k i) (J.rd (Int.pinHist k (i - 1)))) L
  (K.wr (Int.pinHist k 0) (2 * t + 2 + bit level)).put (Int.pinLvl k) level

/-- The filtered level of a pulse input at field time `t`; six edges at 40 ns span the 200 ns of R82. -/
def Lane.pinLevelAt (L : Lane) (k t : Nat) : Bool :=
  let es := ((List.range 6).map (fun i => L.rd (Int.pinHist k i))).filter (fun e => decide (2 ≤ e))
  match es.find? (fun e => decide (e / 2 ≤ t + 1)) with
  | some e => e % 2 = 1
  | none => match es.getLast? with
    | some e => e % 2 = 0
    | none => L.on (Int.pinLvl k)

/-- PIN_EDGE: a filtered edge updates the duty, frequency or step-and-direction set-point (R82). -/
def execPinEdge (l : LaneId) (k : Fin 4) (rising : Bool) (s : State) : Out :=
  .next (s.onLane l (fun L =>
    let k : Nat := k
    let t := L.ftb
    let mode := L.rd (CLE_PIN_CFG.MODE k)
    let per := t - L.rd (Int.pinRise k)
    let high := L.rd (Int.pinFall k) - L.rd (Int.pinRise k)
    let have_ := L.rd (Int.pinHave k) ≠ 0
    let dirUp := L.pinLevelAt (k + 1) (t - 200)
    let K := L.pushPin k t rising
    if ! rising then K.wr (Int.pinFall k) t
    else
      let K := (K.wr (Int.pinRise k) t).wr (Int.pinHave k) 1
      if mode = 3 then
        let K := K.wrI (Int.pinPos k) (K.rdI (Int.pinPos k) + (if dirUp then 1 else -1))
        if have_ && decide (per < 500) then K.pinFails k else K.pinPasses k
      else if ! have_ || mode = 0 then K
      else if mode = 1 then
        let x := clampI (-2147483648) oneQ (divRound 82 (((10 * high : Nat) - (5 * per : Nat) : Int) * 2 ^ 31) (4 * per))
        let K := K.wrI (Int.pinX k) x
        if 100 * high < 5 * per ∨ 95 * per < 100 * high then K.pinFails k else K.pinPasses k
      else
        let f : Int := 1000000000 - ((K.rd (CLE_PIN_FREQ.F_CTR k) * per : Nat) : Int)
        (K.wrI (Int.pinX k) (clampI (-2147483648) oneQ (divRound 82 (f * 2 ^ 31) (K.rd (CLE_PIN_FREQ.F_SPAN k) * per)))).pinPasses k))

/-- PIN_TIMEOUT: no edge for TIMEOUT ms in duty or frequency mode (R82). -/
def execPinTimeout (l : LaneId) (k : Fin 4) (s : State) : Out :=
  .next (s.onLane l (fun L =>
    let m := L.rd (CLE_PIN_CFG.MODE k)
    if m = 1 ∨ m = 2 then L.pinFails k else L))

/-! ### Agreed set-points (R83) -/

/-- SETPOINT_MESSAGE: the field die takes a set-point message and schedules it; one past its apply instant is late (R83). -/
def execSetpointMessage (l : LaneId) (s : State) : Out :=
  .next (s.onLane l (fun L =>
    match L.down with
    | .setpoint m :: _ =>
      let f := (L.fieldTimeOf m.applyAt).toNat
      let K := L.takeDown
      let K := K.forN 8 (fun n J => J.iff (m.axes.testBit n && decide (f < J.ftb)) (fun J => J.inc (CLE_AX_STATUS.SP_LATE n)))
      { K with setpoints := K.setpoints ++ [{ m with applyAt := f }] }
    | _ => L))

/-- SETPOINT_APPLY: at the apply instant the contents take effect for an axis that does not run (R83). -/
def execSetpointApply (l : LaneId) (ax : Fin 8) (s : State) : Out :=
  .next (s.onLane l (fun L => if L.on (CLE_AX_STATUS.RUNNING ax) then L else (L.applyDue ax L.ftb).settleBank ax))

/-- SP_TIMEOUT: no message with a later apply instant within SP_TIMEOUT (R83). -/
def execSpTimeout (l : LaneId) (ax : Fin 8) (s : State) : Out :=
  .next (s.onLane l (fun L =>
    if L.on (CLE_AX_STATUS.RUNNING ax) && L.rd (CLE_AX_CTL.SP_SRC ax) = 3 && ! L.on (CLE_AX_STATUS.SP_LOST ax) then
      (L.set (CLE_AX_STATUS.SP_LOST ax)).fieldRaise 0x66
    else L))

/-- AXIS_ENABLE: a write of ENABLE (R87). -/
def execAxisEnable (l : LaneId) (ax : Fin 8) (on : Bool) (s : State) : Out := .next (s.onLane l (fun L => L.writeEnable ax on))

/-- ISOLATION_SETTLE_EXPIRY: the settle time ends: a newly enabled axis may act on RUNNING, or the safe-state pattern is
finished and ASC goes to all-off (R22, R122, R499). -/
def execIsolationSettleExpiry (l : LaneId) (ax : Fin 8) (s : State) : Out :=
  .next (s.onLane l (fun L =>
    let n : Nat := ax
    if L.rd (CLE_AX_FOX_STATUS.STATE n) = 6 then
      (if L.on (Int.safeDone n) then L
       else (((L.set (Int.safeDone n)).wr (CLE_AX_FOX_STATUS.SAFE_PATTERN n) 2).syncOverride n).checkCluster (n / 4))
    else L.clr (Int.isoWait n)))

/-! ### The ADC block (R89, R90) -/

/-- The cluster that takes a background conversion, if any reference is valid (R89, R90). -/
def Lane.bgCluster (L : Lane) (input : Nat) : Option Nat :=
  match L.on (ADC_CL_STATUS.REF_OK 0), L.on (ADC_CL_STATUS.REF_OK 1) with
  | true, true => some (L.rd (Int.bgTurn input))
  | true, false => some 0
  | false, true => some 1
  | false, false => none

/-- What a background conversion stores: feed current, chopper current with its period sums, or module temperature; rail
voltages and set-point inputs are evaluated by their own commands (R89, R206). -/
def Lane.bgStore (L : Lane) (input code : Nat) : Lane :=
  if input < 4 then L
  else if input < 8 then L.wr (Int.feedCode (input - 4)) code
  else if input < 12 then
    let c := input - 8
    ((((L.wr (Int.chopCode c) code).add (Int.chIsum c) code).add (Int.chN c) 1).add (Int.chUsum c) (L.rd (Int.railCode (L.rd (DCL_CH_CFG.RAIL c)))))
  else if input < 16 then L
  else L.wrI (ADC_MTEMP.T (input - 16)) (clampI (-32768) 32767
    (L.rdI ADC_MTCFG.MT_OFS + divRound 89 ((code * L.rd ADC_MTCFG.MT_GAIN : Nat) : Int) 100))

/-- BACKGROUND_CONVERSION: a due conversion of input 0 to 27 (RAILV, RAILI, CHOPI, AIN, MTEMP in the order of R89) starts in
time (0), late (1), or is skipped (2); none while the ADC domain is stopped (R412). (DEDUCED, assumption 118) -/
def execBackgroundConversion (l : LaneId) (input : Fin 28) (code : Nat) (outcome : Fin 3) (s : State) : Out :=
  .next (s.onLane l (fun L =>
    if ! L.on (FCK_DOM_CTL.RUN_EN 2) then L else
    match L.bgCluster input with
    | none => L
    | some c =>
      let K := L.wr (Int.bgTurn input) (1 - c)
      match outcome with
      | 0 => K.bgStore input (min code 16383)
      | 1 => (K.inc (ADC_CL_STATUS.BG_LATE c)).bgStore input (min code 16383)
      | 2 => (K.inc (ADC_CL_STATUS.BG_SKIP c)).fieldRaise 0x8C))

/-- REFERENCE_CHECK: a cluster's reference against the check reference; its loss takes the cluster's axes to SAFE, and the
loss of both the lane out (R90). (DEDUCED, assumption 38) -/
def execReferenceCheck (l : LaneId) (cluster : Fin 2) (ok : Bool) (s : State) : Out :=
  .next (s.onLane l (fun L =>
    let c : Nat := cluster
    if ok then L.set (ADC_CL_STATUS.REF_OK c)
    else
      let K := (L.clr (ADC_CL_STATUS.REF_OK c)).fieldRaise 0x8A
      let K := (axesOf c).foldl (fun J n => J.enterSafe n 0x8A) K
      if K.on (ADC_CL_STATUS.REF_OK (1 - c)) then K else (K.allSafe 0x8A).latchE0 0x8A))

end Sys2Proof.Machine
end

