-- ==== Sys2Proof/Machine/Fbi.lean ====
section
/-! DEFINITION. The feedback unit (R170 to R195): Hall edges, position, speed, compares and latches. -/

namespace Sys2Proof.Machine

/-- The sector of a legal CODE (R172). -/
def sectorOf (code : Nat) : Option Nat := match code with
  | 5 => some 0
  | 4 => some 1
  | 6 => some 2
  | 2 => some 3
  | 3 => some 4
  | 1 => some 5
  | _ => none

/-- Speed states (R191). -/
abbrev spdStandstill : Nat := 0
abbrev spdStarting : Nat := 1
abbrev spdValid : Nat := 2
abbrev spdReversed : Nat := 3
abbrev spdDecaying : Nat := 4

/-! ### Speed (R180, R181) -/

/-- How many intervals are averaged (R180). -/
def Lane.avgLen (L : Lane) (n : Nat) : Nat := [1, 2, 3, 6].getD (L.rd (FBI_AX_CFG.SPD_AVG n)) 6

/-- The history is cleared. -/
def Lane.clearHist (L : Lane) (n : Nat) : Lane := L.clr (Int.histN n)

/-- An interval enters the history, the newest first, and the last N are kept (R180). -/
def Lane.pushHist (L : Lane) (n d : Nat) : Lane :=
  let K := [5, 4, 3, 2, 1].foldl (fun J i => J.wr (Int.hist n i) (J.rd (Int.hist n (i - 1)))) L
  (K.wr (Int.hist n 0) (min d (2 ^ 32 - 1))).wr (Int.histN n) (min (L.avgLen n) (L.rd (Int.histN n) + 1))

/-- The status becomes STANDSTILL: speed 0, history cleared, last_dir none (R181). -/
def Lane.standstill (L : Lane) (n : Nat) : Lane :=
  (((L.wr (FBI_AX_STATUS.SPD_STATUS n) spdStandstill).wr (FBI_AX.SPEED n) 0).wr (FBI_AX_STATUS.LAST_DIR n) 0).clearHist n

/-- The reported speed is evaluated for field time `t` (R181). -/
def Lane.evalSpeedAt (L : Lane) (n t : Nat) : Lane :=
  let st := L.rd (FBI_AX_STATUS.SPD_STATUS n)
  let dt := t - L.rd (Int.tEdge n)
  if st = spdStandstill then L
  else if 1000000 * L.rd (FBI_AX_CFG.SS_TIME n) ≤ dt then L.standstill n
  else if st = spdStarting ∨ st = spdReversed then L.wr (FBI_AX.SPEED n) 0
  else
    let cnt := L.rd (Int.histN n)
    let sum := ((List.range cnt).map (fun i => L.rd (Int.hist n i))).sum
    let t60 := L.rd (FBI_AX_T60.T60_BASE n)
    let dir : Int := if L.rd (FBI_AX_STATUS.LAST_DIR n) = 2 then -1 else 1
    if sum < cnt * dt then
      (L.wrI (FBI_AX.SPEED n) (dir * min oneQ (divRound 181 ((t60 * 2 ^ 31 : Nat) : Int) dt))).wr (FBI_AX_STATUS.SPD_STATUS n) spdDecaying
    else (L.wrI (FBI_AX.SPEED n) (dir * min oneQ (divRound 181 ((t60 * cnt * 2 ^ 31 : Nat) : Int) sum))).wr (FBI_AX_STATUS.SPD_STATUS n) spdValid

/-- The reported speed is evaluated now (R181). -/
def Lane.evalSpeed (L : Lane) (n : Nat) : Lane := L.evalSpeedAt n L.ftb

/-- The speed status and history at an accepted edge at `t` in direction `dir`, 1 forward and 2 backward (R180). -/
def Lane.speedEdge (L : Lane) (n t dir : Nat) : Lane :=
  let last := L.rd (FBI_AX_STATUS.LAST_DIR n)
  let K := if L.rd (FBI_AX_STATUS.SPD_STATUS n) = spdStandstill ∨ last = 0 then (L.wr (FBI_AX_STATUS.SPD_STATUS n) spdStarting).clearHist n
    else if dir ≠ last then ((L.wr (FBI_AX_STATUS.SPD_STATUS n) spdReversed).clearHist n).inc (FBI_AX_CNT.REV_CNT n)
    else (L.pushHist n (t - L.rd (Int.tPrev n))).wr (FBI_AX_STATUS.SPD_STATUS n) spdValid
  (K.wr (FBI_AX_STATUS.LAST_DIR n) dir).wr (Int.tPrev n) t

/-! ### Position and compares (R177, R183) -/

/-- A compare fires (R183, R184). -/
def Lane.fire (L : Lane) (n k : Nat) : Lane :=
  let K := (L.set (FBI_AX_CMP_CTL.HIT n k)).wr (FBI_AX_CMP_HIT_FTB.HIT_FTB n k) (L.rd (FBI_AX.EDGE_FTB n))
  let K := K.iff (K.on (FBI_AX_CMP_CTL.EVT_EN n k)) (fun J => J.fieldEvent 1 n k 0)
  if K.on (FBI_AX_CMP_CTL.REPEAT n k) then
    (if K.on (Int.cmpBehind n k) then (K.clr (Int.cmpBehind n k)).wr (FBI_AX_CMP_CTL.EFF_DIR n k) (K.rd (FBI_AX_CMP_CTL.DIR n k)) else K)
  else K.clr (FBI_AX_CMP_CTL.ARMED n k)

/-- The compares judge an edge that changed POS, in compare order (R183, R185). -/
def Lane.compares (L : Lane) (n dir : Nat) : Lane :=
  L.forN 4 (fun k K => K.iff (K.on (FBI_AX_CMP_CTL.ARMED n k) && K.rd (FBI_AX_CMP_VAL.VAL n k) = K.rd (FBI_AX.POS n) &&
    (K.rd (FBI_AX_CMP_CTL.EFF_DIR n k) = 0 || K.rd (FBI_AX_CMP_CTL.EFF_DIR n k) = dir)) (fun J => J.fire n k))

/-- A soft limit is reached; the first edge that sets the flag raises source 0x7A (R177). -/
def Lane.satAt (L : Lane) (f : Fld) : Lane := if L.on f then L else (L.set f).fieldRaise 0x7A

/-- A refused edge: only the refusal is counted (R177 case 5). -/
def Lane.refuseEdge (L : Lane) (n : Nat) (f : Fld) : Lane := ((L.inc f).set (FBI_AX_STATUS.POS_UNCERTAIN n)).fieldRaise 0x7A

/-- The position count takes an accepted edge, in the first case of R177 that applies. -/
def Lane.countEdge (L : Lane) (n dir : Nat) : Lane :=
  let hi := L.rd (FBI_AX.OVR_HIGH n)
  let lo := L.rd (FBI_AX.OVR_LOW n)
  let pos := L.rd (FBI_AX.POS n)
  if dir = 1 then
    if lo ≠ 0 then L.wr (FBI_AX.OVR_LOW n) (lo - 1)
    else if pos = L.rd (FBI_AX.SOFT_MAX n) then
      (if hi < 4294967295 then (L.wr (FBI_AX.OVR_HIGH n) (hi + 1)).satAt (FBI_AX_STATUS.SAT_HIGH n) else L.refuseEdge n (FBI_AX_REF.REF_HIGH n))
    else (L.wr (FBI_AX.POS n) (pos + 1)).compares n dir
  else
    if hi ≠ 0 then L.wr (FBI_AX.OVR_HIGH n) (hi - 1)
    else if pos = L.rd (FBI_AX.SOFT_MIN n) then
      (if lo < 4294967295 then (L.wr (FBI_AX.OVR_LOW n) (lo + 1)).satAt (FBI_AX_STATUS.SAT_LOW n) else L.refuseEdge n (FBI_AX_REF.REF_LOW n))
    else (L.wr (FBI_AX.POS n) (pos + 4294967295)).compares n dir

/-! ### Angle correction (R113, R114) -/

/-- An accepted edge at field time `t` into sector `sec` corrects the angle of a fused axis and is held against HALL_TOL
(R113, R114). -/
def Lane.correctAngle (L : Lane) (n t sec dir : Nat) : Lane :=
  let omega := L.rdI (CLE_AX_FOX.OMEGA n)
  if L.rd (CLE_AX_FOX_STATUS.STATE n) ≠ 4 || L.angleMode n ≠ 0 || ! L.hallsHealthy n || decide ((omega.natAbs : Int) < L.coefI n 41) then L else
  let theta : Int := (L.rd (CLE_AX_FOX.THETA n) : Int) - divRound 113 (omega * ((L.rd (Int.thAt n) : Int) - t)) (3 * L.rd (FBI_AX_T60.T60_BASE n))
  let e := wrapA ((if dir = 1 then edgeAngle sec else edgeAngle (sec + 1)) + L.coef n 39 - theta)
  let K := L.wr (CLE_AX_FOX.THETA n) (ofInt 32 ((L.rd (CLE_AX_FOX.THETA n) : Int) + mulQ 113 e (L.coefI n 38)))
  if decide (L.coef n 40 < e.natAbs) && decide (L.rdI (CLE_AX_FOX.RESIDUAL n) < L.coefI n 37) then
    (if K.rd (Int.hallBad n) = 2 then ((K.wr (Int.hallBad n) 0).set (CLE_AX_FOX_STATUS.HALL_DROPPED n)).fieldRaise 0x6D else K.inc (Int.hallBad n))
  else K.clr (Int.hallBad n)

/-! ### Hall edges -/

/-- What a latch would capture of an axis, saved before the first edge after t_L, with the speed of R181 at t_L (R187). -/
def Lane.saveLatch (L : Lane) (n : Nat) : Lane :=
  let J := L.evalSpeedAt n (L.rd Int.latchAt)
  let st := packWord [(L.rd (FBI_AX_STATUS.SECTOR n), 0), (J.rd (FBI_AX_STATUS.SPD_STATUS n), 3), (J.rd (FBI_AX_STATUS.LAST_DIR n), 6),
    (bit (L.rd (FBI_AX.OVR_HIGH n) ≠ 0 || L.rd (FBI_AX.OVR_LOW n) ≠ 0), 8)]
  let K := ((L.wr (Int.latSave n 0) (L.rd (FBI_AX.POS n))).wr (Int.latSave n 1) (L.rd (FBI_AX.EDGE_FTB n))).wr (Int.latSave n 2) (J.rd (FBI_AX.SPEED n))
  (K.wr (Int.latSave n 3) st).putBit Int.latchTouched n true

/-- A change of what a latch captures, other than by an edge at or before t_L: what stood at t_L is saved first (R187).
(DEDUCED, assumption 38) -/
def Lane.guardLatch (L : Lane) (n t : Nat) : Lane :=
  L.iff (L.on Int.latchRun && decide (L.rd Int.latchAt < t) && ! L.bitOf Int.latchTouched n) (fun J => J.saveLatch n)

/-- An edge or skip at or before t_L belongs to the set although a later change has been made (R187). (DEDUCED, assumption 38) -/
def Lane.resaveLatch (L : Lane) (n t : Nat) : Lane :=
  L.iff (L.on Int.latchRun && decide (t ≤ L.rd Int.latchAt) && L.bitOf Int.latchTouched n) (fun J => J.saveLatch n)

/-- An accepted edge at field time `t` (R176, R177, R180, R181). -/
def Lane.acceptEdge (L : Lane) (n t sec dir : Nat) : Lane :=
  let K := (L.guardLatch n t).wr (Int.lastEdge n) (if dir = 1 then sec + 1 else (sec + 1) % 6 + 1)
  let K := ((K.wr (FBI_AX_STATUS.SECTOR n) sec).wr (FBI_AX.EDGE_FTB n) (t % 2 ^ 32)).speedEdge n t dir
  let K := (K.wr (Int.tEdge n) t).countEdge n dir
  ((K.evalSpeed n).correctAngle n t sec dir).resaveLatch n t

/-- A sector skip (R175, R180). -/
def Lane.skipSector (L : Lane) (n t sec : Nat) : Lane :=
  let K := (((L.guardLatch n t).inc (FBI_AX_CNT.SKIP_CNT n)).set (FBI_AX_STATUS.POS_UNCERTAIN n)).wr (FBI_AX_STATUS.SECTOR n) sec
  let K := ((K.wr (FBI_AX_STATUS.SPD_STATUS n) spdStarting).clearHist n).wr (FBI_AX_STATUS.LAST_DIR n) 0
  (((K.wr (Int.tPrev n) t).wr (FBI_AX.SPEED n) 0).fieldRaise 0x79).resaveLatch n t

/-- The SECTOR is taken as present without an edge (R173 to R175, R179, R191). -/
def Lane.takeSector (L : Lane) (n sec : Nat) : Lane := (L.guardLatch n L.ftb).wr (FBI_AX_STATUS.SECTOR n) sec

/-- The invalid pairs of an axis: the pairs whose wires `p` and `q` are at the same level; Hall a is bit 2 of the levels and
bit 0 of the result (R170, R172). -/
def badPairs (p q : Nat) : Nat :=
  [0, 1, 2].foldl (fun m i => m + (if p.testBit (2 - i) = q.testBit (2 - i) then 2 ^ i else 0)) 0

/-- CODE of the wire levels: a valid pair reads its P level, an invalid one holds its last valid level (R170, R172). -/
def pairCode (old p q : Nat) : Nat :=
  [0, 1, 2].foldl (fun c i => c + (if (if p.testBit i = q.testBit i then old.testBit i else p.testBit i) then 2 ^ i else 0)) 0

/-- HALL_EDGE: the filter of an axis accepts the wire levels `p` and `q`, stable for FILT × 10 ns and `late` ns more since
their first sample, whose instant is the stamp (R170 to R177). (DEDUCED, assumption 38) -/
def execHallEdge (l : LaneId) (ax : Fin 8) (wires : Fin 8 × Fin 8) (late : Fin 5) (s : State) : Out :=
  .next (s.onLane l (fun L =>
    let n : Nat := ax
    let t := L.ftb - (10 * L.rd (FBI_AX_CFG.FILT n) + late)
    let old := L.rd (FBI_AX_STATUS.CODE n)
    let was := L.rd (FBI_AX_STATUS.SECTOR n)
    let code := pairCode old wires.1 wires.2
    let K := (L.wr (FBI_AX_STATUS.CODE n) code).wr (Int.pairBad n) (badPairs wires.1 wires.2)
    if old = code || ! K.on (FBI_AX_CFG.EN n) then K
    else match sectorOf code with
      | none => K.takeSector n 7
      | some sec =>
        if K.on Int.fbiBad || K.rd (FBI_AX_STATUS.WIRE n) ≠ 0 || was = 7 then K.takeSector n sec
        else if sec = (was + 1) % 6 then K.acceptEdge n t sec 1
        else if was = (sec + 1) % 6 then K.acceptEdge n t sec 2
        else K.skipSector n t sec))

/-- HALL_WIRE_FAULT: a pair has been invalid for longer than the filter time (R173, R174). -/
def execHallWireFault (l : LaneId) (ax : Fin 8) (wire : Fin 3) (s : State) : Out :=
  .next (s.onLane l (fun L =>
    let K := (L.putBit (FBI_AX_STATUS.WIRE ax) wire true).putBit (Int.pairBad ax) wire true
    ((K.inc (FBI_AX_CNT.WIRE_CNT ax)).set (FBI_AX_STATUS.POS_UNCERTAIN ax)).fieldRaise 0x78))

/-- HALL_ILLEGAL_CODE: CODE has held an illegal value for longer than the filter time (R173, R174). -/
def execHallIllegalCode (l : LaneId) (ax : Fin 8) (s : State) : Out :=
  .next (s.onLane l (fun L =>
    if (sectorOf (L.rd (FBI_AX_STATUS.CODE ax))).isSome then L
    else (((L.wr (FBI_AX_STATUS.WIRE ax) 7).inc (FBI_AX_CNT.ILLEGAL_CNT ax)).set (FBI_AX_STATUS.POS_UNCERTAIN ax)).fieldRaise 0x78))

/-- HALL_SPEED_EVAL (R181). -/
def execHallSpeedEval (l : LaneId) (ax : Fin 8) (s : State) : Out :=
  .next (s.onLane l (fun L => (L.guardLatch ax L.ftb).evalSpeed ax))

/-- HALL_STANDSTILL: SS_TIME has passed since the last edge (R181). -/
def execHallStandstill (l : LaneId) (ax : Fin 8) (s : State) : Out :=
  .next (s.onLane l (fun L => (L.guardLatch ax L.ftb).standstill ax))

/-- A count clamped into the soft limits. -/
def Lane.softClamp (L : Lane) (n : Nat) (v : Int) : Int := clampI (L.rdI (FBI_AX.SOFT_MIN n)) (L.rdI (FBI_AX.SOFT_MAX n)) v

/-- POS is preset, and overruns, refusals and POS_UNCERTAIN are cleared (R178). -/
def Lane.presetPos (L : Lane) (n v : Nat) : Lane :=
  [FBI_AX.OVR_HIGH n, FBI_AX.OVR_LOW n, FBI_AX_REF.REF_HIGH n, FBI_AX_REF.REF_LOW n, FBI_AX_STATUS.POS_UNCERTAIN n].foldl (fun K f => K.clr f)
    ((L.guardLatch n L.ftb).wrI (FBI_AX.POS n) (L.softClamp n (toInt 32 v)))

/-- POS_SET (R178). -/
def execPosSet (l : LaneId) (ax : Fin 8) (value : Nat) (s : State) : Out := .next (s.onLane l (fun L => L.presetPos ax value))

/-- A soft limit is written: a limit that cuts POS moves it and the difference goes to the overrun count; compares are
clamped (R179). -/
def Lane.writeSoft (L : Lane) (n : Nat) (upper : Bool) (v : Nat) : Lane :=
  let x := toInt 32 v
  let pos := L.rdI (FBI_AX.POS n)
  let L := L.guardLatch n L.ftb
  let K := if upper then
      (let m := max x (L.rdI (FBI_AX.SOFT_MIN n))
       let K := L.wrI (FBI_AX.SOFT_MAX n) m
       if m < pos then ((K.wrI (FBI_AX.POS n) m).add (FBI_AX.OVR_HIGH n) (pos - m).toNat).set (FBI_AX_STATUS.SAT_HIGH n) else K)
    else
      (let m := min x (L.rdI (FBI_AX.SOFT_MAX n))
       let K := L.wrI (FBI_AX.SOFT_MIN n) m
       if pos < m then ((K.wrI (FBI_AX.POS n) m).add (FBI_AX.OVR_LOW n) (m - pos).toNat).set (FBI_AX_STATUS.SAT_LOW n) else K)
  K.forN 4 (fun k J => J.wrI (FBI_AX_CMP_VAL.VAL n k) (J.softClamp n (J.rdI (FBI_AX_CMP_VAL.VAL n k))))

/-- SOFT_LIMIT_WRITE (R179). -/
def execSoftLimitWrite (l : LaneId) (ax : Fin 8) (upper : Bool) (value : Nat) (s : State) : Out :=
  .next (s.onLane l (fun L => L.writeSoft ax upper value))

/-- A compare is armed, with its effective direction (R183, R184). -/
def Lane.arm (L : Lane) (n k v : Nat) : Lane :=
  let x := L.softClamp n (toInt 32 v)
  let st := L.rd (FBI_AX_STATUS.SPD_STATUS n)
  let dir := L.rd (FBI_AX_STATUS.LAST_DIR n)
  let pos := L.rdI (FBI_AX.POS n)
  let behind := (st = spdValid || st = spdDecaying) && ((dir = 1 && decide (x ≤ pos)) || (dir = 2 && decide (pos ≤ x)))
  let K := ((L.wrI (FBI_AX_CMP_VAL.VAL n k) x).set (FBI_AX_CMP_CTL.ARMED n k)).put (Int.cmpBehind n k) behind
  if behind then ((K.wr (FBI_AX_CMP_CTL.EFF_DIR n k) dir).set (FBI_AX_CMP_CTL.BEHIND n k)).fieldRaise 0x7B
  else K.wr (FBI_AX_CMP_CTL.EFF_DIR n k) (K.rd (FBI_AX_CMP_CTL.DIR n k))

/-- COMPARE_ARM (R184). -/
def execCompareArm (l : LaneId) (ax : Fin 8) (k : Fin 4) (value : Nat) (s : State) : Out := .next (s.onLane l (fun L => L.arm ax k value))

/-- EN is written: at its rise SECTOR comes from the present CODE and the status is STANDSTILL (R179); while EN is 0 SECTOR
is 7 (R191). -/
def Lane.writeFbiEn (L : Lane) (n : Nat) (on : Bool) : Lane :=
  if L.on (FBI_AX_CFG.EN n) = on then L
  else if on then (((L.set (FBI_AX_CFG.EN n)).takeSector n ((sectorOf (L.rd (FBI_AX_STATUS.CODE n))).getD 7)).clr (Int.lastEdge n)).standstill n
  else (L.clr (FBI_AX_CFG.EN n)).takeSector n 7

/-- FBI_ENABLE: EN rises while the filtered levels are `code` (R179). -/
def execFbiEnable (l : LaneId) (ax code : Fin 8) (s : State) : Out :=
  .next (s.onLane l (fun L => if L.on (FBI_AX_CFG.EN ax) then L else (L.wr (FBI_AX_STATUS.CODE ax) code).writeFbiEn ax true))

/-! ### Latches (R186, R187) -/

/-- A latch is not taken (R187). -/
def Lane.missLatch (L : Lane) : Lane := (L.inc FBI_LATCH_STATUS.LATCH_MISSED).fieldRaise 0x7C

/-- A latch at field time `t` begins, and is missed while another is under way; whether LATCHED forbids it is decided when it
completes (R187). (DEDUCED, assumption 38) -/
def Lane.startLatch (L : Lane) (t cause : Nat) : Lane :=
  if L.on Int.latchRun then L.missLatch
  else (((L.set Int.latchRun).wr Int.latchAt t).wr Int.latchBy cause).clr Int.latchTouched

/-- LATCH_INSTANT: the first mapped action instant arrives (R186). -/
def execLatchInstant (l : LaneId) (s : State) : Out :=
  .next (s.onLane l (fun L =>
    if L.rd Int.actCount = 0 then L else
    let t := L.rd (Int.actInstants 0)
    let K := [0, 1, 2].foldl (fun J i => J.wr (Int.actInstants i) (J.rd (Int.actInstants (i + 1)))) L
    let K := K.wr Int.actCount (L.rd Int.actCount - 1)
    if K.bitOf FBI_LATCH_CFG.LAT_SRC 0 then K.startLatch t 0 else K))

/-- LATCH_INPUT: the first sample of a rising edge of LATCH_x that the filter accepts (R186). -/
def execLatchInput (l : LaneId) (s : State) : Out :=
  .next (s.onLane l (fun L => if L.bitOf FBI_LATCH_CFG.LAT_SRC 1 then L.startLatch L.ftb 1 else L))

/-- LATCH_CAPTURE_COMPLETE: the set is captured for all axes and LATCHED is set; while LATCHED = 1 the latch is not taken
(R187). (DEDUCED, assumption 38) -/
def execLatchCaptureComplete (l : LaneId) (s : State) : Out :=
  .next (s.onLane l (fun L =>
    if ! L.on Int.latchRun then L
    else if L.on FBI_LATCH_STATUS.LATCHED then ((L.clr Int.latchRun).clr Int.latchTouched).missLatch else
    let K := L.forN 8 (fun n J =>
      let J := if J.bitOf Int.latchTouched n then J else J.saveLatch n
      let st := J.rd (Int.latSave n 3)
      let J := ((J.wr (FBI_AX_LAT.LAT_POS n) (J.rd (Int.latSave n 0))).wr (FBI_AX_LAT.LAT_EDGE_FTB n) (J.rd (Int.latSave n 1))).wr
        (FBI_AX_LAT.LAT_SPEED n) (J.rd (Int.latSave n 2))
      (((J.wr (FBI_AX_LAT_STAT.LAT_SECTOR n) (slice 0 3 st)).wr (FBI_AX_LAT_STAT.LAT_SPD_STATUS n) (slice 3 3 st)).wr
        (FBI_AX_LAT_STAT.LAT_DIR n) (slice 6 2 st)).wr (FBI_AX_LAT_STAT.LAT_OVR n) (slice 8 1 st))
    let K := ((K.set FBI_LATCH_STATUS.LATCHED).wr FBI_LATCH_STATUS.LAT_CAUSE (K.rd Int.latchBy)).wr FBI_LAT.LAT_FTB (K.rd Int.latchAt % 2 ^ 32)
    (((K.clr Int.latchRun).clr Int.latchTouched).fieldEvent 2 0 0 0)))

end Sys2Proof.Machine
end

