-- ==== Sys2Proof/Machine/Stop.lean ====
section
/-! DEFINITION. The commands of the safe-stop unit, the field STO block and the STOP line (R266 to R286, R303). -/

namespace Sys2Proof.Machine

/-- SS_REQUEST: SS_REQ_N_x has been low for SSREQ_FILT (R268). Held low further, it has no further effect (R283). -/
def execSsRequest (l : LaneId) (s : State) : Out :=
  .next (s.onLane l (fun L => if L.on SSF_STATUS.SSREQ then L else (L.set SSF_STATUS.SSREQ).requestStop 0x06))

/-- SS_REQ_RELEASE: SS_REQ_N_x is high again through its filter; no request is cancelled (R268, R269). -/
def execSsReqRelease (l : LaneId) (s : State) : Out := .next (s.onLane l (fun L => L.clr SSF_STATUS.SSREQ))

/-- SS1_TMAX_EXPIRY: SS1_TMAX has passed since S0 without standstill (R271). -/
def execSs1TmaxExpiry (l : LaneId) (s : State) : Out :=
  .next (s.onLane l (fun L =>
    if L.on SSF_STATUS.SS_ACTIVE && ! L.on SSF_STATUS.STILL then (((L.set SSF_FLAGS.TMAX).raise 0xB2).proposeTorqueOff 0x09).sto else L))

/-- VEH_TIMEOUT: no valid vehicle frame for VEH_TIMEOUT (R272). (DEDUCED, assumption 46) -/
def execVehTimeout (l : LaneId) (s : State) : Out :=
  .next (s.onLane l (fun L => (((L.clr SSF_STATUS.VEH_VALID).set SSF_FLAGS.VEH_LOST).raise 0xB3).evalStill))

/-- The field die decodes a state of the STOP line: 0 RUN, 1 STOP, 2 STO (R274, R303). The STO of the mode whose entry asks for the
test does not end that test (R278). (DEDUCED, assumption 55) -/
def Lane.decodeLine (L : Lane) (v : Nat) : Lane :=
  if L.rd Int.line = v then L else
  let K := ((L.wr Int.line v).syncOverrides).settleStopping
  if v = 2 then (((K.requestSto 0).requestSto 1).wr Int.stoTestDue (K.rd Int.stoTestDue)).checkE5 else K

/-- STOP_LINE_STATE: the field die decodes what the host die now drives (R303). -/
def execStopLineState (l : LaneId) (s : State) : Out := .next (s.onLane l (fun L => L.decodeLine (L.rd COU_STATUS.LINE)))

/-- STOP_LINE_FAULT: a pattern that is none of the three states; the field die latches E0 itself (R303). -/
def execStopLineFault (l : LaneId) (s : State) : Out :=
  .next (s.onLane l (fun L => (((L.wr Int.line 3).syncOverrides.fieldRaise 0x45).fieldExit 0x45)))

/-- A trip of one cluster's channel is latched; STO holds on it until field die reset (R276, R278). -/
def Lane.tripCluster (L : Lane) (c : Nat) : Lane :=
  let K := L.putBit STO_STATUS.TRIP c true
  if K.stoHolds c then K else (K.requestSto c).checkE5

/-- STO_READBACK_FAULT: STO_EN_N of a cluster differs from its driven level for more than 1 µs (R276). -/
def execStoReadbackFault (l : LaneId) (cluster : Fin 2) (s : State) : Out :=
  .next (s.onLane l (fun L => ((L.set STO_FLAGS.READBACK).fieldRaise 0x98).tripCluster cluster))

/-- Whether any of the 52 PWM outputs is high (R277). -/
def Lane.anyPadHigh (L : Lane) : Bool := (List.range 52).any (fun k => L.padLevel k)

/-- FREEZE_TRIP: the heartbeat has been absent for FREEZE_MAX while FREEZE_EN is 1 and an output is high (R277). -/
def execFreezeTrip (l : LaneId) (s : State) : Out :=
  .next (s.onLane l (fun L =>
    if L.on STO_CFG.FREEZE_EN && L.anyPadHigh then
      ((((L.set STO_FLAGS.FREEZE_TRIP).inc STO_CNT.FREEZE_CNT).fieldRaise 0x99).tripCluster 0).tripCluster 1
    else L))

/-- TEST_DUE stands while a cluster has had no passed test for TEST_MAX (R278). -/
def Lane.syncTestDue (L : Lane) : Lane := L.put STO_STATUS.TEST_DUE (L.rd Int.stoDue ≠ 0)

/-- STO_TEST: the test of a cluster's channel that is due completes. A cluster with TRIP latched is not tested (R278).
(DEDUCED, assumption 55) -/
def execStoTest (l : LaneId) (cluster : Fin 2) (passed : Bool) (s : State) : Out :=
  .next (s.onLane l (fun L =>
    if ! L.bitOf Int.stoTestDue cluster || L.bitOf STO_STATUS.TRIP cluster then L else
    let K := L.putBit Int.stoTestDue cluster false
    if passed then (((K.inc STO_CNT.TESTS).wr (Int.stoPassed cluster) K.ftb).putBit Int.stoDue cluster false).syncTestDue
    else ((K.set STO_FLAGS.TEST_FAIL).fieldRaise 0x9A).tripCluster cluster))

/-- TEST_MAX_EXPIRY: the cluster whose last passed test is the older, or both, has had none for TEST_MAX hours (R278).
(DEDUCED, assumption 55) -/
def execTestMaxExpiry (l : LaneId) (s : State) : Out :=
  .next (s.onLane l (fun L =>
    ((L.iff (decide (L.rd (Int.stoPassed 0) ≤ L.rd (Int.stoPassed 1))) (fun K => K.putBit Int.stoDue 0 true)).iff
      (decide (L.rd (Int.stoPassed 1) ≤ L.rd (Int.stoPassed 0))) (fun K => K.putBit Int.stoDue 1 true)).syncTestDue))

/-- A new seal reading is taken (R277, R279, R282); SEAL_CHG compares it with the loaded set once one is loaded.
(DEDUCED, assumption 48) -/
def Lane.takeSeal (L : Lane) (r : Nat) : Lane :=
  let K := ((L.wr SSF_SEAL.READING r).inc SSF_SEAL.SEAL_CNT).toField (.control (.sealReading r))
  K.checkSealChg

/-- SEAL_SAMPLE: the seal contacts are sampled; eight equal samples make a reading (R279). -/
def execSealSample (l : LaneId) (contacts : Fin 8) (s : State) : Out :=
  .next (s.onLane l (fun L =>
    let r : Nat := contacts
    let n := if L.rd Int.sealLast = r then min 8 (L.rd Int.sealCnt + 1) else 1
    let K := (L.wr Int.sealLast r).wr Int.sealCnt n
    if n = 8 ∧ K.rd SSF_SEAL.READING ≠ r then K.takeSeal r else K))

/-- SEAL_LOOP_SAMPLE: SEAL_x[3] is compared with the level driven on the loop, unless the reading is 7 (R280). (DEDUCED, assumption 48) -/
def execSealLoopSample (l : LaneId) (agrees : Bool) (s : State) : Out :=
  .next (s.onLane l (fun L =>
    if L.rd SSF_SEAL.READING = 7 then L.clr Int.loopBad
    else if agrees then (L.clr Int.loopBad).set SSF_SEAL.LOOP_OK
    else
      let n := min 2 (L.rd Int.loopBad + 1)
      let K := L.wr Int.loopBad n
      if n < 2 then K else
      (K.clr SSF_SEAL.LOOP_OK).iff (! K.on SSF_FLAGS.LOOP_FAULT) (fun J => (J.set SSF_FLAGS.LOOP_FAULT).raise 0xB5)))

end Sys2Proof.Machine
end

