-- ==== Sys2Proof/Machine/Link.lean ====
section
/-! DEFINITION. The commands of the crossings: SYNC, credits, link starts and losses, and the messages of Couch and Felt
(R301 to R314, R374, R402). -/

namespace Sys2Proof.Machine

/-! ### SYNC (R305, R402) -/

/-- SYNC_SEND: the host sends SYNC with its lane time, ahead of the queue (R305). -/
def execSyncSend (l : LaneId) (s : State) : Out :=
  .next (s.onLane l (fun L => if L.on COU_STATUS.LINK then (L.set Int.syncFly).wr Int.syncL L.now else L))

/-- The rate trim after a SYNC `df` quarter-ns and `dl` ns after the previous one (R402). (DESIGN CHOICE, assumption 39) -/
def Lane.trimRate (L : Lane) (df dl : Int) : Lane :=
  let e := divRound 402 ((df - 4 * dl) * 100000000) (4 * dl).toNat
  let t := clampI (-150000) 150000 (L.rdI FCK.TRIM - e)
  let run := if t.natAbs = 150000 then min 17 (L.rd Int.trimRun + 1) else 0
  let K := (L.wrI FCK.TRIM t).wr Int.trimRun run
  if run = 16 then K.fieldRaise 0x92 else K

/-- The speed of an axis as SPD_SRC selects it (R271). -/
def Lane.axisSpeedNow (L : Lane) (n : Nat) : Nat :=
  if L.on (CLE_AX_CTL.SPD_SRC n) then L.rd (FBI_AX.SPEED n) else L.rd (CLE_AX_FOX.OMEGA n)

/-- The status item of the field die (R302). -/
def Lane.statusItem (L : Lane) : UpItem :=
  .status ((List.range 8).map L.axisSpeedNow) ((List.range 8).map (fun n => L.rd (CLE_AX_FOX_STATUS.STATE n)))
    ((List.range 8).map (fun n => L.rd (CLE_AX_STATUS.RUNNING n))) (L.on Int.syncValid) (L.on FPS_STATUS.G_LATCHED)

/-- SYNC_RECEIPT: the field die stamps an arriving marker at 0.25 ns, subtracts the barrier delay, checks the deviation,
takes the new pair and answers with a status item (R302, R305, R402). -/
def execSyncReceipt (l : LaneId) (quarter : Fin 4) (s : State) : Out :=
  .next (s.onLane l (fun L =>
    if ! L.on Int.syncFly || ! L.on Int.fieldLink then L.clr Int.syncFly else
    let f := 4 * L.ftb + (quarter : Nat) - L.rd CFG_CAL.BARRIER
    let t := L.rd Int.syncL
    let f0 := L.rd (Int.ftbF 0)
    let t0 := L.rd (Int.ftbL 0)
    let n := L.rd Int.syncN
    let df : Int := (f0 : Int) - L.rd (Int.ftbF 1)
    let dl : Int := (t0 : Int) - L.rd (Int.ftbL 1)
    let mapped : Int := f0 + divRound 307 (((t : Int) - t0) * df) dl.toNat
    let off := L.on Int.syncValid && decide (4 * L.rd COU_CFG.SYNC_TOL < ((f : Int) - mapped).natAbs)
    let K := (L.clr Int.syncFly).iff off (fun J => J.fieldRaise 0x44)
    let b := K.ftb
    let K := (((K.wrAt (Int.ftbF 1) f0 b).wrAt (Int.ftbL 1) t0 b).wrAt (Int.ftbF 0) f b).wrAt (Int.ftbL 0) t b
    let K := (K.wr Int.syncN (min 2 (n + 1))).wrAt Int.syncValid (bit (decide (1 ≤ n))) b
    let K := if n = 0 then K else K.trimRate ((f : Int) - f0) ((t : Int) - t0)
    K.toHost K.statusItem))

/-- SYNC_VALID falls, and ALIGNED of every group reads 0 with it (R154, R305). -/
def Lane.dropSync (L : Lane) : Lane := ((L.clr Int.syncN).clr Int.syncValid).forN 12 (fun g K => K.clr (PWM_GROUP_STATUS.ALIGNED g))

/-- SYNC_LOSS: 4 SYNC_PERIODs without a SYNC (R305). -/
def execSyncLoss (l : LaneId) (s : State) : Out := .next (s.onLane l (fun L => L.dropSync))

/-- STATUS_ITEM: the host takes a status item (R271, R302). An axis seen out of SAFE is no longer marked absent (R119).
(DESIGN CHOICE, assumption 33) -/
def execStatusItem (l : LaneId) (s : State) : Out :=
  .next (s.onLane l (fun L =>
    match L.up with
    | .status speeds fox _ valid g :: _ =>
      let K := L.takeUp.forN 8 (fun n J =>
        (J.wr (Int.axisSpeed n) (speeds.getD n 0)).iff (fox.getD n 6 ≠ 6) (fun J => J.putBit Int.axisAbsent n false))
      ((K.put COU_STATUS.SYNC_VALID valid).put PSC_STATUS.G_LATCHED g).evalStill
    | _ => L))

/-! ### Field access (R304, R374) -/

/-- Whether an address lies in the field window of R304. -/
def fieldAddr (a : Nat) : Bool := 0x60000000 ≤ a && a ≤ 0x600BFFFF

/-- Whether a field address lies in a block's window: 0x6003_0000 to 0x6003_FFFF is none (R5, R6). -/
def fieldAssigned (a : Nat) : Bool := fieldAddr a && a / 0x10000 ≠ 0x6003

/-- A host write to a field address is posted; a misaligned one, one without a link, or one outside every block's window is
a bus error (R6, R304). (DESIGN CHOICE, assumption 26) -/
def Lane.postWrite (L : Lane) (pair addr data : Nat) : Lane :=
  if addr % 4 ≠ 0 || ! L.on COU_STATUS.LINK || ! fieldAssigned addr then L.busError pair else L.toField (.write addr (data % 2 ^ 32))

/-- FIELD_REGISTER_WRITE (R304). -/
def execFieldRegisterWrite (l : LaneId) (pair : Fin 4) (addr data : Nat) (s : State) : Out :=
  .next (s.onLane l (fun L => if fieldAddr addr && ! L.pairHeld pair then L.postWrite pair addr data else L))

/-- FIELD_REGISTER_READ: a read request is sent and the core stalls; a misaligned one, or one without a link, is a bus
error (R304). (DEDUCED, assumption 93) -/
def execFieldRegisterRead (l : LaneId) (pair : Fin 4) (addr : Nat) (s : State) : Out :=
  .next (s.onLane l (fun L =>
    if ! fieldAddr addr || L.pairHeld pair then L
    else if addr % 4 ≠ 0 || ! L.on COU_STATUS.LINK then L.busError pair
    else ((L.set (Int.readOut pair)).wr (Int.readAt pair) L.now).toField (.readReq addr pair)))

/-- READ_TIMEOUT: no response within READ_TMO (R304). -/
def execReadTimeout (l : LaneId) (pair : Fin 4) (s : State) : Out :=
  .next (s.onLane l (fun L =>
    if L.on (Int.readOut pair) then ((L.clr (Int.readOut pair)).busError pair).raise 0x43 else L))

/-- COU_EVQ shows its oldest item and how many it holds; COU_EVT stands while it holds one (R314, R374). -/
def Lane.syncEvq (L : Lane) : Lane :=
  let e := L.evq.headD ⟨0, 0, 0, 0⟩
  ((((((L.wr COU_EVQ.KIND e.kind).wr COU_EVQ.AXIS e.axis).wr COU_EVQ.INDEX e.index).wr COU_EVQ.CAUSE e.cause)).wr COU_EVQ.LEVEL L.evq.length).level 27 15
    (! L.evq.isEmpty)

/-- A lane's SA output follows a contactor request (R207, R259): the holder drives it at once for a request of its own field
die, and a lane that does not hold the lease passes the request on over Felt. -/
def Lane.ownContReq (L : Lane) (c : Nat) : Lane :=
  let m := L.rd (DCL_CH_CFG.CONT_SA c)
  if m = 0 then L else
  let K := L.wr LSE_SA.SA_CONT (setBit (L.rd LSE_SA.SA_CONT) (m - 1))
  if K.holds then K.refreshSa else K.sendFeltAll (.contReq (2 ^ (m - 1)))

/-- EVENT_ITEM: a field event enters COU_EVQ, and an entry to SAFE marks the axis absent for its actuator (R119, R207, R259,
R374). An operation with TRIG = 5 is triggered (R315). (DESIGN CHOICE, assumption 33) -/
def execEventItem (l : LaneId) (s : State) : Out :=
  .next (s.onLane l (fun L =>
    match L.up with
    | .event kind axis index cause :: _ =>
      let K := L.takeUp
      let K := if K.evq.length < 32 then { K with evq := K.evq ++ [(⟨kind, axis, index, cause⟩ : EvItem)] }.syncEvq
               else K.inc COU_EVQ_LOST.EVQ_LOST
      let K := K.iff (kind = 3 && cause ≠ 0) (fun J => J.putBit Int.axisAbsent axis true)
      (K.iff (kind = 4) (fun J => J.ownContReq index)).triggerAll 5 (fun _ => true)
    | _ => L))

/-- EVQ_READ: a read of COU_EVQ returns the oldest event item and removes it (R374). -/
def execEvqRead (l : LaneId) (pair : Fin 4) (s : State) : Out :=
  .next (s.onLane l (fun L =>
    if L.pairHeld pair then L else
    let e := L.evq.headD ⟨0, 0, 0, 0⟩
    let word := packWord [(e.kind, 0), (e.axis, 4), (e.index, 8), (e.cause, 16), (L.evq.length, 24)]
    ({ L with evq := L.evq.drop 1 }.syncEvq).wr (Int.readData pair) word))

/-! ### Credits (R306) -/

/-- A credit of the Couch's host-to-field channel reaches the host (R306). -/
def Lane.couCredit (L : Lane) : Lane :=
  ((L.wr COU_STATUS.CREDITS (min 16 (L.rd COU_STATUS.CREDITS + 1))).wr COU_STATUS.OUTSTANDING (L.rd COU_STATUS.OUTSTANDING - 1)).pump

/-- A credit of a Felt port reaches its sender (R306). -/
def Lane.feltCredit (L : Lane) (p : Nat) : Lane :=
  ((L.wr (FLT_P_STATUS.CREDITS p) (min 8 (L.rd (FLT_P_STATUS.CREDITS p) + 1))).wr (FLT_P_STATUS.OUTSTANDING p)
    (L.rd (FLT_P_STATUS.OUTSTANDING p) - 1)).pumpFelt p

/-- The oldest item of a Felt port fails its CRC at the sibling: dropped, and its credit comes back as a NACK (R306). -/
def State.feltNack (s : State) (l : LaneId) (p : Nat) : State :=
  let L := s.lane l
  let m := laneNumbered (L.portPeer p)
  if ! s.variant.fitted l || ! s.variant.fitted m || l = m || (L.felt p).isEmpty then s else
  let q := (s.lane m).portTo l.num
  (s.setLane l ((((L.setFelt p ((L.felt p).drop 1)).feltCredit p).inc (FLT_P_CNT.DROPPED p)).raise 0x4B)).onLane m (fun M =>
    (M.inc (FLT_P_LQ.CRC_ERR q)).raise 0x4A)

/-- CREDIT_RETURN on the Couch to the field (0), from the field (1), or Felt port 0 or 1 (2, 3): a credit reaches the sender,
or the oldest item on the way fails its CRC and its credit comes back marked NACK (R306). -/
def execCreditReturn (l : LaneId) (port : Fin 4) (nack : Bool) (s : State) : Out :=
  .next (match port, nack with
    | 0, false => s.onLane l (fun L => if L.downCredits.isEmpty then L else { L with downCredits := L.downCredits.drop 1 }.couCredit)
    | 0, true => s.onLane l (fun L =>
        if L.down.isEmpty then L else
        ((({ L with down := L.down.drop 1 }.fieldRaise 0x41).couCredit).inc COU_CNT.DROPPED).raise 0x42)
    | 1, false => s.onLane l (fun L => if L.rd Int.upBack = 0 then L else (L.wr Int.upBack (L.rd Int.upBack - 1)).fieldCredit)
    | 1, true => s.onLane l (fun L =>
        if L.up.isEmpty then L else
        ((({ L with up := L.up.drop 1 }.fieldCredit).inc Int.fieldDropped).inc COU_LQ.CRC_ERR).raise 0x41)
    | 2, false => s.onLane l (fun L => if (L.felt 0).length < L.rd (FLT_P_STATUS.OUTSTANDING 0) then L.feltCredit 0 else L)
    | 2, true => s.feltNack l 0
    | 3, false => s.onLane l (fun L => if (L.felt 1).length < L.rd (FLT_P_STATUS.OUTSTANDING 1) then L.feltCredit 1 else L)
    | 3, true => s.feltNack l 1)

/-! ### Link starts and losses (R307 to R311) -/

/-- The new epoch of a link start (R307). -/
def newEpoch (low high : Nat) : Nat := if (low + 1) % 256 = high then (low + 2) % 256 else (low + 1) % 256

/-- Whether the host die's ports run (R307): out of reset, with its FABRIC region in RUN or SLEEP. -/
def Lane.portsRun (L : Lane) : Bool := ! L.on Int.held && L.rd PSC_STATUS.FABRIC ≤ 1 && L.rd PSC_SUPPLY.OK = 7

/-- Outstanding reads end with a bus error (R308). -/
def Lane.endReads (L : Lane) : Lane :=
  L.forN 4 (fun p K => K.iff (K.on (Int.readOut p)) (fun J => (J.clr (Int.readOut p)).busError p))

/-- A Couch link start: both sides take the new epoch, what was in flight is counted dropped or stale, credits are restored
and every source with an unacknowledged message sends it again (R292, R307, R308, R309). -/
def Lane.couchStart (L : Lane) : Lane :=
  let e := newEpoch (L.rd COU_STATUS.EPOCH) (L.rd Int.fieldEpoch)
  let K := L.add COU_CNT.DROPPED (L.rd COU_STATUS.OUTSTANDING + L.couQueue.length)
  let K := (K.add COU_CNT.STALE (L.up.length + L.urgent.length)).add Int.fieldDropped
    (L.rd Int.fieldOut + L.upQueue.length + L.urgent.length)
  let K := { K with couQueue := [], down := [], downCredits := [], up := [], upQueue := [], urgent := [] }.endReads
  let K := ((K.wr COU_STATUS.CREDITS 16).wr COU_STATUS.OUTSTANDING 0).wr COU_STATUS.EPOCH e
  let K := (((K.wr Int.fieldCredits 16).wr Int.fieldOut 0).wr Int.upBack 0).forN 4 (fun p J => J.clr (Int.readGone p))
  let K := ((K.set COU_STATUS.LINK).inc COU_LQ.RESTARTS).wr COU_FIELD.F_DROPPED (K.rd Int.fieldDropped)
  let K := (K.wr COU_FIELD.F_LOSS (K.rd Int.fieldLoss)).wr Int.fieldEpoch e
  let K := ((K.set Int.fieldLink).set FBG_STATUS.LINK).wr Int.fieldTmo (K.rd COU_CFG.LINK_TMO)
  let K := K.dropSync.wr Int.crcField crcInit
  let K := if K.on Int.aonFresh then (K.forN 256 (fun k J => J.clr (Int.last k))).clr Int.aonFresh else K
  let K := if K.on Int.fieldFresh then K.clr Int.fieldFresh else K.set Int.fieldRstDue
  K.forN 256 (fun k J => J.iff (J.rd (Int.cum k) ≠ J.rd (Int.acked k)) (fun J => J.sendFault (J.fieldMsg k)))

/-- The digest record of this lane (R369). -/
def Lane.digestRecord (L : Lane) (reply : Bool) : DigestRecord :=
  { digest := packWord ((List.range 12).map (fun k => (L.rd (CFG_DIGEST.DIGEST k), 32 * k))), sealRd := L.rd Int.loadSeal,
    loopFault := L.on SSF_FLAGS.LOOP_FAULT, loadedSet := L.rd SSF_SEAL.LOADED_SET, noSet := L.on SSF_FLAGS.NO_SET, reply := reply }

/-- One side of a Felt link start (R308, R311, R369): `stale` items of the old epoch arrive and are discarded. -/
def Lane.feltStart (L : Lane) (p e stale : Nat) : Lane :=
  let was := L.on (FLT_P_STATUS.LINK p)
  let K := (L.add (FLT_P_CNT.DROPPED p) (L.rd (FLT_P_STATUS.OUTSTANDING p) + (L.feltWait p).length)).add (FLT_P_CNT.STALE p) stale
  let K := ((((K.setFelt p []).setFeltWait p []).wr (FLT_P_STATUS.CREDITS p) 8).wr (FLT_P_STATUS.OUTSTANDING p) 0).wr (FLT_P_STATUS.EPOCH p) e
  let K := ((K.set (FLT_P_STATUS.LINK p)).inc (FLT_P_LQ.RESTARTS p)).iff was (fun J => J.raise 0x4C)
  K.iff (K.on Int.digestSent) (fun J => J.sendFelt p (.digest (J.digestRecord false)))

/-- A Felt link start between a lane and the sibling of one of its ports (R307, R310). -/
def State.feltLinkStart (s : State) (l : LaneId) (p : Nat) : State :=
  let L := s.lane l
  let m := laneNumbered (L.portPeer p)
  let M := s.lane m
  if ! s.variant.fitted l || ! s.variant.fitted m || l = m || ! L.portsRun || ! M.portsRun then s else
  let q := M.portTo l.num
  let e := if l.num < m.num then newEpoch (L.rd (FLT_P_STATUS.EPOCH p)) (M.rd (FLT_P_STATUS.EPOCH q))
           else newEpoch (M.rd (FLT_P_STATUS.EPOCH q)) (L.rd (FLT_P_STATUS.EPOCH p))
  (s.setLane l (L.feltStart p e (M.felt q).length)).onLane m (fun M => M.feltStart q e (L.felt p).length)

/-- The identity record of the lane (R440). -/
def Lane.identityRecord (L : Lane) : Identity :=
  { dieId := packWord ((List.range 4).map (fun k => (L.rd (LCS_DIEID.DIEID k), 32 * k))), state := L.rd LCS_STATE.STATE,
    slot := L.rd CFG_BOOT.SLOT, seq := L.rd Int.loadedSeq, version := L.rd CFG_VERSION.VERSION, rollback := L.rd MBX_VER.ROLLBACK,
    digest := (L.digestRecord false).digest, imageKey := L.rd Int.imageKey }

/-- A mailbox link start, the host die being the low side; the identity record follows (R440, R461). -/
def Lane.mbxStart (L : Lane) : Lane :=
  if ! L.portsRun || L.on Int.mbxOff then L else
  let K := (L.iff (L.on MBX_STATUS.LINK) (fun J => (J.updateFails none).raise 0x50)).add MBX_CNT.DROPPED L.mbxUp.length
  let K := ({ K with mbxUp := [] }.wr MBX_STATUS.EPOCH (K.rd MBX_STATUS.EPOCH + 1)).set MBX_STATUS.LINK
  (K.event 30).sendMbx (.identity K.identityRecord)

/-- A read of a pair that waits for its answer through the fabric port of its core is the one item that stands in a fabric port
between commands: at an epoch change it is counted dropped and ends with a bus error (R308, R433). (DEDUCED, assumption 74) -/
def Lane.dropPortRead (L : Lane) (p : Nat) : Lane :=
  if 4 ≤ p || ! L.on (Int.readOut p) then L
  else (((L.clr (Int.readOut p)).set (Int.readGone p)).inc (PSC_PORT.DROPPED p)).busError p

/-- A fabric port starts again although both its regions have stayed powered: a region fault (R433). Host ports 0 to 6, field
ports 7 to 9. (DEDUCED, assumption 74) -/
def Lane.fabricRestart (L : Lane) (k : Nat) : Lane :=
  if k < 7 then ((L.portStart k).dropPortRead k).exitOn 0xD8 else (L.fieldPortStart (k - 7)).fieldRaise 0x9D

/-- LINK_START on the Couch (0, 1), Felt port 0 or 1 (2, 3), the mailbox (4), or a fabric port (5 to 14): START is exchanged
and a new epoch agreed (R307 to R311, R433, R440). A Couch epoch change after WAKE is Couch loss (R309). -/
def execLinkStart (l : LaneId) (link : Fin 15) (s : State) : Out :=
  .next (match (link : Nat) with
    | 0 | 1 => s.onLane l (fun L =>
        if ! L.portsRun || L.on Int.fieldHeld then L else
        L.couchStart.iff (L.rd Int.loadPhase ≠ 0) (fun K => K.exitOn 0x47))
    | 2 => s.feltLinkStart l 0
    | 3 => s.feltLinkStart l 1
    | 4 => if s.variant.fitted l && (s.lane l).portsRun && ! (s.lane l).on Int.mbxOff then ((s.onMd (fun M => M.linkStart l.num))).onLane l (fun L => L.mbxStart) else s
    | k + 5 => s.onLane l (fun L => L.fabricRestart k))

/-- LINK_TIMEOUT: LINK_TMO passes without a valid item: on the Couch at the host (0) or the field die (1), on Felt port 0 or 1
(2, 3), the mailbox (4) or a fabric port (5 to 14) (R307, R309, R311, R433, R440). -/
def execLinkTimeout (l : LaneId) (link : Fin 15) (s : State) : Out :=
  .next (s.onLane l (fun L => match (link : Nat) with
    | 0 => if L.on COU_STATUS.LINK then (L.clr COU_STATUS.LINK).exitOn 0x40 else L
    | 1 => if L.on Int.fieldLink then (((L.clr Int.fieldLink).clr FBG_STATUS.LINK).inc Int.fieldLoss).fieldExit 0x40 else L
    | 2 => if L.on (FLT_P_STATUS.LINK 0) then (L.clr (FLT_P_STATUS.LINK 0)).raise 0x48 else L
    | 3 => if L.on (FLT_P_STATUS.LINK 1) then (L.clr (FLT_P_STATUS.LINK 1)).raise 0x49 else L
    | 4 => if L.on MBX_STATUS.LINK then (((L.clr MBX_STATUS.LINK).updateFails none).event 30).raise 0x50 else L
    | k + 5 => L.fabricRestart k))

/-! ### Control messages (R302) -/

/-- Class G latches (R430). (DEDUCED, assumption 78) -/
def Lane.latchG (L : Lane) : Lane :=
  if L.on FPS_STATUS.G_LATCHED then L
  else ((L.set FPS_STATUS.G_LATCHED).inc FPS_CNT.LATCHES).forN 8 (fun n K => K.set (Int.isoOut n))

/-- A release of class G is accepted only while every group is at override kind 1 and both STO_EN_N read deasserted (R430);
with the latch released already it has no effect (R436). (DEDUCED, assumption 78) -/
def Lane.releaseG (L : Lane) : Lane :=
  if ! L.on FPS_STATUS.G_LATCHED then L
  else if (List.range 12).all (fun g => L.rd (PWM_GROUP_STATUS.OVERRIDE g) = 1) && L.rd STO_STATUS.EN_N = 3 then L.clr FPS_STATUS.G_LATCHED
  else L.inc FPS_CNT.REL_REFUSED

/-- The field regions go OFF after class G has latched: what they held is lost (R418, R421, R439). An axis that runs keeps
them on (R424). -/
def Lane.fieldRegionsOff (L : Lane) : Lane :=
  if (List.range 8).any (fun n => L.on (CLE_AX_STATUS.RUNNING n)) then L else
  let link := L.on Int.fieldLink
  let t := L.ftb
  let K := (L.latchG.inc FPS_CNT.OFF_CNT).fieldReset
  let K := ((K.wr FPS_STATUS.CLE 3).wr FPS_STATUS.PWM 3).wr FPS_STATUS.ANALOG 3
  (((K.set FPS_CTL.OFF).put Int.fieldLink link).clr Int.fieldFresh).wr Int.fieldTime t

/-- An action instant is mapped and waits (R186). -/
def Lane.pushInstant (L : Lane) (t : Nat) : Lane :=
  let n := L.rd Int.actCount
  if n < 4 then (L.wr (Int.actInstants n) (L.fieldTimeOf t).toNat).wr Int.actCount (n + 1) else L

/-- The field die acts on a Control message (R302). -/
def Lane.control (L : Lane) (c : Control) : Lane := match c with
  | .gatePermission mask => L.setGatePerm mask
  | .gRelease => L.releaseG
  | .saDrive on mask level follow => ((L.wr Int.saLevels (level &&& mask)).wr Int.saFollow follow).setSaDrive on
  | .sealReading r => (L.wr Int.sealSeen r).iff (r ≠ 7) (fun K => K.set STO_CFG.FREEZE_EN)
  | .actionInstant t _ => L.pushInstant t
  | .severityCopy src sev => L.iff (fieldSource src) (fun K => K.wr (FBG_SEV.SEV src) sev)
  | .inject src => L.sendFault ⟨src, L.rd (Int.cum src), L.ftb, true⟩
  | .linkTmo us => L.wr Int.fieldTmo us
  | .fieldOff => L.fieldRegionsOff
  | .clearEnable axes => L.forN 8 (fun n K => K.iff (axes.testBit n) (fun J => J.writeEnable n false))

/-- CONTROL_MESSAGE: the field die takes a Control message (R302). -/
def execControlMessage (l : LaneId) (s : State) : Out :=
  .next (s.onLane l (fun L => match L.down with
    | .control c :: _ => L.takeDown.control c
    | _ => L))

/-- CRC_RESTART: a CRC restart item sets the field die's CRC to its initial value (R368). -/
def execCrcRestart (l : LaneId) (s : State) : Out :=
  .next (s.onLane l (fun L => match L.down with
    | .crcRestart :: _ => L.takeDown.wr Int.crcField crcInit
    | _ => L))

/-! ### Felt messages of class 3 (R310) -/

/-- What a stop request or a CONT_REQ of a sibling does (R44, R207, R259, R268). (DEDUCED, assumption 46) -/
def Lane.takeStopMsg (L : Lane) (m : Option Nat) : Lane := match m with
  | none => L.requestStop 0x07
  | some mask => (L.wr LSE_SA.SA_CONT (L.rd LSE_SA.SA_CONT ||| mask)).set Int.contDue

/-- STOP_REQUEST_MESSAGE: a stop request, or a CONT_REQ of a non-holder, is received; the holder acts on the latter at the
start of its next frame (R207, R310). -/
def execStopRequestMessage (l src : LaneId) (s : State) : Out :=
  .next (s.recvFelt l src (fun m => match m with
    | .stopRequest => some none
    | .contReq mask => some (some mask)
    | _ => none) (fun m L => L.takeStopMsg m))

end Sys2Proof.Machine
end

