-- ==== Sys2Proof/Machine/Lockstep.lean ====
section
/-! DEFINITION. The commands of lockstep: faults, restarts, checkpoints, resynchronisation, and debug (R217 to R229). -/

namespace Sys2Proof.Machine

/-- The state of a pair: 0 RUN, 1 RESTART, 2 RESYNC, 3 FENCED, 4 SPLIT, 5 WITHDRAWN (R241). -/
def Lane.pairState (L : Lane) (p : Nat) : Nat := L.rd (LSC_PAIR_STATUS.STATE p)

/-- A pair in service: not fenced and not withdrawn (R420). -/
def Lane.inService (L : Lane) (p : Nat) : Bool := L.pairState p ≠ 3 && L.pairState p ≠ 5

/-- Whether a level is permitted now (R419). -/
def Lane.levelPermitted (L : Lane) (level : Nat) : Bool :=
  if level ≤ 1 then true
  else if level = 2 then L.state = stExited || L.state = stFailed
  else L.mode = mShutdown && ! L.holds && L.rd LSE_STATUS.ROLE ≠ roleClaiming

/-- PREPARE is sent, unless a latched wake ends the entry at abort point 1 (R421). (DEDUCED, assumption 75) -/
def Lane.prepare (L : Lane) : Lane :=
  let K := (((L.wr PSC_STATUS.STAGE pscPrepare).clr Int.pscAnswered).clr Int.wakePend).clr Int.pscN3
  if K.rd PSC_WAKE.WAKES ≠ 0 then K.abortEntry 1 (K.rd PSC_WAKE.WAKES) else K

/-- The entry starts once pairs have dozed and every pair in service has, at the last DOZE or as a pair that does not doze leaves service
(R420, R436). -/
def Lane.startEntry (L : Lane) : Lane :=
  let level := L.rd PSC_MODE.LEVEL
  if level = 0 || L.rd PSC_STATUS.DOZED = 0 || L.rd PSC_STATUS.STAGE ≠ pscIdle || ! (List.range 4).all (fun p => ! L.inService p || L.bitOf PSC_STATUS.DOZED p) then L else
  let K := L.wr Int.pscAsk level
  if L.levelPermitted level then K.prepare else K.refuseEntry 0x0D 7 1

/-- Pair `p` of lane `L` has left service, which gave `K`: where it did not doze, the others may now all be dozing (R420, R436). -/
def Lane.leftService (L : Lane) (p : Nat) (K : Lane) : Lane := if L.bitOf PSC_STATUS.DOZED p then K else K.startEntry

/-- A pair is fenced until power cycle (R222 to R224). (DEDUCED, assumption 54) -/
def Lane.fencePair (L : Lane) (p : Nat) : Lane :=
  L.leftService p ((((L.wr (LSC_PAIR_STATUS.STATE p) 3).set (Int.fenced p)).clr (Int.m5 p)).pairLeaves p)

/-- A self-test failure outside TEST: ST_FAIL, and an exit where the lane is ACTIVE or a slice failed (R392). -/
def Lane.selfTestFails (L : Lane) (unit : Nat) (slice : Bool) : Lane :=
  let K := (L.set BST_STATUS.ST_FAIL).wr BST_STATUS.FAIL_UNIT unit
  if slice || K.state = stActive then K.exitOn 0xE1 else K

/-- A lane fails: it is held in reset until power cycle (R42, R392). -/
def Lane.failLane (L : Lane) : Lane := (L.setState stFailed).undrive.syncEligible

/-- A lockstep fault enters the pair's window (R223). (DEDUCED, assumption 57) -/
def Lane.countWindow (L : Lane) (p : Nat) : Lane :=
  let n := L.winEarlier p
  let K := ((L.wr (Int.winTick p 2) (L.rd (Int.winTick p 1))).wr (Int.winTick p 1) (L.rd (Int.winTick p 0))).wr (Int.winTick p 0) L.lfo
  (K.wr (Int.winN p) (min 3 (L.rd (Int.winN p) + 1))).wr (LSC_PAIR_STATUS.WIN_COUNT p) (min 3 (n + 1))

/-- Whether the pair executes an operation of a safety class (R221, R315). -/
def Lane.runsSafety (L : Lane) (p : Nat) : Bool := (L.execOf p).any (fun o => decide (L.opClass o.index ≤ 7))

/-- A fault recorded by the comparator: 0 mismatch, 1 DLY_PAR, 2 CMP_RAIL (R218, R219). -/
def Lane.recordFault (L : Lane) (p kind group rails stage : Nat) : Lane :=
  let K := (L.wr (LSC_PAIR_STATUS.CAUSE p) (kind + 1)).inc
    (if kind = 0 then LSC_PAIR_CNT.MM_CNT p else if kind = 1 then LSC_PAIR_CNT.DLY_CNT p else LSC_PAIR_CNT.RAIL_CNT p)
  let K := ((K.wr (LSC_PAIR_MMINFO.GROUP p) group).wr (LSC_PAIR_MMINFO.RAILS p) rails).iff (kind = 1) (fun J => J.wr (LSC_PAIR_MMINFO.STAGE p) stage)
  K.countWindow p

/-- The lowest bit group of a mask of 64. -/
def lowestGroup (m : Nat) : Nat := ((List.range 64).find? (fun i => m.testBit i)).getD 0

/-- One fault of a comparator cycle: its kind, 0 mismatch, 1 DLY_PAR, 2 CMP_RAIL, and what MMINFO shows of it (R218, R219). -/
structure CycleFault where
  kind : Nat
  group : Nat
  rails : Nat
  stage : Nat
deriving DecidableEq, Repr

/-- The faults of one comparator cycle, from the groups that each rail judges different, the groups with a parity error in each
delay stage, and the groups whose parity error in the two cycles before explains a mismatch (R218, R219). A parity error and
a disagreement of the rails in one cycle are two faults. -/
def cycleFaults (rail0 rail1 par0 par1 covered : Nat) : List CycleFault :=
  let rails := bit (rail0 ≠ 0) + 2 * bit (rail1 ≠ 0)
  let par := par0 ||| par1
  let g := lowestGroup par
  let left := rail0 ^^^ (rail0 &&& covered)
  (if par = 0 then [] else [⟨1, g, rails, if par0.testBit g then 0 else 1⟩]) ++
  (if rail0 ≠ rail1 then [⟨2, lowestGroup (rail0 ^^^ rail1), rails, 0⟩]
   else if par = 0 ∧ left ≠ 0 then [⟨0, lowestGroup left, rails, 0⟩] else [])

/-- One fault is recorded and counted; a CMP_RAIL or a third fault in the window fences the pair, and the main or the restart path
is taken (R221 to R226). `main` tells which. On the main path and after E0 the outputs of the pair stay held. -/
def Lane.takeFault (L : Lane) (p : Nat) (main : Bool) (f : CycleFault) : Lane :=
  let lasting := decide (2 ≤ L.winEarlier p)
  let src := 0x10 + 4 * f.kind + p
  let K := L.recordFault p f.kind f.group f.rails f.stage
  let K := if main then K.exitOn src else K.raise src
  let K := K.iff lasting (fun J => J.raise (0x1C + p))
  if f.kind = 2 || lasting then K.fencePair p
  else if K.pairState p = 3 then K
  else if main || K.on Int.e0 then K.set (Int.pairStop p)
  else K.restartPair p

/-- A fault of a split core is a unit fault: its operations return and its flows are rebound (R20, R229, R323, R324). -/
def Lane.splitFault (L : Lane) (t : Nat) : Lane := (L.returnTarget t true).rebindFrom t

/-- A parity error of a delay stage is kept: its groups explain a mismatch in the two cycles after it (R219). -/
def Lane.markParity (L : Lane) (p par : Nat) : Lane := if par = 0 then L else (L.wr (Int.parAt p) L.now).wr (Int.parGroups p) par

/-- LOCKSTEP_FAULT: one cycle of a pair's comparator, with the masks of the bit groups that rail 0 and rail 1 judge different and of
those with a parity error in delay stage 0 and 1; the outcome of R218 and the attribution of R219 follow from them (R218 to R226).
In a withdrawn pair a fault is a self-test failure, a fenced pair has none, and in the split pair the first mask stands for a fault
of the main core, the second for one of the checker core (R226, R229). (DEDUCED, assumption 97, DESIGN CHOICE, assumption 115) -/
def execLockstepFault (l : LaneId) (pair : Fin 4) (rail0 rail1 par0 par1 : Nat) (s : State) : Out :=
  .next (s.onLane l (fun L =>
    let p : Nat := pair
    let r0 := rail0 % 2 ^ 64
    let r1 := rail1 % 2 ^ 64
    let st := L.pairState p
    let covered := if L.now ≤ L.rd (Int.parAt p) + 2 then L.rd (Int.parGroups p) else 0
    let fs := cycleFaults r0 r1 (par0 % 2 ^ 64) (par1 % 2 ^ 64) covered
    if st = 3 then L
    else if st = 4 then (L.iff (r0 ≠ 0) (fun K => K.splitFault p)).iff (r1 ≠ 0) (fun K => K.splitFault 4)
    else if fs.isEmpty then L
    else if st = 5 then L.selfTestFails p true
    else
      let main := st = 0 && L.state = stActive && L.runsSafety p && ! L.on Int.e0
      fs.foldl (fun K f => K.takeFault p main f) (L.markParity p (par0 % 2 ^ 64 ||| par1 % 2 ^ 64))))

/-- Whether the lane is in its own TEST: configured and not yet READY (R42, R47). -/
def Lane.inTest (L : Lane) : Bool := L.state = stBoot && L.rd Int.loadPhase = 4

/-- COMPARATOR_TEST_DONE: the injection test of a pair about to be released ends, in TEST or before a restart that no lane exit has
abandoned (R220, R224, R226). (DEDUCED, assumption 54) -/
def execComparatorTestDone (l : LaneId) (pair : Fin 4) (ok : Bool) (s : State) : Out :=
  .next (s.onLane l (fun L =>
    let p : Nat := pair
    let restart := L.pairState p = 1 && ! L.on (Int.m5 p) && ! L.on Int.e0
    if ! (restart || (L.inTest && L.pairState p = 0)) then L
    else if ok then (L.set (LSC_PAIR_STATUS.CMP_TESTED p)).iff restart (fun K => (K.set (Int.m5 p)).startAtVec p)
    else
      let K := (L.clr (LSC_PAIR_STATUS.CMP_TESTED p)).raise 0x20
      if restart then K.fencePair p else (K.wr BST_STATUS.FAIL_UNIT 7).failLane))

/-- CHECKPOINT_COMMIT: the written half becomes valid (R225); a split pair has no checkpoint (R229). -/
def execCheckpointCommit (l : LaneId) (pair : Fin 4) (s : State) : Out :=
  .next (s.onLane l (fun L =>
    let p : Nat := pair
    if L.pairState p = 4 || L.pairHeld p then L else
    ((L.put (LSC_PAIR_CKPT.VALID_HALF p) (! L.on (LSC_PAIR_CKPT.VALID_HALF p))).set (LSC_PAIR_CKPT.VALID p)).wr (LSC_PAIR_CKPT.SEQ p)
      (L.rd LSC_AGR_FRAMENO.FRAMENO)))

/-- A restarting pair gives up: it is fenced with source 0x21 (R224, R225). -/
def Lane.giveUp (L : Lane) (p : Nat) : Lane := (L.fencePair p).raise 0x21

/-- RESTORED: acts in RESTART after M5; without a valid checkpoint it acts as GIVE_UP (R225). -/
def execRestored (l : LaneId) (pair : Fin 4) (s : State) : Out :=
  .next (s.onLane l (fun L =>
    let p : Nat := pair
    if L.pairState p ≠ 1 || ! L.on (Int.m5 p) then L
    else if ! L.on (LSC_PAIR_CKPT.VALID p) then L.giveUp p
    else ((L.wr (LSC_PAIR_STATUS.STATE p) 2).clr (Int.rsRun p)).clr (Int.rsWhole p)))

/-- GIVE_UP: acts in RESTART after M5 (R224, R225). -/
def execGiveUp (l : LaneId) (pair : Fin 4) (s : State) : Out :=
  .next (s.onLane l (fun L => if L.pairState pair ≠ 1 || ! L.on (Int.m5 pair) then L else L.giveUp pair))

/-- SHADOW_RESULT: the result of the shadow operation that a target executes, for channel `ch`, is passed to the LSC (R225,
R319). (DEDUCED, assumption 56) -/
def execShadowResult (l : LaneId) (target : Fin 4) (ch : Fin 16) (result : Nat) (s : State) : Out :=
  .next (s.onLane l (fun L =>
    if L.pairHeld target then L else
    match L.execOf target with
    | some o => if o.shadow then L.setSched { L.sched with shadowResults := L.sched.shadowResults ++ [(16 * (target : Nat) + (ch : Nat), result % 2 ^ 32)] } else L
    | none => L))

/-- Every shadow result of the ended frame equals the demand the lane sent (R225). (DEDUCED, assumption 56) -/
def Lane.shadowMatch (L : Lane) (p : Nat) : Bool :=
  (L.sched.shadowResults.filter (fun (r : Nat × Nat) => decide (r.1 / 16 = p))).all (fun (r : Nat × Nat) =>
    match L.sent with
    | some m => (m.demands[r.1 % 16]?).any (fun d => decide (ofInt 32 d = r.2))
    | none => false)

/-- A frame boundary for a restarting pair: the ended frame is judged, the pair returns to RUN after two matching frames, or is
fenced at RESYNC_LIMIT (R224, R225). -/
def Lane.resyncFrame (L : Lane) (p : Nat) : Lane :=
  let st := L.pairState p
  if ! (st = 1 || st = 2) || ! L.on (Int.m5 p) then L else
  let run := if st = 2 && L.on (Int.rsWhole p) then (if L.shadowMatch p then L.rd (Int.rsRun p) + 1 else 0) else 0
  let frames := if L.on (Int.rsOpen p) then L.rd (Int.rsFrames p) + 1 else 0
  let K := ((((L.set (Int.rsOpen p)).wr (Int.rsFrames p) frames).wr (Int.rsRun p) run).put (Int.rsWhole p) (decide (st = 2)))
  if run = 2 then (((K.wr (LSC_PAIR_STATUS.STATE p) 0).clr (Int.m5 p)).inc (LSC_PAIR_CNT.RESTART_CNT p)).checkCapacity
  else if K.rd LSC_CFG.RESYNC_LIMIT ≤ frames then (K.fencePair p).raise 0x22
  else K

end Sys2Proof.Machine
end

