-- ==== Sys2Proof/Machine/Sched.lean ====
section
/-! DEFINITION. The commands of the dataflow scheduler (R315 to R329). -/

namespace Sys2Proof.Machine

/-- SCH_POST: a trigger token for an operation with TRIG = 4 (R315, R317). -/
def execSchPost (l : LaneId) (op : Fin 4096) (s : State) : Out :=
  .next (s.onLane l (fun L => if L.on SCH_CFG.LOCK && L.opTrig op = 4 then L.trigger op else L))

/-! ### Dispatch and NEXT (R318, R319) -/

/-- The ready operations in the order dispatch considers them: by class, oldest first (R318). -/
def Lane.readyOrder (L : Lane) : List OpInst :=
  (List.range 16).flatMap (fun k => L.sched.ready.filter (fun o => L.opClass o.index = k))

/-- The target of a ready operation: a shadow copy goes to its pair in RESYNC (R225, R319). -/
def Lane.targetOf (L : Lane) (o : OpInst) : Option Nat :=
  if o.shadow then
    (if L.rd (LSC_PAIR_STATUS.STATE o.shadowFor) = 2 && decide ((L.queue o.shadowFor).length < L.queueSlots o.shadowFor) then some o.shadowFor else none)
  else L.chooseTarget o.index

/-- The first ready operation that has a target with a free slot, and that target; one waits while another before it in its
atomic flow is ready (R318). -/
def Lane.nextDispatch (L : Lane) : Option (OpInst × Nat) :=
  (L.readyOrder.filter (fun o => ! L.sched.ready.any (fun x => L.flowBefore x o))).findSome? (fun o => (L.targetOf o).map (fun t => (o, t)))

/-- A NEXT read returns the head of the target's queue, which starts executing (R319, R329). -/
def Lane.takeNext (L : Lane) (t : Nat) : Lane :=
  match L.queue t with
  | [] => L
  | o :: r =>
    let K := L.setSched { L.sched with queues := L.sched.queues.set t r, exec := L.sched.exec.set t (some { o with startAt := L.now }) }
    let K := ((K.wr (SCH_T_NEXT.INDEX t) o.index).wr (SCH_T_NEXT.INST t) o.inst).put (SCH_T_NEXT.SHADOW t) o.shadow
    (K.clr (SCH_T_NEXT.IDLE t)).clr (Int.nextWait t)

/-- DISPATCH: the oldest ready operation of the lowest class that has an eligible target with a free slot enters its queue; a
waiting NEXT read takes it, and a dozing pair wakes (R318, R319, R420). Dispatch starts when TEST has passed and stops at E0
(R327, R373). -/
def execDispatch (l : LaneId) (s : State) : Out :=
  .next (s.onLane l (fun L =>
    if L.on Int.e0 || ! liveState L.state then L else
    match L.nextDispatch with
    | none => L
    | some (o, t) =>
      let K := L.setSched { L.sched with ready := L.sched.ready.erase o, queues := L.sched.queues.set t (L.enqueue o (L.queue t)) }
      let K := K.wakePair (targetPair t)
      if K.on (Int.nextWait t) then K.takeNext t else K))

/-- A protocol error of a target (R320). -/
def Lane.protoErr (L : Lane) (t : Nat) : Lane := (L.inc (SCH_T_STATUS.PROTO_ERR t)).raise 0x3A

/-- NEXT_READ: returns the next queued operation, or waits; while one executes it is a protocol error (R319, R320). Target 4
exists only with SPLIT3. -/
def execNextRead (l : LaneId) (target : Fin 5) (s : State) : Out :=
  .next (s.onLane l (fun L =>
    if (target = 4 && ! L.split3) || L.pairHeld (targetPair target) then L
    else if (L.execOf target).isSome then L.protoErr target
    else if (L.queue target).isEmpty then L.set (Int.nextWait target)
    else L.takeNext target))

/-- NEXT_WAIT_EXPIRY: a waiting NEXT read returns IDLE (R319). -/
def execNextWaitExpiry (l : LaneId) (target : Fin 5) (s : State) : Out :=
  .next (s.onLane l (fun L =>
    if ! L.on (Int.nextWait target) then L else
    (((((L.clr (Int.nextWait target)).set (SCH_T_NEXT.IDLE target)).clr (SCH_T_NEXT.INDEX target)).clr (SCH_T_NEXT.INST target)).clr
      (SCH_T_NEXT.SHADOW target))))

/-! ### Completion, budgets and deadlines (R320, R321) -/

/-- An instance misses its deadline: counted once in its class; repeated misses of a safety operation raise 0x31 (R321). -/
def Lane.deadlineMiss (L : Lane) (n : Nat) : Lane :=
  let k := L.opClass n
  let run := min 255 (L.rd (Int.dlRun n) + 1)
  let K := ((L.inc (SCH_CL_DL.DL_MISS k)).wr (Int.dlRun n) run).raise 0x32
  if k ≤ 7 ∧ run = L.rd SCH_CFG.DL_EXIT then K.raise 0x31 else K

/-- A pair whose withdrawal is under way and which executes nothing enters WITHDRAWN, and its slice begins (R325, R326,
R390). -/
def Lane.tryWithdrawn (L : Lane) (p : Nat) : Lane :=
  if L.bitOf Int.withdraw p && (L.execOf p).isNone && (p ≠ 3 || (L.execOf 4).isNone) then
    let K := ((L.putBit Int.withdraw p false).wr (LSC_PAIR_STATUS.STATE p) 5).checkCapacity
    L.leftService p (K.iff (L.rd BST_STATUS.PHASE = 0) (fun J => J.wr BST_STATUS.PHASE 3))
  else L

/-- The waiting and the execution time of a completed operation are recorded (R320, R329). -/
def Lane.observeOp (L : Lane) (t : Nat) (o : OpInst) : Lane :=
  let w := o.startAt - o.readyAt
  let m := Int.obsMax (L.opClass o.index)
  let K := (L.add (Int.obsWait t) w).add (Int.obsN t) 1
  (K.sat m (max w (K.rd m))).add (Int.obsExec t) (K.now - max o.startAt (K.rd Int.obsFrom))

/-- An execution longer than BUDGET, or than HANG_K × BUDGET, is reported once, at its completion at the latest (R321). -/
def Lane.overBudget (L : Lane) (o : OpInst) : Lane :=
  let d := L.now - o.startAt
  let K := L.iff (! o.budgetRep && decide (L.opBudget o.index < d)) (fun J => (J.set SCH_FLAGS.BUDGET_OVR).raise 0x33)
  K.iff (! o.hangRep && decide (L.rd SCH_CFG.HANG_K * L.opBudget o.index < d)) (fun J => J.raise 0x34)

/-- The executing operation of a target completes (R317, R320, R321, R329). -/
def Lane.complete (L : Lane) (t : Nat) (o : OpInst) : Lane :=
  let K := (L.setSched { L.sched with exec := L.sched.exec.set t none }).inc (SCH_T_CNT.DONE_CNT t)
  let K := (K.observeOp t o).overBudget o
  let K := if o.shadow then K else
    let K := if o.missed then K else if o.trigAt + K.opDeadline o.index < K.now then K.deadlineMiss o.index else K.clr (Int.dlRun o.index)
    (K.opSuccs o.index).foldl (fun J n => J.addToken n) K
  K.tryWithdrawn (targetPair t)

/-- DONE_WRITE: completes the executing operation when INDEX matches it, else a protocol error (R320); one held in the pair is never
accepted (R221, R323). -/
def execDoneWrite (l : LaneId) (target : Fin 5) (index : Fin 4096) (s : State) : Out :=
  .next (s.onLane l (fun L =>
    if L.pairHeld (targetPair target) then L else
    match L.execOf target with
    | some o => if o.index = (index : Nat) then L.complete target o else L.protoErr target
    | none => L.protoErr target))

/-- BUDGET_EXPIRY: the executing operation of a target has run longer than BUDGET (R321). -/
def execBudgetExpiry (l : LaneId) (target : Fin 5) (s : State) : Out :=
  .next (s.onLane l (fun L =>
    match L.execOf target with
    | some o => if o.budgetRep then L else
        ((L.setSched { L.sched with exec := L.sched.exec.set target (some { o with budgetRep := true }) }).set SCH_FLAGS.BUDGET_OVR).raise 0x33
    | none => L))

/-- HANG_EXPIRY: the executing operation of a target has run longer than HANG_K × BUDGET (R321). -/
def execHangExpiry (l : LaneId) (target : Fin 5) (s : State) : Out :=
  .next (s.onLane l (fun L =>
    match L.execOf target with
    | some o => if o.hangRep then L else
        (L.setSched { L.sched with exec := L.sched.exec.set target (some { o with hangRep := true }) }).raise 0x34
    | none => L))

/-- The instance of an operation in progress, its shadows aside. -/
def Lane.instanceOf (L : Lane) (n : Nat) : Option OpInst :=
  (L.sched.ready ++ L.sched.queues.flatten ++ L.sched.exec.filterMap id).find? (fun o => o.index == n && ! o.shadow)

/-- The instances of an operation changed wherever they are. -/
def Lane.markOp (L : Lane) (n : Nat) (g : OpInst → OpInst) : Lane :=
  let f (o : OpInst) : OpInst := if o.index == n && ! o.shadow then g o else o
  { L with sched := { L.sched with ready := L.sched.ready.map f, queues := L.sched.queues.map (fun q => q.map f),
                                   exec := L.sched.exec.map (fun e => e.map f) } }

/-- DEADLINE_EXPIRY: an instance's deadline passes with no completion (R321). -/
def execDeadlineExpiry (l : LaneId) (op : Fin 4096) (s : State) : Out :=
  .next (s.onLane l (fun L =>
    match L.instanceOf op with
    | some o => if o.missed then L else (L.markOp op (fun o => { o with missed := true })).deadlineMiss op
    | none => L))

/-- Whether an operation has an eligible target at all (R319, R324). -/
def Lane.hasTarget (L : Lane) (n : Nat) : Bool :=
  (List.range 5).any (fun t => L.targetInService t (L.opClass n) (L.opAffinity n) && (! L.opAtomic n || L.rd (SCH_FLOW.BOUND (L.opFlow n)) = t))

/-- NO_TARGET_TIMEOUT: a ready operation has waited longer than its DEADLINE for an eligible target (R319). -/
def execNoTargetTimeout (l : LaneId) (op : Fin 4096) (s : State) : Out :=
  .next (s.onLane l (fun L =>
    match L.sched.ready.find? (fun o => o.index == (op : Nat) && ! o.shadow) with
    | some o => if o.noTarget || L.hasTarget op then L else (L.markOp op (fun o => { o with noTarget := true })).raise 0x38
    | none => L))

/-! ### Withdrawal (R325, R326, R391) -/

/-- A withdrawal is refused: WD_REFUSED, source 0x36, and the slice waits for its next period (R325, R391). -/
def Lane.refuseWithdrawal (L : Lane) : Lane := ((L.set SCH_FLAGS.WD_REFUSED).inc BST_SLICE.REFUSED).raise 0x36

/-- Whether SAFE_PAIRS without the pair would rest on a clear CAP bit (R326). -/
def Lane.capacityForbids (L : Lane) (p : Nat) : Bool :=
  if L.pairState p = 0 && ! (p = 3 && L.split3) then (L.safePairs ≤ 1 || ! L.bitOf SCH_CAP.CAP (L.safePairs - 2)) else false

/-- A withdrawal begins: dispatch to the pair stops, its queues return and its flows are rebound; a power entry in its prepare
stage is refused by the BST (R323 to R326, R424, R436). -/
def Lane.requestWithdrawal (L : Lane) (p : Nat) : Lane :=
  if ! (L.pairState p = 0 || L.pairState p = 4) || L.bitOf Int.withdraw p then L
  else if L.capacityForbids p then L.refuseWithdrawal
  else
    let K := L.iff (L.rd PSC_STATUS.STAGE = pscPrepare) (fun J => J.refuseEntry 0x03 3 2)
    let K := (K.putBit Int.withdraw p true).returnTarget p false
    let K := (K.iff (p = 3 && K.split3) (fun J => J.returnTarget 4 false)).rebindFrom p
    (K.iff (p = 3 && K.split3) (fun J => J.rebindFrom 4)).tryWithdrawn p

/-- WITHDRAWAL_REQUEST (R325). -/
def execWithdrawalRequest (l : LaneId) (pair : Fin 4) (s : State) : Out := .next (s.onLane l (fun L => L.requestWithdrawal pair))

/-- WITHDRAWAL_TIMEOUT: the executing operation has not completed within WD_WAIT; the pair stays in RUN (R325). -/
def execWithdrawalTimeout (l : LaneId) (pair : Fin 4) (s : State) : Out :=
  .next (s.onLane l (fun L =>
    if L.bitOf Int.withdraw pair then (L.putBit Int.withdraw pair false).refuseWithdrawal else L))

/-! ### Observability (R329) -/

/-- The window of OBS_WIN frames ends at a frame start, and its figures are published. -/
def Lane.obsFrame (L : Lane) : Lane :=
  if L.rd Int.obsFrames + 1 < L.rd SCH_CFG.OBS_WIN then L.wr Int.obsFrames (L.rd Int.obsFrames + 1) else
  let from_ := L.rd Int.obsFrom
  let len := L.now - from_
  let K := L.forN 5 (fun t K =>
    let busy := K.rd (Int.obsExec t) + (match K.execOf t with
      | some o => K.now - max o.startAt from_
      | none => 0)
    let K := K.wr (SCH_T_OBS.LOAD t) (clampI 0 1000 (divRound 329 ((1000 * busy : Nat) : Int) len)).toNat
    let n := K.rd (Int.obsN t)
    let K := K.sat (SCH_T_OBS.WAIT_MEAN t) (if n = 0 then 0 else (divRound 330 (K.rd (Int.obsWait t) : Int) n).toNat)
    ((K.clr (Int.obsExec t)).clr (Int.obsWait t)).clr (Int.obsN t))
  let K := K.forN 16 (fun k K => (K.sat (SCH_CL_STAT.WAIT_MAX k) (K.rd (Int.obsMax k))).clr (Int.obsMax k))
  (K.clr Int.obsFrames).wr Int.obsFrom K.now

end Sys2Proof.Machine
end

