-- ==== Sys2Proof/Machine/Lease.lean ====
section
/-! DEFINITION. The commands of the authority lease (R244 to R263). -/

namespace Sys2Proof.Machine

/-- LEASE_EXPIRY: the holder's validity ends without a renewal (R249). -/
def execLeaseExpiry (l : LaneId) (s : State) : Out :=
  .next (s.onLane l (fun L =>
    if ! L.holds then L else
    ((((L.undrive.set LSE_FLAGS.EXPIRED).inc LSE_CNT.EXPIRIES).raise 0xA0).setRole roleStandby).wr Int.hoPhase 0 |>.syncEligible))

/-- Whether this lane neither holds nor claims the lease nor is barred. -/
def Lane.isStandby (L : Lane) : Bool := L.rd LSE_STATUS.ROLE ≤ roleStandby

/-- CLAIM_TIMEOUT: an eligible standby that hears the bus claims after a silent holder (R252). -/
def execClaimTimeout (l : LaneId) (s : State) : Out :=
  .next (s.onLane l (fun L =>
    if L.on Int.watchArmed && L.isStandby && L.eligible && decide (2 ≤ L.rd Int.ngbOk) then L.wakeSa.claim true else L))

/-- GUARD_EXPIRY: the guard of a claim ends; the drive is taken once the SA region is powered (R252, R253, R263). -/
def execGuardExpiry (l : LaneId) (s : State) : Out :=
  .next (s.onLane l (fun L =>
    if L.rd LSE_STATUS.ROLE ≠ roleClaiming then L
    else if ! L.eligible then L.endClaim
    else if L.rd PSC_STATUS.SA = 0 then L.takeDrive.syncEligible
    else L.set Int.guardDone))

/-- A CLAIM of lane `src` is received (R252, R253). (DEDUCED, assumption 49) -/
def Lane.claimFrom (L : Lane) (src seq : Nat) : Lane :=
  if L.rd LSE_STATUS.ROLE = roleClaiming ∧ seq = L.rd Int.claimSeq then
    (if src < L.me then L.heedRenewal src seq true else L)
  else if seqNewer seq (L.rd Int.watchSeq) then L.heedRenewal src seq L.holds
  else if L.isStandby && seq = L.rd Int.watchSeq && decide (src < L.rd LSE_STATUS.HOLDER) && decide (L.rd LSE_STATUS.HOLDER < 3) then L.setHolder src
  else L

/-- CLAIM_RECEIPT (R252, R253). -/
def execClaimReceipt (l src : LaneId) (s : State) : Out :=
  .next (s.recvFelt l src (fun m => match m with
    | .claim seq => some seq
    | _ => none) (fun seq L => (L.claimFrom src.num seq).syncEligible))

/-- A newer RELEASE is received: its SEQ stands in every lane, it becomes T_r unless the lane holds the lease, and the named successor
powers its SA region and claims at once, anew where its claim was of an older sequence (R255, R257, R425). (DEDUCED, assumption 49) -/
def Lane.releaseFrom (L : Lane) (seq successor : Nat) : Lane :=
  if ! seqNewer seq (L.rd Int.watchSeq) then L
  else if L.holds then (L.wr Int.watchSeq seq).wr LSE_STATUS.SEQ seq
  else if L.rd LSE_STATUS.ROLE = roleClaiming then
    (L.takeSeq seq).iff (successor = L.me && L.eligible) (fun J => J.claim false)
  else
  let K := (((L.takeSeq seq).setHolder 3).wr LSE_STATUS.SUCCESSOR successor).put Int.watchArmed (successor ≠ 3)
  if successor = K.me then K.wakeSa.iff (K.isStandby && K.eligible) (fun J => J.claim false) else K

/-- RELEASE_RECEIPT (R255). -/
def execReleaseReceipt (l src : LaneId) (s : State) : Out :=
  .next (s.recvFelt l src (fun m => match m with
    | .release seq successor => some (seq, successor)
    | _ => none) (fun (m : Nat × Nat) L => L.releaseFrom m.1 m.2))

/-- A planned handover starts; HANDOVER goes out at the next F1 (R262). -/
def Lane.startHandover (L : Lane) (target : Nat) : Lane :=
  if L.rd LSE_STATUS.ROLE ≠ roleHolder ∨ target = 3 then L else
  ((L.setRole roleHandingOver).wr Int.hoPhase 1).wr Int.hoTarget target

/-- HANDOVER_REQUEST: firmware starts a planned handover to SUCCESSOR (R262). -/
def execHandoverRequest (l : LaneId) (s : State) : Out :=
  .next (s.onLane l (fun L => L.startHandover (L.rd LSE_STATUS.SUCCESSOR)))

/-- HANDOVER_RECEIPT: the target powers its SA region and sets ACCEPT in its next frame's message (R257, R262). -/
def execHandoverReceipt (l src : LaneId) (s : State) : Out :=
  .next (s.recvFelt l src (fun m => match m with
    | .handover _ => some ()
    | _ => none) (fun _ L => if L.isStandby then (L.wakeSa.wr Int.acceptNext 1).wr Int.renewRun 0 else L))

/-- Whether an SA output follows an auxiliary waveform whose active compares give it a conducting interval (R245, R260). -/
def Lane.auxBusy (L : Lane) : Bool :=
  (List.range 4).any (fun k =>
    let m := L.rd (PWM_OUT_CFG.SA_ROUTE (48 + k))
    m ≠ 0 && ! L.saForced.testBit (m - 1) && L.on (PWM_GROUP_CTL.RUN (8 + k)) && ! never (L.rd (Int.actRise (48 + k))) &&
      ! L.isBeyond (8 + k) (L.rd (Int.actRise (48 + k))) && L.rd (Int.actRise (48 + k)) ≠ L.rd (Int.actFall (48 + k)))

/-- Whether a role swap is deferred (R260). -/
def Lane.swapBlocked (L : Lane) : Bool :=
  ! (L.mode = mStandby || operating L.mode || L.mode = mTorqueOff) || L.auxBusy ||
    successorOf (L.rd Int.eligMask) (L.rd LSE_CFG.PREF) L.me = 3

/-- SWAP_INTERVAL_EXPIRY: the holder starts a role swap to its successor, or defers it (R260). -/
def execSwapIntervalExpiry (l : LaneId) (s : State) : Out :=
  .next (s.onLane l (fun L =>
    if ! L.on LSE_CFG.SWAP_EN || L.rd LSE_STATUS.ROLE ≠ roleHolder then L else
    let K := L.wr Int.swapAt (L.leaseNow + L.swapInterval)
    if K.swapBlocked then K.set Int.swapDue
    else K.chooseSuccessor.startHandover (K.chooseSuccessor.rd LSE_STATUS.SUCCESSOR)))

/-- HOLDOFF_EXPIRY: the preferred lane has been present for HOLDOFF; the holder hands over to it at the next frame start
(R261). -/
def execHoldoffExpiry (l : LaneId) (s : State) : Out :=
  .next (s.onLane l (fun L =>
    let p := L.rd LSE_CFG.PREF
    if L.rd LSE_STATUS.ROLE = roleHolder ∧ p < 3 ∧ p ≠ L.me ∧ L.bitOf Int.eligMask p then L.set Int.prefDue else L))

/-- Planned handovers due at a frame start: the preferred return before a deferred swap (R260, R261). (DEDUCED, assumption 49) -/
def Lane.plannedStart (L : Lane) : Lane :=
  if L.rd LSE_STATUS.ROLE ≠ roleHolder then (L.clr Int.swapDue).clr Int.prefDue
  else if L.on Int.prefDue && L.bitOf Int.eligMask (L.rd LSE_CFG.PREF) then (L.clr Int.prefDue).startHandover (L.rd LSE_CFG.PREF)
  else if L.on Int.swapDue && ! L.swapBlocked then
    let K := ((L.clr Int.swapDue).inc LSE_CNT.SWAP_DEFER).chooseSuccessor
    K.startHandover (K.rd LSE_STATUS.SUCCESSOR)
  else L.clr Int.prefDue

/-- A snapshot goes to each sibling of a mask (R258). -/
def Lane.pushSnapshots (L : Lane) (mask : Nat) : Lane :=
  L.siblings.foldl (fun K n => K.iff (mask.testBit n) (fun J => J.sendFelt (J.portTo n) (.snapshot J.snapshot))) L

/-- SNAPSHOT_PUSH: the holder sends a snapshot to each eligible standby (R258). -/
def execSnapshotPush (l : LaneId) (s : State) : Out :=
  .next (s.onLane l (fun L =>
    if ! L.holds then L else (L.pushSnapshots (L.rd Int.eligMask)).wr Int.snapPushAt L.leaseNow))

/-- SNAPSHOT_RECEIPT: a snapshot is written into the half that does not hold the newest valid copy (R258). -/
def execSnapshotReceipt (l src : LaneId) (s : State) : Out :=
  .next (s.recvFelt l src (fun m => match m with
    | .snapshot m => some m
    | _ => none) (fun m L => L.storeSnap m))

/-- SA_READBACK_FAULT: a driven pad differs for more than 1 µs, or a fault of the readback meets the guard of a claim (R247, R263). -/
def execSaReadbackFault (l : LaneId) (_m : Fin 8) (s : State) : Out :=
  .next (s.onLane l (fun L =>
    if ! L.on LSE_STATUS.DRIVING && L.rd LSE_STATUS.ROLE ≠ roleClaiming then L else ((L.set LSE_FLAGS.READBACK).raise 0xA4).bar))

/-- The contactor requests this lane and the present siblings still report (R259). -/
def Lane.contReported (L : Lane) : Nat :=
  L.contReqs ||| L.rd Int.contHeard

/-- SA_CONT_CLR: bits clear in SERVICE unless a present lane still reports the request (R8, R259). -/
def execSaContClr (l : LaneId) (mask : Nat) (s : State) : Out :=
  .next (s.onLane l (fun L =>
    if L.mode ≠ mService then L else
    let kept := (List.range 8).foldl (fun n m =>
      if mask.testBit m && ! L.contReported.testBit m then clearBit n m else n) (L.rd LSE_SA.SA_CONT)
    (L.wr LSE_SA.SA_CONT kept).refreshSa))

/-- SD_HOLD_EXPIRY: in SHUTDOWN the holder releases with SUCCESSOR 3 (R255). -/
def execSdHoldExpiry (l : LaneId) (s : State) : Out :=
  .next (s.onLane l (fun L =>
    if L.mode = mShutdown && L.holds then ((L.wr LSE_STATUS.SUCCESSOR 3).releaseLease 3).syncEligible else L))

/-- Power-on of the SA region: its registers are at reset, but for what the lease watch holds, the contactor requests, and the lease
period and tolerance in use (R257, R259, R265, R425, R432). (DESIGN CHOICE, assumption 51) -/
def Lane.resetSa (L : Lane) : Lane :=
  let kept := [LSE_SA.SA_CONT, LSE_CFG.LEASE_PERIOD, LSE_CLK.TOL_IN_USE, LSE_STATUS.ROLE, LSE_STATUS.HOLDER, LSE_STATUS.SUCCESSOR, LSE_STATUS.ELIGIBLE, LSE_STATUS.SEQ, Int.claimSeq, Int.claimAt,
    Int.claimSilent, Int.guardDone, Int.acceptNext, Int.renewSeen, Int.renewRun]
  kept.foldl (fun K f => K.wr f (L.rd f)) { L with regs := L.regs.resetHome .sa }

/-- SA_POWER_UP: the SA region is powered, restored, and a waiting claim takes the drive (R253, R257, R432).
(DESIGN CHOICE, assumption 51) -/
def execSaPowerUp (l : LaneId) (s : State) : Out :=
  .next (s.onLane l (fun L =>
    if ! L.on Int.saStarting then L else
    let K := ((L.clr Int.saStarting).wr PSC_STATUS.SA 0).resetSa
    let ok := K.retOk
    let K := (K.retRestore [2]).wr LSE_SA.SA_CONT (K.rd LSE_SA.SA_CONT)
    let K := ((K.wr LSE_CFG.LEASE_PERIOD (L.rd LSE_CFG.LEASE_PERIOD)).wr LSE_CLK.TOL_IN_USE (L.rd LSE_CLK.TOL_IN_USE)).restoreAtPower
    let K := (K.portStart 5).iff (K.rd LSE_STATUS.ROLE = roleOff) (fun J => J.setRole roleStandby)
    if ! ok then K.exitOn 0xD3
    else if K.on Int.guardDone && K.rd LSE_STATUS.ROLE = roleClaiming then K.takeDrive.syncEligible else K))

/-- SA_POWER_DOWN: after renewals in two consecutive frames a standby without a claim powers its SA region down, its retention
list saved first (R257, R432, R436). -/
def execSaPowerDown (l : LaneId) (s : State) : Out :=
  .next (s.onLane l (fun L =>
    if ! L.isStandby || L.rd PSC_STATUS.SA ≠ 0 || decide (L.rd Int.renewRun < 2) || L.rd Int.acceptNext ≠ 0 then L
    else ((L.retCount.retSave [2]).wr PSC_STATUS.SA 3).setRole roleOff))

end Sys2Proof.Machine
end

