-- ==== Sys2Proof/Machine/Frame.lean ====
section
/-! DEFINITION. The agreement frame up to its window: frame start, the frame message, its receipt (R230 to R232, R249, R259,
R262, R500). -/

namespace Sys2Proof.Machine

/-- Whether the agreement unit of the lane runs frames: its host die runs and is not failed or asleep (R42, R52). -/
def Lane.framesRun (L : Lane) : Bool := L.portsRun && L.state ≠ stReset && L.state ≠ stFailed && L.state ≠ stAsleep

/-- A pending FRAME takes effect at a frame start that is also a multiple of it; APPLY_OFS and the lease period follow (R500). -/
def Lane.takeFrame (L : Lane) : Lane :=
  let f := L.rd Int.framePending
  if f = 0 ∨ L.now % (1000 * f) ≠ 0 then L else
  let K := (L.wr LSC_AGR_CFG.FRAME f).clr Int.framePending
  let K := K.wr LSC_AGR_CFG.APPLY_OFS (min (K.rd LSC_AGR_CFG.APPLY_OFS) (f - 20))
  K.wr LSE_CFG.LEASE_PERIOD (max (K.rd LSE_CFG.LEASE_PERIOD) (min 2000 K.leaseFloor))

/-- A rejoin decided in the previous frame takes effect; another transition may take effect at the close of the same frame (R27, R43,
R45). (DESIGN CHOICE, assumption 100) -/
def Lane.takeRejoin (L : Lane) : Lane :=
  let s := L.rd Int.rejoin
  let K := L.wr Int.rejoin 7
  if 3 ≤ s ∨ ¬ operating L.mode ∨ L.on Int.e0 then K else
  let K := (K.iff (s = K.me) (fun J => J.setState stActive)).wr (Int.known s) stActive
  K.setMode (L.rd Int.rejoinMode) 0x05 s

/-- What the lease unit does at a frame start: an accepted handover releases, planned handovers start, and the SA levels follow
contactor requests (R207, R260 to R262). -/
def Lane.leaseFrame (L : Lane) : Lane :=
  let K := if L.rd Int.hoPhase = 3 then (L.inc LSE_CNT.HANDOVERS).releaseLease (L.rd Int.hoTarget) else L.plannedStart
  let K := K.iff (K.rd Int.acceptNext = 1) (fun J => J.wr Int.acceptNext 2)
  (K.iff (K.on Int.contDue) (fun J => (J.clr Int.contDue).iff J.holds (fun J => J.refreshSa))).syncEligible

/-- Whether lane time stands at a frame start (R230). -/
def Lane.atFrame (L : Lane) : Bool := L.now % (1000 * L.rd LSC_AGR_CFG.FRAME) = 0

/-- FRAME_START: F0 (R27, R43, R225, R230, R231, R238, R260 to R262, R315, R329, R374, R500). -/
def execFrameStart (l : LaneId) (s : State) : Out :=
  .next (s.onLane l (fun L =>
    if ! L.framesRun || ! L.atFrame then L else
    let K := L.forN 4 (fun p J => J.resyncFrame p)
    let K := K.takeFrame.wr Int.frameAt K.now
    let K := ((K.wr LSC_AGR_FRAMENO.FRAMENO (K.rd LSC_AGR_FRAMENO.FRAMENO + 1)).clr LSC_AGR_CFG.READY).clr Int.readyDone
    let K : Lane := { K.set Int.frameOpen with heard := [none, none, none], sent := none, sched := { K.sched with shadowResults := [] } }
    let K := K.forN 16 (fun m J => J.wr (Int.chSnap m)
      (J.rd (LSC_CH_CFG.EN m) + 2 * J.rd (LSC_CH_CFG.LANES m) + 256 * J.rd (LSC_CH_CFG.AXES m)))
    let K := (K.takeRejoin.leaseFrame.obsFrame).event 28
    (K.triggerAll 1 (fun _ => true)).triggerAll 3 (fun n => K.rd LSC_AGR_FRAMENO.FRAMENO % K.opPeriod n = 0)))

/-- FRAME_WRITE: a write to FRAME waits for its frame start; writing the length in force cancels it (R500). -/
def execFrameWrite (l : LaneId) (value : Nat) (s : State) : Out :=
  .next (s.onLane l (fun L =>
    let v := clampN 250 2000 (value % 2048)
    L.wr Int.framePending (if v = L.rd LSC_AGR_CFG.FRAME then 0 else v)))

/-- The lane's channels from whose contributors it is absent: a lost cluster has each of its axes marked (R21, R119, R233).
(DESIGN CHOICE, assumption 33, DEDUCED, assumption 43) -/
def Lane.absentChannels (L : Lane) : Nat :=
  (List.range 16).foldl (fun n m => if slice 8 8 (L.rd (Int.chSnap m)) &&& L.rd Int.axisAbsent ≠ 0 then setBit n m else n) 0

/-- The restrictive proposal of the lane with its cause: its own, a stop request of TARGET, or TORQUE-OFF at standstill
(R44, R55, R273). (DEDUCED, assumption 44) -/
def Lane.proposal (L : Lane) : Nat × Nat :=
  let r := L.rd Int.restrict
  let p := if L.rd CFG_MODE_REQ.TARGET = 9 ∧ ¬ L.on Int.targetDone ∧ L.mode ≠ mTorqueOff ∧ r < 9 then (mSafeStop, 0x07) else (r, L.rd Int.restrictCause)
  if p.1 < mTorqueOff ∧ L.on SSF_STATUS.STILL ∧ (L.mode = mSafeStop ∨ (operating L.mode ∧ L.on CFG_MODE_STATUS.STOP_PENDING)) then (mTorqueOff, 0x08) else p

/-- The permissive target the lane sends (R44, R55). (DEDUCED, assumption 44) -/
def Lane.targetSent (L : Lane) : Nat :=
  let t := L.rd CFG_MODE_REQ.TARGET
  if t = 9 ∨ L.on Int.targetDone then 0 else t

/-- The key-off transition the lane proposes: STANDBY at standstill, or SHUTDOWN after KEYOFF_HOLD (R47, R50). (DEDUCED, assumption 44) -/
def Lane.keyProposal (L : Lane) : Nat :=
  if L.on Int.keyOn then 0
  else if operating L.mode then (if L.on SSF_STATUS.STILL && ! L.on CFG_MODE_STATUS.STOP_PENDING then mStandby else 0)
  else if (L.mode = mStandby ∨ L.mode = mTorqueOff ∨ L.mode = mService) ∧ L.on Int.keyOffHeld then mShutdown else 0

/-- The frame message of the lane as it now stands (R43, R231, R310). (DEDUCED, assumption 42) -/
def Lane.frameMsg (L : Lane) (late renewal accept : Bool) : FrameMsg :=
  { mode := L.mode, state := if L.on Int.e0 then stExited else L.state, target := L.targetSent, restrict := L.proposal.1, cause := L.proposal.2,
    keyOff := L.keyProposal, keyOn := L.on Int.keyOn, ssOk := ! L.on SSF_STATUS.SSREQ, still := L.on SSF_STATUS.STILL,
    mismatch := L.on CFG_MODE_STATUS.MISMATCH, wroteAt := L.rd Int.targetAt, refusedAt := L.rd Int.refusedAt, late := late,
    demands := if late then [] else (List.range 16).map (fun m => L.rdI (LSC_CH_DEMAND.DEMAND m)),
    accs := if late then [] else (List.range 16).map (fun m => L.rdI (LSC_CH_ACC.ACC m)),
    bankReq := if late then [] else (List.range 16).map (fun m => L.rd (LSC_CH_CFG.BANK_REQ m)),
    absent := L.absentChannels, view := L.rd Int.heardView, renewal := renewal, seq := L.rd LSE_STATUS.SEQ,
    successor := L.rd LSE_STATUS.SUCCESSOR, accept := accept, barred := L.rd LSE_STATUS.ROLE = roleBarred, exits := L.rd (exitsOf L.me),
    chFault := if L.holds then some L.chFaults else none, contReq := L.contReqs, sealRd := L.rd SSF_SEAL.READING, loopOk := L.on SSF_SEAL.LOOP_OK }

/-- The renewal of the lease at F1: SEQ rises and names SUCCESSOR (R249, R250). -/
def Lane.renew (L : Lane) : Lane := let K := L.chooseSuccessor; K.takeSeq ((K.rd LSE_STATUS.SEQ + 1) % 65536)

/-- HANDOVER goes to the target at F1, with a fresh snapshot to it and to each eligible standby (R258, R262). -/
def Lane.sendHandover (L : Lane) : Lane :=
  if L.rd Int.hoPhase ≠ 1 then L else
  let p := L.portTo (L.rd Int.hoTarget)
  let K := L.sendFelt p (.handover (L.rd LSE_STATUS.SEQ))
  ((K.pushSnapshots (setBit (K.rd Int.eligMask) (K.rd Int.hoTarget))).wr Int.hoPhase 2).clr Int.hoFrames

/-- F1: the frame message is sent, once per frame (R231, R249, R262). From E0 on it carries LATE (R29, R43). -/
def Lane.sendFrame (L : Lane) (timeout : Bool) : Lane :=
  if ! L.on Int.frameOpen || L.on Int.readyDone then L else
  let late := timeout || L.on Int.e0
  let renewal := L.holds && L.eligible && (L.on LSE_CTL.RENEW || L.mode = mShutdown)
  let K := (L.iff renewal (fun J => J.renew)).clr LSE_CTL.RENEW
  let accept := K.rd Int.acceptNext = 2 && K.isStandby && K.eligible
  let K := K.iff (K.rd Int.acceptNext = 2) (fun J => J.clr Int.acceptNext)
  let m := K.frameMsg late renewal accept
  let K := (((K.set Int.readyDone).put LSC_AGR_STATUS.SELF_LATE late).wr Int.frameSentAt K.now).sendFeltAll (.frame m)
  { K with sent := some m }.sendHandover

/-- AGREEMENT_READY: firmware writes READY (R231, R238). -/
def execAgreementReady (l : LaneId) (s : State) : Out :=
  .next (s.onLane l (fun L => if L.framesRun then (L.set LSC_AGR_CFG.READY).sendFrame false else L))

/-- READY_TIMEOUT: READY has not been written by F0 + 15 µs (R231). -/
def execReadyTimeout (l : LaneId) (s : State) : Out := .next (s.onLane l (fun L => if L.framesRun then L.sendFrame true else L))

/-- Whether a frame message shows its sender eligible for the lease (R248, R250). -/
def FrameMsg.eligible (m : FrameMsg) : Bool :=
  (m.state = stReady || m.state = stActive) && decide (mStandby ≤ m.mode) && decide (m.mode ≤ mService) && ! m.barred

/-- The exits a sibling's message carries beyond those of its latest one are counted (R28). (DESIGN CHOICE, assumption 41) -/
def Lane.sawExits (L : Lane) (s n : Nat) : Lane :=
  (L.add (exitsOf s) (n - L.rd (Int.exitsSeen s))).wr (Int.exitsSeen s) n

/-- A sibling's frame message is received: it stands for the frame, and its lease, chopper, contactor and exit parts act at once;
FLT_Pp_RX holds it with its receipt time, and after F3 it is discarded
(R28, R207, R208, R232, R249, R252, R259, R262, R311). -/
def Lane.takeFrameMsg (L : Lane) (src : Nat) (m : FrameMsg) : Lane :=
  let L := { L with feltRx := L.feltRx.set (L.portTo src) (some m) }.wr (Int.rxTime (L.portTo src)) L.now
  if ! L.on Int.frameOpen then L else
  let K : Lane := { L with heard := L.heard.set src (some m) }
  let K := ((K.sawExits src m.exits).putBit Int.eligMask src m.eligible).followSuccessor
  let K := K.iff m.renewal (fun J => J.renewalFrom src m.seq m.successor)
  let K := K.iff (m.accept && K.rd Int.hoPhase = 2 && K.rd Int.hoTarget = src) (fun J => J.wr Int.hoPhase 3)
  let K := K.iff (m.contReq ≠ 0) (fun J => (J.wr LSE_SA.SA_CONT (J.rd LSE_SA.SA_CONT ||| m.contReq)).set Int.contDue)
  (match m.chFault with
    | some f => K.iff (K.rd LSE_STATUS.HOLDER = src && ! K.holds) (fun J => J.writeExt f)
    | none => K).syncEligible

/-- The delivery of a frame message on port `p` took `d` ns (R314). (DESIGN CHOICE, assumption 92) -/
def Lane.frameDelay (L : Lane) (p d : Nat) : Lane := L.wr (FLT_P_LQ.LAT_MAX p) (max (L.rd (FLT_P_LQ.LAT_MAX p)) (min 255 (d / 10)))

/-- FRAME_MESSAGE_RECEIPT (R232); its delivery is timed on the sender's clock (R314). -/
def execFrameMessageReceipt (l src : LaneId) (s : State) : Out :=
  .next (s.recvFelt l src (fun m => match m with
    | .frame f => some f
    | _ => none) (fun f L => (L.takeFrameMsg src.num f).frameDelay (L.portTo src.num) ((s.lane src).now - (s.lane src).rd Int.frameSentAt)))

end Sys2Proof.Machine
end

