-- ==== Sys2Proof/Machine/Window.lean ====
section
/-! DEFINITION. The close of the exchange window: presence, lateness, the thermal model, channel agreement and the set-point
messages, envelopes and standstill, the seal split (R16 to R18, R231 to R237, R271 to R273, R281). -/

namespace Sys2Proof.Machine

/-- The frame messages of a frame, by lane. -/
abbrev Msgs := List (Option FrameMsg)

/-- The messages of this frame, this lane's own included. -/
def Lane.frameMsgs (L : Lane) : Msgs := (List.range 3).map (fun s => if s = L.me then L.sent else L.heard.getD s none)

/-- The message of a lane. -/
def Msgs.of (ms : Msgs) (s : Nat) : Option FrameMsg := ms.getD s none

/-- The fitted lanes. -/
def Lane.fittedLanes (L : Lane) : List Nat := L.strap.variant.list.map LaneId.num

/-- The lanes whose message came in the window without LATE. (DEDUCED, assumption 43) -/
def Msgs.onTime (ms : Msgs) : Nat :=
  (List.range 3).foldl (fun n s => match ms.of s with
    | some m => if m.late then n else setBit n s
    | none => n) 0

/-- Whether the latest digest record of a sibling matches (R370). -/
def Lane.matched (L : Lane) (s : Nat) : Bool := s = L.me || L.bitOf CFG_PEER.MATCH s

/-- The siblings heard on time in READY, JOINING or ACTIVE. -/
def Lane.heardLive (L : Lane) (ms : Msgs) : List Nat :=
  L.siblings.filter (fun s => match ms.of s with
    | some f => ! f.late && liveState f.state
    | none => false)

/-- Whether this lane's own record matches those of the present lanes (R27, R49): it matches one of the siblings heard, or none of
them has sent a record that differs. (DEDUCED, assumption 98) -/
def Lane.selfMatched (L : Lane) (ms : Msgs) : Bool :=
  (L.heardLive ms).any (fun s => L.bitOf CFG_PEER.MATCH s) || (L.heardLive ms).all (fun s => ! L.bitOf CFG_PEER.PEER_MISMATCH s)

/-- Whether this lane is itself present under R232: its message was on time, and a sibling heard on time, where there is one, reports it
as present in the frame before (R54). (DEDUCED, assumption 98) -/
def Lane.selfSeen (L : Lane) (ms : Msgs) (present : Nat) : Bool :=
  present.testBit L.me && ((L.heardLive ms).isEmpty || (L.heardLive ms).any (fun s => match ms.of s with
    | some f => f.view.testBit L.me
    | none => false))

/-- Exits of a lane since power-on, as this lane counts them or as its message carries them (R27, R49). -/
def Lane.exitsNow (L : Lane) (s : Nat) (m : FrameMsg) : Nat := max (L.rd (exitsOf s)) m.exits

/-- The admission of a lane after this frame (R49): eight in-window frames in a row, matching records, fewer than three exits;
it stands until the lane leaves READY, JOINING and ACTIVE or its record stops matching. `own` tells whether this lane's own record
matches, which its own admission needs. -/
def Lane.countIn (L : Lane) (own : Bool) (s : Nat) (m : Option FrameMsg) : Lane := match m with
  | none => L.clr (Int.admitRun s)
  | some m =>
    if ! liveState m.state || ! L.matched s then (L.clr (Int.admitRun s)).clr (Int.admitted s)
    else if m.late then L.clr (Int.admitRun s)
    else
      let K := L.inc (Int.admitRun s)
      K.iff (decide (8 ≤ K.rd (Int.admitRun s)) && decide (K.exitsNow s m < 3) && (s ≠ L.me || own)) (fun J => J.set (Int.admitted s))

/-- Whether a lane is present in the frame (R42, R49, R232, R370). (DEDUCED, assumption 43) -/
def Lane.presentIn (L : Lane) (s : Nat) (m : Option FrameMsg) : Bool := match m with
  | none => false
  | some m => ! m.late && liveState m.state && (s = L.me || (m.view.testBit L.me && L.matched s)) && (m.state ≠ stReady || L.on (Int.admitted s))

/-- The presence set of the frame. -/
def Lane.presentMask (L : Lane) (ms : Msgs) : Nat := L.fittedLanes.foldl (fun n s => if L.presentIn s (ms.of s) then setBit n s else n) 0

/-- LATE_x of a lane (R237). -/
def lateOf (n : Nat) : Fld := if n = 0 then LSC_AGR_LATE.LATE_A else if n = 1 then LSC_AGR_LATE.LATE_B else LSC_AGR_LATE.LATE_C

/-- Lateness of a lane in the frame (R237). -/
def Lane.countLate (L : Lane) (s : Nat) (onTime : Bool) : Lane :=
  let st := if s = L.me then (if L.on Int.e0 then stExited else L.state) else L.rd (Int.known s)
  if ! liveState st then (L.clr (Int.lateRun s)).clr (Int.onTimeRun s)
  else if onTime then
    let K := (L.clr (Int.lateRun s)).inc (Int.onTimeRun s)
    K.iff (decide (8 ≤ K.rd (Int.onTimeRun s))) (fun J => J.putBit LSC_AGR_STATUS.SLOW s false)
  else
    let K := (((L.inc (lateOf s)).clr (Int.onTimeRun s)).inc (Int.lateRun s)).iff (s ≠ L.me) (fun J => J.raise 0x58)
    if 3 ≤ K.rd (Int.lateRun s) ∧ ¬ K.bitOf LSC_AGR_STATUS.SLOW s then (K.putBit LSC_AGR_STATUS.SLOW s true).raise 0x59 else K

/-- A lane that is slow in SLOW_EXIT consecutive frames exits (R237). -/
def Lane.slowExit (L : Lane) : Lane :=
  let K := if L.bitOf LSC_AGR_STATUS.SLOW L.me then L.inc Int.slowRun else L.clr Int.slowRun
  if K.rd LSC_AGR_LIMITS.SLOW_EXIT ≤ K.rd Int.slowRun ∧ ¬ K.on Int.e0 then K.exitOn 0x5B else K

/-- One step of the thermal model of a winding, its RMS current given in 0.1 A (R18). -/
def Lane.thermal (L : Lane) (n irms : Nat) : Lane :=
  let dt := L.rd (CFG_THERM_W0.DT_R n)
  let ir := L.rd (CFG_THERM_W0.IR_RMS n)
  let θ := L.rd (Int.thetaFine n)
  let num : Int := ((dt * 2 ^ 24 * irms ^ 2 : Nat) - (θ * ir ^ 2 : Nat) : Int) * (L.rd LSC_AGR_CFG.FRAME : Int)
  let next := ((θ : Int) + divRound 18 num (ir ^ 2 * L.rd (CFG_THERM_W1.TAU n) * 100000)).toNat
  let K := (L.sat (Int.thetaFine n) next).sat (CFG_THERM_W1.THETA n) (next / 2 ^ 24)
  if dt * 2 ^ 24 ≤ next then K.set (Int.derated n) else if 20 * next < 19 * dt * 2 ^ 24 then K.clr (Int.derated n) else K

/-! ### Channels (R233 to R236) -/

/-- The middle of three values. (DEDUCED, assumption 45) -/
def middle (a b c : Int) : Int := max (min a b) (min (max a b) c)

/-- Whether the channel is enabled in this frame, and its LANES and AXES in force (R238). -/
def Lane.chOn (L : Lane) (m : Nat) : Bool := (L.rd (Int.chSnap m)).testBit 0
def Lane.chLanes (L : Lane) (m : Nat) : Nat := slice 1 3 (L.rd (Int.chSnap m))
def Lane.chAxes (L : Lane) (m : Nat) : Nat := slice 8 8 (L.rd (Int.chSnap m))

/-- The contributors of a channel, by lane, with their messages (R233). -/
def Lane.contributors (L : Lane) (ms : Msgs) (present m : Nat) : List (Nat × FrameMsg) :=
  (List.range 3).filterMap (fun s => match ms.of s with
    | some f => if present.testBit s && f.state = stActive && (L.chLanes m).testBit s && ! f.absent.testBit m && (f.demands[m]?).isSome then some (s, f) else none
    | none => none)

/-- The mean of two values; a half is rounded either way. -/
def meanOf (a b : Int) : Int := divRound 233 (a + b) 2

/-- The applied value of a channel, its acceleration and whether two contributors disagree (R233). (DEDUCED, assumption 45) -/
def agreedOf (band : Int) (held heldAcc : Int) : List (Int × Int) → Int × Int × Bool
  | [a, b, c] => (middle a.1 b.1 c.1, middle a.2 b.2 c.2, false)
  | [a, b] =>
    let acc := meanOf a.2 b.2
    if ((a.1 - b.1).natAbs : Int) ≤ band then (meanOf a.1 b.1, acc, false) else
    let near := if a.1.natAbs ≤ b.1.natAbs then a.1 else b.1
    let h := divRound 233 band 2
    (clampI (near - h) (near + h) (meanOf a.1 b.1), acc, true)
  | [a] => (a.1, a.2, false)
  | _ => (held, heldAcc, false)

/-- The stop request that a lane proposes; it is decided with the others at the window close (R44, R234). -/
def Lane.proposeStop (L : Lane) : Lane :=
  if L.rd Int.restrict < mSafeStop then (L.wr Int.restrict mSafeStop).wr Int.restrictCause 0x07 else L

/-- A lasting disagreement of a channel: an outlier among three exits; two propose a stop (R234). (DEDUCED, assumption 45) -/
def Lane.disagreement (L : Lane) (m n : Nat) (bad : Bool) : Lane :=
  let K := if bad then L.inc (LSC_CH_STAT.DIS_RUN m) else L.clr (LSC_CH_STAT.DIS_RUN m)
  let K := if bad && n = 3 then K.inc (Int.disRun3 m) else K.clr (Int.disRun3 m)
  let K := if bad && n = 2 then K.inc (Int.disRun2 m) else K.clr (Int.disRun2 m)
  let lim := K.rd LSC_AGR_LIMITS.DIS_FRAMES
  if lim ≤ K.rd (Int.disRun3 m) ∧ 0 < K.rd (Int.disRun3 m) then ((K.set (LSC_CH_STAT.OUTLIER m)).clr (Int.disRun3 m)).exitOn 0x5B
  else if lim ≤ K.rd (Int.disRun2 m) ∧ 0 < K.rd (Int.disRun2 m) then ((K.clr (Int.disRun2 m)).raise 0x5A).proposeStop
  else K

/-- The agreement of a channel at F3 (R233, R234). -/
def Lane.agree (L : Lane) (ms : Msgs) (present m : Nat) : Lane :=
  if ! L.chOn m then L else
  let cs := L.contributors ms present m
  let n := cs.length
  let band := L.rdI (LSC_CH_BAND.BAND m)
  let r := agreedOf band (L.rdI (LSC_CH_APPLIED.APPLIED m)) (L.rdI (Int.chAcc m)) (cs.map (fun (c : Nat × FrameMsg) => (c.2.demands.getD m 0, c.2.accs.getD m 0)))
  let K := ((L.wrI (LSC_CH_APPLIED.APPLIED m) r.1).wrI (Int.chAcc m) r.2.1).wr (LSC_CH_STAT.RULE m) (if n = 0 then 3 else n - 1)
  let K := (K.wr (LSC_CH_STAT.CONTRIB m) n).iff r.2.2 (fun J => J.set (LSC_CH_STAT.DISAGREE m))
  let bad := match cs.find? (fun (c : Nat × FrameMsg) => c.1 = L.me) with
    | none => false
    | some c => if n = 3 then decide (band < ((c.2.demands.getD m 0 - r.1).natAbs : Int)) else n = 2 && r.2.2
  K.disagreement m n bad

/-- Whether a lane's demands lie in band on every enabled channel it shares that has a contributor (R27, R234).
(DESIGN CHOICE, assumption 113) -/
def Lane.inBand (L : Lane) (s : Nat) (f : FrameMsg) : Bool :=
  (List.range 16).all (fun m => ! (L.chOn m && (L.chLanes m).testBit s && L.rd (LSC_CH_STAT.CONTRIB m) ≠ 0) ||
    decide (((f.demands.getD m 0 - L.rdI (LSC_CH_APPLIED.APPLIED m)).natAbs : Int) ≤ L.rdI (LSC_CH_BAND.BAND m)))

/-- Consecutive frames in band of a JOINING lane (R27, R49). (DESIGN CHOICE, assumption 113) -/
def Lane.countBand (L : Lane) (s : Nat) (m : Option FrameMsg) : Lane := match m with
  | none => L.clr (Int.bandRun s)
  | some f => if ! f.late && f.state = stJoining && L.inBand s f then L.inc (Int.bandRun s) else L.clr (Int.bandRun s)

/-- The set-point messages of a channel, one per axis, its bank target and SHARE and ILIM (R17, R83, R235, R236, R270).
(DEDUCED, assumption 45) -/
def Lane.sendChannel (L : Lane) (ms : Msgs) (present m : Nat) : Lane :=
  if ! L.chOn m || L.chAxes m = 0 then L else
  let cs := L.contributors ms present m
  let reqs := cs.map (fun (c : Nat × FrameMsg) => c.2.bankReq.getD m 0)
  let split := reqs.any (fun r => r ≠ reqs.headD 0)
  let bank := if split then 0 else reqs.headD 0
  let share := if cs.any (fun (c : Nat × FrameMsg) => c.1 = L.me) then 65536 / cs.length else 0
  let full := (List.range 3).all (fun s => ! (L.chLanes m).testBit s || cs.any (fun (c : Nat × FrameMsg) => c.1 = s))
  let K := L.iff (2 ≤ bank && L.rd (LSC_CH_CFG.BANK_REQ m) = bank) (fun J => J.clr (LSC_CH_CFG.BANK_REQ m))
  K.forN 8 (fun n J =>
    if ! (J.chAxes m).testBit n then J else
    let ramp := J.on SSF_STATUS.SS_ACTIVE && J.bitOf Int.rampAxes n
    let ilim := if full || J.on (Int.derated n) then 1000 else 10 * J.rd CFG_SAFE_PAR.BOOST
    J.toField (.setpoint ⟨2 ^ n, if ramp then 0 else J.rdI (LSC_CH_APPLIED.APPLIED m), if ramp then 0 else J.rdI (Int.chAcc m), some share, some ilim,
      bank, J.rd Int.frameAt + 1000 * J.rd LSC_AGR_CFG.APPLY_OFS⟩))

/-- BANK_SPLIT is set where the contributors of an enabled channel carry different requests (R235). -/
def Lane.bankSplits (L : Lane) (ms : Msgs) (present : Nat) : Lane :=
  L.forN 16 (fun m K =>
    let reqs := (K.contributors ms present m).map (fun (c : Nat × FrameMsg) => c.2.bankReq.getD m 0)
    K.iff (K.chOn m && reqs.any (fun r => r ≠ reqs.headD 0)) (fun J => J.set LSC_AGR_STATUS.BANK_SPLIT))

/-- F4: a lane in READY, JOINING or ACTIVE issues its set-point messages, none from E0 on (R235, R236). -/
def Lane.sendChannels (L : Lane) (ms : Msgs) (present : Nat) : Lane :=
  let K := L.bankSplits ms present
  if K.on Int.e0 || ! liveState K.state then K else K.forN 16 (fun m K => K.sendChannel ms present m)

/-! ### Safe stop and seal at F3 (R271, R273, R281) -/

/-- The envelope of a ramp axis in 10^-9 of 2^-31 per unit, never below 0 (R271). -/
def Lane.wEnv (L : Lane) (n : Nat) : Nat :=
  let dt := L.now - L.rd Int.s0Time - L.rd SSF_CFG.T_DLY * 1000000
  (L.rd (Int.w0 n) + L.rd SSF_WLIM.W_MARGIN * 2 ^ 23) * 1000000000 - L.rd SSF_WLIM.W_ENV_DEC * 2 ^ 31 * dt / 1000

/-- The envelopes at F3 while SS1 runs; a violation proposes TORQUE-OFF and the SSF requests STO (R46, R47, R271, R272).
(DEDUCED, assumption 47) -/
def Lane.envelopes (L : Lane) : Lane :=
  let L := L.iff (L.on Int.s0Have && L.on SSF_CFG.VEH_EN) (fun K => K.sat SSF_STATUS.V_ENV (divRound 271 K.vEnv 10000000000).toNat)
  if ! L.on SSF_STATUS.SS_ACTIVE then L else
  let lim := L.rd SSF_CFG.ENV_FILT
  let veh := L.on SSF_CFG.VEH_EN && L.on SSF_STATUS.VEH_VALID && decide (L.vEnv < L.rd SSF_VEH.VEH_SPEED * 10000000000)
  let K := if veh then L.inc Int.envRunVeh else L.clr Int.envRunVeh
  let K := K.forN 8 (fun n J =>
    if J.bitOf Int.rampAxes n && decide (J.wEnv n < (J.rdI (Int.axisSpeed n)).natAbs * 1000000000) then J.inc (Int.envRun n) else J.clr (Int.envRun n))
  let viol (J : Lane) : Bool := decide (lim ≤ J.rd Int.envRunVeh) || (List.range 8).any (fun n => decide (lim ≤ J.rd (Int.envRun n)))
  if viol K && ! viol L then (((K.set SSF_FLAGS.ENV_VIOL).raise 0xB1).proposeTorqueOff 0x09).sto else K

/-- Standstill at F3 (R273); in SAFE-STOP, and in an operating mode with STOP_PENDING, the lane then proposes TORQUE-OFF and the SSF
requests STO. The conditions hold since the event that made them hold, or, where only time made them hold, since v_env reached 0.
(DEDUCED, assumption 47) -/
def Lane.standstillNow (L : Lane) : Lane :=
  if ! L.stillCond then L.evalStill else
  let K := if L.on Int.stillRun then L else (L.set Int.stillRun).wr Int.stillAt (min L.now L.vEnvZeroAt)
  let K := (K.put SSF_STATUS.STILL (decide (1000000 * K.rd SSF_STILL.T_STILL ≤ K.now - K.rd Int.stillAt))).watchToken
  K.iff (K.on SSF_STATUS.STILL && (K.mode = mSafeStop || (operating K.mode && K.on CFG_MODE_STATUS.STOP_PENDING)))
    (fun J => (J.proposeTorqueOff 0x08).sto)

/-- PEER_x of a lane (R285). -/
def peerOf (n : Nat) : Fld := if n = 0 then SSF_SEAL.PEER_A else if n = 1 then SSF_SEAL.PEER_B else SSF_SEAL.PEER_C

/-- The readings heard, and the seal split after 16 consecutive frames (R281). (DEDUCED, assumption 48) -/
def Lane.sealFrame (L : Lane) (ms : Msgs) (present : Nat) : Lane :=
  L.fittedLanes.foldl (fun K s =>
    if s = K.me then K.wr (peerOf s) (K.rd SSF_SEAL.READING) else
    let K := K.wr (peerOf s) (match ms.of s with
      | some f => f.sealRd
      | none => 0xF)
    let differs := present.testBit s && (match ms.of s with
      | some f => f.sealRd ≠ K.rd SSF_SEAL.READING
      | none => false)
    let K := if differs then K.inc (Int.sealRun s) else K.clr (Int.sealRun s)
    if K.rd (Int.sealRun s) = 16 then (K.set SSF_FLAGS.SEAL_SPLIT).raise 0xB6 else K) L

end Sys2Proof.Machine
end

