-- ==== Sys2Proof/Machine/Agree.lean ====
section
/-! DEFINITION. What the lanes decide at a window close: device-mode transitions (R43 to R51, R54), the lease claimant and the
SA power of standbys (R251, R257, R262); and the commands that ask for modes, keys and resets. -/

namespace Sys2Proof.Machine

/-! ### The device mode (R44 to R50) -/

/-- A transition that is decided: its rank of R45, the mode, the cause and lane of R58, and what it is: 0 plain, 1 a lane lost,
2 a rejoin, 3 operation, 4 a restart. -/
structure Decision where
  rank : Nat
  mode : Nat
  cause : Nat
  lane : Nat
  kind : Nat
deriving DecidableEq, Repr

/-- The decision that R45 takes: the lowest rank, the first of several. A rejoin ranks before the other permissive ones, and among these
a request comes before the seal and the key. (DESIGN CHOICE, assumption 100) -/
def firstDecision : List Decision → Option Decision
  | [] => none
  | d :: r => match firstDecision r with
    | none => some d
    | some e => if d.rank ≤ e.rank then some d else some e

/-- The device mode for a number of lanes lost (R29). -/
def lossMode (v : Variant) (lost : Nat) : Nat := match v, lost with
  | .t, 0 => mOperate3
  | .t, 1 => mOperate2
  | .t, 2 => mOperate1
  | .d, 0 => mOperate2
  | .d, 1 => mOperate1
  | _, _ => mTorqueOff

/-- The present lanes and their messages, lowest first. -/
def Lane.presentMsgs (L : Lane) (ms : Msgs) (present : Nat) : List (Nat × FrameMsg) :=
  L.fittedLanes.filterMap (fun s => if present.testBit s then (ms.of s).map (fun f => (s, f)) else none)

/-- Whether a sibling is cut off: no message of the frame and no Felt link to it, as when its host die has lost what sends
(R24, R29, R309). (DESIGN CHOICE, assumption 41) -/
def Lane.cutOff (L : Lane) (ms : Msgs) (s : Nat) : Bool := (ms.of s).isNone && ! L.on (FLT_P_STATUS.LINK (L.portTo s))

/-- The lanes in authority as this lane last heard them (R29, R42). A lane whose E0 follows its message counts by its message (R43).
(DESIGN CHOICE, assumption 41) -/
def Lane.activeMask (L : Lane) (ms : Msgs) : Nat :=
  let own := match ms.of L.me with
    | some f => if f.late then L.state = stActive && ! L.on Int.e0 else f.state = stActive
    | none => L.state = stActive && ! L.on Int.e0
  L.fittedLanes.foldl (fun n s =>
    if (if s = L.me then own else L.rd (Int.known s) = stActive && ! L.cutOff ms s) then setBit n s else n) 0

/-- Whether a restrictive proposal acts in a mode (R44, R47, R268). -/
def restrictActs (r mode : Nat) : Bool := operating mode || mode = mService || (r = mTorqueOff && mode = mSafeStop)

/-- Restrictive proposals of the present lanes (R44, R47). (DESIGN CHOICE, assumption 22) -/
def Lane.restrictDecisions (L : Lane) (pm : List (Nat × FrameMsg)) : List Decision :=
  pm.filterMap (fun (p : Nat × FrameMsg) =>
    if p.2.restrict = 0 || ! restrictActs p.2.restrict L.mode then none
    else if p.2.restrict = mTorqueOff ∨ L.mode = mService then some ⟨0, mTorqueOff, p.2.cause, p.1, 0⟩
    else some ⟨1, mSafeStop, p.2.cause, p.1, 0⟩)

/-- The lane whose loss decides: one that was in authority at the latest close, else one that is not, else this lane.
(DESIGN CHOICE, assumption 41) -/
def Lane.lostLane (L : Lane) (active : Nat) : Nat :=
  match L.fittedLanes.find? (fun s => (L.rd Int.prevActive).testBit s && ! active.testBit s) with
  | some s => s
  | none => (L.fittedLanes.find? (fun s => ! active.testBit s)).getD L.me

/-- The mode change of R29 after a lane is lost (R30, R47). -/
def Lane.lossDecision (L : Lane) (active : Nat) : List Decision :=
  let lost := L.fittedLanes.length - popCount 3 active
  let m := lossMode L.strap.variant lost
  if operating L.mode && decide (L.mode < m) then
    [if m = mTorqueOff then ⟨0, m, 0x0A, L.lostLane active, 1⟩ else ⟨2, m, 0x04, L.lostLane active, 1⟩]
  else if L.mode = mSafeStop && active = 0 then [⟨0, mTorqueOff, 0x0A, L.lostLane active, 0⟩] else []

/-- The rejoin of R27: the lowest present JOINING lane in band for eight frames, with fewer than three exits, whose record matches. -/
def Lane.rejoinDecision (L : Lane) (own : Bool) (pm : List (Nat × FrameMsg)) : List Decision :=
  if ! operating L.mode || decide (L.mode ≤ lossMode L.strap.variant 0) then [] else
  match pm.find? (fun (p : Nat × FrameMsg) => p.2.state = stJoining && (p.1 ≠ L.me || own) && decide (8 ≤ L.rd (Int.bandRun p.1)) && decide (L.exitsNow p.1 p.2 < 3)) with
  | none => []
  | some p => [⟨3, L.mode - 1, 0x05, p.1, 2⟩]

/-- The latest refusal that stands: none once TARGET of some present lane has been written after it (R48). (DEDUCED, assumption 42) -/
def Lane.refusalStands (L : Lane) (pm : List (Nat × FrameMsg)) : Bool :=
  let at_ := (pm.map (fun (p : Nat × FrameMsg) => p.2.refusedAt)).foldl max (L.rd Int.refusedAt)
  at_ ≠ 0 && ! pm.any (fun (p : Nat × FrameMsg) => decide (at_ < p.2.wroteAt))

/-- The permissive target a lane proposes: its key-off transition, else its TARGET (R44, R50, R55). (DEDUCED, assumption 44) -/
def FrameMsg.permissive (m : FrameMsg) : Nat := if m.keyOff ≠ 0 then m.keyOff else m.target

/-- The target that every present lane proposes in the frame, 0 when there is none; a request that was refused forms none, and a key-off
is no request (R44, R48, R50). -/
def Lane.agreedTarget (L : Lane) (pm : List (Nat × FrameMsg)) : Nat :=
  let t := (pm.head?.map (fun (p : Nat × FrameMsg) => p.2.permissive)).getD 0
  let key := pm.any (fun (p : Nat × FrameMsg) => p.2.keyOff ≠ 0)
  if pm.all (fun (p : Nat × FrameMsg) => p.2.permissive = t) && (key || ! L.refusalStands pm) then t else 0

/-- A request is refused (R47, R48). (DEDUCED, assumption 94) -/
def Lane.refuseStart (L : Lane) : Lane := ((L.set CFG_MODE_STATUS.START_REFUSED).wr Int.refusedAt (max 1 L.now)).clr Int.waiting

/-- An operate request in STANDBY, or a restart request in TORQUE-OFF: it is taken, waits for missing lanes, or is refused
(R47, R48), an operate request also in the life-cycle state MANUFACTURE, which does not reach an operating mode (R379). -/
def Lane.startRequest (L : Lane) (pm : List (Nat × FrameMsg)) (operate : Bool) : Lane × List Decision :=
  let ok := (! operate || L.rd LCS_STATE.STATE ≠ 0) && pm.all (fun (p : Nat × FrameMsg) => p.2.keyOn && p.2.ssOk &&
    (if operate then ! p.2.mismatch && p.2.sealRd ≠ 7 else p.2.still))
  let n := pm.length
  let fit := L.fittedLanes.length
  let degraded := L.strap.variant = .t && L.on CFG_MODE_POLICY.START_DEGRADED && n = 2
  let who := (pm.head?.map Prod.fst).getD L.me
  if ! ok then (L.refuseStart, [])
  else if n = fit || degraded then
    (L.clr Int.waiting, [⟨4, if operate then lossMode L.strap.variant (fit - n) else mStandby, 0x03, who, if operate then 3 else 4⟩])
  else (L.set Int.waiting, [])

/-- Permissive transitions (R44, R47, R48, R50, R55): the lane with its waiting and split flags, and what is decided.
(DESIGN CHOICE, assumption 22, DEDUCED, assumption 42, DEDUCED, assumption 80) -/
def Lane.permissive (L : Lane) (pm : List (Nat × FrameMsg)) : Lane × List Decision :=
  let targets := (pm.map (fun (p : Nat × FrameMsg) => p.2.permissive)).filter (· ≠ 0)
  let K := L.iff (targets.any (fun t => t ≠ targets.headD 0)) (fun J => J.set CFG_MODE_STATUS.AGREE_SPLIT)
  let K := K.iff (! K.refusalStands pm) (fun J => J.clr Int.refusedAt)
  let t := L.agreedTarget pm
  let who := (pm.head?.map Prod.fst).getD L.me
  let still := pm.all (fun (p : Nat × FrameMsg) => p.2.still)
  let off := pm.find? (fun (p : Nat × FrameMsg) => p.2.keyOff ≠ 0)
  let plain (m : Nat) : List Decision := match off with
    | some p => [⟨4, m, 0x0B, p.1, 0⟩]
    | none => [⟨4, m, 0x03, who, 0⟩]
  let r : Lane × List Decision :=
    if L.mode = mStandby ∧ t = 6 then K.startRequest pm true
    else if L.mode = mTorqueOff ∧ t = 5 then K.startRequest pm false
    else (K.clr Int.waiting,
      if L.mode = mStandby ∧ t = 11 then (if still && pm.all (fun (p : Nat × FrameMsg) => p.2.sealRd = 7) then plain mService else [])
      else if t = 12 ∧ (L.mode = mStandby ∨ ((L.mode = mTorqueOff ∨ L.mode = mService) ∧ pm.all (fun (p : Nat × FrameMsg) => p.2.keyOff = 12))) then
        (if L.rd LCS_STATE.STATE = 0 then [] else plain mShutdown)
      else if operating L.mode ∧ t = 5 then (if still && ! L.on CFG_MODE_STATUS.STOP_PENDING then plain mStandby else [])
      else if L.mode = mService ∧ t = 5 then plain mStandby else [])
  let sealed := match pm.find? (fun (p : Nat × FrameMsg) => p.2.sealRd ≠ 7) with
    | some p => if L.mode = mService then [(⟨4, mStandby, 0x0C, p.1, 0⟩ : Decision)] else []
    | none => []
  (r.1, r.2 ++ sealed)

/-- A decision takes effect, a rejoin at the next frame start (R27, R29, R43, R47, R48). -/
def Lane.enact (L : Lane) (pm : List (Nat × FrameMsg)) (d : Decision) : Lane :=
  if d.kind = 2 then (L.wr Int.rejoin d.lane).wr Int.rejoinMode d.mode else
  let K := L.iff (d.kind = 1 && d.mode = mOperate1) (fun J => J.set CFG_MODE_STATUS.STOP_PENDING)
  let K := K.iff (d.kind = 3) (fun J => (pm.foldl (fun J (p : Nat × FrameMsg) => J.wr (Int.known p.1) stActive) J).iff (liveState J.state && ! J.on Int.e0) (fun J => J.setState stActive))
  K.setMode d.mode d.cause d.lane

/-- A lane that is not itself present adopts the mode of the lowest live sibling; from its E0 on, with none, no lane is left in
authority (R25, R29, R54). -/
def Lane.adopt (L : Lane) (ms : Msgs) : Lane :=
  let sib := L.siblings.find? (fun s => match ms.of s with
    | some f => liveState f.state && decide (mStandby ≤ f.mode)
    | none => false)
  match sib with
  | some s => match ms.of s with
    | some f => L.setMode f.mode 0x0E s
    | none => L
  | none => if L.on Int.e0 && (operating L.mode || L.mode = mSafeStop) then L.setMode mTorqueOff 0x0A L.me else L

/-- Lanes lost for R29: in an operating mode and in SAFE-STOP every lane not in authority; else a lane that has exited, until it
is present again. (DESIGN CHOICE, assumption 41) -/
def Lane.countLost (L : Lane) (ms : Msgs) (present : Nat) : Lane :=
  let active := L.activeMask ms
  let out (s : Nat) : Bool := if s = L.me then L.on Int.e0 else (match ms.of s with
    | some f => f.state = stExited
    | none => false)
  let gone := L.fittedLanes.foldl (fun n s =>
    if (if operating L.mode || L.mode = mSafeStop then ! active.testBit s else ((L.rd Int.gone).testBit s && ! present.testBit s) || out s)
    then setBit n s else n) 0
  ((L.wr Int.gone gone).wr CFG_MODE_STATUS.LANES_LOST (popCount 3 gone)).wr Int.prevActive active

/-- KEYOFF_HELD: KEY_ON_x low while an actuator of a moving device is above standstill (R50). -/
def Lane.syncKeyHeld (L : Lane) : Lane :=
  L.put CFG_MODE_STATUS.KEYOFF_HELD ((operating L.mode || L.mode = mSafeStop) && ! L.on Int.keyOn && ! L.on SSF_STATUS.STILL)

/-- A proposal that the lane has made at this window close, by its envelopes, its standstill or a disagreement, is decided on with the
others (R234, R271, R273); `own` is its proposal before. (DEDUCED, assumption 47) -/
def Lane.freshProposal (L : Lane) (pm : List (Nat × FrameMsg)) (own : Nat × Nat) : List (Nat × FrameMsg) :=
  let now := L.proposal
  if now = own then pm else
  pm.map (fun (p : Nat × FrameMsg) => if p.1 = L.me then (p.1, { p.2 with restrict := now.1, cause := now.2 }) else p)

/-- A proposal ends in a mode in which it does not act, once it has been sent: one that stands at a transition goes out
in the next frame (R44). (DEDUCED, assumption 47) -/
def Lane.pruneProposal (L : Lane) (was : Nat) : Lane :=
  if restrictActs (L.rd Int.restrict) L.mode || L.mode ≠ was then L else L.wr Int.restrict 0

/-- The device mode at a window close (R43 to R50, R54). -/
def Lane.decideMode (L : Lane) (ms : Msgs) (present : Nat) (own : Nat × Nat) : Lane :=
  let K := if ! L.selfSeen ms present then L.adopt ms else
    let pm := L.presentMsgs ms present
    let p := L.permissive pm
    match firstDecision (L.restrictDecisions (L.freshProposal pm own) ++ L.lossDecision (L.activeMask ms) ++ L.rejoinDecision (L.selfMatched ms) pm ++ p.2) with
    | none => p.1
    | some d => p.1.enact pm d
  ((K.countLost ms present).pruneProposal L.mode).syncKeyHeld

/-! ### The lease at the window close (R251, R257, R262) -/

/-- The claimant of R251: PREF among the lanes that qualify, else the lowest. -/
def Lane.claimant (L : Lane) (pm : List (Nat × FrameMsg)) : Option Nat :=
  let ok := (pm.filter (fun (p : Nat × FrameMsg) => (p.2.state = stReady || p.2.state = stActive) && ! p.2.barred)).map Prod.fst
  if ok.contains (L.rd LSE_CFG.PREF) then some (L.rd LSE_CFG.PREF) else ok.head?

/-- In STANDBY, while no lane holds or claims, the lanes choose one claimant; every lane takes this F3 as T_r (R251). -/
def Lane.standbyClaim (L : Lane) (ms : Msgs) (present : Nat) : Lane :=
  if L.mode ≠ mStandby ∨ L.rd LSE_STATUS.HOLDER ≠ 3 then L else
  match L.claimant (L.presentMsgs ms present) with
  | none => L
  | some who =>
    let K := (L.wr Int.leaseTr L.leaseNow).set Int.watchArmed
    if who = K.me && K.isStandby then K.wakeSa.claim false else K

/-- A planned handover whose ACCEPT has not come by F3 of frame j + 1 fails (R262). -/
def Lane.handoverFrame (L : Lane) : Lane :=
  if L.rd Int.hoPhase ≠ 2 then L
  else if L.rd Int.hoFrames = 0 then L.wr Int.hoFrames 1
  else (((L.wr Int.hoPhase 0).setRole roleHolder).set LSE_FLAGS.HANDOVER_FAIL).raise 0xA5

/-- The SA power of a standby: on after a frame without a renewal while the lease watch is armed, and frames with renewals counted
(R257, R425). -/
def Lane.saPowerFrame (L : Lane) : Lane :=
  let K := if ! L.isStandby then L.clr Int.renewRun
    else if L.on Int.renewSeen then (if L.rd Int.acceptNext = 1 then L.clr Int.renewRun else L.inc Int.renewRun)
    else (L.clr Int.renewRun).iff (L.on Int.watchArmed) (fun J => J.wakeSa)
  K.clr Int.renewSeen

/-- The lease unit at F3. -/
def Lane.closeLease (L : Lane) (ms : Msgs) (present : Nat) : Lane :=
  let K := L.siblings.foldl (fun J n => if present.testBit n then J else J.putBit Int.eligMask n false) L
  let K := K.followSuccessor
  let heard := L.siblings.foldl (fun n s => match ms.of s with
    | some f => if present.testBit s then n ||| f.contReq else n
    | none => n) 0
  ((K.wr Int.contHeard heard).handoverFrame.standbyClaim ms present).saPowerFrame.syncEligible

/-- WINDOW_CLOSE: F3, with the RMS current of each winding over the frame in 0.1 A (R16 to R18, R43, R231 to R237, R251, R271 to
R273, R281). -/
def execWindowClose (l : LaneId) (irms : List Nat) (s : State) : Out :=
  .next (s.onLane l (fun L =>
    if ! L.framesRun || ! L.on Int.frameOpen then L else
    let ms := L.frameMsgs
    let onTime := ms.onTime
    let K := L.siblings.foldl (fun J s => J.wr (laneStateOf s) (match ms.of s with
      | some f => f.state
      | none => 0xF)) L
    let split := L.on Int.viewHave && L.siblings.any (fun s => match ms.of s with
      | some f => ! f.late && f.view ≠ L.rd Int.heardView
      | none => false)
    let K := K.iff split (fun J => (J.set LSC_AGR_STATUS.VIEW_SPLIT).raise 0x5C)
    let K := K.fittedLanes.foldl (fun J s => J.countIn (K.selfMatched ms) s (ms.of s)) K
    let present := K.presentMask ms
    let K := (K.wr LSC_AGR_STATUS.MUTUAL present).wr CFG_TOPOLOGY.LANES_PRESENT present
    let K := K.forN 3 (fun s J => if present.testBit s then J.inc (Int.presRun s) else J.clr (Int.presRun s))
    let K := (K.fittedLanes.foldl (fun J s => J.countLate s (onTime.testBit s)) K).slowExit
    let K := K.siblings.foldl (fun J s => match ms.of s with
      | some f => J.wr (Int.known s) f.state
      | none => J) K
    let K := K.forN 8 (fun n J => J.thermal n (irms.getD n 0))
    let own := K.proposal
    let K := K.forN 16 (fun m J => J.agree ms present m)
    let K := K.fittedLanes.foldl (fun J s => J.countBand s (ms.of s)) K
    let K := ((K.sendChannels ms present).envelopes.standstillNow).sealFrame ms present
    let K := (K.decideMode ms present own).closeLease ms present
    ((K.wr Int.heardView onTime).set Int.viewHave).clr Int.frameOpen))

/-! ### Requests, keys, exits and resets -/

/-- Firmware writes TARGET (R48, R55). (DEDUCED, assumption 94) -/
def Lane.writeTarget (L : Lane) (t : Nat) : Lane := (((L.wr CFG_MODE_REQ.TARGET t).wr Int.targetAt L.now).clr Int.targetDone).syncTarget

/-- MODE_REQ_CLEAR (R55). -/
def execModeReqClear (l : LaneId) (s : State) : Out := .next (s.onLane l (fun L => L.writeTarget 0))

/-- STANDBY_REQUEST (R55). -/
def execStandbyRequest (l : LaneId) (s : State) : Out := .next (s.onLane l (fun L => L.writeTarget 5))

/-- OPERATE_REQUEST (R55). -/
def execOperateRequest (l : LaneId) (s : State) : Out := .next (s.onLane l (fun L => L.writeTarget 6))

/-- A stop request of firmware starts SS1 in the lane at once and goes to the siblings over Felt (R44, R47, R55, R268, R310). -/
def Lane.stopTarget (L : Lane) : Lane := ((L.writeTarget 9).requestStop 0x07).sendFeltAll .stopRequest

/-- STOP_REQUEST (R55). (DEDUCED, assumption 46) -/
def execStopRequest (l : LaneId) (s : State) : Out := .next (s.onLane l (fun L => L.stopTarget))

/-- SERVICE_REQUEST (R55). -/
def execServiceRequest (l : LaneId) (s : State) : Out := .next (s.onLane l (fun L => L.writeTarget 11))

/-- SHUTDOWN_REQUEST (R55). -/
def execShutdownRequest (l : LaneId) (s : State) : Out := .next (s.onLane l (fun L => L.writeTarget 12))

/-- LANE_WAIT_EXPIRY: the lanes are still missing and the request is refused (R48). -/
def execLaneWaitExpiry (l : LaneId) (s : State) : Out := .next (s.onLane l (fun L => if L.on Int.waiting then L.refuseStart else L))

/-- KEYOFF_HOLD_EXPIRY: key-off has lasted KEYOFF_HOLD (R47, R50). -/
def execKeyoffHoldExpiry (l : LaneId) (s : State) : Out :=
  .next (s.onLane l (fun L => if L.on Int.keyOn then L else L.set Int.keyOffHeld))

/-- KEY_ON_FALL: key-off timing starts (R47, R50). -/
def execKeyOnFall (l : LaneId) (s : State) : Out :=
  .next (s.onLane l (fun L => ((L.clr Int.keyOn).clr Int.keyOffHeld).syncKeyHeld))

/-- A lane in DORMANT is woken: the power-on of its regions acts as a host die reset; they are up at W1, and the release is
P1 (R47, R58, R427). (DEDUCED, assumption 52) -/
def Lane.wakeDormant (L : Lane) : Lane :=
  let K := L.hostReset
  let K := ((K.wr PSC_STATUS.CORE 3).wr PSC_STATUS.FABRIC 3).wr PSC_STATUS.NET 3
  ((K.wr CFG_MODE_STATUS.PREV_MODE mDormant).wr CFG_MODE_CAUSE.CAUSE 0x01).wr CFG_MODE_CAUSE.CAUSE_LANE K.me

/-- A privileged wake takes the lane where R47 and R425 to R427 say: KEY_ON (0) and the Nguas wake (2) out of SHUTDOWN through
host die reset, every wake but a debug request out of DORMANT, and every one out of level 2. -/
def Lane.privilegedWake (L : Lane) (w : Nat) : Lane :=
  let K := L.latchWake w
  if K.state = stAsleep then (if w = 4 then K else K.wakeDormant)
  else if K.rd PSC_STATUS.LEVEL_NOW = 2 then K.set Int.deepWake
  else if K.mode = mShutdown ∧ (w = 0 ∨ w = 2) ∧ ¬ K.on Int.pscN4 then
    let J := K.hostReset
    ((J.wr CFG_MODE_STATUS.PREV_MODE mShutdown).wr CFG_MODE_CAUSE.CAUSE 0x01).wr CFG_MODE_CAUSE.CAUSE_LANE J.me
  else K

/-- KEY_ON_RISE: the key is on; it is a privileged wake (R47, R425). -/
def execKeyOnRise (l : LaneId) (s : State) : Out :=
  .next (s.onLane l (fun L =>
    if L.on Int.keyOn then L else (((L.set Int.keyOn).clr Int.keyOffHeld).syncKeyHeld).privilegedWake 0))

/-- LANE_EXIT: a source whose reaction is the lane exit latches E0 (R22). -/
def execLaneExit (l : LaneId) (cause : Nat) (s : State) : Out :=
  .next (s.onLane l (fun L => if sourceDefined cause then L.exitOn cause else L.latchE0 0))

/-- AUTO_REJOIN_RESET: REJOIN_DELAY after E5 the PSC resets the host die of an exited lane (R26). -/
def execAutoRejoinReset (l : LaneId) (s : State) : Out :=
  .next (s.onLane l (fun L =>
    if L.state = stExited && L.on CFG_LANE_RST.AUTO_REJOIN && decide (L.rd (exitsOf L.me) < 3) then L.hostReset else L))

/-- Whether a RESET write is accepted (R26). -/
def Lane.resetAllowed (L : Lane) : Bool :=
  L.state = stExited || ((L.mode = mStandby || L.mode = mTorqueOff || L.mode = mService) && ! L.holds && L.rd LSE_STATUS.ROLE ≠ roleClaiming)

/-- LANE_RESET_REQUEST: firmware writes RESET (R26). -/
def execLaneResetRequest (l : LaneId) (s : State) : Out :=
  .next (s.onLane l (fun L => if L.resetAllowed then L.hostReset else L.inc CFG_LANE_RST.RST_REFUSED))

/-- HOST_DIE_RESET: the host die is reset and held until its release (R26). -/
def execHostDieReset (l : LaneId) (s : State) : Out := .next (s.onLane l (fun L => L.hostReset))

end Sys2Proof.Machine
end

