-- ==== Sys2Proof/Machine/Nguas.lean ====
section
/-! DEFINITION. The Nguas block: schedule, frame receipt, transmission and guardian, cycle end, action instant, node states
and wake (R330 to R352, R356, R357). -/

namespace Sys2Proof.Machine

/-! ### The schedule (R334, R335) -/

/-- Address of entry `n` of mode `m`. -/
def slotAddr (m n : Nat) : Nat := 0x203C0000 + 0x2000 * m + 8 * n

/-- A slot entry of the schedule (R334). -/
structure Slot where
  start : Nat
  len : Nat
  owner : Nat
  sync : Bool
  keep : Bool
  stat : Bool
  buf : Nat
deriving DecidableEq, Repr

/-- The entry two words spell. -/
def slotOf (w0 w1 : Nat) : Slot :=
  { start := slice 0 20 w0, len := slice 20 8 w0, owner := slice 0 6 w1, sync := w1.testBit 6, keep := w1.testBit 7,
    stat := w1.testBit 8, buf := slice 16 7 w1 }

/-- The bytes of an entry; reserved bits are 0. -/
def Slot.bytes (e : Slot) : List Byte :=
  bytesOf 4 (e.start + e.len * 2 ^ 20) ++ bytesOf 4 (e.owner + bit e.sync * 2 ^ 6 + bit e.keep * 2 ^ 7 + bit e.stat * 2 ^ 8 + e.buf * 2 ^ 16)

/-- Entry `n` of mode `m`. -/
def Lane.slot (L : Lane) (m n : Nat) : Slot := slotOf (L.memWord (slotAddr m n) 4) (L.memWord (slotAddr m n + 4) 4)

/-- Whether an entry is used. -/
def Slot.used (e : Slot) : Bool := e.len ≠ 255

/-- Whether an entry is transmitted by this node. -/
def Lane.owns (L : Lane) (e : Slot) : Bool := e.used && e.owner = L.rd NGB_CFG.NODE

/-- The used slots of a mode in slot order. -/
def Lane.usedSlots (L : Lane) (m : Nat) : List (Nat × Slot) :=
  ((List.range 1024).map (fun n => (n, L.slot m n))).filter (fun (p : Nat × Slot) => p.2.used)

/-- T_frame in ns (R331). -/
def frameTime (len : Nat) : Nat := (128 + 10 * len) * 20

/-- The largest NGB_PROP entry, in ns (R335). -/
def Lane.propMax (L : Lane) : Nat := ((List.range 64).map (fun n => L.rd (NGB_PROP.PROP n))).foldl max 0

/-- The schedule mode in force. -/
def Lane.ngbMode (L : Lane) : Nat := L.rd NGB_STATUS.MODE

/-- The length of a cycle in ns. -/
def Lane.cycleNs (L : Lane) : Nat := 1000 * L.rd (NGB_MODE.CYCLE L.ngbMode)

/-! ### Node state and time (R341, R346) -/

abbrev ngbOff : Nat := 0
abbrev ngbListen : Nat := 1
abbrev ngbCold : Nat := 2
abbrev ngbSyncing : Nat := 3
abbrev ngbRun : Nat := 4

/-- The node state. -/
def Lane.nstate (L : Lane) : Nat := L.rd NGB_STATUS.NSTATE

/-- TIME_VALID: SYNCING or RUN with at most OFS_MAX left to slew (R341). -/
def Lane.syncTimeValid (L : Lane) : Lane :=
  L.put NGB_STATUS.TIME_VALID ((L.nstate = ngbSyncing || L.nstate = ngbRun) && decide ((L.rdI Int.ngbSlew).natAbs ≤ L.rd NGB_SYNC.OFS_MAX))

/-- The node changes state. -/
def Lane.setNode (L : Lane) (n : Nat) : Lane :=
  let K := ((L.wr NGB_STATUS.NSTATE n).clr Int.ngbQuiet).clr Int.ngbHeardRun
  let K := K.iff (n = ngbRun) (fun J => (J.clr (Int.ngbChMiss 0)).clr (Int.ngbChMiss 1))
  K.syncTimeValid

/-- Transmission is permitted (R346). (DEDUCED, assumption 64) -/
def Lane.mayTransmit (L : Lane) : Bool := L.netsAct mShutdown

/-- Whether an own slot may be sent: in SHUTDOWN a status frame alone (R52, R346). -/
def Lane.maySend (L : Lane) (e : Slot) : Bool := L.mayTransmit && (L.mode ≠ mShutdown || e.stat)

/-- The node goes OFF: its NET region loses power or the device mode leaves SHUTDOWN for DORMANT (R346). -/
def Lane.nodeOff (L : Lane) : Lane := { (L.setNode ngbOff) with ngbCopies := [] }

/-- The schedule is locked at LOAD and the node listens (R334, R346). -/
def Lane.nodeListen (L : Lane) : Lane := (L.set Int.ngbLock).iff (L.nstate = ngbOff) (fun K => K.setNode ngbListen)

/-- A latched wake is replayed at the power-up of the NET region (R351). -/
def Lane.replayNguasWake (L : Lane) : Lane :=
  if L.rd Int.ngbWakeCh = 0 then L else
  ((L.set NGB_FLAGS.WAKE_RX).wr NGB_FLAGS.WAKE_CH_RX (L.rd Int.ngbWakeCh)).clr Int.ngbWakeCh

/-! ### Receipt (R333, R336, R337, R343) -/

/-- The header of a frame (R332). -/
structure Header where
  node : Nat
  sync : Bool
  cold : Bool
  len : Nat
  slot : Nat
  mode : Nat
  conf : Bool
  cycle : Nat
  mreq : Nat
deriving DecidableEq, Repr

/-- The header eight bytes spell. -/
def headerOf (b : List Nat) : Header :=
  let w := b.getD 2 0 + 256 * b.getD 3 0
  { node := slice 0 6 (b.getD 0 0), sync := (b.getD 0 0).testBit 6, cold := (b.getD 0 0).testBit 7, len := b.getD 1 0 % 256,
    slot := slice 0 10 w, mode := slice 10 3 w, conf := w.testBit 13, cycle := (b.getD 4 0 + 256 * b.getD 5 0) % 65536,
    mreq := slice 0 4 (b.getD 6 0) }

/-- The slot of the mode in force whose acceptance window holds a frame start, in ns on the cycle timer (R343).
(DEDUCED, assumption 60) -/
def Lane.windowOf (L : Lane) (start : Int) : Option (Nat × Slot) :=
  (L.usedSlots L.ngbMode).find? (fun (p : Nat × Slot) =>
    decide ((start - (10 * p.2.start + L.rd (NGB_PROP.PROP p.2.owner) : Nat)).natAbs ≤ 10 * L.rd NGB_TIMING.ACC_WIN))

/-- A little-endian number of payload bytes. -/
def payloadNum (p : List Nat) (o n : Nat) : Nat := ((List.range n).map (fun i => p.getD (o + i) 0 % 256 * 256 ^ i)).sum

/-- The vehicle frame: speed, and the stop request of bit 0 of byte 2 (R268, R272, R337). -/
def Lane.takeVehicle (L : Lane) (payload : List Nat) : Lane :=
  let K := (L.wr SSF_VEH.VEH_SPEED (payloadNum payload 0 2)).set SSF_STATUS.VEH_VALID
  (K.iff ((payload.getD 2 0).testBit 0) (fun J => J.requestStop 0x07)).evalStill

/-- A stored payload goes to copy 0 of its buffer (R338). (DEDUCED, assumption 60) -/
def Lane.storePayload (L : Lane) (e : Slot) (h : Header) (channel : Nat) (payload : List Nat) : Lane :=
  let K : Lane := { L with mem := L.mem.setBytes ramDefault (0x203D0000 + 0x200 * e.buf) (payload.map (BitVec.ofNat 8)) }
  ((K.wr (Int.bufCycle e.buf) h.cycle).set (Int.bufNew e.buf)).wr (Int.bufCh e.buf) channel

/-- The lease renewal a sibling's lane status carries (R252, R336): bytes after those of SYNC. (DEDUCED, assumption 61) -/
def Lane.takeStatus (L : Lane) (src : Nat) (h : Header) (payload : List Nat) : Lane :=
  let o := if h.sync then 8 else 0
  let b1 := payload.getD (o + 1) 0
  if slice 2 2 b1 = src then L.renewalFrom src (payloadNum payload (o + 2) 2) (slice 4 2 b1) else L

/-- A node in COLD hears another node (R346). -/
def Lane.coldHears (L : Lane) (h : Header) : Lane :=
  if L.nstate ≠ ngbCold then L
  else if h.cold then L.setNode ngbListen
  else if h.sync then L.setNode ngbRun else L

/-- What a node in LISTEN keeps of a valid SYNC frame: runs of consecutive cycle numbers, and global time (R341, R346).
(DEDUCED, assumption 62) -/
def Lane.listenTo (L : Lane) (h : Header) (payload : List Nat) : Lane :=
  let e := L.slot h.mode h.slot
  if ! h.sync || ! e.used || e.owner ≠ h.node || e.len ≠ h.len then L else
  let run := L.rd Int.ngbHeardRun
  let run := if run ≠ 0 ∧ h.cycle = L.rd Int.ngbHeardCycle then run
    else if run ≠ 0 ∧ h.cycle = (L.rd Int.ngbHeardCycle + 1) % 65536 then 2 else 1
  (((L.wr Int.ngbHeardRun run).wr Int.ngbHeardCycle h.cycle).wr Int.ngbHeardMode h.mode).wr Int.ngbHeardTime (payloadNum payload 0 8)

/-- A valid frame copy is taken for its slot, or compared with the copy taken before it (R333). `src` is the sibling lane
whose status frame it is, 3 when it is none. -/
def Lane.takeCopy (L : Lane) (n : Nat) (e : Slot) (h : Header) (channel src : Nat) (start : Int) (payload : List Nat) : Lane :=
  let c : NguasCopy := { slot := n, node := h.node, channel := channel, taken := true, sync := h.sync, conf := h.conf, mreq := h.mreq,
                         dev := start - (10 * e.start + L.rd (NGB_PROP.PROP e.owner) : Nat), payload := payload }
  match L.ngbCopies.find? (fun k => k.taken && k.slot = n) with
  | some k =>
    { L with ngbCopies := L.ngbCopies ++ [{ c with taken := false }] }.iff (k.payload ≠ payload) (fun K => (K.set NGB_FLAGS.COPY_DIFF).raise 0xC7)
  | none =>
    let K : Lane := { L with ngbCopies := L.ngbCopies ++ [c] }
    let K := K.iff e.keep (fun J => J.storePayload e h channel payload)
    let K := K.iff (n = K.rd SSF_VEH.VEH_SLOT) (fun J => J.takeVehicle payload)
    (K.iff (src < 3 && src ≠ K.me) (fun J => J.takeStatus src h payload)).coldHears h

/-- A copy inside a window is rejected (R343). -/
def Lane.rejectCopy (L : Lane) (f : Fld) : Lane := (L.inc f).raise 0xC6

/-- NGUAS_FRAME_RECEIPT: a frame copy on channel X or Y (`y`) that starts at `start` ns on the cycle timer; `good` when it
decodes and its CRC checks; its header and payload bytes; `src` the sibling lane whose status frame it is, 3 for any other
frame (R333, R336, R337, R343, R346). (DEDUCED, assumption 60) -/
def execNguasFrameReceipt (l : LaneId) (y good : Bool) (start : Int) (src : Fin 4) (bytes : List Nat) (s : State) : Out :=
  .next (s.onLane l (fun L =>
    let h := headerOf bytes
    let payload := bytes.drop 8
    if L.nstate = ngbOff || ! L.on (CKG_DOM_CTL.RUN_EN 3) then L
    else if L.nstate = ngbListen then (if good && payload.length = h.len then L.listenTo h payload else L)
    else match L.windowOf start with
      | none => (L.inc NGB_CNT.GAP_CNT).raise 0xC5
      | some (n, e) =>
        if ! good then L.rejectCopy (if y then NGB_CNT.CRC_Y else NGB_CNT.CRC_X)
        else if h.node = e.owner && h.len = e.len && h.slot = n && h.mode = L.ngbMode && h.cycle = L.rd NGB_STATUS.CYCLE_NO && payload.length = h.len then
          L.takeCopy n e h (bit y) src start payload
        else L.rejectCopy NGB_CNT.HDR_ERR))

/-! ### Transmission (R331, R336, R344, R347) -/

/-- The eight bytes of lane status (R336). -/
def Lane.statusBytes (L : Lane) : List Nat :=
  let thermal := (List.range 8).any (fun n => L.on (Int.derated n))
  [packWord [(L.mode, 0), (L.state, 4), (L.rd CFG_MODE_STATUS.STOP_PENDING, 7)],
   packWord [(L.me, 0), (L.rd LSE_STATUS.HOLDER, 2), (L.rd LSE_STATUS.SUCCESSOR, 4), (L.rd SSF_STATUS.SS_ACTIVE, 6), (bit thermal, 7)],
   L.rd LSE_STATUS.SEQ % 256, L.rd LSE_STATUS.SEQ / 256,
   packWord [(L.rd CFG_TOPOLOGY.LANES_PRESENT, 0), (L.rd CFG_MODE_STATUS.LANES_LOST, 3)],
   L.rd CFG_TOPOLOGY.PACKAGE_POS,
   if L.on BGR_FIRST.VALID then L.rd BGR_FIRST.ID else 0,
   if L.on BGR_FIRST.VALID then L.rd BGR_FIRST.SEV else 0]

/-- The payload the node sends in a slot: hardware bytes first, then those of copy 1 of the buffer (R336, R338). -/
def Lane.payloadOf (L : Lane) (e : Slot) : List Nat :=
  let hw := (if e.sync then (bytesOf 8 (L.rd Int.ngbCycleTime)).map BitVec.toNat else []) ++ (if e.stat then L.statusBytes else [])
  let fw := (L.mem.bytes ramDefault (0x203D0100 + 0x200 * e.buf) e.len).map BitVec.toNat
  (hw ++ fw.drop hw.length).take e.len

/-- The MREQ a frame carries: the pending switch, else the request (R350). -/
def Lane.mreqSent (L : Lane) : Nat := if L.on NGB_STATUS.SW_PEND then L.rd NGB_STATUS.SW_MODE + 8 else L.rd NGB_MODE_REQ.TARGET

/-- The bytes of the frame of a slot: the header, with COLD in every frame sent in COLD, the payload, and the CRC of both, least
significant byte first; reserved bits are 0 (R332, R347, R350). -/
def Lane.frameBytes (L : Lane) (n : Nat) (e : Slot) : List Nat :=
  let w := n + 2 ^ 10 * L.ngbMode + 2 ^ 13 * L.rd NGB_STATUS.SW_PEND
  let c := L.rd NGB_STATUS.CYCLE_NO
  let head := [packWord [(L.rd NGB_CFG.NODE, 0), (bit e.sync, 6), (bit (L.nstate = ngbCold), 7)], e.len, w % 256, w / 256, c % 256, c / 256,
    L.mreqSent, 0]
  let body := head ++ L.payloadOf e
  body ++ (bytesOf 4 (crc32c (body.map (BitVec.ofNat 8)))).map BitVec.toNat

/-- The frame of a slot is sent and read back on the channels given. -/
def Lane.sendSlot (L : Lane) (n : Nat) (e : Slot) (x y : Bool) : Lane :=
  let c (ch : Nat) (t : Bool) : NguasCopy := { slot := n, node := e.owner, channel := ch, taken := t, sync := e.sync, conf := L.on NGB_STATUS.SW_PEND,
                                               mreq := L.mreqSent, dev := 0, payload := L.payloadOf e }
  { L with ngbLine := L.frameBytes n e, ngbCopies := L.ngbCopies ++ (if x then [c 0 true] else []) ++ (if y then [c 1 (! x)] else []) }

/-- A collision: a node in COLD listens again (R331, R346, R347). -/
def Lane.collide (L : Lane) : Lane :=
  if L.nstate = ngbCold then ((({ L with ngbCopies := [] }.setNode ngbListen).set NGB_FLAGS.COLLISION).inc NGB_CNT2.COLL_CNT).raise 0xCA else L

/-- The guardian blocks: the node sends nothing more and re-integrates (R344). -/
def Lane.guardianBlocks (L : Lane) : Lane := (((L.setNode ngbSyncing).set NGB_FLAGS.BLOCKED).inc NGB_CNT2.BLOCK_CNT).raise 0xC3

/-- SLOT_TRANSMIT: the own slot `n` comes, with the guardian's error `e` in ns, the channels on which the frame reads back,
and whether it collides (R331, R344, R346). Without an accepted frame of another node in the previous cycle the guardian does
not block. -/
def execSlotTransmit (l : LaneId) (n : Fin 1024) (e : Int) (x y collision : Bool) (s : State) : Out :=
  .next (s.onLane l (fun L =>
    let sl := L.slot L.ngbMode n
    let win := 10 * L.rd NGB_TIMING.TX_WIN
    let guard := win + 10 * L.rd NGB_TIMING.GUARD
    if ! L.owns sl || ! (L.nstate = ngbRun || L.nstate = ngbCold) || ! L.maySend sl then L
    else if collision then L.collide
    else if guard < e.natAbs ∧ L.rd Int.ngbOk ≠ 0 then L.guardianBlocks
    else (L.sendSlot n sl x y).iff (decide (win < e.natAbs) && decide (e.natAbs ≤ guard)) (fun K => (K.set NGB_FLAGS.DRIFT).inc NGB_CNT2.DRIFT_CNT)))

/-- The node's first SYNC slot of mode 0: its earliest own slot that carries SYNC (R334, R346). -/
def Lane.coldSlot (L : Lane) : Option (Nat × Slot) :=
  ((L.usedSlots 0).filter (fun (p : Nat × Slot) => p.2.sync && L.owns p.2)).foldl (fun best (p : Nat × Slot) => match best with
    | none => some p
    | some b => if p.2.start < b.2.start then some p else some b) none

/-- COLDSTART_TIMER_EXPIRY: the node cold-starts the bus (R346, R347); `collision` when its frame collides. (DEDUCED, assumption 63) -/
def execColdstartTimerExpiry (l : LaneId) (collision : Bool) (s : State) : Out :=
  .next (s.onLane l (fun L =>
    if L.nstate ≠ ngbListen || ! L.on NGB_CFG.COLDSTART || ! L.mayTransmit then L else
    match L.coldSlot with
    | none => L
    | some (n, e) =>
      if ! L.maySend e then L else
      let K := (({ L with ngbCopies := [] }.setNode ngbCold).wr NGB_STATUS.MODE 0).wr NGB_STATUS.CYCLE_NO 0
      let K := (((K.clr Int.ngbAlone).clr Int.ngbSlew).clr Int.ngbOk).wrI Int.ngbCycleTime ((K.now : Int) - 10 * e.start)
      if collision then K.collide else K.sendSlot n e true true))

/-! ### Cycle end (R340, R341, R346, R348 to R350) -/

/-- Deviations sorted. -/
def sortInts (xs : List Int) : List Int := xs.foldr (fun x r => (r.filter (· < x)) ++ [x] ++ r.filter (fun y => ¬ y < x)) []

/-- The fault-tolerant midpoint of the deviations (R340). -/
def midpoint (devs : List Int) : Int :=
  let n := devs.length
  let k := if n < 3 then 0 else if n ≤ 7 then 1 else 2
  let ds := ((sortInts devs).drop k).take (n - 2 * k)
  divRound 340 (ds.headD 0 + ds.getLastD 0) 2

/-- The node integrates: the first time after host die reset lane time is stepped to global time, later it is slewed
(R341). (DEDUCED, assumption 62) -/
def Lane.integrate (L : Lane) : Lane :=
  let K := (L.wr NGB_STATUS.MODE (L.rd Int.ngbHeardMode)).wr NGB_STATUS.CYCLE_NO ((L.rd Int.ngbHeardCycle + 1) % 65536)
  let global := L.rd Int.ngbHeardTime + 1000 * L.rd (NGB_MODE.CYCLE (L.rd Int.ngbHeardMode))
  let step : Int := (global : Int) - L.now
  let K := (K.wr Int.ngbCycleTime global).clr Int.ngbMiss
  let K := if K.on NGB_FLAGS.STEPPED then K.wrI Int.ngbSlew step else
    (((K.set NGB_FLAGS.STEPPED).wrI NGB_STEP.STEP (clampI (-2147483648) 2147483647 step)).wr Int.laneTime global).clr Int.ngbSlew
  K.setNode ngbSyncing

/-- Clock correction at the end of a cycle; the flag says that sync is lost (R340). -/
def Lane.correctClock (L : Lane) : Lane × Bool :=
  let devs := (L.ngbCopies.filter (fun c => c.taken && c.sync)).map (fun c => c.dev)
  let miss := if devs.isEmpty then min 255 (L.rd Int.ngbMiss + 1) else 0
  let ofs := if devs.isEmpty then 0 else midpoint devs
  let lost := decide (L.rd NGB_SYNC.OFS_MAX < ofs.natAbs) || decide (L.rd NGB_SYNC.SYNC_LOSS ≤ miss)
  let raw := L.rdI NGB_CLK.RATE + divRound 341 (ofs * 5000) (L.rd (NGB_MODE.CYCLE L.ngbMode))
  let lim : Int := 100 * L.rd NGB_SYNC.RATE_MAX
  let rate := clampI (-lim) lim raw
  let K := ((L.wr Int.ngbMiss miss).wrI NGB_CLK.OFS_LAST (clampI (-32768) 32767 ofs)).wrI NGB_CLK.RATE rate
  let K := (K.iff (rate ≠ raw) (fun J => J.raise 0xCB)).wrI Int.ngbSlew (K.rdI Int.ngbSlew - ofs)
  (K, lost)

/-- Sync is lost (R340). (DEDUCED, assumption 63) -/
def Lane.loseSync (L : Lane) : Lane := ((L.setNode ngbListen).set NGB_FLAGS.SYNC_LOST).raise 0xC4

/-- Membership of the latest complete cycle (R348). -/
def Lane.syncMembers (L : Lane) : Lane :=
  L.wr NGB_MEMB.MEMB ((L.ngbCopies.filter (fun c => c.taken)).foldl (fun m c => setBit m c.node) 0)

/-- One channel at the end of a cycle of RUN (R349). (DEDUCED, assumption 64) -/
def Lane.checkChannel (L : Lane) (ch : Nat) (ok : Fld) : Lane :=
  if L.ngbCopies.any (fun c => c.channel = ch) then (L.set ok).clr (Int.ngbChMiss ch) else
  let K := L.inc (Int.ngbChMiss ch)
  if K.rd (Int.ngbChMiss ch) = 2 then (K.clr ok).raise (0xC0 + ch) else K

/-- Both channels at the end of a cycle of RUN; the loss that leaves both lost exits the lane (R20, R349). -/
def Lane.checkChannels (L : Lane) : Lane :=
  let K := (L.checkChannel 0 NGB_STATUS.CH_X_OK).checkChannel 1 NGB_STATUS.CH_Y_OK
  let lost (J : Lane) : Bool := decide (2 ≤ J.rd (Int.ngbChMiss 0)) && decide (2 ≤ J.rd (Int.ngbChMiss 1))
  if lost K && ! lost L then K.exitOn 0xC2 else K

/-- The switch more than half of the frames confirm (R350). -/
def Lane.confirmed (L : Lane) : Option Nat :=
  let fs := L.ngbCopies.filter (fun c => c.taken)
  (fs.find? (fun c => c.conf && decide (8 ≤ c.mreq) && decide (fs.length < 2 * (fs.filter (fun d => d.conf && d.mreq = c.mreq)).length))).map (fun c => c.mreq - 8)

/-- The switch every frame of the cycle requests (R350). -/
def Lane.requested (L : Lane) : Option Nat :=
  let fs := L.ngbCopies.filter (fun c => c.taken)
  match fs with
  | [] => none
  | f :: _ => if 8 ≤ f.mreq ∧ f.mreq - 8 ≠ L.ngbMode ∧ fs.all (fun c => c.mreq = f.mreq) then some (f.mreq - 8) else none

/-- A decision that differs from the outcome (R350). -/
def Lane.modeSplit (L : Lane) : Lane := (L.set NGB_FLAGS.MODE_SPLIT).raise 0xC8

/-- Schedule-mode switch at the end of a cycle (R350). -/
def Lane.switchMode (L : Lane) : Lane :=
  let pend := L.on NGB_STATUS.SW_PEND
  match L.confirmed with
  | some m =>
    let K := (L.clr NGB_STATUS.SW_PEND).wr NGB_STATUS.MODE m
    let K := K.iff (K.rd NGB_MODE_REQ.TARGET = m + 8) (fun J => J.clr NGB_MODE_REQ.TARGET)
    K.iff (! (pend && L.rd NGB_STATUS.SW_MODE = m)) (fun J => J.modeSplit)
  | none =>
    if pend then (L.clr NGB_STATUS.SW_PEND).modeSplit else
    match L.requested with
    | some m => (L.set NGB_STATUS.SW_PEND).wr NGB_STATUS.SW_MODE m
    | none => L

/-- The node state after a cycle of COLD, SYNCING or RUN (R346). -/
def Lane.stepNode (L : Lane) (lost : Bool) : Lane :=
  if L.nstate = ngbCold then
    let K := L.inc Int.ngbAlone
    if K.rd Int.ngbAlone < K.rd NGB_START.CS_ALONE then K else if K.on NGB_CFG.ALONE_OK then K.setNode ngbRun else K.setNode ngbListen
  else if lost then L.loseSync
  else if L.nstate = ngbSyncing then
    let K := (L.wr Int.ngbQuiet (min 2 (L.rd Int.ngbQuiet + 1))).syncTimeValid
    if K.rd Int.ngbQuiet = 2 ∧ K.mayTransmit ∧ K.on NGB_STATUS.TIME_VALID then K.setNode ngbRun else K
  else L.syncTimeValid

/-- CYCLE_END (R340, R341, R346, R348 to R350). -/
def execCycleEnd (l : LaneId) (s : State) : Out :=
  .next (s.onLane l (fun L =>
    let others := L.ngbCopies.any (fun c => c.taken && c.node ≠ L.rd NGB_CFG.NODE)
    if L.nstate = ngbOff then L
    else if L.nstate = ngbListen then
      let K := L.iff (L.rd Int.ngbHeardRun = 2) (fun K => K.integrate)
      { K.wr Int.ngbOk (if L.rd Int.ngbHeardRun ≠ 0 then min 2 (L.rd Int.ngbOk + 1) else 0) with ngbCopies := [] }
    else
      let next := L.rd Int.ngbCycleTime + L.cycleNs
      let r := if L.nstate = ngbCold then (L, false) else L.correctClock
      let K := (r.1.iff (L.nstate = ngbRun) (fun J => J.checkChannels)).syncMembers
      let K := (K.wr Int.ngbOk (if others then min 2 (K.rd Int.ngbOk + 1) else 0)).switchMode.stepNode r.2
      let K := (K.wr NGB_STATUS.CYCLE_NO (K.rd NGB_STATUS.CYCLE_NO + 1)).wr Int.ngbCycleTime next
      { K with ngbCopies := [] }))

/-! ### Action instant (R338, R339) -/

/-- The buffers of the mode in force: number, and whether a received payload is stored in it. -/
def Lane.usedBufs (L : Lane) : List (Nat × Bool) :=
  (L.usedSlots L.ngbMode).foldl (fun m (p : Nat × Slot) =>
    if L.owns p.2 || p.2.keep then mapSet m p.2.buf ((mapGet m p.2.buf).getD false || (p.2.keep && ! L.owns p.2)) else m) []

/-- Copy 0 of a buffer goes to copy 1, and its status register is updated (R338). (DEDUCED, assumption 63) -/
def Lane.copyBuffer (L : Lane) (b : Nat) (stored : Bool) : Lane :=
  let K : Lane := { L with mem := L.mem.setBytes ramDefault (0x203D0100 + 0x200 * b) (L.mem.bytes ramDefault (0x203D0000 + 0x200 * b) 256) }
  if ! stored then K else
  let fresh := K.on (Int.bufNew b)
  let K := (K.put (NGB_BUF_STAT.VALID b) fresh).clr (Int.bufNew b)
  K.iff fresh (fun J => (J.wr (NGB_BUF_STAT.CYCLE b) (J.rd (Int.bufCycle b))).wr (NGB_BUF_STAT.CH b) (J.rd (Int.bufCh b)))

/-- ACTION_INSTANT: A0 to A2 (R338, R339, R352). -/
def execActionInstant (l : LaneId) (s : State) : Out :=
  .next (s.onLane l (fun L =>
    if L.nstate < ngbCold then L else
    ((L.usedBufs.foldl (fun K (b : Nat × Bool) => K.copyBuffer b.1 b.2) L).event 25).triggerAll 2 (fun _ => true)))

/-- ACTION_INSTANT_NOTICE: A1, 20 µs before the action instant (R186, R339). -/
def execActionInstantNotice (l : LaneId) (s : State) : Out :=
  .next (s.onLane l (fun L =>
    if L.nstate < ngbCold then L else L.toField (.control (.actionInstant (L.now + 20000) (L.rd NGB_STATUS.CYCLE_NO)))))

/-! ### Requests and wake (R346, R350, R351) -/

/-- NGB_MODE_REQ: firmware writes TARGET, 1 to 7 clamped to 0 (R350, R357). -/
def execNgbModeReq (l : LaneId) (value : Fin 16) (s : State) : Out :=
  .next (s.onLane l (fun L => L.wr NGB_MODE_REQ.TARGET (if (value : Nat) < 8 then 0 else value)))

/-- WAKE_TX: a wake pattern is requested (R351). -/
def execWakeTx (l : LaneId) (s : State) : Out := .next (s.onLane l (fun L => L.set Int.ngbWakeReq))

/-- WAKE_PATTERN_SEND: in LISTEN after 2 ms of silence the pattern goes on the channels WAKE_CH selects (R351). -/
def execWakePatternSend (l : LaneId) (s : State) : Out :=
  .next (s.onLane l (fun L =>
    if L.on Int.ngbWakeReq && L.nstate = ngbListen then (L.clr Int.ngbWakeReq).wr Int.ngbWakeSent (L.rd NGB_CTL.WAKE_CH) else L))

/-- REINT: any state but OFF returns to LISTEN (R346). -/
def execReint (l : LaneId) (s : State) : Out :=
  .next (s.onLane l (fun L => if L.nstate = ngbOff then L else { (L.setNode ngbListen) with ngbCopies := [] }))

/-- NGUAS_WAKE_DETECT: the always-on detector takes a wake on channel `ch` while the node is OFF (R351, R425). -/
def execNguasWakeDetect (l : LaneId) (ch : Fin 2) (s : State) : Out :=
  .next (s.onLane l (fun L => if L.nstate = ngbOff then (L.putBit Int.ngbWakeCh ch true).privilegedWake 2 else L))

end Sys2Proof.Machine
end

