-- ==== Sys2Proof/Machine/Can.lean ====
section
/-! DEFINITION. The CAN FD port: filters and receive FIFO, transmit requests, error counts and bus-off (R353 to R358). -/

namespace Sys2Proof.Machine

/-- The port acts on the line (R353, R354). -/
def Lane.canActs (L : Lane) : Bool := L.rd CAN_STATUS.STATE < 2

/-- CAN_EVT stands while the FIFO holds a frame or a TXDONE bit is set (R355, R374). (PRESUMED, assumption 40) -/
def Lane.canEvent (L : Lane) : Lane := L.level 26 15 (L.rd CAN_STATUS.LEVEL ≠ 0 || L.rd CAN_TXDONE.DONE ≠ 0)

/-- The first filter in index order that takes an identifier of 29 bits (R355). -/
def Lane.canFilter (L : Lane) (ident : Nat) (ext : Bool) : Option Nat :=
  (List.range 32).find? (fun k => L.on (CAN_FILT_ID.FEN k) && L.on (CAN_FILT_ID.XTD k) = ext &&
    (ident &&& L.rd (CAN_FILT_MASK.MASK k)) = (L.rd (CAN_FILT_ID.FILT_ID k) &&& L.rd (CAN_FILT_MASK.MASK k)))

/-- Data bytes of a length code (ISO 11898-1): up to 8, and for an FD frame 12 to 64. -/
def dlcBytes (dlc : Nat) (fdf : Bool) : Nat :=
  if dlc ≤ 8 then dlc else if fdf then [12, 16, 20, 24, 32, 48, 64].getD (dlc - 9) 64 else 8

/-- The data bytes of a frame enter a FIFO entry; bytes beyond its length stay. (PRESUMED, assumption 40) -/
def Lane.putCanData (L : Lane) (e n : Nat) (data : List Nat) : Lane :=
  L.forN n (fun i K =>
    let f := CAN_RXE.DATA e (i / 4)
    let v := K.rd f
    K.wr f (v - slice (8 * (i % 4)) 8 v * 256 ^ (i % 4) + data.getD i 0 % 256 * 256 ^ (i % 4)))

/-- CAN_FRAME_RECEIVED: a frame without error, its SOF sample point `age` ns ago (R353 to R355). -/
def execCanFrameReceived (l : LaneId) (ident age : Nat) (ext remote fdf brs esi : Bool) (dlc : Fin 16) (data : List Nat) (s : State) : Out :=
  .next (s.onLane l (fun L =>
    let id29 := if ext then ident % 2 ^ 29 else ident % 2 ^ 11 * 2 ^ 18
    if ! L.canActs then L else
    let r := L.rd CAN_STATUS.REC
    let L := L.wr CAN_STATUS.REC (if 127 < r then 127 else r - 1)
    let L := L.iff (L.rd CAN_STATUS.STATE = 1 && decide (L.rd CAN_STATUS.TEC ≤ 127)) (fun K => K.wr CAN_STATUS.STATE 0)
    if remote then L.inc CAN_CNT.REMOTE_CNT
    else if fdf && ! L.on CAN_CFG.FD_EN then L
    else match L.canFilter id29 ext with
      | none => L.inc CAN_CNT.NOMATCH
      | some k =>
        if L.rd CAN_STATUS.LEVEL = 32 then ((L.set CAN_FLAGS.RX_OVF).inc CAN_CNT.OVF_CNT).raise 0xCE else
        let e := (L.rd CAN_FLAGS.HEAD + L.rd CAN_STATUS.LEVEL) % 32
        let K := ((L.wr (CAN_RXE.IDENT e) id29).put (CAN_RXE.XTD e) ext).wr (CAN_RXE.DLC e) dlc
        let K := ((K.put (CAN_RXE.FDF e) fdf).put (CAN_RXE.BRS e) brs).put (CAN_RXE.ESI e) esi
        let K := ((K.wr (CAN_RXE.FILT e) k).wr (CAN_RXE.TS e) (L.now - age)).putCanData e (dlcBytes dlc fdf) data
        (K.wr CAN_STATUS.LEVEL (K.rd CAN_STATUS.LEVEL + 1)).canEvent))

/-- CAN_TX_REQUEST: a write to CAN_TXREQ (R358). -/
def execCanTxRequest (l : LaneId) (mask : Nat) (s : State) : Out :=
  .next (s.onLane l (fun L => L.wr CAN_TXREQ.REQ (L.rd CAN_TXREQ.REQ ||| mask % 65536)))

/-- CAN_TX_DONE: the lowest requested buffer has been sent (R355, R358). (PRESUMED, assumption 40) -/
def execCanTxDone (l : LaneId) (s : State) : Out :=
  .next (s.onLane l (fun L =>
    match (List.range 16).find? (fun t => L.bitOf CAN_TXREQ.REQ t) with
    | none => L
    | some t =>
      if ! L.canActs || L.on CAN_CFG.LISTEN_ONLY then L else
      let K := ((L.putBit CAN_TXREQ.REQ t false).putBit CAN_TXDONE.DONE t true).wr CAN_STATUS.TEC (L.rd CAN_STATUS.TEC - 1)
      (K.iff (K.rd CAN_STATUS.STATE = 1 && decide (K.rd CAN_STATUS.TEC ≤ 127) && decide (K.rd CAN_STATUS.REC ≤ 127)) (fun J =>
        J.wr CAN_STATUS.STATE 0)).canEvent))

/-- CAN_POP: the oldest FIFO entry is freed (R358). -/
def execCanPop (l : LaneId) (s : State) : Out :=
  .next (s.onLane l (fun L =>
    if L.rd CAN_STATUS.LEVEL = 0 then L else
    ((L.wr CAN_FLAGS.HEAD ((L.rd CAN_FLAGS.HEAD + 1) % 32)).wr CAN_STATUS.LEVEL (L.rd CAN_STATUS.LEVEL - 1)).canEvent))

/-- CAN_ERROR: an error raises the transmit or the receive error count by 8 or by 1, and may take the port to error passive or
bus-off (R353, ISO 11898-1). (PRESUMED, assumption 40) -/
def execCanError (l : LaneId) (tx eight : Bool) (s : State) : Out :=
  .next (s.onLane l (fun L =>
    if ! L.canActs then L else
    let f := if tx then CAN_STATUS.TEC else CAN_STATUS.REC
    let v := L.rd f + (if eight then 8 else 1)
    let K := L.sat f v
    if tx ∧ 255 < v then
      (((K.wr CAN_STATUS.STATE 2).set CAN_FLAGS.BUSOFF).inc CAN_CNT.BUSOFF_CNT).put Int.canRecov (K.on CAN_CFG.AUTO_RECOV) |>.raise 0xCC
    else if 127 < v ∧ L.rd CAN_STATUS.STATE = 0 then ((K.wr CAN_STATUS.STATE 1).set CAN_FLAGS.PASSIVE).raise 0xCD
    else K))

/-- CAN_RECOVER: bus-off recovery starts (R353). -/
def execCanRecover (l : LaneId) (s : State) : Out :=
  .next (s.onLane l (fun L => if L.rd CAN_STATUS.STATE = 2 then L.set Int.canRecov else L))

/-- BUS_OFF_RECOVERY_COMPLETE: the port returns to error active (R353). -/
def execBusOffRecoveryComplete (l : LaneId) (s : State) : Out :=
  .next (s.onLane l (fun L =>
    if L.rd CAN_STATUS.STATE = 2 ∧ L.on Int.canRecov then
      (((L.wr CAN_STATUS.STATE 0).wr CAN_STATUS.TEC 0).wr CAN_STATUS.REC 0).clr Int.canRecov
    else L))

end Sys2Proof.Machine
end

