-- ==== Sys2Proof/Machine/Image.lean ====
section
/-! DEFINITION. The Ciben image in a memory: header, section table, signature and digests (R362 to R364). -/

namespace Sys2Proof.Machine

/-- A slot, or the staging area: the memory that holds it and where it begins. -/
structure Image where
  mem : Memory
  base : Nat
deriving DecidableEq, Repr

/-- Bytes of an image. -/
def Image.bytes (g : Image) (o n : Nat) : List Byte := g.mem.bytes norDefault (g.base + o) n

/-- A little-endian word of an image. -/
def Image.word (g : Image) (o : Nat) : Nat := numOf (g.bytes o 4)

def Image.seq (g : Image) : Nat := g.word 8
def Image.version (g : Image) : Nat := g.word 0xC
def Image.length (g : Image) : Nat := g.word 0x10
def Image.nsect (g : Image) : Nat := g.word 0x14
def Image.options (g : Image) : Nat := g.word 0x18

/-- An entry of the section table (R363). -/
structure Section where
  kind : Nat
  index : Nat
  lanes : Nat
  safety : Bool
  offset : Nat
  length : Nat
  dest : Nat
  digest : Nat
  raw : List Byte
deriving DecidableEq, Repr

/-- Entry `i` of the section table; SAFETY holds whatever its bit for every type but 0x02 and 0x03 (R363). -/
def Image.sect (g : Image) (i : Nat) : Section :=
  let o := 0x100 + 64 * i
  let w := g.word o
  { kind := slice 0 8 w, index := slice 8 8 w, lanes := slice 16 3 w, safety := w.testBit 20 || ! (slice 0 8 w = 2 || slice 0 8 w = 3),
    offset := g.word (o + 4), length := g.word (o + 8), dest := g.word (o + 12), digest := numOf (g.bytes (o + 16) 48), raw := g.bytes o 64 }

/-- The section table. -/
def Image.sects (g : Image) : List Section := (List.range (min 64 g.nsect)).map g.sect

/-- MAGIC and FORMAT of R362. -/
def Image.formatOk (g : Image) : Bool := g.word 0 = 0x4E424943 && g.word 4 = 1

/-- NSECT, every LENGTH and every OFFSET lie within `limit` bytes (R362 to R364). (DEDUCED, assumption 68) -/
def Image.rangesOk (g : Image) (limit : Nat) : Bool :=
  decide (1 ≤ g.nsect) && decide (g.nsect ≤ 64) && decide (g.length ≤ limit) &&
  g.sects.all (fun e => decide (0x2000 ≤ e.offset) && e.offset % 4 = 0 && decide (e.offset + e.length ≤ limit))

/-- The signature over bytes 0x0000 to 0x10FF verifies (R362). -/
def Image.signed (g : Image) (key : Nat) : Bool := Config.ecdsaOk key (g.bytes 0 0x1100) (g.bytes 0x1100 96)

/-- A section's digest matches its table entry. -/
def Image.hashOk (g : Image) (e : Section) : Bool := (Config.sha384 (g.bytes e.offset e.length)).toNat = e.digest

/-- The safety digest: the SHA-384 of every table entry with SAFETY = 1, in table order (R369). -/
def Image.safetyDigest (g : Image) : Nat := (Config.sha384 (g.sects.flatMap (fun e => if e.safety then e.raw else []))).toNat

/-- Slot A (0) or B (1) of a lane's NOR. -/
def Lane.slotImage (L : Lane) (s : Nat) : Image := { mem := L.nor, base := 0x02000000 * s }

/-- The key the life-cycle state checks an image signature against (R379). -/
def Lane.imageKeyNow (L : Lane) : Nat := if L.rd LCS_STATE.STATE = 0 then Config.manufacturingKey else L.rd Int.imageKey

end Sys2Proof.Machine
end

