-- ==== Sys2Proof/Machine/Md.lean ====
section
/-! DEFINITION. The management die: data port, log, staging and update, attestation, telemetry, dormancy (R440 to R462), and
the mailbox and update unit of the lanes. -/

namespace Sys2Proof.Machine

/-! ### Window 0 (R462) -/

/-- The data-port registers with bits in the word at `a`. -/
def mdSlots (a : Nat) : List (Row × Fld) :=
  (rowsDp.filterMap (fun r => r.at? a)).filter (fun (x : Row × Fld) => x.2.addr = a)

/-- The word of a data-port register; DP_TICK_HI reads as captured (R462). -/
def Md.word (M : Md) (v : Variant) (a : Nat) : Nat :=
  if a = 0x24 then M.rd Int.mdTick % 2 ^ 32
  else if a = 0x28 then M.rd Int.mdTickHi
  else (((mdSlots a).map (fun (x : Row × Fld) => if x.1.acc = .wo then 0 else x.2.place a (M.rd x.2))).sum +
    (if a = 0 ∧ v = .d then 1 else 0)) % 2 ^ 32

/-- A data-port register write stores its RW fields, clamped (R462). -/
def Md.writeWord (M : Md) (a data : Nat) : Md :=
  (mdSlots a).foldl (fun K (x : Row × Fld) =>
    if x.1.acc ≠ .rw then K else
    let w := slice x.2.lsb x.2.width data
    K.wr x.2 (match x.1.clamp with
      | .range lo hi => clampN lo hi w
      | _ => w)) M

/-- The port answers: Owl is awake (R443). -/
def Md.awake (M : Md) : Bool := ! M.on Int.mdDormant

/-- A command that meets a verification or an update under way is ignored and counted (R459). -/
def Md.seqError (M : Md) : Md := M.inc DP_ERR.ERR_SEQ

/-- Staging is under verification or an update runs. -/
def Md.stageBusy (M : Md) : Bool := M.rd DP_STATUS.STAGE = 2 || M.rd DP_STATUS.STAGE = 5

/-! ### Staging (R452, R453) -/

/-- Sectors of the ring that hold records. -/
def Md.usedSectors (M : Md) : Nat := (M.ring.length + 63) / 64

/-- Records of the oldest `k` sectors: the newest sector may be part full. -/
def Md.recordsOf (M : Md) (k : Nat) : Nat := if M.usedSectors ≤ k then M.ring.length else 64 * k

/-- Staging opens (R452). (DEDUCED, assumption 67) -/
def Md.stageOpen (M : Md) : Md :=
  if M.stageBusy then M.seqError
  else if M.rd DP_STATUS.STAGE ≠ 0 then M
  else
    let total := M.rd DP_LOG.CAPACITY / 64 + 1
    let K := M.dropOldest (M.recordsOf (M.usedSectors + 8193 - total))
    let K := ((K.wr DP_LOG.CAPACITY (K.rd DP_LOG.CAPACITY - 524288)).wr DP_STATUS.BUSY 1).wr DP_STATUS.STAGE 1
    { (K.wr DP_STAGE.STAGE_LEN 0).wr Int.mdOpenLen (clampN 4 33554432 (M.rd DP_ARG.ARG)) with stage := [] }

/-- Staging closes; with the whole length staged, verification starts (R453). -/
def Md.stageClose (M : Md) : Md :=
  if M.stageBusy then M.seqError
  else if M.rd DP_STATUS.STAGE = 1 ∧ M.rd DP_STAGE.STAGE_LEN = M.rd Int.mdOpenLen then M.wr DP_STATUS.STAGE 2 else M

/-- The staging sectors return to the ring (R452). -/
def Md.stageDiscard (M : Md) : Md :=
  if M.stageBusy then M.seqError
  else if M.rd DP_STATUS.STAGE = 0 then M
  else
    let K := ((M.wr DP_STATUS.STAGE 0).wr DP_STATUS.VERIFY_CODE 0).wr DP_STAGE.STAGE_LEN 0
    { K.wr DP_LOG.CAPACITY (K.rd DP_LOG.CAPACITY + 524288) with stage := [] }

/-- The staged image. -/
def Md.image (M : Md) : Image := { mem := M.stage, base := 0 }

/-- The verdict on the staged image, 0 passed (R453). -/
def Md.verdict (M : Md) : Nat :=
  let g := M.image
  if ! g.formatOk then 1
  else if ! g.rangesOk (M.rd Int.mdOpenLen) then 2
  else if ! M.identity.any (fun i => i.any (fun r => g.signed r.imageKey)) then 3
  else if ! g.sects.all g.hashOk then 4 else 0

/-- Why a lane cannot take the verified image, 0 when it can (R454). -/
def Md.laneCode (M : Md) (n : Nat) : Nat :=
  match M.identity.getD n none with
  | none => 7
  | some i =>
    let g := M.image
    if g.version < i.rollback then 5
    else if g.seq ≤ i.seq then 6
    else if ! g.signed i.imageKey then 3
    else if ! M.on (Int.mdFresh n) then 7 else 0

/-- An update starts for the lanes of a mask (R454). (DEDUCED, assumption 67) -/
def Md.updateStart (M : Md) (v : Variant) : Md :=
  if M.rd DP_STATUS.STAGE ≠ 3 then M else
  let K := v.list.foldl (fun K l =>
    let n := l.num
    if ! (M.rd DP_ARG.ARG).testBit n then K
    else if M.laneCode n = 0 then K.setLaneUpd n 1
    else (K.setLaneUpd n 5).wr DP_UPD.FAIL_CODE (M.laneCode n)) M
  if v.list.any (fun l => K.laneUpd l.num = 1) then K.serveNext else K

/-- The host acknowledges Reams (R450). -/
def Md.logAck (M : Md) : Md :=
  (M.wr Int.mdUnack (M.rd Int.mdUnack - 8 * min (M.rd DP_ARG.ARG) (M.rd DP_STATUS.LOG_AVAIL))).syncLog

/-- A report is requested (R457). -/
def Md.attest (M : Md) : Md := (M.wr DP_STATUS.ATT_READY 0).wr Int.mdAtt 1

/-- The host submits a certificate (R456). -/
def Md.certWrite (M : Md) : Md :=
  let c := M.win.bytes ramDefault 0x200 (min 1024 (M.rd DP_ARG.ARG))
  if Config.certOk (M.rd Int.mdPub) c then { M.wr DP_STATUS.CERT_OK 1 with cert := c } else M

/-- A value written to CMD (R462). -/
def Md.command (M : Md) (v : Variant) (c : Nat) : Md :=
  if c = 1 then M.stageOpen else if c = 2 then M.stageClose else if c = 3 then M.stageDiscard else if c = 4 then M.updateStart v
  else if c = 5 then M.logAck else if c = 6 then M.attest else if c = 7 then M.certWrite else M

/-! ### The data port (R441 to R443) -/

/-- `n` bytes nothing constrains, and the die with its counter advanced. (DESIGN CHOICE, assumption 65) -/
def Md.freeBytes (M : Md) (n : Nat) : List Byte × Md :=
  ((List.range n).map (fun i => BitVec.ofNat 8 ((Config.freeValue (M.free + i / 64)).toNat / 256 ^ (i % 64))), { M with free := M.free + (n + 63) / 64 })

/-- A telemetry block of window 3: STALE, the record of R444 in its order, and from 0x400 the rainflow results of the lane's
modules. (DESIGN CHOICE, assumption 65) -/
def Md.laneBlock (M : Md) (n : Nat) : List Byte :=
  let rec_ : List Byte := match M.telemetry.getD n none with
    | none => []
    | some t => bytesOf 8 t.time ++ bytesOf 1 t.mode ++ bytesOf 1 t.state ++ t.dieTemps.flatMap (fun x => bytesOf 2 (ofInt 16 x)) ++
        bytesOf 1 t.ok ++ bytesOf 1 t.fieldOk ++ t.links.flatMap (bytesOf 4) ++ t.modules.flatMap (fun x => bytesOf 2 (ofInt 16 x)) ++
        t.rails.flatMap (bytesOf 2)
  let head := bytesOf 4 (M.rd (Int.mdStale n)) ++ rec_
  head ++ List.replicate (0x400 - head.length) 0 ++
    (List.range 12).flatMap (fun k => let w := M.wear.getD (12 * n + k) Wear.reset; w.bins.flatMap (bytesOf 4) ++ bytesOf 4 (w.life / 2 ^ 32))

/-- The management block of window 3 (R445). -/
def Md.ownBlock (M : Md) : List Byte :=
  bytesOf 2 (M.rd (Int.mdTemp 0)) ++ bytesOf 2 (M.rd (Int.mdTemp 1)) ++ bytesOf 2 (M.rd Int.mdHumid) ++ bytesOf 1 (M.rd Int.mdSupply)

/-- A byte of a window; none where the spec gives it no value. (DESIGN CHOICE, assumption 65) -/
def Md.windowByte (M : Md) (v : Variant) (w o : Nat) : Option Byte :=
  if w = 0 then some (BitVec.ofNat 8 (M.word v (o - o % 4) / 256 ^ (o % 4)))
  else if w = 1 then
    match (M.ring.drop (M.ring.length - M.rd Int.mdUnack))[o / 64]? with
    | some q => some (q.bytes.getD (o % 64) 0)
    | none => if o % 64 = 0 then some 0 else none
  else if w = 2 then (if M.rd DP_STATUS.STAGE = 1 then none else some (M.stage.byte norDefault o))
  else if w = 3 then
    some (if o < 0x3000 then (M.laneBlock (o / 0x1000)).getD (o % 0x1000) 0 else M.ownBlock.getD (o - 0x3000) 0)
  else if w = 4 then
    some (if 0x600 ≤ o ∧ o < 0x660 then BitVec.ofNat 8 (M.rd Int.mdPub / 256 ^ (o - 0x600)) else M.win.byte ramDefault o)
  else some 0xFF

/-- The size of a window (R442). -/
def windowSize (w : Nat) : Nat := if w = 2 then 33554432 else if w = 3 then 16384 else 4096

/-- DP_READ: READ of `n` bytes (R441 to R443). (DEDUCED, assumption 89) -/
def execDpRead (addr n : Nat) (s : State) : Out :=
  .next (s.onMd (fun M =>
    if ! M.awake then M else
    let w := addr / 2 ^ 29 % 8
    let o := addr % 2 ^ 29
    let M := (M.iff (decide (5 ≤ w)) (fun K => K.inc DP_ERR.ERR_ADDR)).iff (decide (4096 < n)) (fun K => K.inc DP_ERR.LONG_BURST)
    let M := M.iff (w = 0 && decide (o % 4096 ≤ 0x24) && decide (0x24 < o % 4096 + min n 4096)) (fun K => K.wr Int.mdTickHi (K.rd Int.mdTick / 2 ^ 32))
    let free := M.freeBytes (min n 4096)
    { free.2 with out := (List.range n).map (fun i =>
        if 4096 ≤ i then 0xFF else (M.windowByte s.variant w ((o + i) % windowSize w)).getD (free.1.getD i 0)) }))

/-- Bytes of a WRITE go to a window (R442, R452, R456, R457, R462). -/
def Md.portWrite (M : Md) (v : Variant) (w o : Nat) (data : List Byte) : Md :=
  if w = 0 then
    (List.range (data.length / 4)).foldl (fun K i =>
      let a := (o + 4 * i) % 4096
      let d := numOf ((data.drop (4 * i)).take 4)
      if a = 8 then K.command v (d % 16) else K.writeWord a d) M
  else if w = 2 then
    if M.rd DP_STATUS.STAGE ≠ 1 || data.isEmpty then M
    else if M.on DP_STATUS.BUSY || o % windowSize 2 ≠ M.rd DP_STAGE.STAGE_LEN then M.seqError
    else
      let K := { M with stage := M.stage.setBytes norDefault (M.rd DP_STAGE.STAGE_LEN) data }
      (K.wr DP_STAGE.STAGE_LEN (min 33554432 (M.rd DP_STAGE.STAGE_LEN + data.length))).wr DP_STATUS.BUSY 1
  else if w = 4 then
    (List.range data.length).foldl (fun K i =>
      let a := (o + i) % 4096
      if (0x200 ≤ a && a < 0x600) || (0xC00 ≤ a && a < 0xC20) then { K with win := K.win.setByte ramDefault a (data.getD i 0) } else K) M
  else if 5 ≤ w then M.inc DP_ERR.ERR_ADDR else M

/-- DP_WRITE: WRITE of bytes; a trailing partial word and bytes beyond 4,096 are not written (R441 to R443). -/
def execDpWrite (addr : Nat) (data : List Byte) (s : State) : Out :=
  .next (s.onMd (fun M =>
    if ! M.awake then M else
    let M := M.iff (decide (4096 < data.length)) (fun K => K.inc DP_ERR.LONG_BURST)
    let n := min 4096 data.length
    M.portWrite s.variant (addr / 2 ^ 29 % 8) (addr % 2 ^ 29) (data.take (n - n % 4))))

/-- DP_STATUS: the STATUS command returns DP_STATUS (R441). -/
def execDpStatus (s : State) : Out := .next (s.onMd (fun M => if M.awake then { M with out := bytesOf 4 (M.word s.variant 4) } else M))

/-- DP_IDENT: the IDENT command returns DP_IDENT and the DEVICE_ID (R441). -/
def execDpIdent (s : State) : Out :=
  .next (s.onMd (fun M => if M.awake then { M with out := bytesOf 4 (M.word s.variant 0) ++ bytesOf 12 (M.rd Int.deviceId) } else M))

/-- UNKNOWN_OPCODE (R441). -/
def execUnknownOpcode (s : State) : Out := .next (s.onMd (fun M => if M.awake then M.inc DP_ERR.ERR_OPCODE else M))

/-- STAGE_OPEN (R452). -/
def execStageOpen (s : State) : Out := .next (s.onMd (fun M => if M.awake then M.stageOpen else M))

/-- STAGE_CLOSE (R453). -/
def execStageClose (s : State) : Out := .next (s.onMd (fun M => if M.awake then M.stageClose else M))

/-- STAGE_DISCARD (R452). -/
def execStageDiscard (s : State) : Out := .next (s.onMd (fun M => if M.awake then M.stageDiscard else M))

/-- UPDATE_START (R454). -/
def execUpdateStart (s : State) : Out := .next (s.onMd (fun M => if M.awake then M.updateStart s.variant else M))

/-- LOG_ACK (R450). -/
def execLogAck (s : State) : Out := .next (s.onMd (fun M => if M.awake then M.logAck else M))

/-- ATTEST (R457). -/
def execAttest (s : State) : Out := .next (s.onMd (fun M => if M.awake then M.attest else M))

/-- CERT_WRITE (R456). -/
def execCertWrite (s : State) : Out := .next (s.onMd (fun M => if M.awake then M.certWrite else M))

/-- STAGING_ERASE_DONE (R452). -/
def execStagingEraseDone (s : State) : Out := .next (s.onMd (fun M => M.wr DP_STATUS.BUSY 0))

/-- STAGING_PROGRAM_DONE (R452). -/
def execStagingProgramDone (s : State) : Out := .next (s.onMd (fun M => M.wr DP_STATUS.BUSY 0))

/-- IMAGE_VERIFY_DONE (R453). -/
def execImageVerifyDone (s : State) : Out :=
  .next (s.onMd (fun M =>
    if M.rd DP_STATUS.STAGE ≠ 2 then M else
    (M.wr DP_STATUS.VERIFY_CODE M.verdict).wr DP_STATUS.STAGE (if M.verdict = 0 then 3 else 4)))

/-- The record of a lane in a report (R457). -/
def Md.laneReport (M : Md) (v : Variant) (l : LaneId) : List Byte :=
  if ! v.fitted l then List.replicate 80 0 else
  match M.identity.getD l.num none with
  | none => List.replicate 80 0
  | some i => bytesOf 16 i.dieId ++ bytesOf 4 i.seq ++ bytesOf 4 i.version ++ bytesOf 1 i.rollback ++ bytesOf 1 i.state ++ bytesOf 1 i.slot ++
      bytesOf 1 (M.rd (Int.mdFresh l.num)) ++ bytesOf 48 i.digest ++ bytesOf 4 0

/-- The signed part of a report (R457). -/
def Md.report (M : Md) (v : Variant) : List Byte :=
  bytesOf 4 0x52414D57 ++ bytesOf 4 1 ++ bytesOf 12 (M.rd Int.deviceId) ++ M.win.bytes ramDefault 0xC00 32 ++
  bytesOf 8 (M.rd Int.mdTick) ++ bytesOf 8 0 ++ M.laneReport v .a ++ M.laneReport v .b ++ M.laneReport v .c

/-- ATTEST_REPORT_DONE (R457). -/
def execAttestReportDone (s : State) : Out :=
  .next (s.onMd (fun M =>
    if ! M.on Int.mdAtt then M else
    let r := M.report s.variant
    let sig := bytesOf 96 (Config.ecdsaSign (M.rd Int.mdKey) r).toNat
    { (M.wr Int.mdAtt 0).wr DP_STATUS.ATT_READY 1 with win := M.win.setBytes ramDefault 0 (r ++ bytesOf 12 0 ++ sig) }))

/-! ### The mailbox (R440, R444, R449) -/

/-- The management die takes the first message of a lane's mailbox, if a choice accepts it. -/
def State.recvMbx {β : Type} (s : State) (l : LaneId) (pick : MbxUp → Option β) (g : β → Md → Md) : State :=
  if ! s.variant.fitted l || ! s.md.awake then s else
  match (s.lane l).mbxUp with
  | [] => s
  | m :: r => match pick m with
    | none => s
    | some x => (s.onLane l (fun L => { L with mbxUp := r })).onMd (g x)

/-- TELEMETRY_SEND: the mailbox hardware sends the telemetry record, with the readings of the four die temperature sensors in
0.1 °C; COND_RECOMMENDED follows them (R34, R444, R486). (DEDUCED, assumption 101) -/
def execTelemetrySend (l : LaneId) (dieTemps : List Int) (s : State) : Out :=
  .next (s.onLane l (fun L =>
    let t : Telemetry :=
      { time := L.now, mode := L.mode, state := L.state, dieTemps := dieTemps.take 4, ok := L.rd PSC_SUPPLY.OK,
        fieldOk := L.rd FPS_STATUS.OK, links := [L.word 0x400D000C, L.word 0x40050108, L.word 0x40050148],
        modules := (List.range 12).map (fun k => L.rdI (ADC_MTEMP.T k)), rails := (List.range 4).map (fun r => L.rd (DCL_RAIL_STATUS.U_V r)) }
    ((L.put Int.overTemp (t.dieTemps.any (fun x => decide (1500 < x)) || (decide (t.dieTemps.length < 4) && L.on Int.overTemp))).syncRecommended).sendMbx (.telemetry t)))

/-- TELEMETRY_RECEIPT: Owl keeps the record and counts the thermal cycles of its modules (R444, R446). -/
def execTelemetryReceipt (l : LaneId) (s : State) : Out :=
  .next (s.recvMbx l (fun m => match m with
    | .telemetry t => some t
    | _ => none) (fun t M =>
      let K := { M with telemetry := M.telemetry.set l.num (some t) }.wr (Int.mdStale l.num) 0
      { K with wear := (List.range 36).map (fun k =>
          let w := K.wear.getD k Wear.reset
          if k / 12 = l.num then K.wearAdd w (t.modules.getD (k % 12) 0) else w) }))

/-- TELEMETRY_STALE (R444). -/
def execTelemetryStale (l : LaneId) (s : State) : Out := .next (s.onMd (fun M => M.wr (Int.mdStale l.num) 1))

/-- LOG_RECORD_RECEIPT (R449). -/
def execLogRecordReceipt (l : LaneId) (s : State) : Out :=
  .next (s.recvMbx l (fun m => match m with
    | .log r => some r
    | _ => none) (fun r M => M.log r))

/-- LOG_RECORD_PROGRAMMED: the oldest queued record is programmed, or the program fails and its sector is retired (R449). -/
def execLogRecordProgrammed (ok : Bool) (s : State) : Out :=
  .next (s.onMd (fun M =>
    if M.queue.isEmpty then M
    else if ok then M.program
    else (M.inc DP_LOG.BAD_SECT).wr DP_LOG.CAPACITY (M.rd DP_LOG.CAPACITY - 64)))

/-- A sensor crosses its limit in either direction: one record (R445). (DESIGN CHOICE, assumption 70) -/
def Md.crossing (M : Md) (k : Nat) (above : Bool) : Md :=
  if M.on (Int.mdOver k) = above then M else (M.wr (Int.mdOver k) (bit above)).ownLog 4

/-- MD_SENSOR_SAMPLE: the two die temperatures in 0.1 °C, the humidity in 0.1 % and the state of the supply (R445). -/
def execMdSensorSample (t0 t1 : Int) (humidity : Nat) (supplyOk : Bool) (s : State) : Out :=
  .next (s.onMd (fun M =>
    if ! M.awake then M else
    let K := ((M.wr (Int.mdTemp 0) (ofInt 16 t0)).wr (Int.mdTemp 1) (ofInt 16 t1)).wr Int.mdHumid (min 1000 humidity)
    let K := ((K.crossing 0 (decide (1400 < t0))).crossing 1 (decide (1400 < t1))).crossing 2 (decide (850 < humidity))
    if K.on Int.mdSupply = supplyOk then K else (K.wr Int.mdSupply (bit supplyOk)).ownLog 4))

/-- A state block is written (R447). -/
def Md.save (M : Md) : Md :=
  { M with saved := { regs := M.regs.filter (fun e => e.1 / 2 ^ 48 = Home.mdP.code), wear := M.wear, cert := M.cert } }

/-- STATE_BLOCK_SAVE (R447). -/
def execStateBlockSave (s : State) : Out := .next (s.onMd (fun M => if M.awake then M.save else M))

/-- IDENTITY_RECORD: Owl receives a lane's identity record; the first that reports PROVISIONED while no device key is fused has
it generated (R440, R456). -/
def execIdentityRecord (l : LaneId) (s : State) : Out :=
  .next (s.recvMbx l (fun m => match m with
    | .identity i => some i
    | _ => none) (fun i M =>
      let K := { M with identity := M.identity.set l.num (some i) }.wr (Int.mdFresh l.num) 1
      if K.on Int.mdKeyed || i.state ≠ 1 then K else
      let key := K.fresh 512
      let lo := key.2.fresh 512
      let hi := lo.2.fresh 256
      (((hi.2.wr Int.mdKey key.1).wr Int.mdPub (lo.1 + hi.1 * 2 ^ 512)).wr Int.mdKeyed 1).wr DP_STATUS.KEY_PRESENT 1))

/-- Whether a lane counts as asleep for the management die (R458). (DESIGN CHOICE, assumption 70) -/
def State.laneAsleep (s : State) (l : LaneId) : Bool :=
  ! (s.lane l).on MBX_STATUS.LINK &&
  (match s.md.telemetry.getD l.num none with
   | some t => t.mode = mShutdown || t.state = stFailed
   | none => ! s.md.on (Int.mdLinked l.num))

/-- MD_DORMANT_ENTRY (R458). -/
def execMdDormantEntry (s : State) : Out :=
  .next (if s.variant.list.all s.laneAsleep && s.md.queue.isEmpty && s.md.awake then s.onMd (fun M => M.save.wr Int.mdDormant 1) else s)

/-- Owl starts from ROM with the newest state block; a transfer under way has failed (R447, R458, R459). -/
def Md.restart (M : Md) : Md :=
  let kept := (M.regs.resetHome .md).resetHome .mdP
  let K : Md := { M with regs := M.saved.regs.foldl (fun r (e : Nat × Nat) => mapSet r e.1 e.2) kept, wear := M.saved.wear, cert := M.saved.cert,
                         queue := [], offers := [[], [], []], telemetry := [none, none, none], identity := [none, none, none], win := [], out := [] }
  let K := (List.range 3).foldl (fun J n => if J.laneUpd n = 2 ∨ J.laneUpd n = 1 then J.setLaneUpd n 4 else J) K
  let K := K.iff (K.rd DP_STATUS.STAGE = 5) (fun J => J.wr DP_STATUS.STAGE 3)
  ((K.wr DP_STATUS.KEY_PRESENT (K.rd Int.mdKeyed)).wr DP_STATUS.CERT_OK (bit (! K.cert.isEmpty))).syncLog

/-- MD_WAKE: a DP_CS_N edge or a lane's wake line wakes Owl (R458). -/
def execMdWake (s : State) : Out := .next (s.onMd (fun M => if M.awake then M else M.restart))

/-! ### The update unit of a lane (R451, R454, R461) -/

/-- The inactive slot. -/
def Lane.otherSlot (L : Lane) : Nat := 1 - L.rd CFG_BOOT.SLOT

/-- The update unit may hold a transfer (R454). -/
def Lane.mayUpdate (L : Lane) : Bool := L.on MBX_CFG.UPD_EN && L.mode = mService && L.on SSF_STATUS.STILL

/-- Bytes of a NOR erased. -/
def eraseNor (m : Memory) (lo n : Nat) : Memory := m.filter (fun c => c.1 < lo || lo + n ≤ c.1)

/-- An offer is taken: the inactive slot is erased, or the offer refused with code 8 (R454). -/
def Lane.takeOffer (L : Lane) (hdr : List Byte) : Lane :=
  let len := numOf ((hdr.drop 0x10).take 4)
  if 1 ≤ L.rd MBX_STATUS.UPD_STATE ∧ L.rd MBX_STATUS.UPD_STATE ≤ 3 then L
  else if L.mayUpdate && decide (len ≤ 0x02000000) then
    let lo := 0x02000000 * L.otherSlot
    let nor := eraseNor (eraseNor L.nor lo 0x1000) lo ((len + 65535) / 65536 * 65536)
    ({ L with nor := nor, update := hdr }.wr MBX_STATUS.UPD_STATE 1).event 30
  else L.sendMbx (.refuse 8)

/-- UPDATE_OFFER: the lane takes an offer of the management die (R454). -/
def execUpdateOffer (l : LaneId) (s : State) : Out :=
  .next (if ! s.variant.fitted l || ! (s.lane l).on MBX_STATUS.LINK then s else
    match s.md.offers.getD l.num [] with
    | [] => s
    | h :: r => (s.onMd (fun M => { M with offers := M.offers.set l.num r })).onLane l (fun L => L.takeOffer h))

/-- UPDATE_ERASE_DONE (R454). -/
def execUpdateEraseDone (l : LaneId) (s : State) : Out :=
  .next (s.onLane l (fun L =>
    if L.rd MBX_STATUS.UPD_STATE ≠ 1 then L else
    (((L.wr MBX_STATUS.UPD_STATE 2).wr Int.updOff 0x2000).event 30).sendMbx .ready))

/-- The length an accepted offer names. -/
def Lane.offeredLen (L : Lane) : Nat := numOf ((L.update.drop 0x10).take 4)

/-- A chunk at the next expected offset is programmed (R454). -/
def Lane.takeChunk (L : Lane) (bs : List Byte) : Lane :=
  let o := L.rd Int.updOff
  let K := { L with nor := L.nor.setBytes norDefault (0x02000000 * L.otherSlot + o) bs }.wr Int.updOff (o + bs.length)
  if o + bs.length < L.offeredLen then K else (K.wr MBX_STATUS.UPD_STATE 3).event 30

/-- UPDATE_CHUNK: the next `n` bytes of the staged image arrive and are programmed; `ok` says that the NOR CRC checks (R454).
(DEDUCED, assumption 67) -/
def execUpdateChunk (l : LaneId) (n : Nat) (ok : Bool) (s : State) : Out :=
  .next (s.onLane l (fun L =>
    if L.rd MBX_STATUS.UPD_STATE ≠ 2 || s.md.laneUpd l.num ≠ 2 || ! L.on MBX_STATUS.LINK then L
    else if ! ok then L.updateFails none
    else L.takeChunk (s.md.staged (L.rd Int.updOff) (min n (L.offeredLen - L.rd Int.updOff)))))

/-- The inactive slot with the offered header in place. -/
def Lane.writtenImage (L : Lane) : Image :=
  { mem := L.nor.setBytes norDefault (0x02000000 * L.otherSlot) L.update, base := 0x02000000 * L.otherSlot }

/-- The verdict on the written slot, 0 passed (R364, R453, R454). -/
def Lane.updateVerdict (L : Lane) : Nat :=
  let g := L.writtenImage
  if ! g.formatOk then 1
  else if ! g.rangesOk 0x02000000 then 2
  else if ! g.signed L.imageKeyNow then 3
  else if ! g.sects.all g.hashOk then 4
  else if g.version < L.rd MBX_VER.ROLLBACK then 5
  else if g.seq ≤ L.rd Int.loadedSeq then 6 else 0

/-- UPDATE_VERIFY_DONE: the header is programmed last, or the transfer fails (R454). -/
def execUpdateVerifyDone (l : LaneId) (s : State) : Out :=
  .next (s.onLane l (fun L =>
    if L.rd MBX_STATUS.UPD_STATE ≠ 3 then L
    else if L.updateVerdict ≠ 0 then L.updateFails (some L.updateVerdict)
    else
      let K := ({ L with nor := L.writtenImage.mem, update := [] }.wr MBX_STATUS.UPD_STATE 4).inc MBX_CNT.UPDATES
      (K.event 30).sendMbx (.result true 0)))

/-- UPDATE_CHUNK_TIMEOUT: 100 ms without a chunk (R454). (DEDUCED, assumption 67) -/
def execUpdateChunkTimeout (l : LaneId) (s : State) : Out :=
  .next (s.onLane l (fun L => if L.rd MBX_STATUS.UPD_STATE = 2 then L.updateFails none else L))

/-- UPDATE_REPLY: Owl receives READY, REFUSE or a result and moves on (R454). -/
def execUpdateReply (l : LaneId) (s : State) : Out :=
  .next (s.recvMbx l (fun m => match m with
    | .ready => some none
    | .refuse c => some (some (5, c))
    | .result ok c => some (some (if ok then 3 else 4, c))
    | _ => none) (fun (r : Option (Nat × Nat)) M => match r with
      | none => M
      | some (v, c) => M.endTransfer l.num v (if v = 3 then none else some c)))

/-- MBX_SEND: a write of MBX_SEND sends a TYPE 0x07 record (R461). -/
def execMbxSend (l : LaneId) (ident : Fin 256) (s : State) : Out :=
  .next (s.onLane l (fun L =>
    L.sendMbx (.log (L.logRecord 7 0 ident ((List.range 9).flatMap (fun k => (bytesOf 4 (L.rd (MBX_LOGW.DATA k))).map BitVec.toNat))))))

/-- ROLLBACK_COMMIT: the rollback counter advances to the loaded VERSION, at most 64, or COMMIT_REFUSED is set (R451). -/
def execRollbackCommit (l : LaneId) (s : State) : Out :=
  .next (s.onLane l (fun L =>
    if L.mode = mStandby ∧ L.rd Int.loadPhase = 4 ∧ L.rd MBX_VER.ROLLBACK < L.rd CFG_VERSION.VERSION then
      L.wr MBX_VER.ROLLBACK (min 64 (L.rd CFG_VERSION.VERSION))
    else L.set MBX_VER.COMMIT_REFUSED))

end Sys2Proof.Machine
end

