-- ==== Sys2Proof/Machine/Clocks.lean ====
section
/-! DEFINITION. Clock supervision and switching of the host and field dies and the management die (R398 to R417). -/

namespace Sys2Proof.Machine

/-! ### Switching a source (R409 to R411, R414) -/

/-- The registers and state of a clock generator: the CKG of the host die, or the FCK of the field die. -/
structure ClkRegs where
  src : Nat → Fld
  swTime : Nat → Fld
  busy : Fld
  switches : Fld
  mode : Fld
  indet : Fld
  indetCnt : Fld
  pend : Nat → Fld
  dest : Nat → Fld
  native : Nat → Fld
  next : Nat → Fld
  ramp : Nat → Fld

/-- The CKG. -/
def ckg : ClkRegs :=
  { src := fun d => if d < 4 then CKG_DOM_CTL.SRC d else CKG_STATUS.REF, swTime := CKG_DOM_CTL.SW_TIME, busy := CKG_STATUS.SW_BUSY,
    switches := CKG_CNT.SWITCHES, mode := CKG_CFG.SW_MODE, indet := CKG_FLAGS.LOST_INDET, indetCnt := CKG_CNT.INDET_CNT,
    pend := Int.swPend, dest := Int.swTo, native := Int.swNative, next := Int.swNext, ramp := Int.ramp }

/-- The FCK: domains 0 to 2, and the reference as 4. -/
def fck : ClkRegs :=
  { src := fun d => if d < 3 then FCK_DOM_CTL.SRC d else FCK_STATUS.REF, swTime := FCK_DOM_CTL.SW_TIME, busy := FCK_STATUS.SW_BUSY,
    switches := FCK_CNT.SWITCHES, mode := FCK_CFG.SW_MODE, indet := FCK_FLAGS.LOST_INDET, indetCnt := FCK_CNT.INDET_CNT,
    pend := Int.fswPend, dest := Int.fswTo, native := Int.fswNative, next := Int.fswNext, ramp := Int.framp }

/-- SW_BUSY while a switch is in progress. -/
def Lane.syncBusy (L : Lane) (c : ClkRegs) : Lane := L.put c.busy ((List.range 5).any (fun d => L.on (c.pend d)))

/-- A switch of domain `d` is started (R409). -/
def Lane.startSwitch (L : Lane) (c : ClkRegs) (d src : Nat) (native : Bool) : Lane :=
  ((((L.set (c.pend d)).wr (c.dest d) src).put (c.native d) native).wr (c.ramp d) 0).syncBusy c

/-- A switch is requested: while one is in progress only the latest request is kept; a forced one goes ahead at once
(R409, R414). -/
def Lane.requestSwitch (L : Lane) (c : ClkRegs) (d src : Nat) (native : Bool) : Lane :=
  if L.on (c.pend d) && ! native then L.wr (c.next d) (1 + src)
  else if ! L.on (c.pend d) && L.rd (c.src d) = src then L
  else (L.startSwitch c d src native).clr (c.next d)

/-- Every domain of a die is switched (R407, R409). -/
def Lane.switchAll (L : Lane) (c : ClkRegs) (n src : Nat) (native : Bool) : Lane := L.forN n (fun d K => K.requestSwitch c d src native)

/-- The switch of a domain has ended: its duration is reported, and a kept request starts (R411, R414). -/
def Lane.endSwitch (L : Lane) (c : ClkRegs) (d time : Nat) : Lane :=
  let K := (L.clr (c.pend d)).clr (c.ramp d)
  let K := (K.iff (decide (d < 4)) (fun J => J.sat (c.swTime d) time)).syncBusy c
  let n := K.rd (c.next d)
  if n = 0 then K else (K.clr (c.next d)).requestSwitch c d (n - 1) false

/-- The new source drives the output: a native switch has ended, a ramp goes on down (R409, R411). -/
def Lane.onNewSource (L : Lane) (c : ClkRegs) (d time : Nat) : Lane :=
  let K := (L.wr (c.src d) (L.rd (c.dest d))).inc c.switches
  if K.on c.mode && ! K.on (c.native d) then K.wr (c.ramp d) 5 else K.endSwitch c d time

/-- Whether the switch of a domain may now take the new source. -/
def Lane.switchReady (L : Lane) (c : ClkRegs) (d : Nat) : Bool :=
  L.on (c.pend d) && (! L.on c.mode || L.on (c.native d) || L.rd (c.ramp d) = 4)

/-- SWITCH_COMPLETE: die 0 host or 1 field, domain or reference (4), and the time since K0 in 10 ns (R409, R411). -/
def execSwitchComplete (l : LaneId) (die : Fin 2) (d : Fin 5) (time : Nat) (s : State) : Out :=
  .next (s.onLane l (fun L =>
    let c := if die = 0 then ckg else fck
    if L.switchReady c d then L.onNewSource c d time else L))

/-- SWITCH_TIMEOUT: the old source gives no edge for 8 LFO ticks; the PWM domain, without a clock since its last edge, runs again at
PWM_CLOCK_RESUME (R159, R410). (DEDUCED, assumption 118) -/
def execSwitchTimeout (l : LaneId) (die : Fin 2) (d : Fin 5) (time : Nat) (s : State) : Out :=
  .next (s.onLane l (fun L =>
    let c := if die = 0 then ckg else fck
    if ! L.switchReady c d then L else
    let K := ((L.onNewSource c d time).set c.indet).inc c.indetCnt
    if die = 0 then K.raise 0x0C
    else (K.iff ((d : Nat) = 1) (fun J => J.set Int.pwmStopped)).fieldRaise 0x93))

/-- RAMP_STEP: the divider ramp moves to its next step; after the last the switch has ended (R411). -/
def execRampStep (l : LaneId) (die : Fin 2) (d : Fin 5) (time : Nat) (s : State) : Out :=
  .next (s.onLane l (fun L =>
    let c := if die = 0 then ckg else fck
    let r := L.rd (c.ramp d)
    if ! L.on (c.pend d) || ! L.on c.mode || L.on (c.native d) || r = 4 then L
    else if r = 8 then L.endSwitch c d time
    else L.wr (c.ramp d) (r + 1)))

/-- SSC_PERIOD_START: changed spread settings take effect, after a switch in progress (R403, R414). (DEDUCED, assumption 71) -/
def execSscPeriodStart (l : LaneId) (die : Fin 2) (s : State) : Out :=
  .next (s.onLane l (fun L =>
    if die = 0 then (if L.on CKG_STATUS.SW_BUSY then L else (L.wr Int.sscDepth (L.rd CKG_CFG.SSC_DEPTH)).wr Int.sscRate (L.rd CKG_CFG.SSC_RATE))
    else (if L.on FCK_STATUS.SW_BUSY then L else (L.wr Int.fsscDepth (L.rd FCK_CFG.SSC_DEPTH)).wr Int.fsscRate (L.rd FCK_CFG.SSC_RATE))))

/-! ### Monitoring (R404 to R408) -/

/-- The host die has no clock for its fault logic: the STOP line stops, and the field die exits on the line fault (R303,
R408). (DEDUCED, assumption 71) -/
def Lane.hostClockless (L : Lane) : Lane := ((L.wr Int.line 3).syncOverrides.fieldRaise 0x45).fieldExit 0x45

/-- CLK_NME reaches every pair and cannot be masked (R374, R405). -/
def Lane.clkNme (L : Lane) : Lane := L.forN 4 (fun p K => (K.putBit (Int.events p) 2 true).wakePair p)

/-- The host crystal fails (R405, R408); the reference returns to XTAL only at host die reset. (DEDUCED, assumption 71) -/
def Lane.hostCrystalFails (L : Lane) : Lane :=
  if L.on CKG_STATUS.REF || (L.on (Int.swPend 4)) then L else
  let K := (((L.set CKG_FLAGS.XTAL_FAIL).inc CKG_CNT.XFAIL_CNT).clr CKG_STATUS.XTAL_OK).wr Int.xfTick L.lfo
  let K := (K.requestSwitch ckg 4 1 true).onNewSource ckg 4 0
  let K := (((K.set CKG_FLAGS.LOST_INDET).raise 0x08).clkNme).wr LSE_CLK.TOL_IN_USE 20000
  let K := (K.set Int.xfHold).wr CKG_STATUS.HOLD_LEFT (K.rd CKG_HOLD.XF_HOLD) |>.wr Int.xfAt K.now
  if K.on CKG_FLAGS.HFO_FAIL || K.on Int.hfoRec then K.hostClockless else K

/-- The field crystal fails (R406, R408). -/
def Lane.fieldCrystalFails (L : Lane) : Lane :=
  if L.on FCK_STATUS.REF then L else
  let K := (((L.set FCK_FLAGS.XTAL_FAIL).inc FCK_CNT.XFAIL_CNT).clr FCK_STATUS.XTAL_OK).wr Int.fxfTick L.lfo
  let K := ((K.requestSwitch fck 4 1 true).onNewSource fck 4 0).set FCK_FLAGS.LOST_INDET
  if K.on FCK_FLAGS.HFO_FAIL || K.rd Int.fhfoBad = 2 then K.set Int.pwmStopped else K.fieldRaise 0x90

/-- The host root fails: every domain goes to the HFO, and the lane exits (R407). -/
def Lane.hostRootFails (L : Lane) : Lane :=
  let K := ((L.set CKG_FLAGS.LOCK_LOST).inc CKG_CNT.UNLOCK_CNT).switchAll ckg 4 1 true
  (K.exitOn 0x0A).clr CKG_STATUS.PLL_LOCK

/-- The field root fails (R407). -/
def Lane.fieldRootFails (L : Lane) : Lane :=
  let K := ((L.set FCK_FLAGS.LOCK_LOST).inc FCK_CNT.UNLOCK_CNT).switchAll fck 3 1 true
  (K.fieldRaise 0x91).clr FCK_STATUS.PLL_LOCK

/-- Whether a crystal count lies inside 256 × (1 ± XTOL / 1,000) (R404). -/
def crystalOk (count xtol : Nat) : Bool := decide ((1000 * (count : Int) - 256000).natAbs ≤ 256 * xtol)

/-- Whether a root count lies inside 256 × (1 ± 0.06) (R404). -/
def rootOk (count : Nat) : Bool := decide ((100 * (count : Int) - 25600).natAbs ≤ 1536)

/-- Whether an HFO count lies inside 3,125 × (1 ± 0.06) (R408). -/
def hfoOk (count : Nat) : Bool := decide ((100 * (count : Int) - 312500).natAbs ≤ 18750)

/-- A crystal window of the host die. -/
def Lane.hostWindow (L : Lane) (x r : Nat) : Lane :=
  let ok := crystalOk x (L.rd CKG_CFG.XTOL)
  let K := (L.sat CKG_STATUS.XCOUNT x).put CKG_STATUS.XTAL_OK ok
  let K := K.wr Int.xBad (if ok then 0 else min 2 (K.rd Int.xBad + 1))
  let K := K.iff (K.rd Int.xBad = 2) (fun J => J.hostCrystalFails)
  K.iff (L.on CKG_STATUS.PLL_LOCK && ! rootOk r) (fun J => J.hostRootFails)

/-- A crystal window of the field die. -/
def Lane.fieldWindow (L : Lane) (x r : Nat) : Lane :=
  let ok := crystalOk x (L.rd FCK_CFG.XTOL)
  let K := (L.sat FCK_STATUS.XCOUNT x).put FCK_STATUS.XTAL_OK ok
  let K := K.wr Int.fxBad (if ok then 0 else min 2 (K.rd Int.fxBad + 1))
  let K := K.iff (K.rd Int.fxBad = 2) (fun J => J.fieldCrystalFails)
  K.iff (L.on FCK_STATUS.PLL_LOCK && ! rootOk r) (fun J => J.fieldRootFails)

/-- CRYSTAL_WINDOW: a window of 1,024 HFO cycles of the host die (0), the field die (1) or the management die (2) ends with its
XTAL and ROOT ÷ 80 counts (R404, R407). The management die has no XTOL of its own: 50, the reset value, is used.
(DEDUCED, assumption 69) -/
def execCrystalWindow (l : LaneId) (die : Fin 3) (x r : Nat) (s : State) : Out :=
  .next (match (die : Nat) with
    | 0 => s.onLane l (fun L => L.hostWindow x r)
    | 1 => s.onLane l (fun L => L.fieldWindow x r)
    | _ => s.onMd (fun M =>
        if ! M.awake then M else
        let K := M.wr Int.mdXBad (if crystalOk x 50 then 0 else min 3 (M.rd Int.mdXBad + 1))
        (K.iff (K.rd Int.mdXBad = 2) (fun J => J.ownLog 9)).iff (! rootOk r) (fun J => J.ownLog 9)))

/-- XTAL_EDGE_TIMEOUT: no XTAL edge within 16 HFO cycles (R404). -/
def execXtalEdgeTimeout (l : LaneId) (die : Fin 3) (s : State) : Out :=
  .next (match (die : Nat) with
    | 0 => s.onLane l (fun L => L.hostCrystalFails)
    | 1 => s.onLane l (fun L => L.fieldCrystalFails)
    | _ => s.onMd (fun M => if M.awake then M.ownLog 9 else M))

/-- ROOT_LOCK_ERROR: a phase error in 4 consecutive reference cycles (R404, R407). -/
def execRootLockError (l : LaneId) (die : Fin 3) (s : State) : Out :=
  .next (match (die : Nat) with
    | 0 => s.onLane l (fun L => if L.on CKG_STATUS.PLL_LOCK then L.hostRootFails else L)
    | 1 => s.onLane l (fun L => if L.on FCK_STATUS.PLL_LOCK then L.fieldRootFails else L)
    | _ => s.onMd (fun M => if M.awake then M.ownLog 9 else M))

/-- XF_HOLD_EXPIRY: XF_HOLD after a host crystal failure the lane exits (R405). -/
def execXfHoldExpiry (l : LaneId) (s : State) : Out :=
  .next (s.onLane l (fun L => if L.on Int.xfHold then ((L.clr Int.xfHold).clr CKG_STATUS.HOLD_LEFT).exitOn 0x09 else L))

/-- A crystal failure decision of the same or the previous LFO tick is withdrawn (R408). (DEDUCED, assumption 71) -/
def Lane.withdrawCrystal (L : Lane) : Lane :=
  if L.on CKG_STATUS.REF && decide (L.lfo ≤ L.rd Int.xfTick + 1) then
    (((L.clr CKG_STATUS.REF).clr CKG_FLAGS.XTAL_FAIL).clr Int.xfHold).clr CKG_STATUS.HOLD_LEFT |>.wr LSE_CLK.TOL_IN_USE (L.rd LSE_CLK.CLK_TOL)
  else L

/-- The host HFO fails (R408). (DEDUCED, assumption 91) -/
def Lane.hostHfoFails (L : Lane) : Lane :=
  if L.on CKG_FLAGS.HFO_FAIL then L else
  let K := (((L.set Int.hfoRec).wr Int.hfoTick L.lfo).set CKG_FLAGS.HFO_FAIL).withdrawCrystal
  if K.on CKG_STATUS.REF then K.hostClockless else K.exitOn 0x0D

/-- The field HFO fails (R408). -/
def Lane.fieldHfoFails (L : Lane) : Lane :=
  if L.on FCK_FLAGS.HFO_FAIL then L else
  let K := L.set FCK_FLAGS.HFO_FAIL
  let K := K.iff (K.on FCK_STATUS.REF && decide (K.lfo ≤ K.rd Int.fxfTick + 1)) (fun J => (J.clr FCK_STATUS.REF).clr FCK_FLAGS.XTAL_FAIL)
  if K.on FCK_STATUS.REF then K.set Int.pwmStopped else K.fieldRaise 0x95

/-- HFO_CHECK: the HFO cycles of an LFO tick of the host die (0), the field die (1) or the management die (2) (R408).
(DEDUCED, assumption 69) -/
def execHfoCheck (l : LaneId) (die : Fin 3) (count : Nat) (s : State) : Out :=
  let run (n : Nat) : Nat := if hfoOk count then 0 else if count = 0 then 2 else min 2 (n + 1)
  .next (match (die : Nat) with
    | 0 => s.onLane l (fun L => (L.wr Int.hfoBad (run (L.rd Int.hfoBad))).iff (run (L.rd Int.hfoBad) = 2) (fun K => K.hostHfoFails))
    | 1 => s.onLane l (fun L => (L.wr Int.fhfoBad (run (L.rd Int.fhfoBad))).iff (run (L.rd Int.fhfoBad) = 2) (fun K => K.fieldHfoFails))
    | _ => s.onMd (fun M =>
        let n := M.rd Int.mdHfoBad
        (M.wr Int.mdHfoBad (run n)).iff (run n = 2 && n ≠ 2) (fun K => K.ownLog 9)))

end Sys2Proof.Machine
end

