-- ==== Sys2Proof/Machine/Power.lean ====
section
/-! DEFINITION. Dormouse: dozing, the entry to a lane level, wakes, supplies and the class G release (R418 to R439, R471,
R486). -/

namespace Sys2Proof.Machine

/-! ### The request (R419, R420) -/

/-- The blocks that a level affects, by ID, the fabric port Hk at bit 16 + k (R421, R424). (DEDUCED, assumption 73) -/
def levelBlocks (level : Nat) : List Nat :=
  if level = 1 then [3, 16, 17, 18, 19] else (List.range 11).map (· + 1) ++ (List.range 7).map (· + 16)

/-- DOZE: the pair's clocks are gated; a pair whose queue holds work, or at which an enabled level-sensitive event stands, wakes at once
(R374, R420, R425, R436). -/
def execDoze (l : LaneId) (pair : Fin 4) (s : State) : Out :=
  .next (s.onLane l (fun L =>
    if L.on Int.held || ! L.inService pair || L.pairState pair = 1 then L
    else if ! (L.queue pair).isEmpty || L.levelStands pair then L
    else (L.putBit PSC_STATUS.DOZED pair true).startEntry))

/-! ### Prepare and commit (R421 to R424) -/

/-- Whether a crossing port of the lane still holds outstanding items; a port whose link is down counts as drained (R422).
(DEDUCED, assumption 74) -/
def Lane.undrained (L : Lane) (id : Nat) : Bool :=
  if id = 5 then L.on (FLT_P_STATUS.LINK 0) && L.rd (FLT_P_STATUS.OUTSTANDING 0) ≠ 0
  else if id = 6 then L.on (FLT_P_STATUS.LINK 1) && L.rd (FLT_P_STATUS.OUTSTANDING 1) ≠ 0
  else if id = 7 then L.on MBX_STATUS.LINK && ! L.mbxUp.isEmpty
  else if id = 8 then L.on COU_STATUS.LINK && L.rd COU_STATUS.OUTSTANDING ≠ 0
  else false

/-- The reason with which a block refuses PREPARE, 0 when it accepts (R424, R436). `busy` says that a frame is on the CAN bus.
(DEDUCED, assumption 74) -/
def Lane.refusal (L : Lane) (id : Nat) (busy : Bool) : Nat :=
  let deep := 2 ≤ L.rd Int.pscAsk
  if id = 1 then bit (deep && (! L.sched.ready.isEmpty || L.sched.queues.any (fun q => ! q.isEmpty)))
  else if id = 2 then 2 * bit (L.holds || L.rd LSE_STATUS.ROLE = roleClaiming || L.bitOf PSC_WAKE.WAKES 3)
  else if id = 3 then 3 * bit (L.rd BST_STATUS.PHASE ≠ 0 || L.rd Int.withdraw ≠ 0)
  else if id = 4 then 4 * bit (L.rd Int.pscAsk = 2 && L.on CKG_FLAGS.XTAL_FAIL)
  else if id = 9 then bit (L.on NGB_STATUS.SW_PEND)
  else if id = 10 then bit (L.rd CAN_TXREQ.REQ ≠ 0 || busy)
  else if id = 11 then 8 * bit (L.on BGR_STATE.PEND_ANY)
  else 0

/-- N2: CORE clocks stop at level 1; at level 2 and 3 SA and NET go OFF, their list entries saved, and at level 3 the PSC
writes OFF to FPS_CTL (R421, R432). (DEDUCED, assumption 76) -/
def Lane.commitEntry (L : Lane) : Lane :=
  if L.rd Int.pscAsk = 1 then (((L.wr PSC_STATUS.STAGE pscIdle).wr PSC_STATUS.CORE 1).wr PSC_STATUS.LEVEL_NOW 1).inc PSC_CNT.ENTRIES
  else
    let K := (L.wr PSC_STATUS.STAGE pscCommit).retCount.retSave (if L.rd PSC_STATUS.SA = 0 then [1, 2] else [1])
    let K := K.iff (K.rd PSC_STATUS.SA = 0) (fun J => ((J.set Int.pscSa).wr PSC_STATUS.SA 3).unpowered)
    let K := K.netOff
    if K.rd Int.pscAsk = 3 then K.toField (.control .fieldOff) else (K.set Int.pscN3).wr PSC_STATUS.STAGE pscSave

/-- N2, once every block has answered ACCEPT: abort point 2, or commit (R421, R425). -/
def Lane.blocksAnswered (L : Lane) : Lane :=
  if ! (levelBlocks (L.rd Int.pscAsk)).all (fun k => L.bitOf Int.pscAnswered k) then L
  else if L.on Int.wakePend then L.abortEntry 2 0 else L.commitEntry

/-- BLOCK_ANSWER: a block answers PREPARE; a port that is not drained answers nothing yet (R421, R422, R424). -/
def execBlockAnswer (l : LaneId) (id : Fin 32) (busy : Bool) (s : State) : Out :=
  .next (s.onLane l (fun L =>
    if L.rd PSC_STATUS.STAGE ≠ pscPrepare || ! (levelBlocks (L.rd Int.pscAsk)).contains id || L.bitOf Int.pscAnswered id || L.undrained id
    then L
    else if L.refusal id busy ≠ 0 then L.refuseEntry id (L.refusal id busy) 2
    else (L.putBit Int.pscAnswered id true).blocksAnswered))

/-- DRAIN_TIMEOUT: 64 µs after N1 a port that still holds items refuses (R422, R437). (DEDUCED, assumption 74) -/
def execDrainTimeout (l : LaneId) (id : Fin 32) (s : State) : Out :=
  .next (s.onLane l (fun L =>
    if L.rd PSC_STATUS.STAGE ≠ pscPrepare || L.bitOf Int.pscAnswered id || ! (levelBlocks (L.rd Int.pscAsk)).contains id then L
    else if L.undrained id || decide (16 ≤ (id : Nat)) then (L.refuseEntry id 5 2).raise 0xD2 else L))

/-- Whether the field die reports its regions OFF (R439). -/
def Lane.fieldIsOff (L : Lane) : Bool := L.rd FPS_STATUS.CLE = 3 && L.rd FPS_STATUS.PWM = 3 && L.rd FPS_STATUS.ANALOG = 3

/-- FIELD_OFF_DONE: N3, the field regions OFF in time or the FPS refusing; abort point 3 (R421, R423, R424). -/
def execFieldOffDone (l : LaneId) (inTime : Bool) (s : State) : Out :=
  .next (s.onLane l (fun L =>
    if L.rd PSC_STATUS.STAGE ≠ pscCommit || L.rd Int.pscAsk ≠ 3 then L
    else if ! inTime || ! L.fieldIsOff then L.lateRefuse 0x0C 6
    else
      let K := L.set Int.pscN3
      if K.on Int.wakePend then K.abortEntry 3 0
      else ((K.wr PSC_STATUS.STAGE pscSave).wr PSC_STATUS.CORE 2).wr PSC_STATUS.FABRIC 2))

/-- Every domain that runs in deep sleep takes the HFO, and the PLL stops (R413). (DEDUCED, assumption 72) -/
def Lane.deepClocks (L : Lane) : Lane :=
  (L.forN 4 (fun d K => K.iff (K.on (CKG_DOM_CTL.DSLP_EN d) && ! K.on (CKG_DOM_CTL.SRC d)) (fun J => (J.wr (CKG_DOM_CTL.SRC d) 1).inc CKG_CNT.SWITCHES))).clr
    CKG_STATUS.PLL_LOCK

/-- RETENTION_SAVE_DONE: the list is saved with its CRC, which is read back; N4 with abort point 4, or a refusal (R421, R424,
R432). At level 2 CORE and FABRIC are in DEEP and the entry is complete. -/
def execRetentionSaveDone (l : LaneId) (ok : Bool) (s : State) : Out :=
  .next (s.onLane l (fun L =>
    if L.rd PSC_STATUS.STAGE ≠ pscSave then L
    else if ! ok then L.lateRefuse 0x0E 9
    else if L.on Int.wakePend then L.abortEntry 4 0
    else if L.rd Int.pscAsk = 2 then
      ((((L.wr PSC_STATUS.STAGE pscIdle).wr PSC_STATUS.CORE 2).wr PSC_STATUS.FABRIC 2).wr PSC_STATUS.LEVEL_NOW 2).deepClocks.inc PSC_CNT.ENTRIES
    else (((L.retSave [0]).wr PSC_STATUS.STAGE pscGating).set Int.pscN4).clr CKG_STATUS.PLL_LOCK))

/-- REGION_OFF_DONE: N5, CORE and FABRIC OFF and the lane ASLEEP, which completes the shutdown work; a wake latched after N4 is
replayed (R47, R419, R421, R426). -/
def execRegionOffDone (l : LaneId) (s : State) : Out :=
  .next (s.onLane l (fun L =>
    if L.rd PSC_STATUS.STAGE ≠ pscGating then L else
    let K := ((((L.wr PSC_STATUS.STAGE pscIdle).wr PSC_STATUS.CORE 3).wr PSC_STATUS.FABRIC 3).wr PSC_STATUS.LEVEL_NOW 3).inc PSC_CNT.ENTRIES
    let K := (K.setMode mDormant 0x0D K.me).setState stAsleep
    if K.rd PSC_WAKE.WAKES % 16 ≠ 0 then (K.inc PSC_WAKE.REPLAYS).wakeDormant else K))

/-! ### Wakes (R425 to R427) -/

/-- PRIVILEGED_WAKE: KEY_ON (0), SS_REQ (1), Nguas (2), lease takeover (3) or debug (4) is latched (R425, R426). -/
def execPrivilegedWake (l : LaneId) (which : Fin 5) (s : State) : Out := .next (s.onLane l (fun L => L.privilegedWake which))

/-- REGION_POWER_UP: the host regions of a woken lane, or NET at a wake from level 2, or the field regions are supplied and in
range (R427, R432). -/
def execRegionPowerUp (l : LaneId) (fieldSide : Bool) (s : State) : Out :=
  .next (s.onLane l (fun L =>
    if fieldSide then (if L.fieldIsOff && L.state ≠ stAsleep then L.fieldRestart else L)
    else if L.on Int.deepWake then
      (if L.rd PSC_STATUS.CORE = 0 then (((L.netOn.clr Int.deepWake).wr PSC_STATUS.LEVEL_NOW 0).replayNguasWake) else L)
    else if L.on Int.held && L.rd PSC_STATUS.FABRIC = 3 then ((L.wr PSC_STATUS.CORE 0).wr PSC_STATUS.FABRIC 0).wr PSC_STATUS.NET 0
    else L))

/-- A wake at level 2: the PLL has relocked, the domains switch back, and CORE and FABRIC run (R413, R427). (DEDUCED, assumption 76) -/
def Lane.deepRelock (L : Lane) : Lane :=
  let K := L.forN 4 (fun d K => K.iff (K.on (CKG_DOM_CTL.DSLP_EN d)) (fun J => J.requestSwitch ckg d 0 false))
  ((K.wr PSC_STATUS.CORE 0).wr PSC_STATUS.FABRIC 0).wr PSC_STATUS.DOZED 0

/-- G_RELEASE: the PSC carries the release of class G to the field die (R430). -/
def execGRelease (l : LaneId) (s : State) : Out := .next (s.onLane l (fun L => L.toField (.control .gRelease)))

/-! ### Supplies and temperature (R34, R434, R471, R486) -/

/-- A host supply, 0 VDD_CORE, 1 VDD_IO, 2 VDD_AON, reads out of range: its source is raised and the lane exits (R434, R437). -/
def Lane.hostSupplyBad (L : Lane) (k : Nat) : Lane :=
  if ! L.bitOf PSC_SUPPLY.OK k then L else ((L.putBit PSC_SUPPLY.OK k false).syncRecommended).exitOn (0xD5 + k)

/-- A field supply, 0 VDD_FCORE, 1 VDD_FIO, 2 VDDA, reads out of range: the first two latch class G (R430, R434).
(DEDUCED, assumption 77) -/
def Lane.fieldSupplyBad (L : Lane) (k : Nat) : Lane :=
  if ! L.bitOf FPS_STATUS.OK k then L else
  ((L.putBit FPS_STATUS.OK k false).iff (decide (k < 2)) (fun K => K.latchG)).fieldRaise 0x9C |>.syncRecommended

/-- SUPPLY_OUT_OF_RANGE: VDD_CORE, VDD_IO, VDD_AON (0 to 2), VDD_FCORE, VDD_FIO or VDDA (3 to 5) (R430, R434). (DEDUCED, assumption 31) -/
def execSupplyOutOfRange (l : LaneId) (which : Fin 6) (s : State) : Out :=
  .next (s.onLane l (fun L => if (which : Nat) < 3 then L.hostSupplyBad which else L.fieldSupplyBad (which - 3)))

/-- SUPPLY_IN_RANGE: the OK bit sets; with every field supply in range, SQ2, the field die leaves its reset (R434, R471).
(DEDUCED, assumption 31, DEDUCED, assumption 77) -/
def execSupplyInRange (l : LaneId) (which : Fin 6) (s : State) : Out :=
  .next (s.onLane l (fun L =>
    if (which : Nat) < 3 then (L.putBit PSC_SUPPLY.OK which true).syncRecommended
    else
      let K := L.putBit FPS_STATUS.OK (which - 3) true
      (K.iff (K.rd FPS_STATUS.OK = 7) (fun J => J.iff (J.on Int.fieldHeld) (fun J => (J.clr Int.fieldHeld).forN 3 (fun p M => M.fieldPortStart p)))).syncRecommended))

/-- A die temperature sensor of the lane reads too high (R34, R486); a die over-temperature exits the lane (R20).
(DEDUCED, assumption 77) -/
def Lane.tooHot (L : Lane) (exits : Bool) : Lane :=
  ((L.set Int.overTemp).syncRecommended).iff exits (fun K => K.latchE0 0)

/-- TEMPERATURE_OUT_OF_RANGE: a die sensor above 150 °C (0), an over-temperature of the die (1), or of the package (2), at which
every lane exits on its own sensors and the device mode becomes TORQUE-OFF with the last one (R20, R33, R47, R486). -/
def execTemperatureOutOfRange (l : LaneId) (level : Fin 3) (s : State) : Out :=
  .next (if (level : Nat) < 2 then s.onLane l (fun L => L.tooHot ((level : Nat) = 1))
    else ((s.onLane .a (fun L => L.tooHot true)).onLane .b (fun L => L.tooHot true)).onLane .c (fun L => L.tooHot true))

end Sys2Proof.Machine
end

