-- ==== Sys2Proof/Machine/SelfTest.lean ====
section
/-! DEFINITION. Woodpecker and the life-cycle: tokens, slices, the shutdown test, direct tests, the scrub, and the local
reactions to parity and ECC errors (R212, R296, R375 to R397). -/

namespace Sys2Proof.Machine

/-! ### Tokens (R379 to R381) -/

/-- Every field of the token has its required form (R381). (DEDUCED, assumption 79) -/
def Lane.tokenForm (L : Lane) : Bool :=
  let target := L.token 4 4
  L.token 0 4 = 0x4E4B544C && decide (1 ≤ target) && decide (target ≤ 4) && decide (L.token 0x28 4 ≤ 1) && L.token 0x2C 4 = 0 && L.token 0xF0 16 = 0 &&
    (target = 1 || (L.token 0x30 96 = 0 && L.token 0x90 96 = 0))

/-- DIE_ID and CHALLENGE equal the present ones (R381). -/
def Lane.tokenBound (L : Lane) : Bool :=
  (List.range 4).all (fun k => L.token (8 + 4 * k) 4 = L.rd (LCS_DIEID.DIEID k) && L.token (0x18 + 4 * k) 4 = L.rd (LCS_CHAL.CHAL k))

/-- The signer that R380 names for a target in the present state: 0 the Darevo life-cycle key, 1 the service key. -/
def Lane.tokenSigner (L : Lane) : Nat := if L.token 4 4 = 3 || (L.token 4 4 = 2 && L.rd LCS_STATE.STATE = 3) then 1 else 0

/-- The signature over the first 256 bytes verifies (R381). -/
def Lane.tokenSigned (L : Lane) : Bool :=
  Config.ecdsaOk (if L.token 0x28 4 = 0 then Config.lifeCycleKey else L.rd Int.serviceKey) (bytesOf 256 (L.token 0 256)) (bytesOf 96 (L.token 0x100 96))

/-- The result code of a verification, the first check that fails (R381, R397). (DEDUCED, assumption 79) -/
def Lane.tokenCode (L : Lane) : Nat :=
  if ! L.tokenForm then 1 else if ! L.tokenBound then 2 else if L.token 0x28 4 ≠ L.tokenSigner then 3
  else if L.on Int.tokenBad || ! L.tokenCondition then 4 else if ! L.tokenSigned then 5 else 0

/-- TOKEN_SUBMIT: a verification starts, and from then on its condition is looked at; one under way goes on (R381, R394, R397).
(DEDUCED, assumption 79) -/
def execTokenSubmit (l : LaneId) (s : State) : Out :=
  .next (s.onLane l (fun L => if L.on LCS_RESULT.BUSY then L else ((L.clr Int.tokenBad).set LCS_RESULT.BUSY).watchToken))

/-- The two-wire debug link is open outside FIELD and RETIRED (R379). -/
def Lane.syncDebug (L : Lane) : Lane := L.put LCS_STATE.DBG_OPEN (L.rd LCS_STATE.STATE = 0 || L.rd LCS_STATE.STATE = 1 || L.rd LCS_STATE.STATE = 3)

/-- The transition that an accepted token makes (R380). -/
def Lane.lifeCycleTo (L : Lane) (target : Nat) : Lane :=
  let K := L.raise 0xE6
  if target = 2 && L.rd LCS_STATE.STATE = 3 then K.endLifecycleService
  else if target = 4 then (K.set LCS_STATE.RETIRE_PEND).inc LCS_RESULT.TRANS_CNT
  else
    let K := ((K.wr LCS_STATE.STATE target).inc LCS_RESULT.TRANS_CNT).iff (target = 1)
      (fun J => ((J.wr Int.imageKey (J.token 0x30 96)).wr Int.serviceKey (J.token 0x90 96)).wrFree Int.laneKey)
    (K.syncDebug).syncGuarantee

/-- TOKEN_VERIFIED: the verification ends with its result, and a new challenge is drawn (R380, R381, R395). -/
def execTokenVerified (l : LaneId) (s : State) : Out :=
  .next (s.onLane l (fun L =>
    if ! L.on LCS_RESULT.BUSY then L else
    let code := L.tokenCode
    let K := (L.clr LCS_RESULT.BUSY).wr LCS_RESULT.CODE code
    let K := if code = 0 then K.lifeCycleTo (L.token 4 4) else K.raise 0xE5
    K.newChallenge))

/-! ### Slices of a PG930-D (R390, R391) -/

/-- The next pair in the order 0, 1, 2, 3 from `p`, fenced pairs skipped (R390). -/
def Lane.slicePairFrom (L : Lane) (p : Nat) : Nat :=
  match ((List.range 4).map (fun i => (p + i) % 4)).find? (fun q => L.pairState q ≠ 3) with
  | some q => q
  | none => p

/-- The pair of the next slice and its next segment are shown (R390, R396). -/
def Lane.aimSlice (L : Lane) (p : Nat) : Lane :=
  let q := L.slicePairFrom p
  (L.wr BST_SLICE.NEXT_PAIR q).wr BST_SLICE.SEG (L.rd (Int.seg q))

/-- BST_COVER shows the time since each pair's last cover in seconds (R396). -/
def Lane.syncCover (L : Lane) : Lane :=
  L.wr BST_COVER.COVER (packWord ((List.range 4).map (fun p => (min 255 (L.rd (Int.coverMs p) / 1000), 8 * p))))

/-- The cover time of a pair goes on by a period; a pair not covered in 800 periods is reported once (R391). (DEDUCED, assumption 59) -/
def Lane.coverTime (L : Lane) (p : Nat) : Lane :=
  let K := L.add (Int.coverMs p) (L.rd BST_CFG.SLICE_PERIOD)
  if 800 * K.rd BST_CFG.SLICE_PERIOD < K.rd (Int.coverMs p) ∧ ¬ K.on (Int.coverLate p) then (K.set (Int.coverLate p)).raise 0xE4 else K

/-- SLICE_PERIOD_EXPIRY: on a PG930-D, in the modes of R52, the BST requests the withdrawal of the next pair; in the frame of a
planned handover the slice waits a period (R390, R391, R394). (DEDUCED, assumption 59) -/
def execSlicePeriodExpiry (l : LaneId) (s : State) : Out :=
  .next (s.onLane l (fun L =>
    if L.strap.variant ≠ .d || decide (L.mode < mStandby) || decide (mTorqueOff < L.mode) then L else
    let K := (L.forN 4 (fun p J => J.coverTime p)).syncCover
    if K.rd Int.hoPhase ≠ 0 || K.rd BST_STATUS.PHASE ≠ 0 || K.rd Int.withdraw ≠ 0 then K else
    let J := K.aimSlice (K.rd BST_SLICE.NEXT_PAIR)
    J.requestWithdrawal (J.rd BST_SLICE.NEXT_PAIR)))

/-- A segment has passed: the pair's next one, or its cover (R390, R391). -/
def Lane.segmentPassed (L : Lane) (p : Nat) : Lane :=
  let n := L.rd (Int.seg p) + 1
  let K := L.inc BST_CNT.SLICES
  if n < 100 then K.wr (Int.seg p) n else ((K.clr (Int.seg p)).clr (Int.coverMs p)).clr (Int.coverLate p)

/-- SLICE_DONE: the segment of the withdrawn pair ends; after a lane exit it is not counted, and a failure exits the lane (R390
to R392, R394). -/
def execSliceDone (l : LaneId) (ok : Bool) (s : State) : Out :=
  .next (s.onLane l (fun L =>
    let p := L.rd BST_SLICE.NEXT_PAIR
    if L.rd BST_STATUS.PHASE ≠ 3 || L.pairState p ≠ 5 then L else
    let K := L.wr BST_STATUS.PHASE 0
    if ! ok then K.selfTestFails p true
    else
      let K := if K.on Int.e0 then K else (K.segmentPassed p).aimSlice (p + 1)
      (K.restartWithdrawn p).syncCover))

/-! ### The shutdown test (R386, R389) -/

/-- A new certificate in copy `c`, its sector erased first (R386, R389). -/
def Lane.writeCert (L : Lane) (c : Nat) : Lane :=
  let b := certBase c
  let head := bytesOf 4 0x54435357 ++ bytesOf 4 0xFFFFFFFF ++ (List.range 4).flatMap (fun k => bytesOf 4 (L.rd (LCS_DIEID.DIEID k))) ++
    bytesOf 8 (L.rd Int.aonNonce) ++ bytesOf 8 L.lfo ++ bytesOf 4 (L.rd Int.loadedSeq) ++ bytesOf 4 0xF ++
    (List.range 12).flatMap (fun k => bytesOf 4 (L.rd (CFG_DIGEST.DIGEST k)))
  let sig := bytesOf 96 (Config.ecdsaSign (L.rd Int.laneKey) head).toNat
  let kept : Memory := L.nor.filter (fun e => ! (decide (b ≤ e.1) && decide (e.1 < b + 0x1000)))
  { L with nor := kept.setBytes norDefault b (head ++ sig) }

/-- SHUTDOWN_TEST_DONE: the full test of a PG930-T in SHUTDOWN ends; a pass writes a certificate into the other copy (R389). -/
def execShutdownTestDone (l : LaneId) (passed : Bool) (unit : Fin 7) (s : State) : Out :=
  .next (s.onLane l (fun L =>
    if L.mode ≠ mShutdown || L.rd BST_STATUS.PHASE ≠ 2 then L else
    let K := L.wr BST_STATUS.PHASE 0
    if passed then (K.writeCert (if K.newestCert = some 0 then 1 else 0)).inc BST_CNT.FULL_PASS
    else ((K.set BST_STATUS.SD_FAIL).wr BST_STATUS.FAIL_UNIT unit).raise 0xE2))

/-! ### Direct access (R379, R393) -/

/-- The pair of a direct target, 4 standing for the split PAIR[3] (R396). -/
def directPair (unit : Nat) : Nat := if unit = 4 then 3 else unit

/-- Whether a direct test is accepted (R393). (DEDUCED, assumption 81) -/
def Lane.directAllowed (L : Lane) (test unit : Nat) : Bool :=
  (L.rd LCS_STATE.STATE = 0 || L.rd LCS_STATE.STATE = 3) && L.mode = mService && decide (test ≤ 3) && L.rd BST_STATUS.PHASE = 0 &&
  (test ≠ 0 || (decide (unit ≤ 4) && ! L.capacityForbids (directPair unit) && (L.pairState (directPair unit) = 0 || L.pairState (directPair unit) = 4))) &&
  (test < 2 || (List.range 8).all (fun n => ! L.on (CLE_AX_STATUS.RUNNING n)))

/-- A direct test starts: a pair target is withdrawn first, and the line is kept at STO while field logic is tested (R384, R393).
(DEDUCED, assumption 81) -/
def Lane.directStart (L : Lane) (test unit : Nat) : Lane :=
  if ! L.directAllowed test unit then (L.inc BST_CNT.DIRECT_REFUSED).raise 0xE7 else
  let K := (L.wr BST_STATUS.PHASE 4).wr Int.directUnit (if test = 0 then directPair unit else 3 + test)
  if test = 0 then K.requestWithdrawal (directPair unit)
  else K.iff (test = 2) (fun J => (J.set Int.bstSto).updateLine)

/-- DIRECT_TEST_START: GO is written in BST_DIRECT with a test, a unit and a segment (R393). -/
def execDirectTestStart (l : LaneId) (test : Fin 256) (unit : Fin 16) (_segment : Fin 128) (s : State) : Out :=
  .next (s.onLane l (fun L => L.directStart test unit))

/-- DIRECT_TEST_DONE: the pair restarts, the line is released, after a test of the field die its CRC is read again; a failure sets
ST_FAIL (R384, R392, R393). (DEDUCED, assumption 81) -/
def execDirectTestDone (l : LaneId) (ok : Bool) (s : State) : Out :=
  .next (s.onLane l (fun L =>
    let u := L.rd Int.directUnit
    if L.rd BST_STATUS.PHASE ≠ 4 || (decide (u < 4) && L.pairState u ≠ 5) then L else
    let K := (L.wr BST_STATUS.PHASE 0).iff (L.on Int.bstSto) (fun J => (J.clr Int.bstSto).updateLine)
    let K := K.iff (decide (5 ≤ u)) (fun J => J.toField .readCrc)
    if ! ok then K.selfTestFails u false
    else if u < 4 then K.restartWithdrawn u else K))

/-- BOUNDARY_SCAN_INSTRUCTION: IDCODE and BYPASS always, every other instruction outside FIELD and RETIRED while R52 places the
gate outputs off; another is refused (R379). (DEDUCED, assumption 81) -/
def execBoundaryScanInstruction (l : LaneId) (full : Bool) (s : State) : Out :=
  .next (s.onLane l (fun L =>
    if ! full || (L.rd LCS_STATE.STATE ≠ 2 && L.rd LCS_STATE.STATE ≠ 4 && gatesOff L.mode) then L else L.raise 0xE7))

/-! ### The scrub (R376) -/

/-- SCRUB_SWEEP: a sweep has read every ECC word, in `ms` milliseconds (R376). (DESIGN CHOICE, assumption 83) -/
def execScrubSweep (l : LaneId) (ms : Nat) (s : State) : Out :=
  .next (s.onLane l (fun L => (L.sat CFG_SCRUB.SWEEP_MS ms).inc CFG_SCRUB.SWEEPS))

/-- SCRUB_LATE: a sweep is not complete within 2.2 s (R376). -/
def execScrubLate (l : LaneId) (s : State) : Out := .next (s.onLane l (fun L => L.raise 0xF6))

/-! ### Parity and ECC (R76, R90, R188, R212, R284, R296, R356, R375, R377, R460) -/

/-- An uncorrectable Squirrel word: the checkpoint half (0 to 7, pair and half) or snapshot copy (8, 9) that holds it is marked
invalid (R377). -/
def Lane.squirrelBad (L : Lane) (part : Nat) : Lane :=
  if part < 8 then L.iff (decide (L.rd (LSC_PAIR_CKPT.VALID_HALF (part / 2)) = part % 2)) (fun K => K.clr (LSC_PAIR_CKPT.VALID (part / 2)))
  else L.clr (Int.snapWritten (part - 8))

/-- The local reaction of a block of the field die; its message and, at S4, the forcing of the gate outputs follow (R296). -/
def Lane.fieldParity (L : Lane) (src part : Nat) : Lane :=
  let K := L.fieldRaise src
  if src = 0x60 || src = 0x6F || src = 0x8D then K.allSafe src
  else if src = 0x61 then K.enterSafe (part % 8) src
  else if src = 0x70 then ((K.set Int.pwmBad).syncOverrides).settleStopping
  else if src = 0x7D then K.set Int.fbiBad
  else if src = 0x88 then K.set Int.dclBad
  else if src = 0x9B then (((K.set Int.stoBad).requestSto 0).requestSto 1).checkE5
  else K

/-- The local reaction of a block of the host die (R20, R264, R296, R356, R375, R377, R460). -/
def Lane.hostParity (L : Lane) (src part : Nat) : Lane :=
  if src = 0x01 && part = 0 then ((L.set BGR_STATE.SELF).react ⟨src, false, 1, 0⟩ false true).latchE0 src
  else if src = 0xA6 then (L.raise src).bar
  else if src = 0xCF then ((L.set Int.canOff).syncCan).raise src
  else if src = 0x52 then (((L.set Int.mbxOff).clr MBX_STATUS.LINK).updateFails none).raise src
  else if src = 0xF1 then (L.fencePair (part % 4)).raise src
  else if src = 0xF5 then (L.squirrelBad (part % 10)).raise src
  else if [0xF0, 0xF2, 0xF4].contains src then L.raise src
  else L.exitOn src

/-- The parity and ECC sources of the field die and of the host die. -/
def fieldParitySources : List Nat := [0x60, 0x61, 0x62, 0x6F, 0x70, 0x7D, 0x88, 0x8D, 0x94, 0x9B, 0x9E]
def hostParitySources : List Nat :=
  [0x01, 0x0B, 0x24, 0x39, 0x46, 0x4D, 0x52, 0xA6, 0xB7, 0xC9, 0xCF, 0xD9, 0xE9, 0xEA, 0xF0, 0xF1, 0xF2, 0xF3, 0xF4, 0xF5, 0xFD]

/-- PARITY_ERROR: a block, named by its source, detects a parity or ECC error in the part `part` of it: an axis, a pair, a half,
and for the BGR 0 the first-fault logic (R296). (DESIGN CHOICE, assumption 83) -/
def execParityError (l : LaneId) (src : Nat) (part : Fin 16) (s : State) : Out :=
  .next (s.onLane l (fun L =>
    if fieldParitySources.contains src then L.fieldParity src part
    else if hostParitySources.contains src then L.hostParity src part else L))

end Sys2Proof.Machine
end

