-- ==== Sys2Proof/Machine/FieldWrite.lean ====
section
/-! DEFINITION. What a register-write item does at the field die: the fields whose write has an effect of its own, and
every other field by R8 and R9 (R76, R79, R141, R142, R163, R178, R179, R184, R197, R205, R368). -/

namespace Sys2Proof.Machine

/-- Apply `g` for the index at which a register of `n` like ones lies at address `a`. -/
def Lane.atIndex (L : Lane) (n : Nat) (addr : Nat → Nat) (a : Nat) (g : Nat → Lane → Lane) : Lane :=
  match (List.range n).find? (fun i => addr i = a) with
  | some i => g i L
  | none => L

/-- Whether the edges of an output's group belong to the CLE: an axis runs (R142). -/
def Lane.cleOwns (L : Lane) (k : Nat) : Bool := k < 48 && L.on (CLE_AX_STATUS.RUNNING (k / 6))

/-- Whether the edges of an output belong to the DCL: its chopper is enabled (R204). -/
def Lane.dclOwns (L : Lane) (k : Nat) : Bool := 48 ≤ k && L.on (DCL_CH_CFG.CHOP_EN (k - 48))

/-- A host write of a shadow of a running group is ignored and counted (R142). -/
def Lane.refuseHost (L : Lane) (g : Nat) : Lane := L.inc (PWM_GROUP_CNT.HOST_WR_REFUSED g)

/-- Writes to the registers of the CLE and of Fox (R74 to R79, R87, R99, R130). (DEDUCED, assumption 95) -/
def Lane.writeCle (L : Lane) (a data : Nat) : Lane :=
  let K := L.atIndex 8 (fun n => (CLE_AX_CTL.ENABLE n).addr) a (fun n J =>
    ((J.put (PWM_GROUP_CTL.XFER n) (J.on (CLE_AX_CTL.UPDATE n))).syncInput n).writeEnable n (J.written (CLE_AX_CTL.ENABLE n) a data ≠ 0))
  let K := K.atIndex 8 (fun n => (CLE_AX_FOX_CTL.ANGLE_MODE n).addr) a (fun n J =>
    if J.on (CLE_AX_STATUS.RUNNING n) then J else (J.loadFoxCtl n).syncOverride n)
  let K := K.atIndex 8 (fun n => (CLE_AX_BANK.REQ n).addr) a (fun n J =>
    if (CLE_AX_BANK.REQ n).take a 0 data = 0 then J else J.requestBank n ((CLE_AX_BANK.TARGET n).take a 0 data))
  let c := (CLE_COEF.K 0 0 0).addr
  let K := K.iff (decide (c ≤ a) && decide (a < c + 8192) && decide ((a - c) % 1024 < 512)) (fun J => J.writeCoef ((a - c) / 1024) ((a - c) / 256 % 2) ((a - c) / 4 % 64) data)
  let m := (CLE_MAP.PSI 0 0 0).addr
  K.iff (decide (m ≤ a) && decide (a < m + 131072)) (fun J =>
    J.writeMap ((a - m) / 16384) ((a - m) / 8192 % 2) ((a - m) / 8 % 1024) ((a - m) / 4 % 2 = 1) data)

/-- A shadow of a group of the PWM unit is written, clamped (R141, R165). -/
def Lane.writeShadow (L : Lane) (f : Fld) (a data least : Nat) : Lane := L.wrAt f (max least (L.written f a data)) L.ftb

/-- Writes to the registers of the PWM unit (R141, R142, R149, R163, R169, R204). -/
def Lane.writePwm (L : Lane) (a data : Nat) : Lane :=
  let K := L.atIndex 12 (fun g => (PWM_GROUP_CTL.RUN g).addr) a (fun g J => J.writeRun g (J.written (PWM_GROUP_CTL.RUN g) a data ≠ 0))
  let K := K.atIndex 12 (fun g => (PWM_GROUP_PERIOD.PERIOD g).addr) a (fun g J => J.writeShadow (PWM_GROUP_PERIOD.PERIOD g) a data (if g < 8 then 5000 else 500))
  let K := K.atIndex 12 (fun g => (PWM_GROUP_PHASE.PHASE g).addr) a (fun g J => J.writeShadow (PWM_GROUP_PHASE.PHASE g) a data 0)
  let K := K.atIndex 12 (fun g => (PWM_GROUP_COMMIT.COMMIT g).addr) a (fun g J =>
    if (PWM_GROUP_COMMIT.COMMIT g).take a 0 data = 0 then J else J.commitGroup g J.ftb)
  let K := K.atIndex 26 (fun p => (PWM_PAIR_CFG.DT p).addr) a (fun p J =>
    if J.cleOwns (2 * p) then J.refuseHost (groupOf (2 * p))
    else
      let K := J.wrAt (PWM_PAIR_CFG.DT p) (clampN 0 8191 (J.written (PWM_PAIR_CFG.DT p) a data)) J.ftb
      if p < 24 then K.wrAt (PWM_PAIR_CFG.COMPL p) (1 - J.written (PWM_PAIR_CFG.COMPL p) a data % 2) J.ftb else K)
  let K := K.atIndex 52 (fun k => (PWM_OUT_RISE.RISE k).addr) a (fun k J =>
    if J.cleOwns k || J.dclOwns k then J.refuseHost (groupOf k) else J.putRise k (J.written (PWM_OUT_RISE.RISE k) a data) J.ftb)
  let K := K.atIndex 52 (fun k => (PWM_OUT_FALL.FALL k).addr) a (fun k J =>
    if J.cleOwns k || J.dclOwns k then J.refuseHost (groupOf k) else J.putFall k (J.written (PWM_OUT_FALL.FALL k) a data) J.ftb)
  let K := K.atIndex 8 (fun g => (PWM_GROUP_CTL.XFER g).addr) a (fun g J => J.put (PWM_GROUP_CTL.XFER g) (J.on (CLE_AX_CTL.UPDATE g)))
  K.atIndex 52 (fun k => (PWM_OUT_CFG.MINPULSE_MODE k).addr) a (fun k J => J.clr (PWM_OUT_CNT.CARRY k))

/-- Writes to the registers of the FBI (R173, R178, R179, R184). -/
def Lane.writeFbi (L : Lane) (a data : Nat) : Lane :=
  let K := L.atIndex 8 (fun n => (FBI_AX_CFG.EN n).addr) a (fun n J => J.writeFbiEn n (J.written (FBI_AX_CFG.EN n) a data ≠ 0))
  let K := K.atIndex 8 (fun n => (FBI_AX_STATUS.WIRE n).addr) a (fun n J =>
    let w := J.rd (FBI_AX_STATUS.WIRE n)
    if (sectorOf (J.rd (FBI_AX_STATUS.CODE n))).isNone then J else
    J.wr (FBI_AX_STATUS.WIRE n) (w - (w &&& ((FBI_AX_STATUS.WIRE n).take a 0 data &&& (7 - J.rd (Int.pairBad n))))))
  let K := K.atIndex 8 (fun n => (FBI_AX.POS_SET n).addr) a (fun n J => J.presetPos n data)
  let K := K.atIndex 8 (fun n => (FBI_AX.SOFT_MIN n).addr) a (fun n J => J.writeSoft n false data)
  let K := K.atIndex 8 (fun n => (FBI_AX.SOFT_MAX n).addr) a (fun n J => J.writeSoft n true data)
  K.atIndex 32 (fun i => (FBI_AX_CMP_VAL.VAL (i / 4) (i % 4)).addr) a (fun i J => J.arm (i / 4) (i % 4) data)

/-- Writes to the registers of the DCL (R197, R198, R205, R208, R210). -/
def Lane.writeDcl (L : Lane) (a data : Nat) : Lane :=
  let K := L.atIndex 4 (fun k => (DCL_RAIL_CFG.EN k).addr) a (fun k J =>
    (J.writeRailEn k (J.written (DCL_RAIL_CFG.EN k) a data ≠ 0)).iff ((DCL_RAIL_CFG.ERESET k).take a 0 data ≠ 0) (fun J => J.energyReset k))
  let K := K.atIndex 4 (fun k => (DCL_RAIL_OV12.OV1 k).addr) a (fun k J => J.writeOv12 k (slice 0 12 data) (slice 16 12 data))
  let K := K.atIndex 4 (fun k => (DCL_RAIL_OV3.OV3 k).addr) a (fun k J => J.writeOv3 k (slice 0 12 data) (slice 16 8 data))
  let K := K.atIndex 4 (fun k => (DCL_RAIL_CH.CH_ON k).addr) a (fun k J => J.writeCh k (slice 0 12 data) (slice 16 12 data))
  let K := K.atIndex 4 (fun c => (DCL_CH_CFG.SHARED c).addr) a (fun c J => (J.syncActive c).syncLoss)
  let K := K.atIndex 4 (fun c => (DCL_CH_FLAGS.EXT_FAULT c).addr) a (fun _ J => J.syncLoss)
  K.iff (a = DCL_AXIS_MAP.LOSS_EN.addr) (fun J => J.syncLoss)

/-- The field regions are disabled while the lane has not exited: every axis takes its safe state and the lane exits (R20,
R87). -/
def Lane.disableRegions (L : Lane) : Lane :=
  let K := (if L.on Int.fieldE0 then L else (L.allSafe 0).latchE0 0).fieldRegionsOff
  K.iff (L.on Int.fieldE0 || K.on Int.e0) (fun J => (J.set Int.fieldE0).checkE5)

/-- The PWM domain stops and runs with its RUN_EN, which can be 0 only while no group runs (R159, R412, R417).
(DEDUCED, assumption 118) -/
def Lane.writeFck (L : Lane) (a : Nat) (was : Bool) : Lane :=
  let on := L.on (FCK_DOM_CTL.RUN_EN 1)
  if a ≠ (FCK_DOM_CTL.RUN_EN 1).addr || on = was then L else if on then L.resumePwm else L.set Int.pwmStopped

/-- A write of the FPS that is not the PSC's own (R439): OFF disables the field regions (R87). (DEDUCED, assumption 78) -/
def Lane.writeFps (L : Lane) (a data : Nat) : Lane := L.iff (a = FPS_CTL.OFF.addr && data % 2 = 1) (fun K => K.disableRegions)

/-- Writes to the severity copy of the FBG: entries of field sources, clamped as BGR_SEVk (R290, R300). -/
def Lane.writeFbg (L : Lane) (a data : Nat) : Lane :=
  L.atIndex 8 (fun k => 0x60000130 + 4 * k) a (fun k J => J.forN 8 (fun j J =>
    let src := 0x60 + 8 * k + j
    J.iff (sourceDefined src) (fun J => J.wr (FBG_SEV.SEV src) (max (sourceFloor src) (min (slice (4 * j) 4 data) 4)))))

/-- A write to a field address: the block that owns the field clamps and stores it (R6, R8, R9, R371). -/
def Lane.fieldWrite (L : Lane) (a data : Nat) : Lane :=
  ((((((L.writeWord a data false).writeFck a (L.on (FCK_DOM_CTL.RUN_EN 1))).writeFbg a data).writeCle a data).writePwm a data).writeFbi a data).writeDcl a data |>.writeFps a data

/-- The bytes over which both dies keep the configuration CRC for an item: its address, then its data (R368). (DEDUCED, assumption 87) -/
def crcItem (c a data : Nat) : Nat := crcBytes c (bytesOf 4 a ++ bytesOf 4 data)

/-- The field die's CRC takes an item in; after LOAD the host die's value follows the items accepted, so that the comparison of R384 is
still one of what the loader sent (R368, R384). (DEDUCED, assumption 87) -/
def Lane.crcAccept (L : Lane) (a data : Nat) : Lane :=
  (L.wr Int.crcField (crcItem (L.rd Int.crcField) a data)).iff (L.rd Int.loadPhase = 4) (fun K => K.wr Int.crcHost (crcItem (L.rd Int.crcHost) a data))

/-- REGISTER_WRITE_ITEM: the field die accepts a register-write item (R304, R306, R368). -/
def execRegisterWriteItem (l : LaneId) (s : State) : Out :=
  .next (s.onLane l (fun L => match L.down with
    | .write a data :: _ => (L.takeDown.crcAccept a data).fieldWrite a data
    | _ => L))

end Sys2Proof.Machine
end

