-- ==== Sys2Proof/Machine/HostWrite.lean ====
section
/-! DEFINITION. A write of a core to an address: memory, a register of a host block with the effect of its own that its rule
gives it, a field address, or an address outside every window (R5 to R9, R304, R315, R334). -/

namespace Sys2Proof.Machine

/-- The state a meaning leads to. -/
def ran (s : State) (o : Out) : State := match o with
  | .next t => t
  | _ => s

/-- Whether an address lies in the pair's TCM view (R5, R364). -/
def tcmRange (a : Nat) : Bool := decide (a < 0x80000)

/-- Whether an address lies in the shared SRAM, in the Squirrel store, or in a host block window (R5, R334, R363, R431). -/
def sramRange (a : Nat) : Bool := decide (0x20000000 ≤ a) && decide (a < 0x20400000)
def squirrelRange (a : Nat) : Bool := decide (0x30000000 ≤ a) && decide (a < 0x30010000)
def hostWindow (a : Nat) : Bool := decide (0x40000000 ≤ a) && decide (a < 0x400F0000)

/-- The graph area and the Nguas schedule table in shared SRAM (R315, R334). -/
def graphRange (a : Nat) : Bool := decide (0x203E0000 ≤ a) && decide (a < 0x20400000)
def scheduleRange (a : Nat) : Bool := decide (0x203C0000 ≤ a) && decide (a < 0x203D0000)

/-- A word is written to memory; the locked graph and schedule ignore it (R315, R334). (DEDUCED, assumption 58) -/
def Lane.writeMem (L : Lane) (pair a data : Nat) : Lane :=
  if tcmRange a then L.setMem (tcmAddr pair a) 4 data
  else if graphRange a && L.on SCH_CFG.LOCK then L.inc SCH_STATUS.GRAPH_WR_REFUSED
  else if scheduleRange a && L.on Int.ngbLock then L
  else L.setMem a 4 data

/-- The occurrences that a word of BGR_FORCE injects arrive in one cycle, field ones through the FBG (R297). -/
def Lane.forceWord (L : Lane) (k mask : Nat) : Lane :=
  if ! forceAllowed L.mode then L.inc BGR_STATE.FORCE_REFUSED else
  let srcs := ((List.range 32).filter (fun i => mask.testBit i)).map (fun i => 32 * k + i)
  let srcs := srcs.filter sourceDefined
  let K := (srcs.filter fieldSource).foldl (fun J n => J.toField (.control (.inject n))) L
  let host := (srcs.filter (fun n => ! fieldSource n)).map (fun n => (⟨n, true, 1, 0⟩ : Arrival))
  if host.isEmpty then K else { K with inbox := [] }.collect (K.inbox ++ host)

/-- A value of TARGET takes effect as the request it makes (R44, R55). -/
def Lane.requestTarget (L : Lane) (v : Nat) : Lane := if v = 9 then L.stopTarget else L.writeTarget v

/-- A shadow result written to SCH_Tt_SRES; the spec gives the word no channel, so it is a free value (R225, R319). -/
def Lane.shadowWord (L : Lane) (t data : Nat) : Lane :=
  match L.execOf t with
  | some o =>
    if ! o.shadow then L else
    let r := L.fresh 4
    r.2.setSched { r.2.sched with shadowResults := r.2.sched.shadowResults ++ [(16 * t + r.1, data % 2 ^ 32)] }
  | none => L

/-- LINK_TMO goes to the field die in a Control message when it is written (R302, R309, R314). -/
def Lane.sendTmo (L : Lane) (old : Nat) : Lane :=
  if L.rd COU_CFG.LINK_TMO = old then L else L.toField (.control (.linkTmo (L.rd COU_CFG.LINK_TMO)))

/-- A state-level effect of the lowest index whose register lies at the address. -/
def State.atIndex (s : State) (n : Nat) (addr : Nat → Nat) (a : Nat) (g : Nat → State → State) : State :=
  match (List.range n).find? (fun i => addr i = a) with
  | some i => g i s
  | none => s

/-- A state-level effect when bit `k` of the data is written 1 at the register's address. -/
def State.atBit (s : State) (f : Fld) (a data : Nat) (o : State → Out) : State :=
  if f.addr = a ∧ data.testBit f.lsb then ran s (o s) else s

/-- Writes that a block of the AON region acts on: BGR, PSC, BST, LCS (R290 to R299, R393, R397, R430). -/
def State.writeAon (s : State) (l : LaneId) (a data : Nat) (loader : Bool) : State :=
  let s := s.atIndex 32 (fun k => 0x40000100 + 4 * k) a (fun k s =>
    if loader then s.onLane l (fun L => L.forN 8 (fun j J => J.wr (BGR_SEV.SEV (8 * k + j) (sourceSeverity (8 * k + j)))
      (if sourceDefined (8 * k + j) then max (sourceFloor (8 * k + j)) (min (slice (4 * j) 4 data) 4) else 0)))
    else ran s (execSeverityWrite l k data s))
  let s := s.atBit BGR_FIRST.VALID a data (fun s => execFirstFaultClear l false s)
  let s := s.atBit BGR_LOG_POP.POP a data (fun s => execLogPop l s)
  let s := s.atIndex 8 (fun k => (BGR_FORCE.BITS k).addr) a (fun k s => s.onLane l (fun L => L.forceWord k data))
  let s := s.atIndex 8 (fun k => (BGR_PEND.BITS k).addr) a (fun k s => ran s (execPendAck l k data false s))
  let s := s.atBit PSC_CTL.G_RELEASE a data (fun s => execGRelease l s)
  let s := s.atBit BST_DIRECT.GO a data (fun s => .next (s.onLane l (fun L => L.directStart (slice 0 8 data) (slice 8 4 data))))
  let s := s.atBit LCS_CTL.SUBMIT a data (fun s => execTokenSubmit l s)
  s.atIndex 88 (fun k => (LCS_TOKEN.BYTES k).addr) a (fun k s => s.onLane l (fun L => if L.on LCS_RESULT.BUSY then L else L.wr (LCS_TOKEN.BYTES k) data))

/-- Writes that a block of the FABRIC region acts on: LSC, SCH, CFG, COU, MBX (R26, R55, R225, R231, R309, R315, R319, R320, R451,
R454, R461, R500). -/
def State.writeFabric (s : State) (l : LaneId) (a data : Nat) (loader : Bool) : State :=
  let frame := LSC_AGR_CFG.FRAME.take a 0 data
  let s := if a ≠ LSC_AGR_CFG.FRAME.addr then s
    else if loader then s.onLane l (fun L => L.wr LSC_AGR_CFG.FRAME (clampN 250 2000 frame)) else ran s (execFrameWrite l frame s)
  let s := s.atBit LSC_AGR_CFG.READY a data (fun s => execAgreementReady l s)
  let s := s.atIndex 4 (fun p => (LSC_PAIR_STATUS.RESTORED p).addr) a (fun p s =>
    let s := s.atBit (LSC_PAIR_STATUS.RESTORED p) a data (fun s => execRestored l (Fin.ofNat 4 p) s)
    s.atBit (LSC_PAIR_STATUS.GIVE_UP p) a data (fun s => execGiveUp l (Fin.ofNat 4 p) s))
  let s := s.atIndex 4 (fun p => (LSC_PAIR_CKPT.COMMIT p).addr) a (fun p s =>
    s.atBit (LSC_PAIR_CKPT.COMMIT p) a data (fun s => execCheckpointCommit l (Fin.ofNat 4 p) s))
  let s := if a = SCH_POST.INDEX.addr then ran s (execSchPost l (Fin.ofNat 4096 (SCH_POST.INDEX.take a 0 data)) s) else s
  let s := s.atIndex 5 (fun t => (SCH_T_DONE.INDEX t).addr) a (fun t s =>
    ran s (execDoneWrite l (Fin.ofNat 5 t) (Fin.ofNat 4096 ((SCH_T_DONE.INDEX t).take a 0 data)) s))
  let s := s.atIndex 5 (fun t => (SCH_T_SRES.RESULT t).addr) a (fun t s => s.onLane l (fun L => L.shadowWord t data))
  let s := s.atBit CFG_LANE_RST.RESET a data (fun s => execLaneResetRequest l s)
  let s := if a = CFG_MODE_REQ.TARGET.addr then
      s.onLane l (fun L => L.requestTarget (L.clampValue ⟨CFG_MODE_REQ.TARGET, .rw, .target, []⟩ CFG_MODE_REQ.TARGET (CFG_MODE_REQ.TARGET.take a 0 data)))
    else s
  let s := s.atBit MBX_VER.COMMIT a data (fun s => execRollbackCommit l s)
  let s := if a = MBX_CFG.UPD_EN.addr ∧ ¬ data.testBit MBX_CFG.UPD_EN.lsb then s.onLane l (fun L => L.updateFails none) else s
  if a = MBX_SEND.ID.addr then ran s (execMbxSend l (Fin.ofNat 256 (MBX_SEND.ID.take a 0 data)) s) else s

/-- Writes that a block of the NET or the SA region acts on: NGB, CAN, LSE (R245, R259, R262, R346, R350, R351, R353 to R358). -/
def State.writeNet (s : State) (l : LaneId) (a data : Nat) : State :=
  let s := if a = NGB_MODE_REQ.TARGET.addr then ran s (execNgbModeReq l (Fin.ofNat 16 (NGB_MODE_REQ.TARGET.take a 0 data)) s) else s
  let s := s.atBit NGB_CTL.WAKE_TX a data (fun s => execWakeTx l s)
  let s := s.atBit NGB_CTL.REINT a data (fun s => execReint l s)
  let s := if a = CAN_CFG.EN.addr ∨ a = (CKG_DOM_CTL.RUN_EN 3).addr then s.onLane l (fun L => L.syncCan) else s
  let s := s.atBit CAN_CFG.RECOVER a data (fun s => execCanRecover l s)
  let s := if a = CAN_TXREQ.REQ.addr then ran s (execCanTxRequest l data s) else s
  let s := s.atBit CAN_POP.POP a data (fun s => execCanPop l s)
  let s := s.atBit LSE_CTL.HANDOVER a data (fun s => execHandoverRequest l s)
  let s := if a = LSE_CTL.SA_CONT_CLR.addr then ran s (execSaContClr l (LSE_CTL.SA_CONT_CLR.take a 0 data) s) else s
  if a = LSE_SA.LEVEL.addr then s.onLane l (fun L => L.refreshSa) else s

/-- A write to a host block register: its fields are stored and cleared by R8 and R9, then its own rules act.
(DESIGN CHOICE, assumption 17, DEDUCED, assumption 58) -/
def State.writeHost (s : State) (l : LaneId) (a data : Nat) (loader : Bool) : State :=
  let tmo := (s.lane l).rd COU_CFG.LINK_TMO
  let s := s.onLane l (fun L => L.writeWord a data loader)
  let s := (((s.writeAon l a data loader).writeFabric l a data loader).writeNet l a data)
  s.onLane l (fun L => ((L.sendTmo tmo).bgrEvent).canEvent)

/-- Whether an address is assigned at all: a window or a memory range (R5, R6, R304). (DEDUCED, assumption 18) -/
def assigned (a : Nat) : Bool := tcmRange a || sramRange a || squirrelRange a || hostWindow a || fieldAssigned a

/-- REGISTER_WRITE: a word written by a core of a pair (R5, R6, R8, R9, R304). An address of a block window that is no register's,
a misaligned one among them, ignores it; an address outside every window is a bus error. A store of a pair whose outputs are held
reaches nothing (R217, R221). (DESIGN CHOICE, assumption 17, DEDUCED, assumption 18) -/
def execRegisterWrite (l : LaneId) (pair : Fin 4) (addr data : Nat) (s : State) : Out :=
  .next (
    if (s.lane l).pairHeld pair then s
    else if ! assigned addr then s.onLane l (fun L => L.busError pair)
    else if fieldAddr addr then s.onLane l (fun L => L.postWrite pair addr data)
    else if ! hostWindow addr then s.onLane l (fun L => L.writeMem pair addr data)
    else if addr % 4 ≠ 0 then s
    else s.writeHost l addr (data % 2 ^ 32) false)

/-- OUT_OF_WINDOW_ACCESS: an access outside every window and memory range is a bus error (R6). (DEDUCED, assumption 18) -/
def execOutOfWindowAccess (l : LaneId) (pair : Fin 4) (addr : Nat) (s : State) : Out :=
  .next (s.onLane l (fun L => if assigned addr || L.pairHeld pair then L else L.busError pair))

end Sys2Proof.Machine
end

