-- ==== Sys2Proof/Machine/Debug.lean ====
section
/-! DEFINITION. The commands of the debug port: halt, resume, single step, writes and their replay (R53, R227, R228). -/

namespace Sys2Proof.Machine

/-- Modes in which R52 permits a debug halt. -/
def haltAllowed (m : Nat) : Bool := m = mStandby || m = mTorqueOff || m = mService

/-- DEBUG_HALT_REQUEST: carried out where the device mode and the life-cycle state permit it (R53, R227, R379). -/
def execDebugHaltRequest (l : LaneId) (pair : Fin 4) (fieldClocks : Bool) (s : State) : Out :=
  .next (s.onLane l (fun L =>
    if ! haltAllowed L.mode then L.inc CFG_MODE_STATUS.HALT_REFUSED
    else if ! L.on LCS_STATE.DBG_OPEN then L.raise 0xE7
    else
      let K := L.putBit Int.halted pair true
      if fieldClocks then (K.set Int.haltClk).set Int.pwmStopped else K))

/-- DEBUG_RESUME: both cores of the pair and any stopped field clocks run again (R227). -/
def execDebugResume (l : LaneId) (pair : Fin 4) (s : State) : Out :=
  .next (s.onLane l (fun L =>
    let K := L.putBit Int.halted pair false
    if K.on Int.haltClk && K.rd Int.halted = 0 then (K.clr Int.haltClk).resumePwm else K))

/-- DEBUG_STEP: both cores of a halted pair advance by one instruction (R227). (DESIGN CHOICE, assumption 90) -/
def execDebugStep (l : LaneId) (pair : Fin 4) (s : State) : Out :=
  .next (s.onLane l (fun L => if L.bitOf Int.halted pair then L.wr (Int.retired pair) (L.rd (Int.retired pair) + 1) else L))

/-- LOG_USED follows the write log (R228). -/
def Lane.syncDebugLog (L : Lane) : Lane := L.wr LSC_DBG.LOG_USED L.debugLog.length

/-- A debugger write to a register of the main core enters the log, or is refused at a full log (R227, R228). -/
def Lane.debugRegister (L : Lane) (p reg value : Nat) : Lane :=
  if 32 ≤ L.debugLog.length then ((L.inc LSC_DBG.REFUSED_WR).set LSC_DBG.LOG_FULL).raise 0x23
  else ({ L with debugLog := L.debugLog ++ [(⟨p, reg, value, L.rd (Int.retired p)⟩ : DebugWrite)] }.syncDebugLog).wr (Int.coreReg p 0 reg) value

/-- DEBUG_WRITE: a debugger write to a core or control register, or to an address, which reaches the one copy that both cores read and
needs no replay (R227, R228). (DESIGN CHOICE, assumption 90) -/
def execDebugWrite (l : LaneId) (pair : Fin 4) (place : DebugPlace) (value : Nat) (s : State) : Out :=
  let L := s.lane l
  if ! haltAllowed L.mode || ! L.on LCS_STATE.DBG_OPEN then .next (s.onLane l (fun L => L.raise 0xE7))
  else match place with
    | .reg n => .next (s.onLane l (fun L => L.debugRegister pair (n % 256) value))
    | .mem addr => execRegisterWrite l pair addr value s

/-- DEBUG_REPLAY: the checker of the pair `point.1` has reached retirement count `point.2`; the oldest write logged with that count is replayed
into it (R227, R228). (DESIGN CHOICE, assumption 90) -/
def execDebugReplay (l : LaneId) (point : Fin 4 × Nat) (s : State) : Out :=
  .next (s.onLane l (fun L =>
    match L.debugLog.find? (fun w => w.pair = (point.1 : Nat) ∧ w.retired = point.2) with
    | none => L
    | some w => (({ L with debugLog := L.debugLog.erase w }.syncDebugLog).inc LSC_DBG.REPLAYED).wr (Int.coreReg point.1 1 w.reg) w.value))

end Sys2Proof.Machine
end

