-- ==== Sys2Proof/Machine/Wake.lean ====
section
/-! DEFINITION. From power to a verified image: power-on of the AON regions, the release of the host die, WAKE, and the
reading of the slots (R26, R47, R307, R359 to R366, R386, R401). -/

namespace Sys2Proof.Machine

/-! ### Power-on and release (R307, R359, R427) -/

/-- The Squirrel store and the host AON region are initialised when their supply comes on (R360). -/
def Lane.aonOn (L : Lane) : Lane :=
  let kept : Memory := L.mem.filter (fun c => ! squirrelRange c.1)
  let K := (L.wr CFG_MODE_STATUS.LANE_STATE stBoot).hostReset
  let K : Lane := { K with regs := K.regs.resetHome .aon, mem := kept }
  ((K.wr PSC_SUPPLY.OK 0).wrFree Int.aonNonce).syncRecommended

/-- The field AON region comes on: its counters start again, class G is latched, and the field die waits in reset (R292, R307,
R430, R471). -/
def Lane.fieldAonOn (L : Lane) : Lane :=
  let K := L.fieldReset
  (({ K with regs := K.regs.resetHome .fieldAon, occurrences := [] } : Lane).wr FPS_STATUS.OK 0).syncRecommended

/-- AON_POWER_ON: the AON region of the host die or of the field die is powered on (R307, R386, R430). -/
def execAonPowerOn (l : LaneId) (fieldSide : Bool) (s : State) : Out :=
  .next (s.onLane l (fun L => if fieldSide then L.fieldAonOn else L.aonOn))

/-- HOST_POWER_GOOD: P0, every host supply in range (R359, R434). -/
def execHostPowerGood (l : LaneId) (s : State) : Out := .next (s.onLane l (fun L => (L.wr PSC_SUPPLY.OK 7).syncRecommended))

/-- RESET_RELEASE: P1 or W3; each fabric port whose regions are powered starts with a new epoch, a lane out of DORMANT has its
list of FABRIC and NET registers written back, and a latched Nguas wake replayed (R42, R307, R359, R427, R432, R433). A failed
lane stays in reset (R42). (DESIGN CHOICE, assumption 30) -/
def execResetRelease (l : LaneId) (s : State) : Out :=
  .next (s.onLane l (fun L =>
    if ! L.on Int.held || L.rd PSC_SUPPLY.OK ≠ 7 || L.rd PSC_STATUS.FABRIC ≠ 0 || L.state = stFailed then L else
    let K := (((L.clr Int.held).clr Int.bootTime).clr Int.wakeFails).wr CFG_BOOT.WAKE_TRIES 1
    let K := K.forN 7 (fun k J => J.iff (k < 4 || k = 6 || (k = 4 && J.rd PSC_STATUS.NET = 0)) (fun J => J.portStart k))
    let K := K.iff (K.rd CFG_MODE_STATUS.PREV_MODE = mDormant) (fun J => J.retRestore [0, 1])
    ((K.setState stBoot).replayNguasWake).syncRecommended))

/-! ### WAKE (R47, R360, R361, R401) -/

/-- Whether the lane is in its WAKE, the retry included (R42, R47). -/
def Lane.inWake (L : Lane) : Bool := ! L.on Int.held && decide (L.state ≤ stBoot) && L.rd Int.loadPhase = 0

/-- A WAKE attempt fails: the lane retries once from RESET, and a second failure makes it FAILED (R47, R361). (DEDUCED, assumption 84) -/
def Lane.wakeFail (L : Lane) : Lane :=
  if ! L.inWake then L
  else if L.rd Int.wakeFails ≠ 0 then L.failLane
  else
    let K := ((L.inc Int.wakeFails).inc CFG_BOOT.WAKE_TRIES).setState stReset
    (((K.clr Int.wakeDone).clr Int.fieldWake).clr CKG_STATUS.PLL_LOCK).clr FCK_STATUS.PLL_LOCK

/-- A step of the lane's own start, WAKE to STANDBY; a lane whose siblings are past it keeps the mode it has adopted (R47,
R54, R58). -/
def Lane.startStep (L : Lane) (m : Nat) : Lane := if L.mode < mStandby then L.setMode m 0x02 L.me else L

/-- µs since P1 (R378). -/
def Lane.bootUs (L : Lane) : Nat := L.rd Int.bootTime / 1000

/-- WAKE completes when every step of both dies is done, with both PLLs locked and the epoch agreed; a lane that is RETIRED or
has failed a self-test goes no further (R47, R360, R379, R392). -/
def Lane.wakeStepped (L : Lane) : Lane :=
  if ! L.inWake || L.state ≠ stBoot || L.rd Int.wakeDone ≠ 0x31 || L.rd Int.fieldWake ≠ 0x0E || ! L.on CKG_STATUS.PLL_LOCK ||
    ! L.on FCK_STATUS.PLL_LOCK || ! L.on COU_STATUS.LINK || L.on Int.fieldRstDue then L else
  let K := L.sat CFG_T_WAKE.T L.bootUs
  if K.rd LCS_STATE.STATE = 4 || K.on BST_STATUS.ST_FAIL then K.failLane else
  let K := (K.startStep mLoad).wr Int.loadSeal (K.rd SSF_SEAL.READING)
  (K.wr Int.loadPhase 1).wr Int.loadSlot (if (K.slotImage 0).seq < (K.slotImage 1).seq then 1 else 0)

/-- PLL_LOCK: the root PLL of a die locks and its domains start together (R401, R407, R413). A retry of WAKE leaves RESET. -/
def execPllLock (l : LaneId) (fieldSide : Bool) (s : State) : Out :=
  .next (s.onLane l (fun L =>
    if fieldSide then (if L.on Int.fieldHeld then L else ((L.set FCK_STATUS.PLL_LOCK).switchAll fck 3 0 true).wakeStepped)
    else if L.on Int.held then L
    else
      let K := L.set CKG_STATUS.PLL_LOCK
      if K.on Int.deepWake then K.deepRelock
      else ((K.switchAll ckg 4 0 true).iff (K.state = stReset) (fun J => J.setState stBoot)).wakeStepped))

/-- PLL_LOCK_TIMEOUT: a PLL has not locked within 0.5 ms (R361). -/
def execPllLockTimeout (l : LaneId) (fieldSide : Bool) (s : State) : Out :=
  .next (s.onLane l (fun L => if L.on (if fieldSide then FCK_STATUS.PLL_LOCK else CKG_STATUS.PLL_LOCK) then L else L.wakeFail))

/-- A calibration result lies outside its limits (R361). -/
def Lane.calBad (L : Lane) : Lane := (L.raise 0xFA).set Int.loadStop

/-- MEM_OK once the memories of both dies have been verified (R378). -/
def Lane.syncMemOk (L : Lane) : Lane := L.put CFG_CAL.MEM_OK (L.bitOf Int.wakeDone 0 && L.bitOf Int.fieldWake 1)

/-- What the ADC trim finds, which the spec does not give: the zero codes and the trims of the 16 cores; and, where it fails,
which clusters are within limits (R90, R92). (DEDUCED, assumption 84) -/
def Lane.trimAdc (L : Lane) (ok : Bool) : Lane :=
  let K := L.forN 8 (fun n K => (K.wrFree (Int.izTrim n 0)).wrFree (Int.izTrim n 1))
  let K := K.forN 8 (fun n J => (J.wr (ADC_AX_IZERO.IZERO0 n) (J.rd (Int.izTrim n 0))).wr (ADC_AX_IZERO.IZERO1 n) (J.rd (Int.izTrim n 1)))
  let K := K.forN 16 (fun k J => (J.wrFree (ADC_CORE_TRIM.OFS_TRIM k)).wrFree (ADC_CORE_TRIM.GAIN_TRIM k))
  K.forN 2 (fun c J => if ok then J.set (ADC_CL_STATUS.TRIM_OK c) else J.wrFree (ADC_CL_STATUS.TRIM_OK c))

/-- The memory initialisation of the host die (R360). (DESIGN CHOICE, assumption 7) -/
def Lane.initMemory (L : Lane) : Lane :=
  let kept : Memory := L.mem.filter (fun c => squirrelRange c.1)
  { L with mem := kept }

/-- A step of WAKE ends: host memories (0), field memories (1), ADC trim (2), delay lines (3), barrier delay (4) with its value,
fuse read (5) (R360, R361, R378, R395). (DEDUCED, assumption 84) -/
def Lane.wakeStep (L : Lane) (step : Nat) (ok : Bool) (value : Nat) : Lane :=
  let host (K : Lane) : Lane := K.putBit Int.wakeDone step true
  let field (K : Lane) : Lane := K.putBit Int.fieldWake step true
  match step with
  | 0 => if ok then (host L.initMemory).syncMemOk else L.wakeFail
  | 1 => if ok then (field L).syncMemOk else L.wakeFail
  | 2 => (field ((L.trimAdc ok).put CFG_CAL.ADC_OK ok)).iff (! ok) (fun K => K.calBad)
  | 3 => (field (L.put CFG_CAL.DL_OK ok)).iff (! ok) (fun K => K.calBad)
  | 4 => (host (L.wr CFG_CAL.BARRIER value)).iff (! ok) (fun K => K.calBad)
  | _ => if ok then ((host (L.set LCS_STATE.FUSE_OK)).syncDebug).syncGuarantee else (L.raise 0xE8).failLane

/-- WAKE_STEP_DONE (R360, R361). -/
def execWakeStepDone (l : LaneId) (step : Fin 6) (ok : Bool) (value : Nat) (s : State) : Out :=
  .next (s.onLane l (fun L =>
    let field := decide (1 ≤ (step : Nat)) && decide ((step : Nat) ≤ 3)
    if ! L.inWake || L.state ≠ stBoot || ! L.on (if field then FCK_STATUS.PLL_LOCK else CKG_STATUS.PLL_LOCK) || (field && L.fieldIsOff) ||
      (step = 4 && ! L.on COU_STATUS.LINK)
    then L else (L.wakeStep step ok value).wakeStepped))

/-- FIELD_DIE_RESET: the field die has seen a new epoch that follows neither its own reset nor its AON power-on; it resets itself
and runs its WAKE steps again, and keeps the link whose epoch it has just agreed (R292, R307, R361). (DEDUCED, assumption 85) -/
def execFieldDieReset (l : LaneId) (s : State) : Out :=
  .next (s.onLane l (fun L =>
    if ! L.on Int.fieldRstDue then L else
    let K := ((L.fieldRestart.put Int.fieldLink (L.on Int.fieldLink)).put FBG_STATUS.LINK (L.on FBG_STATUS.LINK)).wr Int.fieldTmo (L.rd Int.fieldTmo)
    (K.clr Int.fieldFresh).forN 256 (fun k J => J.iff (J.rd (Int.cum k) ≠ J.rd (Int.acked k)) (fun J => J.sendFault (J.fieldMsg k)))))

/-! ### The slots (R362 to R366) -/

/-- RESULT_A or RESULT_B. -/
def resultOf (slot : Nat) : Fld := if slot = 0 then CFG_BOOT.RESULT_A else CFG_BOOT.RESULT_B

/-- A slot is rejected: the loader tries the other, or the lane fails (R364). -/
def Lane.rejectSlot (L : Lane) (code : Nat) : Lane :=
  let K := ((L.raise 0xF8).wr (resultOf (L.rd Int.loadSlot)) code).clr Int.norRetry
  if K.on Int.slotTried then ((K.wr Int.loadPhase 5).raise 0xF9).failLane
  else (((K.set Int.slotTried).wr Int.loadSlot (1 - K.rd Int.loadSlot)).wr Int.loadPhase 1).clr Int.loadSect

/-- A NOR read fails: it is repeated once, and then rejects the slot (R365). -/
def Lane.norFails (L : Lane) : Lane :=
  if L.rd Int.loadPhase ≠ 1 ∧ L.rd Int.loadPhase ≠ 2 then L
  else if L.on Int.norRetry then (L.raise 0xF7).rejectSlot 2 else L.set Int.norRetry

/-- The header has been read: format, ranges, signature and rollback version (R364). -/
def Lane.headerRead (L : Lane) : Lane :=
  let g := L.slotImage (L.rd Int.loadSlot)
  if ! g.formatOk || ! g.rangesOk 0x02000000 || ! g.signed L.imageKeyNow then L.rejectSlot 2
  else if g.version < L.rd MBX_VER.ROLLBACK then L.rejectSlot 3
  else (L.wr Int.loadPhase 2).clr Int.loadSect

/-- Every section has matched its digest: the slot is loaded (R34, R366, R378). -/
def Lane.slotVerified (L : Lane) : Lane :=
  let slot := L.rd Int.loadSlot
  let g := L.slotImage slot
  let K := ((L.wr (resultOf slot) 1).wr CFG_BOOT.SLOT slot).put CFG_BOOT.FALLBACK (L.on Int.slotTried)
  let K := ((K.wr CFG_BOOT.SEQ_LO (g.seq % 65536)).wr Int.loadedSeq g.seq).wr CFG_VERSION.VERSION g.version
  ((K.set CFG_GUARANTEE.COND_SIGNED).syncGuarantee).wr Int.loadPhase 3

/-- A section has been read and is hashed (R364, R366). -/
def Lane.sectionRead (L : Lane) : Lane :=
  let g := L.slotImage (L.rd Int.loadSlot)
  let i := L.rd Int.loadSect
  if ! g.hashOk (g.sect i) then L.rejectSlot 2
  else if i + 1 < g.nsect then L.wr Int.loadSect (i + 1)
  else L.slotVerified

/-- NOR_READ_DONE: a read of the header or of the next section completes, its data-path CRC good or not (R364 to R366). -/
def execNorReadDone (l : LaneId) (ok : Bool) (s : State) : Out :=
  .next (s.onLane l (fun L =>
    if ! ok then L.norFails
    else if L.rd Int.loadPhase = 1 then (L.clr Int.norRetry).headerRead
    else if L.rd Int.loadPhase = 2 then (L.clr Int.norRetry).sectionRead else L))

/-- NOR_READ_TIMEOUT: a read does not complete within 1 ms (R365). -/
def execNorReadTimeout (l : LaneId) (s : State) : Out := .next (s.onLane l (fun L => L.norFails))

end Sys2Proof.Machine
end

