-- ==== Sys2Proof/Machine/Load.lean ====
section
/-! DEFINITION. The configuration of both dies from a verified image, the field CRC, the digest records, and the end of TEST
(R9, R34, R47, R49, R229, R265, R279, R280, R296, R304, R315, R334, R335, R365 to R373, R385, R388, R432). -/

namespace Sys2Proof.Machine

/-! ### Clamps and lists (R9, R363, R367, R371) -/

/-- Values were clamped at a register; the first one's address is kept (R371). (DEDUCED, assumption 86) -/
def Lane.noteClamps (L : Lane) (n a : Nat) : Lane :=
  if n = 0 then L else (L.iff (L.rd CFG_LOAD.CLAMP_CNT = 0) (fun K => K.wr CFG_CLAMP_ADDR.ADDR a)).add CFG_LOAD.CLAMP_CNT n

/-- Fields of FRAME and of the severities that do not hold what the loader wrote. -/
def Lane.specialClamped (L : Lane) (a data : Nat) : Nat :=
  ((slotsAt a).filter (fun (x : Row × Fld) =>
    (x.2 = LSC_AGR_CFG.FRAME || (decide (0x40000100 ≤ a) && decide (a < 0x40000180))) && L.rd x.2 ≠ x.2.take a 0 data)).length

/-- An SA register that the loader writes enters the retention list, once (R432). -/
def Lane.listRetained (L : Lane) (a : Nat) : Lane :=
  let n := L.rd PSC_RET.N
  if retRegion a ≠ some 2 || (List.range n).any (fun i => L.retEntry i = a) || decide (1024 ≤ n) then L
  else (L.setMem (0x30000000 + 4 * n) 4 a).wr PSC_RET.N (n + 1)

/-- The loader writes a host register (R367, R371). -/
def State.loadHost (s : State) (l : LaneId) (a data : Nat) : State :=
  let n := ((s.lane l).storeWord a data true).2
  let t := s.writeHost l a data true
  t.onLane l (fun L => (L.noteClamps (n + L.specialClamped a data) a).listRetained a)

/-- The loader sends a field write, which enters its CRC (R367, R368). -/
def Lane.loadField (L : Lane) (a data : Nat) : Lane := (L.wr Int.crcHost (crcItem (L.rd Int.crcHost) a data)).toField (.write a data)

/-- Whether a register lies at an address: aligned and assigned (R6, R367). -/
def registerAt (a : Nat) : Bool := a % 4 = 0 && ! (slotsAt a).isEmpty

/-- One list entry; one outside its range or in an unassigned part of a window is skipped (R363, R367). (DEDUCED, assumption 86) -/
def State.applyEntry (s : State) (l : LaneId) (fieldToo : Bool) (a data : Nat) : State :=
  if hostWindow a && registerAt a then s.loadHost l a data
  else if fieldToo && fieldAddr a && registerAt a then s.onLane l (fun L => L.loadField a data)
  else s.onLane l (fun L => L.inc CFG_LOAD.SKIP_CNT)

/-- A register list, in list order (R363, R367). -/
def State.applyList (s : State) (l : LaneId) (g : Image) (fieldToo : Bool) (e : Section) : State :=
  (List.range (e.length / 8)).foldl (fun s i => s.applyEntry l fieldToo (g.word (e.offset + 8 * i)) (g.word (e.offset + 8 * i + 4))) s

/-- The sections of a type that this lane loads, in table order (R363). -/
def Lane.ownSections (L : Lane) (kind : Nat) : List Section :=
  ((L.slotImage (L.rd Int.loadSlot)).sects).filter (fun e => e.kind = kind && e.lanes.testBit L.me)

/-- Every section of a type is applied in table order. -/
def State.eachSection (s : State) (l : LaneId) (kind : Nat) (g : Image → Section → State → State) : State :=
  ((s.lane l).ownSections kind).foldl (fun s e => g ((s.lane l).slotImage ((s.lane l).rd Int.loadSlot)) e s) s

/-! ### Step 1: memories (R315, R334, R363) -/

/-- Bytes of a section from `dst` on, those at `dst + i` with `i` below `room`. -/
def Lane.copyIn (L : Lane) (g : Image) (e : Section) (dst room : Nat) : Lane :=
  { L with mem := L.mem.setBytes ramDefault dst (g.bytes e.offset (min e.length room)) }

/-- A section of type 0x01 to 0x05 is copied. (DEDUCED, assumption 86) -/
def Lane.copySection (L : Lane) (g : Image) (e : Section) : Lane :=
  if e.kind ≤ 2 then
    L.forN 4 (fun p K => K.iff (e.index = p || e.index = 0x0F) (fun J => J.copyIn g e (tcmAddr p e.dest) (0x80000 - e.dest)))
  else if e.kind = 3 then
    if 0x20000000 ≤ e.dest then L.copyIn g e e.dest (0x203C0000 - e.dest) else L
  else if e.kind = 4 then L.copyIn g e 0x203E0000 0x20000
  else L.copyIn g e 0x203C0000 0x10000

/-- The legal words of a descriptor, and how many fields the clamps changed (R315). -/
def legalDesc (w0 w1 w2 w3 : Nat) : List Nat × Nat :=
  let entry := min w0 0x7FFFC / 4 * 4
  let aff := if slice 4 4 w1 = 0 then 15 else slice 4 4 w1
  let trig := if 5 < slice 10 3 w1 then 0 else slice 10 3 w1
  let npred := max 1 (slice 24 4 w1)
  let budget := max 1 (slice 0 16 w2)
  let deadline := max 1 (slice 16 16 w2)
  let succ := min (slice 16 4 w3) (32768 - slice 0 15 w3)
  let period := max 1 (slice 24 8 w3)
  ([entry, packWord [(slice 0 4 w1, 0), (aff, 4), (slice 8 2 w1, 8), (trig, 10), (slice 16 8 w1, 16), (npred, 24)],
    packWord [(budget, 0), (deadline, 16)], packWord [(slice 0 15 w3, 0), (succ, 16), (period, 24)]],
   ([(entry, w0), (aff, slice 4 4 w1), (trig, slice 10 3 w1), (npred, slice 24 4 w1), (budget, slice 0 16 w2), (deadline, slice 16 16 w2),
     (succ, slice 16 4 w3), (period, slice 24 8 w3)].filter (fun (x : Nat × Nat) => x.1 ≠ x.2)).length)

/-- The graph takes its legal values; only clamps of descriptors that the image holds are counted (R315, R371).
(DEDUCED, assumption 58) -/
def Lane.legalGraph (L : Lane) : Lane :=
  let held := ((L.ownSections 4).map (fun e => e.length)).foldl max 0
  L.forN 4096 (fun n K =>
    let a := 0x203F0000 + 16 * n
    let r := legalDesc (K.descWord n 0) (K.descWord n 1) (K.descWord n 2) (K.descWord n 3)
    ({ K with mem := K.mem.setBytes ramDefault a (r.1.flatMap (bytesOf 4)) }).iff (decide (0x10000 + 16 * n < held)) (fun J => J.noteClamps r.2 a))

/-! ### Step 7: values that depend on others (R334, R335, R371) -/

/-- Every field of a row. -/
def Row.flds (r : Row) : List Fld :=
  r.dims.foldl (fun fs (d : Nat × Nat) => fs.flatMap (fun f => (List.range d.2).map (fun i => { f with addr := f.addr + d.1 * i }))) [r.fld]

/-- A field whose range depends on others takes a legal value of the final ones (R371). -/
def Lane.reclampField (r : Row) (L : Lane) (f : Fld) : Lane :=
  let w := L.clampValue r f (L.shown f)
  if w = L.shown f then L else ((L.store f w).noteClamps 1 f.addr).inc CFG_LOAD.RECLAMP

/-- The final pass over the host registers (R371). -/
def Lane.reclamp (L : Lane) : Lane :=
  (laneRows.filter (fun r => r.clamp.dependent && decide (r.fld.addr < 0x60000000))).foldl (fun K r => r.flds.foldl (Lane.reclampField r) K) L

/-- The earliest own slot of a mode. -/
def Lane.firstOwn (L : Lane) (m : Nat) : Option Nat :=
  let own := (L.usedSlots m).filter (fun (p : Nat × Slot) => L.owns p.2)
  (own.find? (fun (p : Nat × Slot) => own.all (fun (q : Nat × Slot) => decide (p.2.start < q.2.start) || (p.2.start = q.2.start && decide (p.1 ≤ q.1))))).map Prod.fst

/-- The legal values of a slot entry (R334). (DEDUCED, assumption 86) -/
def Lane.legalSlot (L : Lane) (m : Nat) (first : Bool) (e : Slot) : Slot :=
  let sync := e.sync && (! L.owns e || first)
  let stat := e.stat && e.owner = L.rd NGB_CFG.NODE
  { e with start := min e.start (100 * L.rd (NGB_MODE.CYCLE m) - 1), sync := sync, stat := stat,
           len := if e.used then max e.len (8 * (bit sync + bit stat)) else e.len }

/-- How many fields of an entry differ. -/
def slotChanges (e f : Slot) : Nat := bit (e.start ≠ f.start) + bit (e.len ≠ f.len) + bit (e.sync ≠ f.sync) + bit (e.stat ≠ f.stat)

/-- The lane with a slot entry written. -/
def Lane.putSlot (L : Lane) (m n : Nat) (e : Slot) : Lane := { L with mem := L.mem.setBytes ramDefault (slotAddr m n) e.bytes }

/-- Entries with their slots in order of START, then of number. -/
def insertSlot (x : Nat × Slot) : List (Nat × Slot) → List (Nat × Slot)
  | [] => [x]
  | y :: r => if x.2.start < y.2.start ∨ (x.2.start = y.2.start ∧ x.1 < y.1) then x :: y :: r else y :: insertSlot x r

/-- An entry is marked unused when its frame would end too late, or it follows the preceding used one too soon (R335). -/
def Lane.markSlot (m : Nat) (K : Lane × Option Slot) (x : Nat × Slot) : Lane × Option Slot :=
  let L := K.1
  let late := decide (1000 * L.rd (NGB_MODE.CYCLE m) < 10 * x.2.start + frameTime x.2.len + 5000)
  let close := match K.2 with
    | some p => decide (10 * x.2.start < 10 * p.start + frameTime p.len + 20 * L.rd NGB_TIMING.ACC_WIN + L.propMax + 200)
    | none => false
  if late || close then ((L.putSlot m x.1 { x.2 with len := 255 }).inc NGB_CNT2.SCHED_CLAMP, K.2) else (L, some x.2)

/-- The schedule of a mode takes its legal values, and the entries of R335 are marked unused. -/
def Lane.legalMode (L : Lane) (m : Nat) : Lane :=
  let first := L.firstOwn m
  let K := L.forN 1024 (fun n K =>
    let e := K.slot m n
    let f := L.legalSlot m (first = some n) e
    if f = e then K else (K.putSlot m n f).noteClamps (slotChanges e f) (slotAddr m n))
  (((K.usedSlots m).foldl (fun r x => insertSlot x r) []).foldl (Lane.markSlot m) (K, none)).1

/-- The final pass (R371), and the values that follow the configuration: the tolerance in use, the flows at their LOAD binding,
the saved SA values (R265, R324, R432). (DEDUCED, assumption 86) -/
def Lane.finalPass (L : Lane) : Lane :=
  let K := (L.reclamp).forN 8 (fun m J => J.legalMode m)
  let K := K.iff (! K.on CKG_STATUS.REF) (fun J => J.wr LSE_CLK.TOL_IN_USE (J.rd LSE_CLK.CLK_TOL))
  let K := K.forN 256 (fun f J => J.wr (SCH_FLOW.BOUND f) (J.rd (SCH_FLOW.HOME f)))
  (K.retSave [2]).nodeListen

/-! ### The order of configuration (R367) -/

/-- The set that R279 selects. -/
def Lane.setWanted (L : Lane) : Nat := if L.rd Int.loadSeal = 7 then 0 else L.rd Int.loadSeal

/-- Steps 1 and 2: memories, locks, the split option and the host register list (R229, R315, R334, R367). -/
def State.loadHostSide (s : State) (l : LaneId) : State :=
  let s := [1, 2, 3, 4, 5].foldl (fun s k => s.eachSection l k (fun g e s => s.onLane l (fun L => L.copySection g e))) s
  let s := s.onLane l (fun L => ((L.legalGraph.set SCH_CFG.LOCK).set Int.ngbLock).put LSC_CFG.SPLIT3
    ((L.slotImage (L.rd Int.loadSlot)).options.testBit 0))
  s.eachSection l 6 (fun g e s => s.applyList l g false e)

/-- A characteristic map goes to the field die word by word (R74, R363, R367). -/
def Lane.sendMap (L : Lane) (g : Image) (e : Section) : Lane :=
  (List.range (e.length / 4)).foldl (fun K i =>
    if fieldAddr (0x60040000 + 4 * i) && registerAt (0x60040000 + 4 * i) then K.loadField (0x60040000 + 4 * i) (g.word (e.offset + 4 * i))
    else K.inc CFG_LOAD.SKIP_CNT) L

/-- Steps 3 to 6: field list and maps, the safety parameter set, ISO_SETTLE, the severity copy, and the read of the field CRC
(R122, R279, R296, R367, R368). -/
def State.loadFieldSide (s : State) (l : LaneId) : State :=
  let s := s.onLane l (fun L => L.wr Int.crcHost crcInit)
  let s := s.eachSection l 7 (fun g e s => s.applyList l g true e)
  let s := s.eachSection l 8 (fun g e s => s.onLane l (fun L => L.sendMap g e))
  let want := (s.lane l).setWanted
  let absent := ! ((s.lane l).ownSections 9).any (fun e => e.index = want)
  let s := s.eachSection l 9 (fun g e s => if e.index = want then s.applyList l g true e else s)
  s.onLane l (fun L =>
    let K := (L.wr SSF_SEAL.LOADED_SET want).iff absent (fun J => (J.set SSF_FLAGS.NO_SET).set CFG_MODE_STATUS.MISMATCH)
    let K := K.loadField STO_ISO.ISO_SETTLE.addr (K.rd CFG_SAFE_PAR.ISO_SETTLE)
    let K := (List.range 64).foldl (fun J i => if sourceDefined (0x60 + i) then J.toField (.control (.severityCopy (0x60 + i) (J.severity (0x60 + i)))) else J) K
    K.toField .readCrc)

/-- CONFIGURATION_DONE: the loader has configured both dies; after a CRC difference it repeats from the field list on (R367,
R368, R371). -/
def execConfigurationDone (l : LaneId) (s : State) : Out :=
  let L := s.lane l
  .next (
    if ! s.variant.fitted l || L.rd Int.loadPhase ≠ 3 then s
    else
      let t := if L.on Int.crcRepeat then s else s.loadHostSide l
      (t.loadFieldSide l).onLane l (fun K => K.finalPass.wr Int.loadPhase 6))

/-! ### The field CRC and P7 (R368, R369) -/

/-- P7: the digest is taken and sent over Felt, the seal reading goes to the field die, the split option is applied, and the lane
enters TEST (R47, R229, R277, R280, R369, R440). A loop fault at LOAD counts as a mismatch. (DEDUCED, assumption 88) -/
def Lane.configured (L : Lane) : Lane :=
  let g := L.slotImage (L.rd Int.loadSlot)
  let K := (L.forN 12 (fun k J => J.wr (CFG_DIGEST.DIGEST k) (slice (32 * k) 32 g.safetyDigest))).set Int.crcDone
  let loop := K.on SSF_FLAGS.LOOP_FAULT && K.rd Int.loadSeal ≠ 7
  let K := (K.iff loop (fun J => J.set CFG_MODE_STATUS.MISMATCH)).putBit CFG_PEER.MATCH K.me (! loop && ! K.on SSF_FLAGS.NO_SET)
  let K := (K.set Int.digestSent).toField (.control (.sealReading (K.rd SSF_SEAL.READING)))
  let K := (K.sendFeltAll (.digest (K.digestRecord false))).sat CFG_T_LOAD.T K.bootUs
  let K := (K.iff (K.on MBX_STATUS.LINK) (fun J => J.sendMbx (.identity J.identityRecord))).wr Int.loadPhase 4
  let K := K.iff (K.split3 && K.pairState 3 ≠ 3) (fun J => J.wr (LSC_PAIR_STATUS.STATE 3) 4)
  ((K.startStep mTest).wr BST_STATUS.PHASE 1).wr Int.stoTestDue 3

/-- The field CRC differs: the configuration is repeated once, and a second difference fails the lane (R368). (DEDUCED, assumption 87) -/
def Lane.crcDiffers (L : Lane) : Lane :=
  let K := L.raise 0xFB
  if K.on Int.crcRepeat then K.failLane else ((K.set Int.crcRepeat).toField .crcRestart).wr Int.loadPhase 3

/-- The field die's CRC arrives: LOAD compares it, and so does every test run that touches the field die (R368, R384, R392).
(DEDUCED, assumption 87) -/
def Lane.fieldCrc (L : Lane) (crc : Nat) : Lane :=
  let K := L.wr CFG_FIELD_CRC.CRC crc
  let same := decide (crc = L.rd Int.crcHost ^^^ 0xFFFFFFFF)
  if K.rd Int.loadPhase = 6 then (if same then K.configured else K.crcDiffers)
  else if K.rd Int.loadPhase = 4 && ! same then K.selfTestFails 5 false else K

/-- The field die answers the request at the head of its ordered channel, or the host takes the answer at the head of the other
(R214, R304, R314, R368, R384). (DEDUCED, assumption 93) -/
def Lane.readStep (L : Lane) : Lane :=
  match L.down, L.up with
  | .readReq addr pair :: _, _ => (L.takeDown.readEffect addr).toHost (.readResponse pair (L.readWord addr) (! fieldAssigned addr))
  | .readCrc :: _, _ => L.takeDown.toHost (.crcResponse (L.rd Int.crcField ^^^ 0xFFFFFFFF))
  | _, .readResponse pair data err :: _ =>
    let K := L.takeUp
    if K.on (Int.readGone pair) then (K.clr (Int.readGone pair)).inc (PSC_PORT.STALE pair)
    else if ! K.on (Int.readOut pair) then K else
    let K := K.clr (Int.readOut pair)
    let K := K.wr COU_LQ.LAT_MAX (max (K.rd COU_LQ.LAT_MAX) (min 255 ((K.now - K.rd (Int.readAt pair)) / 10)))
    if err then K.busError pair else K.wr (Int.readData pair) data
  | _, .crcResponse crc :: _ => L.takeUp.fieldCrc crc
  | _, _ => L

/-- READ_RESPONSE: a read item is answered by the field die, or its answer reaches the stalled core (R214, R304). -/
def execReadResponse (l : LaneId) (s : State) : Out := .next (s.onLane l (fun L => L.readStep))

/-! ### Digest records (R369, R370) -/

/-- Whether a record matches this lane's own (R370). -/
def Lane.digestMatches (L : Lane) (r : DigestRecord) : Bool :=
  let own := L.digestRecord false
  r.digest = own.digest && r.sealRd = own.sealRd && ! (own.loopFault && own.sealRd ≠ 7) && ! (r.loopFault && r.sealRd ≠ 7) && ! own.noSet && ! r.noSet

/-- A sibling's record is judged (R49, R369, R370). (DEDUCED, assumption 88) -/
def Lane.judgeRecord (L : Lane) (src : Nat) (r : DigestRecord) : Lane :=
  let first := ! L.bitOf CFG_PEER.REC src
  let same := L.digestMatches r
  let K := ((L.putBit CFG_PEER.REC src true).putBit CFG_PEER.MATCH src same).putBit CFG_PEER.PEER_MISMATCH src (! same)
  let K := K.iff first (fun J => J.sendFelt (J.portTo src) (.digest (J.digestRecord true)))
  if same then K.iff (K.rd CFG_PEER.PEER_MISMATCH = 0 && ! K.on SSF_FLAGS.NO_SET) (fun J => J.clr CFG_MODE_STATUS.MISMATCH)
  else (((K.raise 0xFC).iff (! K.on Int.operated) (fun J => J.set CFG_MODE_STATUS.MISMATCH)).clr (Int.admitted src)).clr (Int.admitRun src)

/-- DIGEST_RECORD: a record is received and compared; one that comes before the lane has its own waits for P7 (R370).
(DEDUCED, assumption 88) -/
def execDigestRecord (l src : LaneId) (s : State) : Out :=
  .next (if ! (s.lane l).on Int.digestSent then s else
    s.recvFelt l src (fun m => match m with
      | .digest r => some r
      | _ => none) (fun r L => L.judgeRecord src.num r))

/-! ### The end of TEST (R47, R373, R385, R388) -/

/-- Whether a copy of the certificate is there at all. -/
def Lane.certThere (L : Lane) (copy : Nat) : Bool := L.norWord (certBase copy) 4 = 0x54435357

/-- LFO ticks since a copy was written. -/
def Lane.certAge (L : Lane) (copy : Nat) : Nat := L.lfo - L.norWord (certBase copy + 0x20) 8

/-- CERT_RESULT for the newest copy whose signature verifies (R388, R396). (DEDUCED, assumption 82) -/
def Lane.certResult (L : Lane) : Nat := match L.newestCert with
  | none => if L.certThere 0 || L.certThere 1 then 2 else 1
  | some c =>
    let w (o n : Nat) : Nat := L.norWord (certBase c + o) n
    let dieId := packWord ((List.range 4).map (fun k => (L.rd (LCS_DIEID.DIEID k), 32 * k)))
    if w 4 4 ≠ 0xFFFFFFFF then 3
    else if w 8 16 ≠ dieId || w 0x18 8 ≠ L.rd Int.aonNonce || w 0x28 4 ≠ L.rd Int.loadedSeq || w 0x2C 4 ≠ 0xF ||
      w 0x30 48 ≠ (L.digestRecord false).digest then 4
    else if L.lfo < w 0x20 8 || 8045568000 < L.certAge c then 5 else 0

/-- The start-up certificate of a PG930-T is judged; without a valid one the full test has run (R385, R388, R395). -/
def Lane.judgeCert (L : Lane) : Lane :=
  if L.strap.variant = .d then L else
  let K := (L.wr BST_STATUS.CERT_RESULT L.certResult).put BST_STATUS.CERT_USED (L.certResult = 0)
  let K := match L.newestCert with
    | some c => K.sat BST_CERT.AGE (L.certAge c / 256)
    | none => K
  K.iff (L.certResult ≠ 0) (fun J => J.raise 0xE3)

/-- P8: every pair that is not fenced starts, and the lane is READY, or JOINING while the device operates (R42, R47, R229, R373).
(DEDUCED, assumption 82) -/
def Lane.testPassed (L : Lane) : Lane :=
  let K := (L.iff (L.strap.variant = .t && L.certResult ≠ 0) (fun J => J.inc BST_CNT.FULL_PASS)).sat CFG_T_TEST.T L.bootUs
  let K := K.forN 4 (fun p J => J.iff (J.pairState p ≠ 3) (fun J =>
    (((J.wr (LSC_PAIR_STATUS.STATE p) (if p = 3 && J.split3 then 4 else 0)).wr (LSC_PAIR_STATUS.CAUSE p) 0).wr (Int.startPc p 0) 0).wr
      (Int.startPc p 1) (if p = 3 && J.split3 then 0x100 else 0)))
  let K := K.wr SCH_STATUS.SAFE_PAIRS K.safePairs
  let K := K.setState (if operating K.mode || K.mode = mSafeStop then stJoining else stReady)
  ((K.startStep mStandby).updateLine.sendPermission.syncEligible).syncCan

/-- A test of TEST fails (R392, R395). -/
def Lane.testFails (L : Lane) : Lane := ((L.wr BST_STATUS.FAIL_UNIT 7).raise 0xE0).failLane

/-- TEST_COMPLETE: the start-up checks, and where needed the full self-test, finish; a calibration outside its limits fails them
(R361, R385, R388, R392). -/
def execTestComplete (l : LaneId) (passed : Bool) (s : State) : Out :=
  .next (s.onLane l (fun L =>
    if L.rd Int.loadPhase ≠ 4 || L.state ≠ stBoot then L else
    let K := (L.wr BST_STATUS.PHASE 0).judgeCert
    if passed && ! K.on Int.loadStop then K.testPassed else K.testFails))

end Sys2Proof.Machine
end

