-- ==== Sys2Proof/Machine/Dispatch.lean ====
section
/-! DEFINITION. The effect of each command: one arm per constructor, each one direct call of its meaning. -/

namespace Sys2Proof.Machine

/-- The effect of a command on everything but the queue of waiting commands. -/
def exec (i : Instr) (s : State) : Host.Outcome State Fault Refusal :=
  match i with
  | .registerWrite l pair addr data => Sys2Proof.Machine.execRegisterWrite l pair addr data s
  | .outOfWindowAccess l pair addr => Sys2Proof.Machine.execOutOfWindowAccess l pair addr s
  | .hostDieReset l => Sys2Proof.Machine.execHostDieReset l s
  | .fieldDieReset l => Sys2Proof.Machine.execFieldDieReset l s
  | .aonPowerOn l fieldSide => Sys2Proof.Machine.execAonPowerOn l fieldSide s
  | .hostPowerGood l => Sys2Proof.Machine.execHostPowerGood l s
  | .resetRelease l => Sys2Proof.Machine.execResetRelease l s
  | .pllLock l fieldSide => Sys2Proof.Machine.execPllLock l fieldSide s
  | .pllLockTimeout l fieldSide => Sys2Proof.Machine.execPllLockTimeout l fieldSide s
  | .wakeStepDone l step ok value => Sys2Proof.Machine.execWakeStepDone l step ok value s
  | .norReadDone l ok => Sys2Proof.Machine.execNorReadDone l ok s
  | .norReadTimeout l => Sys2Proof.Machine.execNorReadTimeout l s
  | .configurationDone l => Sys2Proof.Machine.execConfigurationDone l s
  | .testComplete l passed => Sys2Proof.Machine.execTestComplete l passed s
  | .modeReqClear l => Sys2Proof.Machine.execModeReqClear l s
  | .standbyRequest l => Sys2Proof.Machine.execStandbyRequest l s
  | .operateRequest l => Sys2Proof.Machine.execOperateRequest l s
  | .stopRequest l => Sys2Proof.Machine.execStopRequest l s
  | .serviceRequest l => Sys2Proof.Machine.execServiceRequest l s
  | .shutdownRequest l => Sys2Proof.Machine.execShutdownRequest l s
  | .frameStart l => Sys2Proof.Machine.execFrameStart l s
  | .frameWrite l value => Sys2Proof.Machine.execFrameWrite l value s
  | .agreementReady l => Sys2Proof.Machine.execAgreementReady l s
  | .readyTimeout l => Sys2Proof.Machine.execReadyTimeout l s
  | .frameMessageReceipt l src => Sys2Proof.Machine.execFrameMessageReceipt l src s
  | .windowClose l irms => Sys2Proof.Machine.execWindowClose l irms s
  | .laneWaitExpiry l => Sys2Proof.Machine.execLaneWaitExpiry l s
  | .keyoffHoldExpiry l => Sys2Proof.Machine.execKeyoffHoldExpiry l s
  | .keyOnFall l => Sys2Proof.Machine.execKeyOnFall l s
  | .keyOnRise l => Sys2Proof.Machine.execKeyOnRise l s
  | .laneExit l cause => Sys2Proof.Machine.execLaneExit l cause s
  | .deadTimeExpiry l pair => Sys2Proof.Machine.execDeadTimeExpiry l pair s
  | .isolationSettleExpiry l ax => Sys2Proof.Machine.execIsolationSettleExpiry l ax s
  | .autoRejoinReset l => Sys2Proof.Machine.execAutoRejoinReset l s
  | .laneResetRequest l => Sys2Proof.Machine.execLaneResetRequest l s
  | .debugHaltRequest l pair fieldClocks => Sys2Proof.Machine.execDebugHaltRequest l pair fieldClocks s
  | .debugStep l pair => Sys2Proof.Machine.execDebugStep l pair s
  | .debugWrite l pair place value => Sys2Proof.Machine.execDebugWrite l pair place value s
  | .debugReplay l point => Sys2Proof.Machine.execDebugReplay l point s
  | .currentSample l ax mid delay i0 i1 va vb vc => Sys2Proof.Machine.execCurrentSample l ax mid delay i0 i1 va vb vc s
  | .bankSwapRequest l ax target => Sys2Proof.Machine.execBankSwapRequest l ax target s
  | .coefficientWrite l ax bank k value => Sys2Proof.Machine.execCoefficientWrite l ax bank k value s
  | .mapWrite l ax q dIdx qIdx upper value => Sys2Proof.Machine.execMapWrite l ax q dIdx qIdx upper value s
  | .ainConversion l k mv => Sys2Proof.Machine.execAinConversion l k mv s
  | .pinEdge l k rising => Sys2Proof.Machine.execPinEdge l k rising s
  | .pinTimeout l k => Sys2Proof.Machine.execPinTimeout l k s
  | .setpointMessage l => Sys2Proof.Machine.execSetpointMessage l s
  | .setpointApply l ax => Sys2Proof.Machine.execSetpointApply l ax s
  | .spTimeout l ax => Sys2Proof.Machine.execSpTimeout l ax s
  | .axisEnable l ax on => Sys2Proof.Machine.execAxisEnable l ax on s
  | .backgroundConversion l input code outcome => Sys2Proof.Machine.execBackgroundConversion l input code outcome s
  | .referenceCheck l cluster ok => Sys2Proof.Machine.execReferenceCheck l cluster ok s
  | .testPulseStart l ax decayed => Sys2Proof.Machine.execTestPulseStart l ax decayed s
  | .testPulseEnd l ax current length => Sys2Proof.Machine.execTestPulseEnd l ax current length s
  | .resumeDeadline l ax => Sys2Proof.Machine.execResumeDeadline l ax s
  | .transferPoint l g mid => Sys2Proof.Machine.execTransferPoint l g mid s
  | .commit l g => Sys2Proof.Machine.execCommit l g s
  | .compareEvent l out kind => Sys2Proof.Machine.execCompareEvent l out kind s
  | .groupRun l g on => Sys2Proof.Machine.execGroupRun l g on s
  | .padReadbackFault l out => Sys2Proof.Machine.execPadReadbackFault l out s
  | .pwmClockResume l => Sys2Proof.Machine.execPwmClockResume l s
  | .hallEdge l ax wires late => Sys2Proof.Machine.execHallEdge l ax wires late s
  | .hallWireFault l ax wire => Sys2Proof.Machine.execHallWireFault l ax wire s
  | .hallIllegalCode l ax => Sys2Proof.Machine.execHallIllegalCode l ax s
  | .hallSpeedEval l ax => Sys2Proof.Machine.execHallSpeedEval l ax s
  | .hallStandstill l ax => Sys2Proof.Machine.execHallStandstill l ax s
  | .posSet l ax value => Sys2Proof.Machine.execPosSet l ax value s
  | .softLimitWrite l ax upper value => Sys2Proof.Machine.execSoftLimitWrite l ax upper value s
  | .compareArm l ax k value => Sys2Proof.Machine.execCompareArm l ax k value s
  | .fbiEnable l ax code => Sys2Proof.Machine.execFbiEnable l ax code s
  | .latchInstant l => Sys2Proof.Machine.execLatchInstant l s
  | .latchInput l => Sys2Proof.Machine.execLatchInput l s
  | .latchCaptureComplete l => Sys2Proof.Machine.execLatchCaptureComplete l s
  | .railConversion l rail code => Sys2Proof.Machine.execRailConversion l rail code s
  | .energyCheck l rail => Sys2Proof.Machine.execEnergyCheck l rail s
  | .ereset l rail => Sys2Proof.Machine.execEreset l rail s
  | .railEnable l rail on => Sys2Proof.Machine.execRailEnable l rail on s
  | .thresholdWrite l rail which data => Sys2Proof.Machine.execThresholdWrite l rail which data s
  | .lockstepFault l pair rail0 rail1 par0 par1 => Sys2Proof.Machine.execLockstepFault l pair rail0 rail1 par0 par1 s
  | .comparatorTestDone l pair ok => Sys2Proof.Machine.execComparatorTestDone l pair ok s
  | .checkpointCommit l pair => Sys2Proof.Machine.execCheckpointCommit l pair s
  | .restored l pair => Sys2Proof.Machine.execRestored l pair s
  | .giveUp l pair => Sys2Proof.Machine.execGiveUp l pair s
  | .shadowResult l target ch result => Sys2Proof.Machine.execShadowResult l target ch result s
  | .leaseExpiry l => Sys2Proof.Machine.execLeaseExpiry l s
  | .claimTimeout l => Sys2Proof.Machine.execClaimTimeout l s
  | .guardExpiry l => Sys2Proof.Machine.execGuardExpiry l s
  | .claimReceipt l src => Sys2Proof.Machine.execClaimReceipt l src s
  | .releaseReceipt l src => Sys2Proof.Machine.execReleaseReceipt l src s
  | .handoverRequest l => Sys2Proof.Machine.execHandoverRequest l s
  | .handoverReceipt l src => Sys2Proof.Machine.execHandoverReceipt l src s
  | .swapIntervalExpiry l => Sys2Proof.Machine.execSwapIntervalExpiry l s
  | .holdoffExpiry l => Sys2Proof.Machine.execHoldoffExpiry l s
  | .snapshotPush l => Sys2Proof.Machine.execSnapshotPush l s
  | .snapshotReceipt l src => Sys2Proof.Machine.execSnapshotReceipt l src s
  | .saReadbackFault l m => Sys2Proof.Machine.execSaReadbackFault l m s
  | .saContClr l mask => Sys2Proof.Machine.execSaContClr l mask s
  | .sdHoldExpiry l => Sys2Proof.Machine.execSdHoldExpiry l s
  | .saPowerUp l => Sys2Proof.Machine.execSaPowerUp l s
  | .saPowerDown l => Sys2Proof.Machine.execSaPowerDown l s
  | .ssRequest l => Sys2Proof.Machine.execSsRequest l s
  | .ss1TmaxExpiry l => Sys2Proof.Machine.execSs1TmaxExpiry l s
  | .vehTimeout l => Sys2Proof.Machine.execVehTimeout l s
  | .stopLineState l => Sys2Proof.Machine.execStopLineState l s
  | .stopLineFault l => Sys2Proof.Machine.execStopLineFault l s
  | .stoReadbackFault l cluster => Sys2Proof.Machine.execStoReadbackFault l cluster s
  | .freezeTrip l => Sys2Proof.Machine.execFreezeTrip l s
  | .stoTest l cluster passed => Sys2Proof.Machine.execStoTest l cluster passed s
  | .testMaxExpiry l => Sys2Proof.Machine.execTestMaxExpiry l s
  | .sealSample l contacts => Sys2Proof.Machine.execSealSample l contacts s
  | .sealLoopSample l agrees => Sys2Proof.Machine.execSealLoopSample l agrees s
  | .faultArrival l more => Sys2Proof.Machine.execFaultArrival l more s
  | .fieldFaultMessage l => Sys2Proof.Machine.execFieldFaultMessage l s
  | .faultAcknowledge l => Sys2Proof.Machine.execFaultAcknowledge l s
  | .pendAck l k mask same => Sys2Proof.Machine.execPendAck l k mask same s
  | .reactionTimerExpiry l => Sys2Proof.Machine.execReactionTimerExpiry l s
  | .firstFaultClear l same => Sys2Proof.Machine.execFirstFaultClear l same s
  | .faultForce l src => Sys2Proof.Machine.execFaultForce l src s
  | .logPop l => Sys2Proof.Machine.execLogPop l s
  | .severityWrite l k data => Sys2Proof.Machine.execSeverityWrite l k data s
  | .syncSend l => Sys2Proof.Machine.execSyncSend l s
  | .syncReceipt l quarter => Sys2Proof.Machine.execSyncReceipt l quarter s
  | .syncLoss l => Sys2Proof.Machine.execSyncLoss l s
  | .fieldRegisterWrite l pair addr data => Sys2Proof.Machine.execFieldRegisterWrite l pair addr data s
  | .fieldRegisterRead l pair addr => Sys2Proof.Machine.execFieldRegisterRead l pair addr s
  | .readResponse l => Sys2Proof.Machine.execReadResponse l s
  | .readTimeout l pair => Sys2Proof.Machine.execReadTimeout l pair s
  | .creditReturn l port nack => Sys2Proof.Machine.execCreditReturn l port nack s
  | .linkTimeout l link => Sys2Proof.Machine.execLinkTimeout l link s
  | .linkStart l link => Sys2Proof.Machine.execLinkStart l link s
  | .crcRestart l => Sys2Proof.Machine.execCrcRestart l s
  | .controlMessage l => Sys2Proof.Machine.execControlMessage l s
  | .statusItem l => Sys2Proof.Machine.execStatusItem l s
  | .eventItem l => Sys2Proof.Machine.execEventItem l s
  | .evqRead l pair => Sys2Proof.Machine.execEvqRead l pair s
  | .stopRequestMessage l src => Sys2Proof.Machine.execStopRequestMessage l src s
  | .digestRecord l src => Sys2Proof.Machine.execDigestRecord l src s
  | .schPost l op => Sys2Proof.Machine.execSchPost l op s
  | .dispatch l => Sys2Proof.Machine.execDispatch l s
  | .nextRead l target => Sys2Proof.Machine.execNextRead l target s
  | .nextWaitExpiry l target => Sys2Proof.Machine.execNextWaitExpiry l target s
  | .doneWrite l target index => Sys2Proof.Machine.execDoneWrite l target index s
  | .budgetExpiry l target => Sys2Proof.Machine.execBudgetExpiry l target s
  | .hangExpiry l target => Sys2Proof.Machine.execHangExpiry l target s
  | .deadlineExpiry l op => Sys2Proof.Machine.execDeadlineExpiry l op s
  | .noTargetTimeout l op => Sys2Proof.Machine.execNoTargetTimeout l op s
  | .withdrawalRequest l pair => Sys2Proof.Machine.execWithdrawalRequest l pair s
  | .withdrawalTimeout l pair => Sys2Proof.Machine.execWithdrawalTimeout l pair s
  | .nguasFrameReceipt l y good start src bytes => Sys2Proof.Machine.execNguasFrameReceipt l y good start src bytes s
  | .slotTransmit l n e x y collision => Sys2Proof.Machine.execSlotTransmit l n e x y collision s
  | .cycleEnd l => Sys2Proof.Machine.execCycleEnd l s
  | .actionInstant l => Sys2Proof.Machine.execActionInstant l s
  | .actionInstantNotice l => Sys2Proof.Machine.execActionInstantNotice l s
  | .coldstartTimerExpiry l collision => Sys2Proof.Machine.execColdstartTimerExpiry l collision s
  | .ngbModeReq l value => Sys2Proof.Machine.execNgbModeReq l value s
  | .wakeTx l => Sys2Proof.Machine.execWakeTx l s
  | .wakePatternSend l => Sys2Proof.Machine.execWakePatternSend l s
  | .reint l => Sys2Proof.Machine.execReint l s
  | .nguasWakeDetect l ch => Sys2Proof.Machine.execNguasWakeDetect l ch s
  | .canFrameReceived l ident age ext remote fdf brs esi dlc data => Sys2Proof.Machine.execCanFrameReceived l ident age ext remote fdf brs esi dlc data s
  | .canTxRequest l mask => Sys2Proof.Machine.execCanTxRequest l mask s
  | .canTxDone l => Sys2Proof.Machine.execCanTxDone l s
  | .canRecover l => Sys2Proof.Machine.execCanRecover l s
  | .canPop l => Sys2Proof.Machine.execCanPop l s
  | .canError l tx eight => Sys2Proof.Machine.execCanError l tx eight s
  | .scrubSweep l ms => Sys2Proof.Machine.execScrubSweep l ms s
  | .scrubLate l => Sys2Proof.Machine.execScrubLate l s
  | .tokenSubmit l => Sys2Proof.Machine.execTokenSubmit l s
  | .tokenVerified l => Sys2Proof.Machine.execTokenVerified l s
  | .slicePeriodExpiry l => Sys2Proof.Machine.execSlicePeriodExpiry l s
  | .sliceDone l ok => Sys2Proof.Machine.execSliceDone l ok s
  | .shutdownTestDone l passed unit => Sys2Proof.Machine.execShutdownTestDone l passed unit s
  | .directTestStart l test unit segment => Sys2Proof.Machine.execDirectTestStart l test unit segment s
  | .directTestDone l ok => Sys2Proof.Machine.execDirectTestDone l ok s
  | .crystalWindow l die x r => Sys2Proof.Machine.execCrystalWindow l die x r s
  | .xtalEdgeTimeout l die => Sys2Proof.Machine.execXtalEdgeTimeout l die s
  | .rootLockError l die => Sys2Proof.Machine.execRootLockError l die s
  | .xfHoldExpiry l => Sys2Proof.Machine.execXfHoldExpiry l s
  | .hfoCheck l die count => Sys2Proof.Machine.execHfoCheck l die count s
  | .switchComplete l die d time => Sys2Proof.Machine.execSwitchComplete l die d time s
  | .switchTimeout l die d time => Sys2Proof.Machine.execSwitchTimeout l die d time s
  | .rampStep l die d time => Sys2Proof.Machine.execRampStep l die d time s
  | .sscPeriodStart l die => Sys2Proof.Machine.execSscPeriodStart l die s
  | .doze l pair => Sys2Proof.Machine.execDoze l pair s
  | .blockAnswer l id busy => Sys2Proof.Machine.execBlockAnswer l id busy s
  | .drainTimeout l id => Sys2Proof.Machine.execDrainTimeout l id s
  | .fieldOffDone l inTime => Sys2Proof.Machine.execFieldOffDone l inTime s
  | .retentionSaveDone l ok => Sys2Proof.Machine.execRetentionSaveDone l ok s
  | .regionOffDone l => Sys2Proof.Machine.execRegionOffDone l s
  | .privilegedWake l which => Sys2Proof.Machine.execPrivilegedWake l which s
  | .regionPowerUp l fieldSide => Sys2Proof.Machine.execRegionPowerUp l fieldSide s
  | .gRelease l => Sys2Proof.Machine.execGRelease l s
  | .supplyOutOfRange l which => Sys2Proof.Machine.execSupplyOutOfRange l which s
  | .dpRead addr n => Sys2Proof.Machine.execDpRead addr n s
  | .dpWrite addr data => Sys2Proof.Machine.execDpWrite addr data s
  | .dpStatus => Sys2Proof.Machine.execDpStatus s
  | .dpIdent => Sys2Proof.Machine.execDpIdent s
  | .unknownOpcode => Sys2Proof.Machine.execUnknownOpcode s
  | .stageOpen => Sys2Proof.Machine.execStageOpen s
  | .stageClose => Sys2Proof.Machine.execStageClose s
  | .stageDiscard => Sys2Proof.Machine.execStageDiscard s
  | .updateStart => Sys2Proof.Machine.execUpdateStart s
  | .logAck => Sys2Proof.Machine.execLogAck s
  | .attest => Sys2Proof.Machine.execAttest s
  | .certWrite => Sys2Proof.Machine.execCertWrite s
  | .stagingEraseDone => Sys2Proof.Machine.execStagingEraseDone s
  | .stagingProgramDone => Sys2Proof.Machine.execStagingProgramDone s
  | .imageVerifyDone => Sys2Proof.Machine.execImageVerifyDone s
  | .attestReportDone => Sys2Proof.Machine.execAttestReportDone s
  | .telemetrySend l dieTemps => Sys2Proof.Machine.execTelemetrySend l dieTemps s
  | .telemetryReceipt l => Sys2Proof.Machine.execTelemetryReceipt l s
  | .telemetryStale l => Sys2Proof.Machine.execTelemetryStale l s
  | .logRecordReceipt l => Sys2Proof.Machine.execLogRecordReceipt l s
  | .logRecordProgrammed ok => Sys2Proof.Machine.execLogRecordProgrammed ok s
  | .mdSensorSample t0 t1 humidity supplyOk => Sys2Proof.Machine.execMdSensorSample t0 t1 humidity supplyOk s
  | .stateBlockSave => Sys2Proof.Machine.execStateBlockSave s
  | .updateOffer l => Sys2Proof.Machine.execUpdateOffer l s
  | .updateEraseDone l => Sys2Proof.Machine.execUpdateEraseDone l s
  | .updateChunk l n ok => Sys2Proof.Machine.execUpdateChunk l n ok s
  | .updateVerifyDone l => Sys2Proof.Machine.execUpdateVerifyDone l s
  | .updateChunkTimeout l => Sys2Proof.Machine.execUpdateChunkTimeout l s
  | .updateReply l => Sys2Proof.Machine.execUpdateReply l s
  | .identityRecord l => Sys2Proof.Machine.execIdentityRecord l s
  | .mbxSend l ident => Sys2Proof.Machine.execMbxSend l ident s
  | .rollbackCommit l => Sys2Proof.Machine.execRollbackCommit l s
  | .mdDormantEntry => Sys2Proof.Machine.execMdDormantEntry s
  | .mdWake => Sys2Proof.Machine.execMdWake s
  | .ssReqRelease l => Sys2Proof.Machine.execSsReqRelease l s
  | .supplyInRange l which => Sys2Proof.Machine.execSupplyInRange l which s
  | .temperatureOutOfRange l level => Sys2Proof.Machine.execTemperatureOutOfRange l level s
  | .parityError l src part => Sys2Proof.Machine.execParityError l src part s
  | .debugResume l pair => Sys2Proof.Machine.execDebugResume l pair s
  | .busOffRecoveryComplete l => Sys2Proof.Machine.execBusOffRecoveryComplete l s
  | .boundaryScanInstruction l full => Sys2Proof.Machine.execBoundaryScanInstruction l full s
  | .registerWriteItem l => Sys2Proof.Machine.execRegisterWriteItem l s

end Sys2Proof.Machine
end

