-- ==== Sys2Proof/Machine/Tick.lean ====
section
/-! DEFINITION. One nanosecond of the package's clocks, which passes while no command waits: lane time with its slew, the field
timebase, the lease timer, the LFO tick counts and the time since P1 (R3, R248, R292, R341, R359, R396, R447). -/

namespace Sys2Proof.Machine

/-- One nanosecond of the LFO of a lane, nominally 32 kHz (R396). -/
def Lane.tickLfo (L : Lane) : Lane :=
  if L.rd Int.lfoPhase + 1 < 31250 then L.wr Int.lfoPhase (L.rd Int.lfoPhase + 1)
  else (L.clr Int.lfoPhase).wr BST_TICK.TICK (L.lfo + 1)

/-- Whether this nanosecond takes a step of the slew: one in each 1000 ns, put off by 1 ns where lane time stands at a multiple of
1000 ns, which no frame start may miss (R230, R341). -/
def Lane.slewDue (L : Lane) : Bool :=
  (L.rd Int.bootTime % 1000 = 0 && L.now % 1000 ≠ 0) || (L.rd Int.bootTime % 1000 = 1 && L.now % 1000 = 1)

/-- The slew of lane time: 1 ns in each 1000 ns of the die’s clock toward the agreed time (R341). (DEDUCED, assumption 63) -/
def Lane.tickSlew (L : Lane) : Lane :=
  let n := L.rdI Int.ngbSlew
  if n = 0 || ! L.slewDue then L
  else if 0 < n then ((L.wr Int.laneTime (L.now + 1)).wrI Int.ngbSlew (n - 1)).syncTimeValid
  else ((L.wr Int.laneTime (L.now - 1)).wrI Int.ngbSlew (n + 1)).syncTimeValid

/-- Whether the host die's clocks run: released, not ASLEEP, not in level 2 (R413, R418, R426). -/
def Lane.hostRuns (L : Lane) : Bool := ! L.on Int.held && L.state ≠ stAsleep && decide (L.rd PSC_STATUS.LEVEL_NOW < 2)

/-- One nanosecond of the host die's clocks. -/
def Lane.tickHost (L : Lane) : Lane :=
  if L.hostRuns then ((L.wr Int.laneTime (L.now + 1)).wr Int.bootTime (L.rd Int.bootTime + 1)).tickSlew else L

/-- One nanosecond of the field timebase, from the release of the field die (R3, R471). -/
def Lane.tickField (L : Lane) : Lane := if L.on Int.fieldHeld then L else L.wr Int.fieldTime (L.ftb + 1)

/-- One nanosecond of a lane. (DESIGN CHOICE, assumption 3) -/
def Lane.tick (L : Lane) : Lane := ((L.tickHost.tickField).wr Int.leaseTime (L.leaseNow + 1)).tickLfo

/-- One nanosecond of the management die: its tick count runs on its own LFO (R447). -/
def Md.tick (M : Md) (phys : Nat) : Md := if phys % 31250 = 0 then M.wr Int.mdTick (M.rd Int.mdTick + 1) else M

/-- One nanosecond of the package. (DESIGN CHOICE, assumption 3) -/
def State.tick (s : State) : State :=
  let t := { s with phys := s.phys + 1, md := s.md.tick (s.phys + 1) }
  ((t.onLane .a Lane.tick).onLane .b Lane.tick).onLane .c Lane.tick

end Sys2Proof.Machine
end

