-- ==== Sys2Proof/Machine/Step.lean ====
section
/-! DEFINITION. One step of the package: the command at the front of the queue, or, while none waits, one nanosecond. -/

namespace Sys2Proof.Machine

/-- One step: the front command runs on the state with the rest of the queue; on an empty queue one nanosecond passes.
(DESIGN CHOICE, assumption 3) -/
def step (s : State) : Host.Outcome State Fault Refusal :=
  match s.pending with
  | [] => .next s.tick
  | c :: r => exec c { s with pending := r }

/-- The state with the command that a table word spells in front of its queue. (DESIGN CHOICE, assumption 1) -/
def State.withFetchWord (s : State) (nbits w : Nat) : State :=
  match decodeTableWord nbits w with
  | some c => { s with pending := c :: s.pending }
  | none => s

end Sys2Proof.Machine
end

