-- ==== Sys2Proof/Safety.lean ====
section
/-! DEFINITION. The terms in which claims are made: what a command leaves unchanged, the wired identity of the lanes, and the
lanes that a command can reach. -/

namespace Sys2Proof.Machine

/-- `K` differs from `L` in nothing but the listed register fields. -/
def Lane.onlyFields (L K : Lane) (fs : List Fld) : Prop :=
  ∃ r : Store, K = { L with regs := r } ∧ ∀ f : Fld, f.key ∉ fs.map Fld.key → r.rd f = L.rd f

/-- A lane exit leaves the lane exited: its host die is out of reset, and no power entry is under way whose field regions are OFF,
which an exit aborts by a host die reset (R423, R436). -/
def Lane.canExit (L : Lane) : Bool := ! L.on Int.held && ! (L.entryOpen && L.on Int.pscN3 && decide (L.rd Int.pscAsk = 3))

/-- `K` differs from `L` in no register field but the listed ones, in neither memory and not in its wired identity. -/
def Lane.keepsBut (L K : Lane) (fs : List Fld) : Prop :=
  K.mem = L.mem ∧ K.nor = L.nor ∧ K.strap = L.strap ∧ ∀ f : Fld, f.key ∉ fs.map Fld.key → K.rd f = L.rd f

/-- What an event of the host die may write: event inputs, and what a waking pair changes (R374, R420). -/
def eventFields : List Fld :=
  [Int.events 0, Int.events 1, Int.events 2, Int.events 3, PSC_STATUS.DOZED, Int.wakePend, PSC_STATUS.LEVEL_NOW, PSC_STATUS.CORE]

/-- What a change of a recommended condition writes (R34). -/
def condFields : List Fld := [CFG_GUARANTEE.COND_RECOMMENDED, CFG_GUARANTEE.COND_LIFECYCLE, CFG_GUARANTEE.LAPSED, CFG_GUARANTEE.HOLD]

/-- What an item for the field die writes: credits (R306). -/
def couchFields : List Fld := [COU_STATUS.CREDITS, COU_STATUS.OUTSTANDING]

/-- What a Felt message writes: credits of both ports (R306, R310). -/
def feltFields : List Fld :=
  [FLT_P_STATUS.CREDITS 0, FLT_P_STATUS.OUTSTANDING 0, FLT_P_STATUS.CREDITS 1, FLT_P_STATUS.OUTSTANDING 1]

/-! ### What a command can reach -/

/-- The wired identity of R14: every lane has its own LANE_ID and the variant of the package. -/
def State.wired (s : State) : Prop := ∀ l : LaneId, (s.lane l).strap = ⟨l, s.variant⟩

/-- Every memory of the package is in its canonical form. -/
def State.memoriesWf (s : State) : Prop :=
  (∀ l : LaneId, (s.lane l).mem.wf ramDefault ∧ (s.lane l).nor.wf norDefault) ∧ s.md.win.wf ramDefault ∧ s.md.stage.wf norDefault

end Sys2Proof.Machine

namespace Sys2Proof

/-- The sibling that Felt port `p` of a lane leads to, in the order A, B, C, A (R310). -/
def LaneId.peer (l : LaneId) (p : Nat) : LaneId := laneNumbered (l.num + 1 + p)

/-- The lanes whose state a command may change, and whether it may change the management die. A lane shares nothing with another
but Felt, and with the management die nothing but the mailbox (R11, R13, R310, R440); the heat of the package reaches every lane
(R33). -/
def Instr.reach (c : Instr) : List LaneId × Bool := match c with
  | .registerWrite l .. => ([l], false)
  | .outOfWindowAccess l .. => ([l], false)
  | .hostDieReset l .. => ([l], false)
  | .fieldDieReset l .. => ([l], false)
  | .aonPowerOn l .. => ([l], false)
  | .hostPowerGood l .. => ([l], false)
  | .resetRelease l .. => ([l], false)
  | .pllLock l .. => ([l], false)
  | .pllLockTimeout l .. => ([l], false)
  | .wakeStepDone l .. => ([l], false)
  | .norReadDone l .. => ([l], false)
  | .norReadTimeout l .. => ([l], false)
  | .configurationDone l .. => ([l], false)
  | .testComplete l .. => ([l], false)
  | .modeReqClear l .. => ([l], false)
  | .standbyRequest l .. => ([l], false)
  | .operateRequest l .. => ([l], false)
  | .stopRequest l .. => ([l], false)
  | .serviceRequest l .. => ([l], false)
  | .shutdownRequest l .. => ([l], false)
  | .frameStart l .. => ([l], false)
  | .frameWrite l .. => ([l], false)
  | .agreementReady l .. => ([l], false)
  | .readyTimeout l .. => ([l], false)
  | .frameMessageReceipt l src => ([l, src], false)
  | .windowClose l .. => ([l], false)
  | .laneWaitExpiry l .. => ([l], false)
  | .keyoffHoldExpiry l .. => ([l], false)
  | .keyOnFall l .. => ([l], false)
  | .keyOnRise l .. => ([l], false)
  | .laneExit l .. => ([l], false)
  | .deadTimeExpiry l .. => ([l], false)
  | .isolationSettleExpiry l .. => ([l], false)
  | .autoRejoinReset l .. => ([l], false)
  | .laneResetRequest l .. => ([l], false)
  | .debugHaltRequest l .. => ([l], false)
  | .debugStep l .. => ([l], false)
  | .debugWrite l .. => ([l], false)
  | .debugReplay l .. => ([l], false)
  | .currentSample l .. => ([l], false)
  | .bankSwapRequest l .. => ([l], false)
  | .coefficientWrite l .. => ([l], false)
  | .mapWrite l .. => ([l], false)
  | .ainConversion l .. => ([l], false)
  | .pinEdge l .. => ([l], false)
  | .pinTimeout l .. => ([l], false)
  | .setpointMessage l .. => ([l], false)
  | .setpointApply l .. => ([l], false)
  | .spTimeout l .. => ([l], false)
  | .axisEnable l .. => ([l], false)
  | .backgroundConversion l .. => ([l], false)
  | .referenceCheck l .. => ([l], false)
  | .testPulseStart l .. => ([l], false)
  | .testPulseEnd l .. => ([l], false)
  | .resumeDeadline l .. => ([l], false)
  | .transferPoint l .. => ([l], false)
  | .commit l .. => ([l], false)
  | .compareEvent l .. => ([l], false)
  | .groupRun l .. => ([l], false)
  | .padReadbackFault l .. => ([l], false)
  | .pwmClockResume l .. => ([l], false)
  | .hallEdge l .. => ([l], false)
  | .hallWireFault l .. => ([l], false)
  | .hallIllegalCode l .. => ([l], false)
  | .hallSpeedEval l .. => ([l], false)
  | .hallStandstill l .. => ([l], false)
  | .posSet l .. => ([l], false)
  | .softLimitWrite l .. => ([l], false)
  | .compareArm l .. => ([l], false)
  | .fbiEnable l .. => ([l], false)
  | .latchInstant l .. => ([l], false)
  | .latchInput l .. => ([l], false)
  | .latchCaptureComplete l .. => ([l], false)
  | .railConversion l .. => ([l], false)
  | .energyCheck l .. => ([l], false)
  | .ereset l .. => ([l], false)
  | .railEnable l .. => ([l], false)
  | .thresholdWrite l .. => ([l], false)
  | .lockstepFault l .. => ([l], false)
  | .comparatorTestDone l .. => ([l], false)
  | .checkpointCommit l .. => ([l], false)
  | .restored l .. => ([l], false)
  | .giveUp l .. => ([l], false)
  | .shadowResult l .. => ([l], false)
  | .leaseExpiry l .. => ([l], false)
  | .claimTimeout l .. => ([l], false)
  | .guardExpiry l .. => ([l], false)
  | .claimReceipt l src => ([l, src], false)
  | .releaseReceipt l src => ([l, src], false)
  | .handoverRequest l .. => ([l], false)
  | .handoverReceipt l src => ([l, src], false)
  | .swapIntervalExpiry l .. => ([l], false)
  | .holdoffExpiry l .. => ([l], false)
  | .snapshotPush l .. => ([l], false)
  | .snapshotReceipt l src => ([l, src], false)
  | .saReadbackFault l .. => ([l], false)
  | .saContClr l .. => ([l], false)
  | .sdHoldExpiry l .. => ([l], false)
  | .saPowerUp l .. => ([l], false)
  | .saPowerDown l .. => ([l], false)
  | .ssRequest l .. => ([l], false)
  | .ss1TmaxExpiry l .. => ([l], false)
  | .vehTimeout l .. => ([l], false)
  | .stopLineState l .. => ([l], false)
  | .stopLineFault l .. => ([l], false)
  | .stoReadbackFault l .. => ([l], false)
  | .freezeTrip l .. => ([l], false)
  | .stoTest l .. => ([l], false)
  | .testMaxExpiry l .. => ([l], false)
  | .sealSample l .. => ([l], false)
  | .sealLoopSample l .. => ([l], false)
  | .faultArrival l .. => ([l], false)
  | .fieldFaultMessage l .. => ([l], false)
  | .faultAcknowledge l .. => ([l], false)
  | .pendAck l .. => ([l], false)
  | .reactionTimerExpiry l .. => ([l], false)
  | .firstFaultClear l .. => ([l], false)
  | .faultForce l .. => ([l], false)
  | .logPop l .. => ([l], false)
  | .severityWrite l .. => ([l], false)
  | .syncSend l .. => ([l], false)
  | .syncReceipt l .. => ([l], false)
  | .syncLoss l .. => ([l], false)
  | .fieldRegisterWrite l .. => ([l], false)
  | .fieldRegisterRead l .. => ([l], false)
  | .readResponse l .. => ([l], false)
  | .readTimeout l .. => ([l], false)
  | .creditReturn l port nack => (if nack && 2 ≤ port.val then [l, l.peer (port.val - 2)] else [l], false)
  | .linkTimeout l .. => ([l], false)
  | .linkStart l link => (if link.val = 2 ∨ link.val = 3 then [l, l.peer (link.val - 2)] else [l], link.val == 4)
  | .crcRestart l .. => ([l], false)
  | .controlMessage l .. => ([l], false)
  | .statusItem l .. => ([l], false)
  | .eventItem l .. => ([l], false)
  | .evqRead l .. => ([l], false)
  | .stopRequestMessage l src => ([l, src], false)
  | .digestRecord l src => ([l, src], false)
  | .schPost l .. => ([l], false)
  | .dispatch l .. => ([l], false)
  | .nextRead l .. => ([l], false)
  | .nextWaitExpiry l .. => ([l], false)
  | .doneWrite l .. => ([l], false)
  | .budgetExpiry l .. => ([l], false)
  | .hangExpiry l .. => ([l], false)
  | .deadlineExpiry l .. => ([l], false)
  | .noTargetTimeout l .. => ([l], false)
  | .withdrawalRequest l .. => ([l], false)
  | .withdrawalTimeout l .. => ([l], false)
  | .nguasFrameReceipt l .. => ([l], false)
  | .slotTransmit l .. => ([l], false)
  | .cycleEnd l .. => ([l], false)
  | .actionInstant l .. => ([l], false)
  | .actionInstantNotice l .. => ([l], false)
  | .coldstartTimerExpiry l .. => ([l], false)
  | .ngbModeReq l .. => ([l], false)
  | .wakeTx l .. => ([l], false)
  | .wakePatternSend l .. => ([l], false)
  | .reint l .. => ([l], false)
  | .nguasWakeDetect l .. => ([l], false)
  | .canFrameReceived l .. => ([l], false)
  | .canTxRequest l .. => ([l], false)
  | .canTxDone l .. => ([l], false)
  | .canRecover l .. => ([l], false)
  | .canPop l .. => ([l], false)
  | .canError l .. => ([l], false)
  | .scrubSweep l .. => ([l], false)
  | .scrubLate l .. => ([l], false)
  | .tokenSubmit l .. => ([l], false)
  | .tokenVerified l .. => ([l], false)
  | .slicePeriodExpiry l .. => ([l], false)
  | .sliceDone l .. => ([l], false)
  | .shutdownTestDone l .. => ([l], false)
  | .directTestStart l .. => ([l], false)
  | .directTestDone l .. => ([l], false)
  | .crystalWindow l die .. => (if die.val = 2 then [] else [l], die.val == 2)
  | .xtalEdgeTimeout l die .. => (if die.val = 2 then [] else [l], die.val == 2)
  | .rootLockError l die .. => (if die.val = 2 then [] else [l], die.val == 2)
  | .xfHoldExpiry l .. => ([l], false)
  | .hfoCheck l die .. => (if die.val = 2 then [] else [l], die.val == 2)
  | .switchComplete l .. => ([l], false)
  | .switchTimeout l .. => ([l], false)
  | .rampStep l .. => ([l], false)
  | .sscPeriodStart l .. => ([l], false)
  | .doze l .. => ([l], false)
  | .blockAnswer l .. => ([l], false)
  | .drainTimeout l .. => ([l], false)
  | .fieldOffDone l .. => ([l], false)
  | .retentionSaveDone l .. => ([l], false)
  | .regionOffDone l .. => ([l], false)
  | .privilegedWake l .. => ([l], false)
  | .regionPowerUp l .. => ([l], false)
  | .gRelease l .. => ([l], false)
  | .supplyOutOfRange l .. => ([l], false)
  | .dpRead .. => ([], true)
  | .dpWrite .. => ([], true)
  | .dpStatus .. => ([], true)
  | .dpIdent .. => ([], true)
  | .unknownOpcode .. => ([], true)
  | .stageOpen .. => ([], true)
  | .stageClose .. => ([], true)
  | .stageDiscard .. => ([], true)
  | .updateStart .. => ([], true)
  | .logAck .. => ([], true)
  | .attest .. => ([], true)
  | .certWrite .. => ([], true)
  | .stagingEraseDone .. => ([], true)
  | .stagingProgramDone .. => ([], true)
  | .imageVerifyDone .. => ([], true)
  | .attestReportDone .. => ([], true)
  | .telemetrySend l .. => ([l], false)
  | .telemetryReceipt l .. => ([l], true)
  | .telemetryStale l .. => ([], true)
  | .logRecordReceipt l .. => ([l], true)
  | .logRecordProgrammed .. => ([], true)
  | .mdSensorSample .. => ([], true)
  | .stateBlockSave .. => ([], true)
  | .updateOffer l .. => ([l], true)
  | .updateEraseDone l .. => ([l], false)
  | .updateChunk l .. => ([l], false)
  | .updateVerifyDone l .. => ([l], false)
  | .updateChunkTimeout l .. => ([l], false)
  | .updateReply l .. => ([l], true)
  | .identityRecord l .. => ([l], true)
  | .mbxSend l .. => ([l], false)
  | .rollbackCommit l .. => ([l], false)
  | .mdDormantEntry .. => ([], true)
  | .mdWake .. => ([], true)
  | .ssReqRelease l .. => ([l], false)
  | .supplyInRange l .. => ([l], false)
  | .temperatureOutOfRange l level => (if level.val = 2 then [.a, .b, .c] else [l], false)
  | .parityError l .. => ([l], false)
  | .debugResume l .. => ([l], false)
  | .busOffRecoveryComplete l .. => ([l], false)
  | .boundaryScanInstruction l .. => ([l], false)
  | .registerWriteItem l .. => ([l], false)

end Sys2Proof
end

