-- ==== Sys2Proof/Certificates/Slice0/Obligations.lean ====
section
/-! DEFINITION. The statements for the provers. A command completes when `exec` answers the next state in which its lane `l` has
become `K`: `exec c s = .next (s.onLane l (fun _ => K))`; on a lane that is not fitted, that state is `s` itself (R2). Names under
`Int` are the quantities the model keeps beside the registers (notes/assumptions/5.md). -/

open Sys2Proof Sys2Proof.Machine

/-- For every command c and every state: a step of the state with c in front of its queue is the effect of c on the state
whose queue is the rest. The queue is the frame of this model, not a rule of the spec. (00_scope.md) -/
def Obligations.StepRunsTheFrontCommand : Prop :=
  ∀ (s : State) (c : Instr) (r : List Instr), step { s with pending := c :: r } = exec c { s with pending := r }

/-- With no command waiting, a step answers a next state in which physical time is 1 ns later, no lane that is not fitted
has changed, and in each fitted lane the lease timer counts, the field timebase counts while the field die is out of
reset, the LFO tick counts every 31,250 ns, and lane time counts while the host die runs; without a slew of lane time
nothing else of the lane changes, and with one lane time gains or loses 1 ns in each 1,000 ns since P1. That an idle
step is a nanosecond, at nominal rates, is the choice of the model (assumption 3). (R3, R248, R341, R359, R396) -/
def Obligations.IdleStepPassesOneNanosecond : Prop :=
  ∀ (s : State), s.pending = [] → ∃ t, step s = .next t ∧ t.phys = s.phys + 1 ∧ t.pending = [] ∧ t.variant = s.variant ∧
    (∀ l, s.variant.fitted l = false → t.lane l = s.lane l) ∧
    (∀ l L K, s.variant.fitted l = true → s.lane l = L → t.lane l = K →
      K.leaseNow = (L.leaseNow + 1) % 2 ^ 64 ∧
      K.ftb = (if L.on Int.fieldHeld then L.ftb else (L.ftb + 1) % 2 ^ 64) ∧
      K.lfo = (if L.rd Int.lfoPhase + 1 < 31250 then L.lfo else (L.lfo + 1) % 2 ^ BST_TICK.TICK.width) ∧
      (L.hostRuns = false → K.now = L.now) ∧
      (L.hostRuns = true → L.rdI Int.ngbSlew = 0 → K.now = (L.now + 1) % 2 ^ 64) ∧
      (L.hostRuns = true → L.rd Int.bootTime + 1 < 2 ^ 64 → (L.rd Int.bootTime + 1) % 1000 ≠ 0 → L.now + 1 < 2 ^ 64 → K.now = L.now + 1) ∧
      (L.hostRuns = true → L.rd Int.bootTime + 1 < 2 ^ 64 → (L.rd Int.bootTime + 1) % 1000 = 0 → L.now + 2 < 2 ^ 64 →
        0 < L.rdI Int.ngbSlew → K.now = L.now + 2) ∧
      (L.hostRuns = true → L.rd Int.bootTime + 1 < 2 ^ 64 → (L.rd Int.bootTime + 1) % 1000 = 0 → L.now + 1 < 2 ^ 64 →
        L.rdI Int.ngbSlew < 0 → K.now = L.now) ∧
      (L.rdI Int.ngbSlew = 0 → L.onlyFields K [Int.laneTime, Int.bootTime, Int.fieldTime, Int.leaseTime, Int.lfoPhase, BST_TICK.TICK]))

/-- At reset no command waits, physical time is 0, and in every lane every register field holds the reset value of its
register table; so REACT_T is 50, KEYOFF_HOLD 20, LANE_WAIT 50, FREEZE_MAX 10, EN_SETTLE 20, TEST_MAX 24, no first
fault is latched and nothing is pending, and CFG_TOPOLOGY shows the LANE_ID of the lane. That the package is a PG930-T
is the choice of the model (assumption 2), as are the reset values of the internal quantities (assumption 5). (R14,
R56, R286, R299, R378) -/
def Obligations.ResetLeavesTheResetValues : Prop :=
  State.reset.pending = [] ∧ State.reset.phys = 0 ∧ State.reset.variant = .t ∧
  (∀ (l : LaneId) (f : Fld), (State.reset.lane l).rd f = f.reset) ∧
  (∀ (l : LaneId) (L : Lane), State.reset.lane l = L →
    L.rd BGR_CFG.REACT_T = 50 ∧ L.rd CFG_MODE_POLICY.KEYOFF_HOLD = 20 ∧ L.rd CFG_MODE_POLICY.LANE_WAIT = 50 ∧
    L.rd STO_CFG.FREEZE_MAX = 10 ∧ L.rd STO_CFG.EN_SETTLE = 20 ∧ L.rd STO_CFG.TEST_MAX = 24 ∧ L.rd BGR_STATE.STATE = 0 ∧
    L.on BGR_FIRST.VALID = false ∧ (∀ k < 8, L.rd (BGR_PEND.BITS k) = 0) ∧ L.shown CFG_TOPOLOGY.LANE_ID = l.num ∧
    L.shown CFG_TOPOLOGY.LANES_FITTED = 7 ∧ L.inbox = [] ∧ L.down = [] ∧ L.up = [])

/-- The reset state has the wired identity of R14, and its memories, both of every lane and those of the management die,
are in the canonical form of the model. (R5, R14) -/
def Obligations.InvariantHoldsAtReset : Prop :=
  State.reset.wired ∧ State.reset.memoriesWf

/-- From every state in which each lane has its own LANE_ID and the variant of the package, and every memory is in
canonical form (addresses rising, no byte equal to what an unlisted address reads as), a step, of any command or of an
idle nanosecond, answers a next state with the same property and the same variant. (R5, R14) -/
def Obligations.EveryStepKeepsTheInvariant : Prop :=
  ∀ (s : State), s.wired → s.memoriesWf → ∃ t, step s = .next t ∧ t.wired ∧ t.memoriesWf ∧ t.variant = s.variant

/-- Every command answers a next state, with the queue, physical time and the variant unchanged. In a package with its
wired identity, a lane outside the reach of the command is unchanged: a command to one lane changes that lane alone,
but for the lane that a Felt message comes from, the sibling at a Felt link start or CRC error, and the package over-
temperature, which reaches every lane. The management die changes only at commands that reach it. On a PG930-D no
command and no idle step changes lane C. (R2, R11, R13, R33, R310, R440) -/
def Obligations.CommandsStayWithinTheirReach : Prop :=
  (∀ (c : Instr) (s : State), ∃ t, exec c s = .next t ∧ t.pending = s.pending ∧ t.phys = s.phys ∧ t.variant = s.variant ∧
    (s.wired → ∀ m, m ∉ c.reach.1 → t.lane m = s.lane m) ∧ (c.reach.2 = false → t.md = s.md)) ∧
  (∀ (s t : State), s.variant = .d → step s = .next t → t.c = s.c)

/-- At an address without a register the word is 0, and so a core reads it in a host block window. A write to one inside a
host block window leaves the state as it is, and the field die stores nothing of a write to one of its own. A write or
another access outside every window and memory range ends in a bus error to the issuing pair, unless its outputs are
held or it is withdrawn, and no fault source arrives at the collector. (R6) -/
def Obligations.UnassignedAddressesReadZeroOrEndInABusError : Prop :=
  (∀ (L : Lane) (a : Nat), slotsAt a = [] → L.word a = 0) ∧
  (∀ (s : State) (l : LaneId) (a : Nat), hostWindow a = true → slotsAt a = [] → (s.readHost l a).1 = 0) ∧
  (∀ (s : State) (l : LaneId) (p : Fin 4) (a d : Nat), hostWindow a = true → slotsAt a = [] → exec (.registerWrite l p a d) s = .next s) ∧
  (∀ (L : Lane) (a d : Nat), fieldAddr a = true → slotsAt a = [] → L.fieldWrite a d = L) ∧
  (∀ (s : State) (l : LaneId) (p : Fin 4) (a d : Nat) (L : Lane), s.lane l = L → assigned a = false → L.pairHeld p = false →
    ∃ K, exec (.registerWrite l p a d) s = .next (s.onLane l (fun _ => K)) ∧
      exec (.outOfWindowAccess l p a) s = .next (s.onLane l (fun _ => K)) ∧ (L.rd (LSC_PAIR_STATUS.STATE p) ≠ 5 → K.bitOf (Int.events p) 1 = true) ∧
      (∀ q : Fin 4, q ≠ p → K.rd (Int.events q) = L.rd (Int.events q)) ∧ K.inbox = L.inbox ∧ K.log = L.log ∧ L.keepsBut K eventFields)

/-- PREF is the successor when that lane is eligible and is not the holder; otherwise it is the first eligible lane after
the holder in the order A, B, C, A; with no eligible lane it is 3. Where the holder chooses it, SUCCESSOR takes that
value; at the start of a period without a successor NO_SUCC is set and source 0xA7 is raised, which is not raised
again until a successor was there. (R250) -/
def Obligations.SuccessorIsThePreferredOrTheNextEligibleLane : Prop :=
  (∀ (elig pref holder : Nat), holder < 3 →
    (pref < 3 → pref ≠ holder → elig.testBit pref = true → successorOf elig pref holder = pref) ∧
    ((¬ (pref < 3 ∧ pref ≠ holder ∧ elig.testBit pref = true)) →
      ∀ n, (n = (holder + 1) % 3 ∨ n = (holder + 2) % 3) → elig.testBit n = true →
        (n = (holder + 2) % 3 → elig.testBit ((holder + 1) % 3) = false) → successorOf elig pref holder = n) ∧
    ((∀ n < 3, n ≠ holder → elig.testBit n = false) → successorOf elig pref holder = 3)) ∧
  (∀ (L : Lane), (L.chooseSuccessor).rd LSE_STATUS.SUCCESSOR = successorOf (L.rd Int.eligMask) (L.rd LSE_CFG.PREF) L.me) ∧
  (∀ (L : Lane), successorOf (L.rd Int.eligMask) (L.rd LSE_CFG.PREF) L.me = 3 →
    (L.chooseSuccessor).on Int.noSuccSpell = true ∧
    (L.on Int.noSuccSpell = false → (L.chooseSuccessor).on LSE_FLAGS.NO_SUCC = true ∧ (L.chooseSuccessor).inbox = L.inbox ++ [⟨0xA7, false, 1, 0⟩]) ∧
    (L.on Int.noSuccSpell = true → (L.chooseSuccessor).inbox = L.inbox)) ∧
  (∀ (L : Lane), successorOf (L.rd Int.eligMask) (L.rd LSE_CFG.PREF) L.me ≠ 3 →
    (L.chooseSuccessor).on Int.noSuccSpell = false ∧ (L.chooseSuccessor).inbox = L.inbox)

/-- DEAD_TIME_EXPIRY while the PWM clock runs and the dead time of a compare ends first: the output whose turn-on is
pending (high side 1, low side 2) goes on and nothing of that dead time is pending any more; nothing else of the lane
changes. Where an ASC pattern waits and no compare’s dead time began before it, or the PWM clock is stopped, the wait
of the pattern ends and nothing else changes. With no pattern waiting and no turn-on pending, or the clock stopped,
nothing changes. COMMIT of a group with no commit waiting: one waits, with the field time of the request, and nothing
else changes. While one waits, another COMMIT leaves the waiting one and its time as they are, and notes only its own
time as the latest. (R140, R156, R159, R141, R160) -/
def Obligations.DeadTimeAndCommit : Prop :=
  ((∀ (s : State) (l : LaneId) (p : Fin 26) (low : Bool) (L : Lane), s.lane l = L → L.on Int.pwmStopped = false → L.rd (Int.dtPend p) = 1 + bit low →
    (L.on (Int.ascPend p) = false ∨ L.on (Int.dtBefore p) = true) →
    ∃ K, exec (.deadTimeExpiry l p) s = .next (s.onLane l (fun _ => K)) ∧ K.on (Int.outOn (2 * p + bit low)) = true ∧
      K.rd (Int.dtPend p) = 0 ∧ K.on (Int.dtBefore p) = false ∧ L.onlyFields K [Int.outOn (2 * p + bit low), Int.dtPend p, Int.dtBefore p]) ∧
  (∀ (s : State) (l : LaneId) (p : Fin 26) (L : Lane), s.lane l = L → L.on (Int.ascPend p) = true →
    (L.on Int.pwmStopped = true ∨ L.rd (Int.dtPend p) = 0 ∨ L.on (Int.dtBefore p) = false) →
    ∃ K, exec (.deadTimeExpiry l p) s = .next (s.onLane l (fun _ => K)) ∧ K.on (Int.ascPend p) = false ∧ L.onlyFields K [Int.ascPend p]) ∧
  (∀ (s : State) (l : LaneId) (p : Fin 26) (L : Lane), s.lane l = L → L.on (Int.ascPend p) = false →
    (L.on Int.pwmStopped = true ∨ L.rd (Int.dtPend p) = 0) → exec (.deadTimeExpiry l p) s = .next (s.onLane l id))) ∧
  ((∀ (s : State) (l : LaneId) (g : Fin 12) (L : Lane), s.lane l = L → L.on (Int.commit g) = false →
    ∃ K, exec (.commit l g) s = .next (s.onLane l (fun _ => K)) ∧ K.on (Int.commit g) = true ∧
      K.rd (Int.commitAt g) = L.ftb % 2 ^ 64 ∧ L.onlyFields K [Int.commit g, Int.commitAt g, Int.commitLast g]) ∧
  (∀ (s : State) (l : LaneId) (g : Fin 12) (L : Lane), s.lane l = L → L.on (Int.commit g) = true →
    ∃ K, exec (.commit l g) s = .next (s.onLane l (fun _ => K)) ∧ K.on (Int.commit g) = true ∧ K.rd (Int.commitAt g) = L.rd (Int.commitAt g) ∧
      K.rd (Int.commitLast g) = L.ftb % 2 ^ 64 ∧ L.onlyFields K [Int.commitLast g]))

/-- COMPARE_EVENT for an independent output of a counting group whose PWM clock runs, with active RISE and FALL that
differ, are no never codes and lie inside the period. At RISE, an output whose reference is low and whose interval is
at least MIN_PULSE long goes on (no carry mode). At FALL, an output whose reference is high, whose interval was
emitted and whose edge was not moved goes off. At RISE of the high side of a complementary pair whose interval is at
least dead time and MIN_PULSE long, the low side goes off and the turn-on of the high side is pending. At a moved
edge, an output whose scheduled turn-off has passed goes off. In each case the frame is stated. A compare of an output
with a never code, one at or beyond the period, and one of the low side of a complementary pair, whose edges are those
of the high side, changes nothing. While the group does not count or the clock is stopped, nothing acts. (R136, R138,
R139, R150, R151) -/
def Obligations.CompareEventSwitchesOutput : Prop :=
  (∀ (s : State) (l : LaneId) (k : Fin 52) (L : Lane), s.lane l = L → L.on (PWM_GROUP_STATUS.COUNTING (groupOf k)) = true →
    L.on Int.pwmStopped = false → L.compl k = false → never (L.rd (Int.actRise k)) = false → never (L.rd (Int.actFall k)) = false →
    L.rd (Int.actRise k) ≠ L.rd (Int.actFall k) → L.rd (Int.actRise k) < L.steps (groupOf k) → L.on (Int.refLvl k) = false →
    L.rd (PWM_OUT_CFG.MINPULSE_MODE k) ≠ 2 →
    (∀ n, L.lengthTo (groupOf k) (L.rd (Int.actRise k)) (L.rd (Int.actFall k)) = some n → 8 * L.rd (PWM_OUT_CFG.MIN_PULSE k) ≤ n) →
    ∃ K, exec (.compareEvent l k 0) s = .next (s.onLane l (fun _ => K)) ∧ K.on (Int.outOn k) = true ∧ K.on (Int.refLvl k) = true ∧
      L.onlyFields K [Int.refLvl k, Int.outOn k]) ∧
  (∀ (s : State) (l : LaneId) (k : Fin 52) (L : Lane), s.lane l = L → L.on (PWM_GROUP_STATUS.COUNTING (groupOf k)) = true →
    L.on Int.pwmStopped = false → L.compl k = false → never (L.rd (Int.actRise k)) = false → never (L.rd (Int.actFall k)) = false →
    L.rd (Int.actRise k) ≠ L.rd (Int.actFall k) → L.rd (Int.actFall k) < L.steps (groupOf k) → L.on (Int.refLvl k) = true →
    L.on (Int.supp k) = false → L.on (Int.moved k) = false →
    ∃ K, exec (.compareEvent l k 1) s = .next (s.onLane l (fun _ => K)) ∧ K.on (Int.outOn k) = false ∧ K.on (Int.refLvl k) = false ∧
      L.onlyFields K [Int.refLvl k, Int.outOn k, Int.offAt (groupOf k)]) ∧
  (∀ (s : State) (l : LaneId) (k : Fin 52) (L : Lane), s.lane l = L → L.on (PWM_GROUP_STATUS.COUNTING (groupOf k)) = true →
    L.on Int.pwmStopped = false → L.compl k = false → L.on (Int.moved k) = true → L.on (Int.refLvl k) = false →
    ∃ K, exec (.compareEvent l k 2) s = .next (s.onLane l (fun _ => K)) ∧ K.on (Int.outOn k) = false ∧ K.on (Int.moved k) = false ∧
      L.onlyFields K [Int.moved k, Int.movedBy k, Int.outOn k, Int.offAt (groupOf k)]) ∧
  (∀ (s : State) (l : LaneId) (p : Fin 24) (k : Fin 52) (L : Lane), s.lane l = L → (k : Nat) = 2 * p →
    L.on (PWM_GROUP_STATUS.COUNTING (groupOf k)) = true → L.on Int.pwmStopped = false → L.compl k = true →
    never (L.rd (Int.actRise k)) = false → never (L.rd (Int.actFall k)) = false → L.rd (Int.actRise k) ≠ L.rd (Int.actFall k) →
    L.rd (Int.actRise k) < L.steps (groupOf k) → L.on (Int.refLvl k) = false → L.on (Int.supp (2 * p + 1)) = false →
    L.on (Int.moved (2 * p + 1)) = false → L.rd (PWM_OUT_CFG.MINPULSE_MODE k) ≠ 2 →
    (∀ n, L.lengthTo (groupOf k) (L.rd (Int.actRise k)) (L.rd (Int.actFall k)) = some n →
      8 * L.rd (Int.actDt p) + 8 * L.rd (PWM_OUT_CFG.MIN_PULSE k) ≤ n) →
    ∃ K, exec (.compareEvent l k 0) s = .next (s.onLane l (fun _ => K)) ∧ K.on (Int.outOn (2 * p + 1)) = false ∧
      K.on (Int.refLvl k) = true ∧ K.rd (Int.dtPend p) = 1 ∧
      L.onlyFields K [Int.refLvl k, Int.outOn (2 * p + 1), Int.offAt (groupOf k), Int.dtPend p, Int.dtBefore p]) ∧
  (∀ (s : State) (l : LaneId) (k : Fin 52) (L : Lane), s.lane l = L →
    ((never (L.rd (Int.actRise k)) = true ∨ never (L.rd (Int.actFall k)) = true ∨ (L.compl k = true ∧ (k : Nat) % 2 = 1)) →
      exec (.compareEvent l k 0) s = .next (s.onLane l id) ∧ exec (.compareEvent l k 1) s = .next (s.onLane l id)) ∧
    (L.steps (groupOf k) ≤ L.rd (Int.actRise k) → exec (.compareEvent l k 0) s = .next (s.onLane l id)) ∧
    (L.steps (groupOf k) ≤ L.rd (Int.actFall k) → L.rd (Int.actRise k) ≠ L.rd (Int.actFall k) → exec (.compareEvent l k 1) s = .next (s.onLane l id))) ∧
  (∀ (s : State) (l : LaneId) (k : Fin 52) (kind : Fin 3) (L : Lane), s.lane l = L →
    (L.on (PWM_GROUP_STATUS.COUNTING (groupOf k)) = false ∨ L.on Int.pwmStopped = true) →
    exec (.compareEvent l k kind) s = .next (s.onLane l id))

/-- TRANSFER_POINT of an axis group that counts, PWM clock running. At mid-period with mid-period transfer on, after the
first period start since RUN rose, and with a commit that waited at least 4 ns, the commit is taken and what it moved
is judged; with no such commit nothing changes. Taking a commit at mid-period gives every output of the group the FALL
shadow as it stood 4 ns before, releases the held outputs, and leaves a commit waiting only where another came within
those 4 ns. At a period start without a commit the reference instant is the field time, and the memories stay as they
are. Without counting, with the clock stopped, at mid-period without mid-period transfer or before the first period
start, nothing changes. GROUP_RUN with RUN already so changes nothing. A rise sets RUN and COUNTING, starts the
counter at the field time and holds the outputs until a commit. A fall clears RUN and COUNTING and leaves override
kind 1 on a group whose axis holds no ASC pattern. Neither changes a memory. PWM_CLOCK_RESUME of a stopped clock lets
it run, sets FROZEN on every counting group and counts one occurrence of source 0x77; of a running clock it changes
nothing. PAD_READBACK_FAULT of an auxiliary output counts source 0x76, holds the output and gives its group override
kind 1; for an axis group it counts source 0x76 and enters the safe state of the axis with that cause. (R136, R141,
R153, R157, R160, R158, R159, R163) -/
def Obligations.TransferPointsRunsAndClocks : Prop :=
  ((∀ (s : State) (l : LaneId) (g : Fin 12) (L : Lane), s.lane l = L → (g : Nat) < 8 → L.on (PWM_GROUP_STATUS.COUNTING g) = true →
    L.on Int.pwmStopped = false → L.on (CLE_AX_CTL.UPDATE g) = true → L.on (Int.runNew g) = false → L.on (Int.commit g) = true →
    L.rd (Int.commitAt g) + 4 ≤ L.ftb →
    ∃ K, exec (.transferPoint l g true) s = .next (s.onLane l (fun _ => K)) ∧ K = (L.takeCommit g L.ftb true).judgeMoved L g ∧ K.mem = L.mem ∧
      K.nor = L.nor) ∧
  (∀ (L : Lane) (g b : Nat), g < 12 → (∀ k ∈ outsOf g, (L.takeCommit g b true).rd (Int.actFall k) = L.asOf (PWM_OUT_FALL.FALL k) b % 2 ^ 27) ∧
    (L.takeCommit g b true).on (Int.holdOff g) = false ∧
    (L.on (Int.commit g) = true → (L.takeCommit g b true).on (Int.commit g) = decide (b < L.rd (Int.commitLast g) + 4))) ∧
  (∀ (s : State) (l : LaneId) (g : Fin 12) (L : Lane), s.lane l = L → (g : Nat) < 8 →
    (L.on (Int.commit g) = false ∨ L.ftb < L.rd (Int.commitAt g) + 4 ∨ L.on (CLE_AX_CTL.UPDATE g) = false ∨ L.on (Int.runNew g) = true ∨
      L.on (PWM_GROUP_STATUS.COUNTING g) = false ∨ L.on Int.pwmStopped = true) →
    exec (.transferPoint l g true) s = .next (s.onLane l id)) ∧
  (∀ (s : State) (l : LaneId) (g : Fin 12) (L : Lane), s.lane l = L → (L.on (PWM_GROUP_STATUS.COUNTING g) = false ∨ L.on Int.pwmStopped = true) →
    exec (.transferPoint l g false) s = .next (s.onLane l id)) ∧
  (∀ (s : State) (l : LaneId) (g : Fin 12) (L : Lane), s.lane l = L → (g : Nat) < 8 → L.on (PWM_GROUP_STATUS.COUNTING g) = true →
    L.on Int.pwmStopped = false → L.on (Int.commit g) = false →
    ∃ K, exec (.transferPoint l g false) s = .next (s.onLane l (fun _ => K)) ∧ K.rd (Int.groupAt g) = L.ftb % 2 ^ 64 ∧
      K.on (Int.runNew g) = false ∧ K.mem = L.mem ∧ K.nor = L.nor)) ∧
  ((∀ (s : State) (l : LaneId) (g : Fin 12) (on : Bool), (s.lane l).on (PWM_GROUP_CTL.RUN g) = on → exec (.groupRun l g on) s = .next (s.onLane l id)) ∧
  (∀ (s : State) (l : LaneId) (g : Fin 12) (L : Lane), s.lane l = L → L.on (PWM_GROUP_CTL.RUN g) = false →
    ∃ K, exec (.groupRun l g true) s = .next (s.onLane l (fun _ => K)) ∧ K.on (PWM_GROUP_CTL.RUN g) = true ∧
      K.on (PWM_GROUP_STATUS.COUNTING g) = true ∧ K.rd (Int.groupAt g) = L.ftb % 2 ^ 64 ∧ K.on (Int.holdOff g) = true ∧ K.mem = L.mem ∧ K.nor = L.nor) ∧
  (∀ (s : State) (l : LaneId) (g : Fin 12) (L : Lane), s.lane l = L → L.on (PWM_GROUP_CTL.RUN g) = true →
    ∃ K, exec (.groupRun l g false) s = .next (s.onLane l (fun _ => K)) ∧ K.on (PWM_GROUP_CTL.RUN g) = false ∧
      K.on (PWM_GROUP_STATUS.COUNTING g) = false ∧ (((g : Nat) < 8 → L.inAsc g = false) → K.rd (PWM_GROUP_STATUS.OVERRIDE g) = 1) ∧
      K.mem = L.mem ∧ K.nor = L.nor) ∧
  (∀ (s : State) (l : LaneId) (L : Lane), s.lane l = L → L.on Int.pwmStopped = true →
    ∃ K, exec (.pwmClockResume l) s = .next (s.onLane l (fun _ => K)) ∧ K.on Int.pwmStopped = false ∧
      (∀ g : Fin 12, L.on (PWM_GROUP_STATUS.COUNTING g) = true → K.on (PWM_GROUP_STATUS.FROZEN g) = true) ∧
      K.rd (Int.cum 0x77) = (L.rd (Int.cum 0x77) + 1) % 2 ^ 16 ∧ K.mem = L.mem ∧ K.nor = L.nor) ∧
  (∀ (s : State) (l : LaneId), (s.lane l).on Int.pwmStopped = false → exec (.pwmClockResume l) s = .next (s.onLane l id)) ∧
  (∀ (s : State) (l : LaneId) (k : Fin 52) (L : Lane), s.lane l = L → 48 ≤ (k : Nat) →
    ∃ K, exec (.padReadbackFault l k) s = .next (s.onLane l (fun _ => K)) ∧ K.on (Int.auxHeld (groupOf k)) = true ∧
      K.rd (PWM_GROUP_STATUS.OVERRIDE (groupOf k)) = 1 ∧ K.rd (Int.cum 0x76) = (L.rd (Int.cum 0x76) + 1) % 2 ^ 16 ∧ K.mem = L.mem ∧ K.nor = L.nor) ∧
  (∀ (s : State) (l : LaneId) (k : Fin 52), (k : Nat) < 48 →
    exec (.padReadbackFault l k) s = .next (s.onLane l (fun L => (L.fieldRaise 0x76).enterSafe (groupOf k) 0x76))))

/-- BANK_SWAP_REQUEST of a running axis is noted with its target; of an axis that does not run it makes the target bank
active at once, sets SWAPPED and counts the swap, or only ends a pending request where that bank is active already.
COEFFICIENT_WRITE stores the clamped value in the inactive bank, changes nothing for a reserved index, and is refused
and counted for the active bank. MAP_WRITE stores PSI or a non-negative L_INC while the axis is not enabled, and is
refused and counted while it is. No other field changes. (R74, R76, R77, R78, R79) -/
def Obligations.BankSwapCoefficientAndMapWrites : Prop :=
  (∀ (s : State) (l : LaneId) (ax : Fin 8) (b : Fin 2) (L : Lane), s.lane l = L → L.on (CLE_AX_STATUS.RUNNING ax) = true →
    ∃ K, exec (.bankSwapRequest l ax b) s = .next (s.onLane l (fun _ => K)) ∧ K.on (CLE_AX_BANK.PENDING ax) = true ∧
      K.rd (Int.bankTarget ax) = b ∧ L.onlyFields K [CLE_AX_BANK.PENDING ax, Int.bankTarget ax]) ∧
  (∀ (s : State) (l : LaneId) (ax : Fin 8) (b : Fin 2) (L : Lane), s.lane l = L → L.on (CLE_AX_STATUS.RUNNING ax) = false →
    L.rd (CLE_AX_BANK.BANK_ACTIVE ax) ≠ b →
    ∃ K, exec (.bankSwapRequest l ax b) s = .next (s.onLane l (fun _ => K)) ∧ K.rd (CLE_AX_BANK.BANK_ACTIVE ax) = b ∧
      K.on (CLE_AX_BANK.SWAPPED ax) = true ∧ K.on (CLE_AX_BANK.PENDING ax) = false ∧
      L.onlyFields K [CLE_AX_BANK.PENDING ax, CLE_AX_BANK.BANK_ACTIVE ax, CLE_AX_BANK.SWAPPED ax, CLE_AX_BANK.SWAP_COUNT ax]) ∧
  (∀ (s : State) (l : LaneId) (ax : Fin 8) (b : Fin 2) (L : Lane), s.lane l = L → L.on (CLE_AX_STATUS.RUNNING ax) = false →
    L.rd (CLE_AX_BANK.BANK_ACTIVE ax) = b →
    ∃ K, exec (.bankSwapRequest l ax b) s = .next (s.onLane l (fun _ => K)) ∧ K.on (CLE_AX_BANK.PENDING ax) = false ∧
      L.onlyFields K [CLE_AX_BANK.PENDING ax]) ∧
  (∀ (s : State) (l : LaneId) (ax : Fin 8) (b : Fin 2) (k : Fin 64) (v w : Nat) (L : Lane), s.lane l = L →
    L.rd (CLE_AX_BANK.BANK_ACTIVE ax) ≠ b → clampCoef k (v % 2 ^ 32) = some w →
    ∃ K, exec (.coefficientWrite l ax b k v) s = .next (s.onLane l (fun _ => K)) ∧ K.rd (CLE_COEF.K ax b k) = w % 2 ^ 32 ∧
      L.onlyFields K [CLE_COEF.K ax b k]) ∧
  (∀ (s : State) (l : LaneId) (ax : Fin 8) (b : Fin 2) (k : Fin 64) (v : Nat), (s.lane l).rd (CLE_AX_BANK.BANK_ACTIVE ax) ≠ b →
    clampCoef k (v % 2 ^ 32) = none → exec (.coefficientWrite l ax b k v) s = .next (s.onLane l id)) ∧
  (∀ (s : State) (l : LaneId) (ax : Fin 8) (b : Fin 2) (k : Fin 64) (v : Nat) (L : Lane), s.lane l = L →
    L.rd (CLE_AX_BANK.BANK_ACTIVE ax) = b →
    ∃ K, exec (.coefficientWrite l ax b k v) s = .next (s.onLane l (fun _ => K)) ∧
      K.rd CLE_GLB_CNT.BANK_WR_REFUSED = min (L.rd CLE_GLB_CNT.BANK_WR_REFUSED + 1) (2 ^ CLE_GLB_CNT.BANK_WR_REFUSED.width - 1) ∧
      L.onlyFields K [CLE_GLB_CNT.BANK_WR_REFUSED]) ∧
  (∀ (s : State) (l : LaneId) (ax : Fin 8) (q : Fin 2) (i j : Fin 32) (upper : Bool) (v : Nat) (L : Lane), s.lane l = L →
    L.on (CLE_AX_CTL.ENABLE ax) = false →
    ∃ K, exec (.mapWrite l ax q i j upper v) s = .next (s.onLane l (fun _ => K)) ∧
      (upper = false → K.rd (CLE_MAP.PSI ax q (32 * j + i)) = v % 2 ^ 32 ∧ L.onlyFields K [CLE_MAP.PSI ax q (32 * j + i)]) ∧
      (upper = true → K.rd (CLE_MAP.L_INC ax q (32 * j + i)) = (if toInt 32 v < 0 then 0 else v % 2 ^ 32) ∧
        L.onlyFields K [CLE_MAP.L_INC ax q (32 * j + i)])) ∧
  (∀ (s : State) (l : LaneId) (ax : Fin 8) (q : Fin 2) (i j : Fin 32) (upper : Bool) (v : Nat) (L : Lane), s.lane l = L →
    L.on (CLE_AX_CTL.ENABLE ax) = true →
    ∃ K, exec (.mapWrite l ax q i j upper v) s = .next (s.onLane l (fun _ => K)) ∧
      K.rd CLE_GLB_CNT.MAP_WR_REFUSED = min (L.rd CLE_GLB_CNT.MAP_WR_REFUSED + 1) (2 ^ CLE_GLB_CNT.MAP_WR_REFUSED.width - 1) ∧
      L.onlyFields K [CLE_GLB_CNT.MAP_WR_REFUSED])

/-- AIN_CONVERSION with the ADC domain stopped or without a valid reference changes nothing. With the domain running and a
reference, of an input without fault and inside its wire limits it is kept, counts as good, leaves no fault and
changes only the fields of that input; the tenth bad conversion in a row puts the input in fault and counts source
0x65. PIN_EDGE: a falling edge notes its field time; the first rising edge outside step mode only notes its time, and
so does any in mode 0; a later rising edge of a duty input stores the set-point of R82, and with a duty of 5 % to 95 %
counts as good, of a frequency input stores its set-point and counts as good; in step mode a rising edge counts one
position in the direction of the level 200 ns before, and less than 500 ns after the last it puts the input in fault.
PIN_TIMEOUT puts a duty or frequency input in fault and leaves an input of another mode. SETPOINT_MESSAGE takes a set-
point message from the head of the ordered channel, starts its credit back and schedules it at the field instant of
its apply time; with another item at the head nothing happens. SETPOINT_APPLY leaves a running axis to its samples;
for an axis that does not run no due message remains afterwards. SP_TIMEOUT of a running axis on agreed set-points
sets SP_LOST once and counts source 0x66; else nothing happens. (R81, R82, R90, R412, R78, R83, R306) -/
def Obligations.SetpointInputsAndMessages : Prop :=
  ((∀ (s : State) (l : LaneId) (k : Fin 4) (mv : Nat) (L : Lane), s.lane l = L → (L.on (FCK_DOM_CTL.RUN_EN 2) = false ∨
    (L.on (ADC_CL_STATUS.REF_OK 0) = false ∧ L.on (ADC_CL_STATUS.REF_OK 1) = false)) → exec (.ainConversion l k mv) s = .next (s.onLane l id)) ∧
  (∀ (s : State) (l : LaneId) (k : Fin 4) (mv : Nat) (L : Lane), s.lane l = L → L.on (FCK_DOM_CTL.RUN_EN 2) = true →
    (L.on (ADC_CL_STATUS.REF_OK 0) = true ∨ L.on (ADC_CL_STATUS.REF_OK 1) = true) → L.on (Int.ainFault k) = false →
    L.rd (CLE_AIN_WIRE.LOW k) ≤ mv → mv ≤ L.rd (CLE_AIN_WIRE.HIGH k) → L.rd (Int.ainN k) < 4 →
    ∃ K, exec (.ainConversion l k mv) s = .next (s.onLane l (fun _ => K)) ∧ K.on (Int.ainFault k) = false ∧ K.rd (Int.ainBad k) = 0 ∧
      L.onlyFields K [Int.ainSum k (L.rd (Int.ainN k)), Int.ainN k, Int.ainX k, Int.ainGood k, Int.ainBad k]) ∧
  (∀ (s : State) (l : LaneId) (k : Fin 4) (mv : Nat) (L : Lane), s.lane l = L → L.on (FCK_DOM_CTL.RUN_EN 2) = true →
    (L.on (ADC_CL_STATUS.REF_OK 0) = true ∨ L.on (ADC_CL_STATUS.REF_OK 1) = true) → L.on (Int.ainFault k) = false →
    (mv < L.rd (CLE_AIN_WIRE.LOW k) ∨ L.rd (CLE_AIN_WIRE.HIGH k) < mv) → L.rd (Int.ainN k) < 4 → L.rd (Int.ainBad k) = 9 →
    ∃ K, exec (.ainConversion l k mv) s = .next (s.onLane l (fun _ => K)) ∧ K.on (Int.ainFault k) = true ∧
      K.rd (Int.cum 0x65) = (L.rd (Int.cum 0x65) + 1) % 2 ^ 16 ∧ K.mem = L.mem ∧ K.nor = L.nor) ∧
  (∀ (s : State) (l : LaneId) (k : Fin 4) (L : Lane), s.lane l = L →
    ∃ K, exec (.pinEdge l k false) s = .next (s.onLane l (fun _ => K)) ∧ K.rd (Int.pinFall k) = L.ftb % 2 ^ 64 ∧ K.on (Int.pinLvl k) = false ∧
      L.onlyFields K ([Int.pinLvl k, Int.pinFall k] ++ (List.range 6).map (Int.pinHist k))) ∧
  (∀ (s : State) (l : LaneId) (k : Fin 4) (L : Lane), s.lane l = L → L.rd (CLE_PIN_CFG.MODE k) ≠ 3 →
    (L.rd (Int.pinHave k) = 0 ∨ L.rd (CLE_PIN_CFG.MODE k) = 0) →
    ∃ K, exec (.pinEdge l k true) s = .next (s.onLane l (fun _ => K)) ∧ K.rd (Int.pinRise k) = L.ftb % 2 ^ 64 ∧ K.rd (Int.pinHave k) = 1 ∧
      K.on (Int.pinLvl k) = true ∧ L.onlyFields K ([Int.pinLvl k, Int.pinRise k, Int.pinHave k] ++ (List.range 6).map (Int.pinHist k))) ∧
  (∀ (s : State) (l : LaneId) (k : Fin 4) (per high : Nat) (L : Lane), s.lane l = L → L.rd (Int.pinHave k) = 1 → L.rd (CLE_PIN_CFG.MODE k) = 1 →
    per = L.ftb - L.rd (Int.pinRise k) → high = L.rd (Int.pinFall k) - L.rd (Int.pinRise k) →
    ∃ K, exec (.pinEdge l k true) s = .next (s.onLane l (fun _ => K)) ∧
      K.rd (Int.pinX k) = ofInt 32 (clampI (-2147483648) oneQ (divRound 82 (((10 * high : Nat) - (5 * per : Nat) : Int) * 2 ^ 31) (4 * per))) % 2 ^ 32 ∧
      (5 * per ≤ 100 * high → 100 * high ≤ 95 * per → K.rd (Int.pinGood k) = min 10 (L.rd (Int.pinGood k) + 1)) ∧ K.mem = L.mem ∧ K.nor = L.nor) ∧
  (∀ (s : State) (l : LaneId) (k : Fin 4) (per : Nat) (L : Lane), s.lane l = L → L.rd (Int.pinHave k) = 1 → L.rd (CLE_PIN_CFG.MODE k) = 2 →
    per = L.ftb - L.rd (Int.pinRise k) →
    ∃ K, exec (.pinEdge l k true) s = .next (s.onLane l (fun _ => K)) ∧
      K.rd (Int.pinX k) = ofInt 32 (clampI (-2147483648) oneQ (divRound 82 ((1000000000 - ((L.rd (CLE_PIN_FREQ.F_CTR k) * per : Nat) : Int)) * 2 ^ 31)
        (L.rd (CLE_PIN_FREQ.F_SPAN k) * per))) % 2 ^ 32 ∧
      K.rd (Int.pinGood k) = min 10 (L.rd (Int.pinGood k) + 1) ∧ K.mem = L.mem ∧ K.nor = L.nor) ∧
  (∀ (s : State) (l : LaneId) (k : Fin 4) (L : Lane), s.lane l = L → (k = 0 ∨ k = 2) → L.rd (CLE_PIN_CFG.MODE k) = 3 →
    ∃ K, exec (.pinEdge l k true) s = .next (s.onLane l (fun _ => K)) ∧
      K.rd (Int.pinPos k) = ofInt 32 (L.rdI (Int.pinPos k) + (if L.pinLevelAt (k + 1) (L.ftb - 200) then 1 else -1)) % 2 ^ 32 ∧
      (L.rd (Int.pinHave k) = 1 → L.ftb < L.rd (Int.pinRise k) + 500 → K.on (Int.pinFault k) = true) ∧ K.mem = L.mem ∧ K.nor = L.nor) ∧
  (∀ (s : State) (l : LaneId) (k : Fin 4) (L : Lane), s.lane l = L → (L.rd (CLE_PIN_CFG.MODE k) = 1 ∨ L.rd (CLE_PIN_CFG.MODE k) = 2) →
    ∃ K, exec (.pinTimeout l k) s = .next (s.onLane l (fun _ => K)) ∧ K.on (Int.pinFault k) = true ∧ K.rd (Int.pinGood k) = 0 ∧ K.mem = L.mem ∧
      K.nor = L.nor) ∧
  (∀ (s : State) (l : LaneId) (k : Fin 4), (s.lane l).rd (CLE_PIN_CFG.MODE k) ≠ 1 → (s.lane l).rd (CLE_PIN_CFG.MODE k) ≠ 2 →
    exec (.pinTimeout l k) s = .next (s.onLane l id))) ∧
  ((∀ (s : State) (l : LaneId) (m : Setpoint) (rest : List DownItem) (L : Lane), s.lane l = L → L.down = .setpoint m :: rest →
    ∃ K, exec (.setpointMessage l) s = .next (s.onLane l (fun _ => K)) ∧ K.down = rest ∧ K.downCredits = L.downCredits ++ [false] ∧
      K.setpoints = L.setpoints ++ [{ m with applyAt := (L.fieldTimeOf m.applyAt).toNat }] ∧ L.mem = K.mem ∧ L.nor = K.nor ∧ L.sched = K.sched) ∧
  (∀ (s : State) (l : LaneId), (∀ m rest, (s.lane l).down ≠ .setpoint m :: rest) → exec (.setpointMessage l) s = .next (s.onLane l id)) ∧
  (∀ (s : State) (l : LaneId) (ax : Fin 8) (L : Lane), s.lane l = L → L.on (CLE_AX_STATUS.RUNNING ax) = false →
    ∃ K, exec (.setpointApply l ax) s = .next (s.onLane l (fun _ => K)) ∧
      ∀ m ∈ K.setpoints, ¬ (m.axes.testBit ax = true ∧ m.applyAt ≤ L.ftb)) ∧
  (∀ (s : State) (l : LaneId) (ax : Fin 8), (s.lane l).on (CLE_AX_STATUS.RUNNING ax) = true →
    exec (.setpointApply l ax) s = .next (s.onLane l id)) ∧
  (∀ (s : State) (l : LaneId) (ax : Fin 8) (L : Lane), s.lane l = L → L.on (CLE_AX_STATUS.RUNNING ax) = true →
    L.rd (CLE_AX_CTL.SP_SRC ax) = 3 → L.on (CLE_AX_STATUS.SP_LOST ax) = false →
    ∃ K, exec (.spTimeout l ax) s = .next (s.onLane l (fun _ => K)) ∧ K = (L.wr (CLE_AX_STATUS.SP_LOST ax) 1).fieldRaise 0x66 ∧
      K.on (CLE_AX_STATUS.SP_LOST ax) = true ∧ K.rd (Int.cum 0x66) = (L.rd (Int.cum 0x66) + 1) % 2 ^ 16) ∧
  (∀ (s : State) (l : LaneId) (ax : Fin 8) (L : Lane), s.lane l = L → (L.on (CLE_AX_STATUS.RUNNING ax) = false ∨
    L.rd (CLE_AX_CTL.SP_SRC ax) ≠ 3 ∨ L.on (CLE_AX_STATUS.SP_LOST ax) = true) → exec (.spTimeout l ax) s = .next (s.onLane l id)))

/-- AXIS_ENABLE with ENABLE already so changes nothing. Clearing ENABLE enters the safe state, and RUNNING and HELD are 0.
A rise for an axis that is neither in SAFE nor running, with no OV3 on its rail, makes it run where gate permission is
given, and HELD where it is not. ISOLATION_SETTLE_EXPIRY of an axis outside SAFE ends its wait and changes nothing
else; in SAFE it ends the safe-state pattern in all-off, once. (R87, R107, R122) -/
def Obligations.AxisEnableAndSettle : Prop :=
  (∀ (s : State) (l : LaneId) (ax : Fin 8) (on : Bool), (s.lane l).on (CLE_AX_CTL.ENABLE ax) = on → exec (.axisEnable l ax on) s = .next (s.onLane l id)) ∧
  (∀ (s : State) (l : LaneId) (ax : Fin 8), (s.lane l).on (CLE_AX_CTL.ENABLE ax) = true →
    ∃ K, exec (.axisEnable l ax false) s = .next (s.onLane l (fun _ => K)) ∧ K.on (CLE_AX_CTL.ENABLE ax) = false ∧
      K.rd (CLE_AX_FOX_STATUS.STATE ax) = 6 ∧ K.on (CLE_AX_STATUS.HELD ax) = false ∧ K.on (CLE_AX_STATUS.RUNNING ax) = false) ∧
  (∀ (s : State) (l : LaneId) (ax : Fin 8) (L : Lane), s.lane l = L → L.on (CLE_AX_CTL.ENABLE ax) = false →
    L.rd (CLE_AX_FOX_STATUS.STATE ax) ≠ 6 → L.on (CLE_AX_STATUS.RUNNING ax) = false →
    L.on (DCL_RAIL_STATUS.OV3_ACT (L.railOf ax)) = false →
    ∃ K, exec (.axisEnable l ax true) s = .next (s.onLane l (fun _ => K)) ∧ K.on (CLE_AX_CTL.ENABLE ax) = true ∧
      K.on (CLE_AX_STATUS.RUNNING ax) = L.bitOf Int.gatePerm ax ∧ K.on (CLE_AX_STATUS.HELD ax) = ! L.bitOf Int.gatePerm ax) ∧
  (∀ (s : State) (l : LaneId) (ax : Fin 8) (L : Lane), s.lane l = L → L.rd (CLE_AX_FOX_STATUS.STATE ax) ≠ 6 →
    ∃ K, exec (.isolationSettleExpiry l ax) s = .next (s.onLane l (fun _ => K)) ∧ K.on (Int.isoWait ax) = false ∧ L.onlyFields K [Int.isoWait ax]) ∧
  (∀ (s : State) (l : LaneId) (ax : Fin 8) (L : Lane), s.lane l = L → L.rd (CLE_AX_FOX_STATUS.STATE ax) = 6 → L.on (Int.safeDone ax) = false →
    ∃ K, exec (.isolationSettleExpiry l ax) s = .next (s.onLane l (fun _ => K)) ∧ K.on (Int.safeDone ax) = true ∧
      K.rd (CLE_AX_FOX_STATUS.SAFE_PATTERN ax) = 2) ∧
  (∀ (s : State) (l : LaneId) (ax : Fin 8), (s.lane l).rd (CLE_AX_FOX_STATUS.STATE ax) = 6 → (s.lane l).on (Int.safeDone ax) = true →
    exec (.isolationSettleExpiry l ax) s = .next (s.onLane l id))

/-- BACKGROUND_CONVERSION with the ADC domain stopped or no valid reference changes nothing. Else it completes for each of
the 28 inputs: one that starts, in time or late, stores the code of a feed current or a chopper current, and the
temperature of R89 of a module input, all clamped to 14 bits; one in time of a feed current changes nothing but that
and the cluster turn; a late one counts in BG_LATE and a skipped one in BG_SKIP of the cluster that took it, which is
the one whose turn it is where both references are valid and else the one with a valid reference; a skipped one counts
source 0x8C once. REFERENCE_CHECK passed sets REF_OK and nothing else; failed, it clears REF_OK, counts source 0x8A,
and the four axes of the cluster are in SAFE; with the other reference lost too all eight axes are in SAFE and the
lane exit is latched. (R89, R90, R22, R412) -/
def Obligations.AdcBackgroundAndReference : Prop :=
  (∀ (s : State) (l : LaneId) (i : Fin 28) (code : Nat) (oc : Fin 3), ((s.lane l).on (FCK_DOM_CTL.RUN_EN 2) = false ∨
    ((s.lane l).on (ADC_CL_STATUS.REF_OK 0) = false ∧ (s.lane l).on (ADC_CL_STATUS.REF_OK 1) = false)) →
    exec (.backgroundConversion l i code oc) s = .next (s.onLane l id)) ∧
  (∀ (s : State) (l : LaneId) (i : Fin 28) (code c : Nat) (oc : Fin 3) (L : Lane), s.lane l = L → L.on (FCK_DOM_CTL.RUN_EN 2) = true →
    ((L.on (ADC_CL_STATUS.REF_OK 0) = true ∧ L.on (ADC_CL_STATUS.REF_OK 1) = true ∧ c = L.rd (Int.bgTurn i)) ∨
      (L.on (ADC_CL_STATUS.REF_OK 0) = true ∧ L.on (ADC_CL_STATUS.REF_OK 1) = false ∧ c = 0) ∨
      (L.on (ADC_CL_STATUS.REF_OK 0) = false ∧ L.on (ADC_CL_STATUS.REF_OK 1) = true ∧ c = 1)) →
    ∃ K, exec (.backgroundConversion l i code oc) s = .next (s.onLane l (fun _ => K)) ∧ K.mem = L.mem ∧ K.nor = L.nor ∧
      (oc ≠ 2 → 4 ≤ (i : Nat) → (i : Nat) < 8 → K.rd (Int.feedCode (i - 4)) = min code 16383) ∧
      (oc ≠ 2 → 8 ≤ (i : Nat) → (i : Nat) < 12 → K.rd (Int.chopCode (i - 8)) = min code 16383) ∧
      (oc ≠ 2 → 16 ≤ (i : Nat) → K.rd (ADC_MTEMP.T (i - 16)) = ofInt 16 (clampI (-32768) 32767
        (L.rdI ADC_MTCFG.MT_OFS + divRound 89 ((min code 16383 * L.rd ADC_MTCFG.MT_GAIN : Nat) : Int) 100)) % 2 ^ 16) ∧
      (oc = 0 → 4 ≤ (i : Nat) → (i : Nat) < 8 → L.onlyFields K [Int.bgTurn i, Int.feedCode (i - 4)]) ∧
      (oc = 1 → K.rd (ADC_CL_STATUS.BG_LATE c) = min (L.rd (ADC_CL_STATUS.BG_LATE c) + 1) (2 ^ (ADC_CL_STATUS.BG_LATE c).width - 1)) ∧
      (oc = 2 → K.rd (ADC_CL_STATUS.BG_SKIP c) = min (L.rd (ADC_CL_STATUS.BG_SKIP c) + 1) (2 ^ (ADC_CL_STATUS.BG_SKIP c).width - 1) ∧
        K.rd (Int.cum 0x8C) = (L.rd (Int.cum 0x8C) + 1) % 2 ^ 16)) ∧
  (∀ (s : State) (l : LaneId) (c : Fin 2) (L : Lane), s.lane l = L →
    ∃ K, exec (.referenceCheck l c true) s = .next (s.onLane l (fun _ => K)) ∧ K.on (ADC_CL_STATUS.REF_OK c) = true ∧
      L.onlyFields K [ADC_CL_STATUS.REF_OK c]) ∧
  (∀ (s : State) (l : LaneId) (c : Fin 2) (L : Lane), s.lane l = L →
    ∃ K, exec (.referenceCheck l c false) s = .next (s.onLane l (fun _ => K)) ∧ K.on (ADC_CL_STATUS.REF_OK c) = false ∧
      K.rd (Int.cum 0x8A) = (L.rd (Int.cum 0x8A) + 1) % 2 ^ 16 ∧ (∀ n ∈ axesOf c, K.rd (CLE_AX_FOX_STATUS.STATE n) = 6) ∧
      (L.on (ADC_CL_STATUS.REF_OK (1 - c)) = false → L.canExit = true → (∀ n < 8, K.rd (CLE_AX_FOX_STATUS.STATE n) = 6) ∧ K.on Int.e0 = true))

/-- CURRENT_SAMPLE of a group whose counter is not run, at mid-period without UPDATE, or with the CLE or the ADC domain
stopped, changes nothing. Else it completes in every state of the Fox: the five codes are stored, clamped to 16383,
and no memory changes. For a running axis in TRACK or HALL, once set-points that are due, a waiting bank swap and the
counts of the outer loops have been taken on, the lane is that after the whole pipeline on these codes and the rail
voltage of the sample before. (R59, R60, R66, R88, R107, R412) -/
def Obligations.CurrentSampleRunsThePipeline : Prop :=
  (∀ (s : State) (l : LaneId) (ax : Fin 8) (mid : Bool) (delay i0 i1 va vb vc : Nat) (L : Lane), s.lane l = L →
    (L.on (PWM_GROUP_CTL.RUN ax) = false ∨ (mid = true ∧ L.on (CLE_AX_CTL.UPDATE ax) = false) ∨ L.on (FCK_DOM_CTL.RUN_EN 0) = false ∨
      L.on (FCK_DOM_CTL.RUN_EN 2) = false) →
    exec (.currentSample l ax mid delay i0 i1 va vb vc) s = .next (s.onLane l id)) ∧
  (∀ (s : State) (l : LaneId) (ax : Fin 8) (mid : Bool) (delay i0 i1 va vb vc : Nat) (L J M : Lane), s.lane l = L →
    L.on (PWM_GROUP_CTL.RUN ax) = true → (mid = true → L.on (CLE_AX_CTL.UPDATE ax) = true) → L.on (FCK_DOM_CTL.RUN_EN 0) = true →
    L.on (FCK_DOM_CTL.RUN_EN 2) = true →
    J = ((((((L.wr (ADC_AX_ICODE.I0_CODE ax) (min i0 16383)).wr (ADC_AX_ICODE.I1_CODE ax) (min i1 16383)).wr (ADC_AX_VCODE.VA_CODE ax) (min va 16383)).wr
      (ADC_AX_VCODE.VB_CODE ax) (min vb 16383)).wr (ADC_AX_VCODEC.VC_CODE ax) (min vc 16383)).trackZero ax (min i0 16383) (min i1 16383)).wrI
      (Int.udcLast ax) (L.udc ax) →
    M = ((J.applyDue ax J.ftb).settleBank ax).countLoops ax →
    ∃ K, exec (.currentSample l ax mid delay i0 i1 va vb vc) s = .next (s.onLane l (fun _ => K)) ∧ K.mem = L.mem ∧ K.nor = L.nor ∧
      K.rd (ADC_AX_ICODE.I0_CODE ax) = min i0 16383 ∧ K.rd (ADC_AX_ICODE.I1_CODE ax) = min i1 16383 ∧
      K.rd (ADC_AX_VCODE.VA_CODE ax) = min va 16383 ∧ K.rd (ADC_AX_VCODE.VB_CODE ax) = min vb 16383 ∧
      K.rd (ADC_AX_VCODEC.VC_CODE ax) = min vc 16383 ∧
      (J.on (CLE_AX_STATUS.RUNNING ax) = true → (M.rd (CLE_AX_FOX_STATUS.STATE ax) = 3 ∨ M.rd (CLE_AX_FOX_STATUS.STATE ax) = 4) →
        K = M.runSample ax mid delay (min i0 16383) (min i1 16383) (L.rdI (Int.udcLast ax))))

/-- For two current codes whose values and negated sum lie inside the number format, the three phase currents that stage 1
computes sum to zero for every setting of PHASE_PAIR, and the flag of stage 1 is 0. For every period and every duty
from 0 to the largest one, the rising edge of R73 does not come after the falling edge, and the falling edge does not
come after the end of the period. TEST_PULSE_START outside START_REST, or while a pulse or its return is under way,
changes nothing. With the current decayed the next pulse begins with its direction and amplitude; with the current not
decayed the attempt fails: a first failed attempt starts the second one; a second failure sets SR_FAIL and enters
SAFE. TEST_PULSE_END without a pulse under way, or before the return has stood as long as its pulse, changes nothing.
At the end of a pulse that is not too early the opposite vector is applied for the time of the pulse and the next
pulse is noted; at the end of the return of a pulse other than the twelfth and the fourteenth none is under way any
more. RESUME_DEADLINE in REACQ sets RESUME_FAIL and enters SAFE; in another state it changes nothing. (R66, R73, R107,
R109, R110, R111, R117) -/
def Obligations.CurrentsEdgesAndStartPulses : Prop :=
  (∀ (L : Lane) (n i0 i1 : Nat) (x y : Int), x = ((i0 : Int) - L.rd (ADC_AX_IZERO.IZERO0 n)) * 262144 → y = ((i1 : Int) - L.rd (ADC_AX_IZERO.IZERO1 n)) * 262144 →
    -2147483648 ≤ x → x ≤ 2147483647 → -2147483648 ≤ y → y ≤ 2147483647 → -2147483648 ≤ -x - y → -x - y ≤ 2147483647 →
    (L.currents n i0 i1).1 + (L.currents n i0 i1).2.1 + (L.currents n i0 i1).2.2.1 = 0 ∧ (L.currents n i0 i1).2.2.2 = 0) ∧
  (∀ (steps : Nat) (d : Int), 0 ≤ d → d ≤ 2147483647 → (edgesOf steps d).1 ≤ (edgesOf steps d).2 ∧ (edgesOf steps d).2 ≤ steps) ∧
  ((∀ (s : State) (l : LaneId) (ax : Fin 8) (dec : Bool) (L : Lane), s.lane l = L → (L.rd (CLE_AX_FOX_STATUS.STATE ax) ≠ 2 ∨
    L.rd (Int.srPulse ax) ≠ 0) → exec (.testPulseStart l ax dec) s = .next (s.onLane l id)) ∧
  (∀ (s : State) (l : LaneId) (ax : Fin 8) (L M : Lane), s.lane l = L → L.rd (CLE_AX_FOX_STATUS.STATE ax) = 2 → L.rd (Int.srPulse ax) = 0 →
    M = (L.wr (Int.srPulse ax) (L.rd (Int.srNext ax))).syncOverride ax →
    ∃ K, exec (.testPulseStart l ax true) s = .next (s.onLane l (fun _ => K)) ∧ K.rd (Int.srPulse ax) = L.rd (Int.srNext ax) ∧
      K = M.applyVector ax (M.pulseDir ax (L.rd (Int.srNext ax))) (M.pulseAmp ax (L.rd (Int.srNext ax))) ∧ K.mem = L.mem ∧ K.nor = L.nor) ∧
  (∀ (s : State) (l : LaneId) (ax : Fin 8) (L : Lane), s.lane l = L → L.rd (CLE_AX_FOX_STATUS.STATE ax) = 2 → L.rd (Int.srPulse ax) = 0 →
    L.rd (Int.srTry ax) < 2 →
    ∃ K, exec (.testPulseStart l ax false) s = .next (s.onLane l (fun _ => K)) ∧ K.rd (CLE_AX_FOX_STATUS.STATE ax) = 2 ∧
      K.rd (Int.srTry ax) = L.rd (Int.srTry ax) + 1 ∧ K.rd (Int.srNext ax) = 1 ∧ K.mem = L.mem ∧ K.nor = L.nor) ∧
  (∀ (s : State) (l : LaneId) (ax : Fin 8) (L : Lane), s.lane l = L → L.rd (CLE_AX_FOX_STATUS.STATE ax) = 2 → L.rd (Int.srPulse ax) = 0 →
    2 ≤ L.rd (Int.srTry ax) →
    ∃ K, exec (.testPulseStart l ax false) s = .next (s.onLane l (fun _ => K)) ∧ K.rd (CLE_AX_FOX_STATUS.STATE ax) = 6 ∧
      K.on (CLE_AX_FOX_STATUS.SR_FAIL ax) = true ∧ K.mem = L.mem ∧ K.nor = L.nor) ∧
  (∀ (s : State) (l : LaneId) (ax : Fin 8) (cur : Int) (len : Nat) (L : Lane), s.lane l = L → (L.rd (CLE_AX_FOX_STATUS.STATE ax) ≠ 2 ∨
    L.rd (Int.srPulse ax) = 0 ∨ (L.on (Int.srEnded ax) = true ∧ L.ftb < L.rd (Int.srBack ax))) →
    exec (.testPulseEnd l ax cur len) s = .next (s.onLane l id)) ∧
  (∀ (s : State) (l : LaneId) (ax : Fin 8) (cur : Int) (len k n : Nat) (L : Lane), s.lane l = L → L.rd (CLE_AX_FOX_STATUS.STATE ax) = 2 →
    k = L.rd (Int.srPulse ax) → 1 ≤ k → k ≤ 14 → L.on (Int.srEnded ax) = false → n = min (max len 1) (1000 * L.ctl ax 16 8) →
    L.pulseEarly ax k (satQ cur) n = false →
    ∃ K, exec (.testPulseEnd l ax cur len) s = .next (s.onLane l (fun _ => K)) ∧ K.on (Int.srEnded ax) = true ∧
      K.rd (Int.srNext ax) = (k + 1) % 16 ∧ K.rd (Int.srPulse ax) = k ∧ K.rd (Int.srBack ax) = (L.ftb + n) % 2 ^ 64 ∧ K.mem = L.mem ∧ K.nor = L.nor) ∧
  (∀ (s : State) (l : LaneId) (ax : Fin 8) (cur : Int) (len k : Nat) (L : Lane), s.lane l = L → L.rd (CLE_AX_FOX_STATUS.STATE ax) = 2 →
    k = L.rd (Int.srPulse ax) → 1 ≤ k → k ≠ 12 → k ≠ 14 → L.on (Int.srEnded ax) = true → L.rd (Int.srBack ax) ≤ L.ftb →
    ∃ K, exec (.testPulseEnd l ax cur len) s = .next (s.onLane l (fun _ => K)) ∧ K.on (Int.srEnded ax) = false ∧ K.rd (Int.srPulse ax) = 0 ∧
      K.rd (CLE_AX_FOX_STATUS.STATE ax) = 2 ∧ K.mem = L.mem ∧ K.nor = L.nor) ∧
  (∀ (s : State) (l : LaneId) (ax : Fin 8) (L : Lane), s.lane l = L → L.rd (CLE_AX_FOX_STATUS.STATE ax) = 5 →
    ∃ K, exec (.resumeDeadline l ax) s = .next (s.onLane l (fun _ => K)) ∧ K.on (CLE_AX_FOX_STATUS.RESUME_FAIL ax) = true ∧
      K.rd (CLE_AX_FOX_STATUS.STATE ax) = 6 ∧ K.mem = L.mem ∧ K.nor = L.nor) ∧
  (∀ (s : State) (l : LaneId) (ax : Fin 8), (s.lane l).rd (CLE_AX_FOX_STATUS.STATE ax) ≠ 5 → exec (.resumeDeadline l ax) s = .next (s.onLane l id)))

/-- An occurrence of a field source raises its CUM by one modulo 2^16 and is kept until acknowledged; with a live link its
message joins the urgent path at S3 and S4 and the ordered path otherwise; at S4 STOP is sent and every group that is
not in an ASC pattern has override kind 1. (R292, R296, R302) -/
def Obligations.FieldOccurrenceIsCountedAndSent : Prop :=
  (∀ (L : Lane) (src : Nat), 0x60 ≤ src → src < 0xA0 → (L.fieldRaise src).rd (Int.cum src) = (L.rd (Int.cum src) + 1) % 2 ^ 16 ∧
    (L.fieldRaise src).occurrences = L.occurrences ++ [⟨src, (L.rd (Int.cum src) + 1) % 2 ^ 16, L.ftb, false⟩]) ∧
  (∀ (L : Lane) (src : Nat), 0x60 ≤ src → src < 0xA0 → L.on Int.fieldLink = true → L.rd (FBG_SEV.SEV src) < 3 →
    ∃ m, m.src = src ∧ m.cum = (L.rd (Int.cum src) + 1) % 2 ^ 16 ∧ (L.fieldRaise src).up ++ (L.fieldRaise src).upQueue = L.up ++ L.upQueue ++ [.fault m] ∧
      (L.fieldRaise src).urgent = L.urgent) ∧
  (∀ (L : Lane) (src : Nat), 0x60 ≤ src → src < 0xA0 → L.on Int.fieldLink = true → 3 ≤ L.rd (FBG_SEV.SEV src) →
    ∃ m, m.src = src ∧ m.cum = (L.rd (Int.cum src) + 1) % 2 ^ 16 ∧ (L.fieldRaise src).urgent = L.urgent ++ [m] ∧
      (L.fieldRaise src).up ++ (L.fieldRaise src).upQueue = L.up ++ L.upQueue) ∧
  (∀ (L : Lane) (src g : Nat), 0x60 ≤ src → src < 0xA0 → L.rd (FBG_SEV.SEV src) = 4 → g < 12 → (g < 8 → L.inAsc g = false) →
    (L.fieldRaise src).on FBG_STATUS.STOP_SENT = true ∧ (L.fieldRaise src).rd (PWM_GROUP_STATUS.OVERRIDE g) = 1)

/-- HALL_EDGE, CODE being what the six wire levels make of the last one. For an enabled axis whose sector is known and
that has no wire fault and no parity error: an adjacent sector forward takes an open backward overrun down; else
counts POS up; else, at SOFT_MAX, counts OVR_HIGH with SAT_HIGH; else, at the end of OVR_HIGH, counts REF_HIGH with
POS_UNCERTAIN; backward likewise; SECTOR, the direction and the stamp are of this edge. A sector that is not adjacent
counts a skip, raises 0x79, sets POS_UNCERTAIN, stops the speed and leaves POS. An unchanged CODE, or EN = 0, takes
only the levels. An illegal CODE makes SECTOR 7; a legal one after it, with a wire fault or a parity error only sets
SECTOR. Memory is unchanged in each case. That an edge is one operand with its six levels is the choice of the model
(assumption 38). HALL_WIRE_FAULT sets the WIRE bit of its pair and POS_UNCERTAIN, counts WIRE_CNT, raises source 0x78
and leaves SECTOR, CODE and POS. HALL_ILLEGAL_CODE with an illegal CODE sets all three WIRE bits, counts ILLEGAL_CNT
and does likewise; with a legal CODE it changes nothing. HALL_STANDSTILL makes the status STANDSTILL, the speed 0, the
last direction none and the history empty. HALL_SPEED_EVAL in STANDSTILL changes none of these; at SS_TIME or more
since the last edge in another status it does what HALL_STANDSTILL does; before that, in STARTING and REVERSED, the
speed is 0; in VALID or DECAYING with a history it is T60 over the mean interval, or over the time since the last edge
where that is longer, with the sign of the last direction. Each of the last three changes nothing else but what a
latch under way captures of the axis. Memory is unchanged in each case. (R170, R171, R172, R175, R176, R177, R179,
R173, R174, R181, R187) -/
def Obligations.HallEdgesFaultsAndSpeed : Prop :=
  ((∀ (s : State) (l : LaneId) (ax p q : Fin 8) (late : Fin 5) (n code was sec : Nat) (L : Lane),
    s.lane l = L → n = (ax : Nat) → code = pairCode (L.rd (FBI_AX_STATUS.CODE n)) p q → L.rd (FBI_AX_STATUS.CODE n) ≠ code →
    L.on (FBI_AX_CFG.EN n) = true → L.on Int.fbiBad = false → L.rd (FBI_AX_STATUS.WIRE n) = 0 →
    was = L.rd (FBI_AX_STATUS.SECTOR n) → was < 6 → sectorOf code = some sec → sec = (was + 1) % 6 →
    ∃ K, exec (.hallEdge l ax (p, q) late) s = .next (s.onLane l (fun _ => K)) ∧ K.rd (FBI_AX_STATUS.CODE n) = code ∧
      K.rd (FBI_AX_STATUS.SECTOR n) = sec ∧ (0 < L.rd (FBI_AX_CFG.SS_TIME n) → K.rd (FBI_AX_STATUS.LAST_DIR n) = 1) ∧
      K.rd (FBI_AX.EDGE_FTB n) = (L.ftb - (10 * L.rd (FBI_AX_CFG.FILT n) + late)) % 2 ^ 32 ∧ K.mem = L.mem ∧ K.nor = L.nor ∧
      (L.rd (FBI_AX.OVR_LOW n) ≠ 0 → K.rd (FBI_AX.POS n) = L.rd (FBI_AX.POS n) ∧ K.rd (FBI_AX.OVR_LOW n) = L.rd (FBI_AX.OVR_LOW n) - 1) ∧
      (L.rd (FBI_AX.OVR_LOW n) = 0 → L.rd (FBI_AX.POS n) ≠ L.rd (FBI_AX.SOFT_MAX n) →
        K.rd (FBI_AX.POS n) = (L.rd (FBI_AX.POS n) + 1) % 2 ^ 32 ∧ K.rd (FBI_AX.OVR_HIGH n) = L.rd (FBI_AX.OVR_HIGH n)) ∧
      (L.rd (FBI_AX.OVR_LOW n) = 0 → L.rd (FBI_AX.POS n) = L.rd (FBI_AX.SOFT_MAX n) → L.rd (FBI_AX.OVR_HIGH n) < 4294967295 →
        K.rd (FBI_AX.POS n) = L.rd (FBI_AX.POS n) ∧ K.rd (FBI_AX.OVR_HIGH n) = L.rd (FBI_AX.OVR_HIGH n) + 1 ∧ K.on (FBI_AX_STATUS.SAT_HIGH n) = true) ∧
      (L.rd (FBI_AX.OVR_LOW n) = 0 → L.rd (FBI_AX.POS n) = L.rd (FBI_AX.SOFT_MAX n) → L.rd (FBI_AX.OVR_HIGH n) = 4294967295 →
        K.rd (FBI_AX.POS n) = L.rd (FBI_AX.POS n) ∧ K.rd (FBI_AX.OVR_HIGH n) = L.rd (FBI_AX.OVR_HIGH n) ∧
        K.rd (FBI_AX_REF.REF_HIGH n) = min (L.rd (FBI_AX_REF.REF_HIGH n) + 1) (2 ^ (FBI_AX_REF.REF_HIGH n).width - 1) ∧
        K.on (FBI_AX_STATUS.POS_UNCERTAIN n) = true)) ∧
  (∀ (s : State) (l : LaneId) (ax p q : Fin 8) (late : Fin 5) (n code was sec : Nat) (L : Lane),
    s.lane l = L → n = (ax : Nat) → code = pairCode (L.rd (FBI_AX_STATUS.CODE n)) p q → L.rd (FBI_AX_STATUS.CODE n) ≠ code →
    L.on (FBI_AX_CFG.EN n) = true → L.on Int.fbiBad = false → L.rd (FBI_AX_STATUS.WIRE n) = 0 →
    was = L.rd (FBI_AX_STATUS.SECTOR n) → was < 6 → sectorOf code = some sec → was = (sec + 1) % 6 →
    ∃ K, exec (.hallEdge l ax (p, q) late) s = .next (s.onLane l (fun _ => K)) ∧ K.rd (FBI_AX_STATUS.CODE n) = code ∧
      K.rd (FBI_AX_STATUS.SECTOR n) = sec ∧ (0 < L.rd (FBI_AX_CFG.SS_TIME n) → K.rd (FBI_AX_STATUS.LAST_DIR n) = 2) ∧
      K.rd (FBI_AX.EDGE_FTB n) = (L.ftb - (10 * L.rd (FBI_AX_CFG.FILT n) + late)) % 2 ^ 32 ∧ K.mem = L.mem ∧ K.nor = L.nor ∧
      (L.rd (FBI_AX.OVR_HIGH n) ≠ 0 → K.rd (FBI_AX.POS n) = L.rd (FBI_AX.POS n) ∧ K.rd (FBI_AX.OVR_HIGH n) = L.rd (FBI_AX.OVR_HIGH n) - 1) ∧
      (L.rd (FBI_AX.OVR_HIGH n) = 0 → L.rd (FBI_AX.POS n) ≠ L.rd (FBI_AX.SOFT_MIN n) →
        K.rd (FBI_AX.POS n) = (L.rd (FBI_AX.POS n) + 4294967295) % 2 ^ 32 ∧ K.rd (FBI_AX.OVR_LOW n) = L.rd (FBI_AX.OVR_LOW n)) ∧
      (L.rd (FBI_AX.OVR_HIGH n) = 0 → L.rd (FBI_AX.POS n) = L.rd (FBI_AX.SOFT_MIN n) → L.rd (FBI_AX.OVR_LOW n) < 4294967295 →
        K.rd (FBI_AX.POS n) = L.rd (FBI_AX.POS n) ∧ K.rd (FBI_AX.OVR_LOW n) = L.rd (FBI_AX.OVR_LOW n) + 1 ∧ K.on (FBI_AX_STATUS.SAT_LOW n) = true) ∧
      (L.rd (FBI_AX.OVR_HIGH n) = 0 → L.rd (FBI_AX.POS n) = L.rd (FBI_AX.SOFT_MIN n) → L.rd (FBI_AX.OVR_LOW n) = 4294967295 →
        K.rd (FBI_AX.POS n) = L.rd (FBI_AX.POS n) ∧ K.rd (FBI_AX.OVR_LOW n) = L.rd (FBI_AX.OVR_LOW n) ∧
        K.rd (FBI_AX_REF.REF_LOW n) = min (L.rd (FBI_AX_REF.REF_LOW n) + 1) (2 ^ (FBI_AX_REF.REF_LOW n).width - 1) ∧
        K.on (FBI_AX_STATUS.POS_UNCERTAIN n) = true)) ∧
  (∀ (s : State) (l : LaneId) (ax p q : Fin 8) (late : Fin 5) (n code was sec : Nat) (L : Lane),
    s.lane l = L → n = (ax : Nat) → code = pairCode (L.rd (FBI_AX_STATUS.CODE n)) p q → L.rd (FBI_AX_STATUS.CODE n) ≠ code →
    L.on (FBI_AX_CFG.EN n) = true → L.on Int.fbiBad = false → L.rd (FBI_AX_STATUS.WIRE n) = 0 →
    was = L.rd (FBI_AX_STATUS.SECTOR n) → was < 6 → sectorOf code = some sec → sec ≠ (was + 1) % 6 → was ≠ (sec + 1) % 6 →
    ∃ K, exec (.hallEdge l ax (p, q) late) s = .next (s.onLane l (fun _ => K)) ∧ K.rd (FBI_AX_STATUS.CODE n) = code ∧
      K.rd (FBI_AX_STATUS.SECTOR n) = sec ∧ K.rd (FBI_AX.POS n) = L.rd (FBI_AX.POS n) ∧ K.on (FBI_AX_STATUS.POS_UNCERTAIN n) = true ∧
      K.rd (FBI_AX_CNT.SKIP_CNT n) = min (L.rd (FBI_AX_CNT.SKIP_CNT n) + 1) (2 ^ (FBI_AX_CNT.SKIP_CNT n).width - 1) ∧
      K.rd (FBI_AX.SPEED n) = 0 ∧ K.rd (FBI_AX_STATUS.SPD_STATUS n) = 1 ∧ K.rd (FBI_AX_STATUS.LAST_DIR n) = 0 ∧
      K.rd (Int.cum 0x79) = (L.rd (Int.cum 0x79) + 1) % 2 ^ 16 ∧ K.mem = L.mem ∧ K.nor = L.nor) ∧
  (∀ (s : State) (l : LaneId) (ax p q : Fin 8) (late : Fin 5) (n code : Nat) (L : Lane),
    s.lane l = L → n = (ax : Nat) → code = pairCode (L.rd (FBI_AX_STATUS.CODE n)) p q →
    (L.rd (FBI_AX_STATUS.CODE n) = code ∨ L.on (FBI_AX_CFG.EN n) = false) →
    ∃ K, exec (.hallEdge l ax (p, q) late) s = .next (s.onLane l (fun _ => K)) ∧ K.rd (FBI_AX_STATUS.CODE n) = code ∧
      K.rd (Int.pairBad n) = badPairs p q ∧ L.onlyFields K [FBI_AX_STATUS.CODE n, Int.pairBad n]) ∧
  (∀ (s : State) (l : LaneId) (ax p q : Fin 8) (late : Fin 5) (n code : Nat) (L : Lane),
    s.lane l = L → n = (ax : Nat) → code = pairCode (L.rd (FBI_AX_STATUS.CODE n)) p q → L.rd (FBI_AX_STATUS.CODE n) ≠ code →
    L.on (FBI_AX_CFG.EN n) = true → sectorOf code = none →
    ∃ K, exec (.hallEdge l ax (p, q) late) s = .next (s.onLane l (fun _ => K)) ∧ K.rd (FBI_AX_STATUS.CODE n) = code ∧ K.rd (FBI_AX_STATUS.SECTOR n) = 7 ∧
      L.onlyFields K [FBI_AX_STATUS.CODE n, Int.pairBad n, FBI_AX_STATUS.SECTOR n, Int.latSave n 0, Int.latSave n 1, Int.latSave n 2, Int.latSave n 3, Int.latchTouched]) ∧
  (∀ (s : State) (l : LaneId) (ax p q : Fin 8) (late : Fin 5) (n code sec : Nat) (L : Lane),
    s.lane l = L → n = (ax : Nat) → code = pairCode (L.rd (FBI_AX_STATUS.CODE n)) p q → L.rd (FBI_AX_STATUS.CODE n) ≠ code →
    L.on (FBI_AX_CFG.EN n) = true → sectorOf code = some sec →
    (L.on Int.fbiBad = true ∨ L.rd (FBI_AX_STATUS.WIRE n) ≠ 0 ∨ L.rd (FBI_AX_STATUS.SECTOR n) = 7) →
    ∃ K, exec (.hallEdge l ax (p, q) late) s = .next (s.onLane l (fun _ => K)) ∧ K.rd (FBI_AX_STATUS.CODE n) = code ∧ K.rd (FBI_AX_STATUS.SECTOR n) = sec ∧
      L.onlyFields K [FBI_AX_STATUS.CODE n, Int.pairBad n, FBI_AX_STATUS.SECTOR n, Int.latSave n 0, Int.latSave n 1, Int.latSave n 2, Int.latSave n 3, Int.latchTouched])) ∧
  ((∀ (s : State) (l : LaneId) (ax : Fin 8) (w : Fin 3) (L : Lane), s.lane l = L →
    ∃ K, exec (.hallWireFault l ax w) s = .next (s.onLane l (fun _ => K)) ∧ K.on (FBI_AX_STATUS.POS_UNCERTAIN ax) = true ∧
      K.rd (FBI_AX_STATUS.WIRE ax) = putBit (L.rd (FBI_AX_STATUS.WIRE ax)) w true % 8 ∧
      K.rd (FBI_AX_CNT.WIRE_CNT ax) = min (L.rd (FBI_AX_CNT.WIRE_CNT ax) + 1) (2 ^ (FBI_AX_CNT.WIRE_CNT ax).width - 1) ∧
      K.rd (Int.cum 0x78) = (L.rd (Int.cum 0x78) + 1) % 2 ^ 16 ∧ K.rd (FBI_AX_STATUS.SECTOR ax) = L.rd (FBI_AX_STATUS.SECTOR ax) ∧
      K.rd (FBI_AX_STATUS.CODE ax) = L.rd (FBI_AX_STATUS.CODE ax) ∧ K.rd (FBI_AX.POS ax) = L.rd (FBI_AX.POS ax) ∧ K.mem = L.mem ∧ K.nor = L.nor) ∧
  (∀ (s : State) (l : LaneId) (ax : Fin 8) (L : Lane), s.lane l = L → sectorOf (L.rd (FBI_AX_STATUS.CODE ax)) = none →
    ∃ K, exec (.hallIllegalCode l ax) s = .next (s.onLane l (fun _ => K)) ∧ K.on (FBI_AX_STATUS.POS_UNCERTAIN ax) = true ∧
      K.rd (FBI_AX_STATUS.WIRE ax) = 7 ∧
      K.rd (FBI_AX_CNT.ILLEGAL_CNT ax) = min (L.rd (FBI_AX_CNT.ILLEGAL_CNT ax) + 1) (2 ^ (FBI_AX_CNT.ILLEGAL_CNT ax).width - 1) ∧
      K.rd (Int.cum 0x78) = (L.rd (Int.cum 0x78) + 1) % 2 ^ 16 ∧ K.rd (FBI_AX_STATUS.SECTOR ax) = L.rd (FBI_AX_STATUS.SECTOR ax) ∧
      K.rd (FBI_AX_STATUS.CODE ax) = L.rd (FBI_AX_STATUS.CODE ax) ∧ K.rd (FBI_AX.POS ax) = L.rd (FBI_AX.POS ax) ∧ K.mem = L.mem ∧ K.nor = L.nor) ∧
  (∀ (s : State) (l : LaneId) (ax : Fin 8) (c : Nat), sectorOf ((s.lane l).rd (FBI_AX_STATUS.CODE ax)) = some c →
    exec (.hallIllegalCode l ax) s = .next (s.onLane l id)) ∧
  (∀ (s : State) (l : LaneId) (ax : Fin 8) (L : Lane), s.lane l = L →
    ∃ K, exec (.hallStandstill l ax) s = .next (s.onLane l (fun _ => K)) ∧ K.rd (FBI_AX_STATUS.SPD_STATUS ax) = 0 ∧ K.rd (FBI_AX.SPEED ax) = 0 ∧
      K.rd (FBI_AX_STATUS.LAST_DIR ax) = 0 ∧ K.rd (Int.histN ax) = 0 ∧
      L.onlyFields K [FBI_AX_STATUS.SPD_STATUS ax, FBI_AX.SPEED ax, FBI_AX_STATUS.LAST_DIR ax, Int.histN ax, Int.latSave ax 0, Int.latSave ax 1,
        Int.latSave ax 2, Int.latSave ax 3, Int.latchTouched]) ∧
  (∀ (s : State) (l : LaneId) (ax : Fin 8) (L : Lane), s.lane l = L → L.rd (FBI_AX_STATUS.SPD_STATUS ax) = 0 →
    ∃ K, exec (.hallSpeedEval l ax) s = .next (s.onLane l (fun _ => K)) ∧
      L.onlyFields K [Int.latSave ax 0, Int.latSave ax 1, Int.latSave ax 2, Int.latSave ax 3, Int.latchTouched]) ∧
  (∀ (s : State) (l : LaneId) (ax : Fin 8) (L : Lane), s.lane l = L → L.rd (FBI_AX_STATUS.SPD_STATUS ax) ≠ 0 →
    1000000 * L.rd (FBI_AX_CFG.SS_TIME ax) ≤ L.ftb - L.rd (Int.tEdge ax) → exec (.hallSpeedEval l ax) s = exec (.hallStandstill l ax) s) ∧
  (∀ (s : State) (l : LaneId) (ax : Fin 8) (L : Lane), s.lane l = L → (L.rd (FBI_AX_STATUS.SPD_STATUS ax) = 1 ∨ L.rd (FBI_AX_STATUS.SPD_STATUS ax) = 3) →
    L.ftb - L.rd (Int.tEdge ax) < 1000000 * L.rd (FBI_AX_CFG.SS_TIME ax) →
    ∃ K, exec (.hallSpeedEval l ax) s = .next (s.onLane l (fun _ => K)) ∧ K.rd (FBI_AX.SPEED ax) = 0 ∧ L.onlyFields K [FBI_AX.SPEED ax, Int.latSave ax 0,
      Int.latSave ax 1, Int.latSave ax 2, Int.latSave ax 3, Int.latchTouched]) ∧
  (∀ (s : State) (l : LaneId) (ax : Fin 8) (n dt sum cnt t60 : Nat) (L : Lane), s.lane l = L → n = (ax : Nat) →
    (L.rd (FBI_AX_STATUS.SPD_STATUS n) = 2 ∨ L.rd (FBI_AX_STATUS.SPD_STATUS n) = 4) → L.rd (FBI_AX_STATUS.LAST_DIR n) = 1 →
    dt = L.ftb - L.rd (Int.tEdge n) → dt < 1000000 * L.rd (FBI_AX_CFG.SS_TIME n) → cnt = L.rd (Int.histN n) → 0 < cnt →
    sum = ((List.range cnt).map (fun i => L.rd (Int.hist n i))).sum → t60 = L.rd (FBI_AX_T60.T60_BASE n) →
    ∃ K, exec (.hallSpeedEval l ax) s = .next (s.onLane l (fun _ => K)) ∧
      K.rd (FBI_AX_STATUS.SPD_STATUS n) = (if sum < cnt * dt then 4 else 2) ∧
      (sum < cnt * dt → K.rdI (FBI_AX.SPEED n) = min oneQ (divRound 181 ((t60 * 2 ^ 31 : Nat) : Int) dt)) ∧
      (cnt * dt ≤ sum → 0 < sum → K.rdI (FBI_AX.SPEED n) = min oneQ (divRound 181 ((t60 * cnt * 2 ^ 31 : Nat) : Int) sum)) ∧
      L.onlyFields K [FBI_AX.SPEED n, FBI_AX_STATUS.SPD_STATUS n, Int.latSave n 0, Int.latSave n 1, Int.latSave n 2, Int.latSave n 3, Int.latchTouched]))

/-- POS_SET stores the count clamped into the soft limits and clears overruns, refusals and POS_UNCERTAIN. A written
SOFT_MAX is at least SOFT_MIN; a POS above it moves onto it, what it was above is added to OVR_HIGH and SAT_HIGH is
set; a written SOFT_MIN likewise below. COMPARE_ARM stores the clamped value and arms the compare; its effective
direction is DIR, but where the axis moves forward at VALID or DECAYING speed and the value does not lie ahead it is
the direction of the motion, BEHIND is set and source 0x7B raised, and backward likewise. FBI_ENABLE at a rise of EN
takes SECTOR from the CODE, 7 where it is illegal, and starts in STANDSTILL; with EN already 1 it changes nothing.
Nothing else changes but what a latch under way captures of the axis. (R178, R179, R183, R184, R187) -/
def Obligations.PositionPresetLimitsAndCompares : Prop :=
  (∀ (s : State) (l : LaneId) (ax : Fin 8) (v : Nat) (L : Lane), s.lane l = L →
    ∃ K, exec (.posSet l ax v) s = .next (s.onLane l (fun _ => K)) ∧
      K.rd (FBI_AX.POS ax) = ofInt 32 (clampI (L.rdI (FBI_AX.SOFT_MIN ax)) (L.rdI (FBI_AX.SOFT_MAX ax)) (toInt 32 v)) % 2 ^ 32 ∧
      K.rd (FBI_AX.OVR_HIGH ax) = 0 ∧ K.rd (FBI_AX.OVR_LOW ax) = 0 ∧ K.rd (FBI_AX_REF.REF_HIGH ax) = 0 ∧ K.rd (FBI_AX_REF.REF_LOW ax) = 0 ∧
      K.on (FBI_AX_STATUS.POS_UNCERTAIN ax) = false ∧
      L.onlyFields K [FBI_AX.POS ax, FBI_AX.OVR_HIGH ax, FBI_AX.OVR_LOW ax, FBI_AX_REF.REF_HIGH ax, FBI_AX_REF.REF_LOW ax, FBI_AX_STATUS.POS_UNCERTAIN ax,
        Int.latSave ax 0, Int.latSave ax 1, Int.latSave ax 2, Int.latSave ax 3, Int.latchTouched]) ∧
  (∀ (s : State) (l : LaneId) (ax : Fin 8) (v : Nat) (m : Int) (L : Lane), s.lane l = L → m = max (toInt 32 v) (L.rdI (FBI_AX.SOFT_MIN ax)) →
    ∃ K, exec (.softLimitWrite l ax true v) s = .next (s.onLane l (fun _ => K)) ∧ K.rd (FBI_AX.SOFT_MAX ax) = ofInt 32 m % 2 ^ 32 ∧
      (m < L.rdI (FBI_AX.POS ax) → K.rd (FBI_AX.POS ax) = ofInt 32 m % 2 ^ 32 ∧ K.on (FBI_AX_STATUS.SAT_HIGH ax) = true ∧
        K.rd (FBI_AX.OVR_HIGH ax) = min (L.rd (FBI_AX.OVR_HIGH ax) + (L.rdI (FBI_AX.POS ax) - m).toNat) (2 ^ 32 - 1)) ∧
      (L.rdI (FBI_AX.POS ax) ≤ m → K.rd (FBI_AX.POS ax) = L.rd (FBI_AX.POS ax) ∧ K.rd (FBI_AX.OVR_HIGH ax) = L.rd (FBI_AX.OVR_HIGH ax)) ∧
      L.onlyFields K [FBI_AX.SOFT_MAX ax, FBI_AX.POS ax, FBI_AX.OVR_HIGH ax, FBI_AX_STATUS.SAT_HIGH ax, FBI_AX_CMP_VAL.VAL ax 0, FBI_AX_CMP_VAL.VAL ax 1, FBI_AX_CMP_VAL.VAL ax 2, FBI_AX_CMP_VAL.VAL ax 3, Int.latSave ax 0, Int.latSave ax 1, Int.latSave ax 2, Int.latSave ax 3, Int.latchTouched]) ∧
  (∀ (s : State) (l : LaneId) (ax : Fin 8) (v : Nat) (m : Int) (L : Lane), s.lane l = L → m = min (toInt 32 v) (L.rdI (FBI_AX.SOFT_MAX ax)) →
    ∃ K, exec (.softLimitWrite l ax false v) s = .next (s.onLane l (fun _ => K)) ∧ K.rd (FBI_AX.SOFT_MIN ax) = ofInt 32 m % 2 ^ 32 ∧
      (L.rdI (FBI_AX.POS ax) < m → K.rd (FBI_AX.POS ax) = ofInt 32 m % 2 ^ 32 ∧ K.on (FBI_AX_STATUS.SAT_LOW ax) = true ∧
        K.rd (FBI_AX.OVR_LOW ax) = min (L.rd (FBI_AX.OVR_LOW ax) + (m - L.rdI (FBI_AX.POS ax)).toNat) (2 ^ 32 - 1)) ∧
      (m ≤ L.rdI (FBI_AX.POS ax) → K.rd (FBI_AX.POS ax) = L.rd (FBI_AX.POS ax) ∧ K.rd (FBI_AX.OVR_LOW ax) = L.rd (FBI_AX.OVR_LOW ax)) ∧
      L.onlyFields K [FBI_AX.SOFT_MIN ax, FBI_AX.POS ax, FBI_AX.OVR_LOW ax, FBI_AX_STATUS.SAT_LOW ax, FBI_AX_CMP_VAL.VAL ax 0, FBI_AX_CMP_VAL.VAL ax 1, FBI_AX_CMP_VAL.VAL ax 2, FBI_AX_CMP_VAL.VAL ax 3, Int.latSave ax 0, Int.latSave ax 1, Int.latSave ax 2, Int.latSave ax 3, Int.latchTouched]) ∧
  (∀ (s : State) (l : LaneId) (ax : Fin 8) (k : Fin 4) (v dir : Nat) (x : Int) (moves behind : Bool) (L : Lane), s.lane l = L →
    x = clampI (L.rdI (FBI_AX.SOFT_MIN ax)) (L.rdI (FBI_AX.SOFT_MAX ax)) (toInt 32 v) → dir = L.rd (FBI_AX_STATUS.LAST_DIR ax) →
    moves = (decide (L.rd (FBI_AX_STATUS.SPD_STATUS ax) = 2) || decide (L.rd (FBI_AX_STATUS.SPD_STATUS ax) = 4)) →
    behind = (moves && ((decide (dir = 1) && decide (x ≤ L.rdI (FBI_AX.POS ax))) || (decide (dir = 2) && decide (L.rdI (FBI_AX.POS ax) ≤ x)))) →
    ∃ K, exec (.compareArm l ax k v) s = .next (s.onLane l (fun _ => K)) ∧ K.on (FBI_AX_CMP_CTL.ARMED ax k) = true ∧
      K.rd (FBI_AX_CMP_VAL.VAL ax k) = ofInt 32 x % 2 ^ 32 ∧ K.on (Int.cmpBehind ax k) = behind ∧ K.mem = L.mem ∧ K.nor = L.nor ∧
      K.rd (FBI_AX.POS ax) = L.rd (FBI_AX.POS ax) ∧
      (behind = false → K.rd (FBI_AX_CMP_CTL.EFF_DIR ax k) = L.rd (FBI_AX_CMP_CTL.DIR ax k) ∧
        L.onlyFields K [FBI_AX_CMP_VAL.VAL ax k, FBI_AX_CMP_CTL.ARMED ax k, Int.cmpBehind ax k, FBI_AX_CMP_CTL.EFF_DIR ax k]) ∧
      (behind = true → K.rd (FBI_AX_CMP_CTL.EFF_DIR ax k) = dir ∧ K.on (FBI_AX_CMP_CTL.BEHIND ax k) = true ∧
        K.rd (Int.cum 0x7B) = (L.rd (Int.cum 0x7B) + 1) % 2 ^ 16)) ∧
  (∀ (s : State) (l : LaneId) (ax code : Fin 8) (L : Lane), s.lane l = L → L.on (FBI_AX_CFG.EN ax) = false →
    ∃ K, exec (.fbiEnable l ax code) s = .next (s.onLane l (fun _ => K)) ∧ K.on (FBI_AX_CFG.EN ax) = true ∧ K.rd (FBI_AX_STATUS.CODE ax) = code ∧
      K.rd (FBI_AX_STATUS.SECTOR ax) = (sectorOf code).getD 7 ∧ K.rd (FBI_AX_STATUS.SPD_STATUS ax) = 0 ∧ K.rd (FBI_AX.SPEED ax) = 0 ∧
      L.onlyFields K [FBI_AX_CFG.EN ax, FBI_AX_STATUS.CODE ax, FBI_AX_STATUS.SECTOR ax, FBI_AX_STATUS.SPD_STATUS ax, FBI_AX.SPEED ax,
        FBI_AX_STATUS.LAST_DIR ax, Int.histN ax, Int.lastEdge ax, Int.latSave ax 0, Int.latSave ax 1, Int.latSave ax 2, Int.latSave ax 3, Int.latchTouched]) ∧
  (∀ (s : State) (l : LaneId) (ax code : Fin 8), (s.lane l).on (FBI_AX_CFG.EN ax) = true → exec (.fbiEnable l ax code) s = .next (s.onLane l id))

/-- LATCH_INPUT, where it is mapped, starts a latch at the field time when none is under way; while one is, it counts
LATCH_MISSED and raises source 0x7C; unmapped, it changes nothing. LATCH_INSTANT takes the first action instant from
its list and starts a latch at it, or misses it, in the same way where that source is mapped; with no instant it
changes nothing. LATCH_CAPTURE_COMPLETE of a latch under way, LATCHED being 0, sets LATCHED with its cause and instant
and captures POS of every axis: as saved where a change came after the latch instant, as it stands where none came;
with LATCHED 1 it counts LATCH_MISSED and raises 0x7C and the captured set stays; with no latch under way it changes
nothing. That a latch whose capture LATCHED forbids is found out when it completes is the choice of the model
(assumption 38). (R186, R187) -/
def Obligations.LatchesOfTheFeedbackUnit : Prop :=
  (∀ (s : State) (l : LaneId) (L : Lane), s.lane l = L → L.bitOf FBI_LATCH_CFG.LAT_SRC 1 = true → L.on Int.latchRun = false →
    ∃ K, exec (.latchInput l) s = .next (s.onLane l (fun _ => K)) ∧ K.on Int.latchRun = true ∧ K.rd Int.latchAt = L.ftb % 2 ^ 64 ∧
      K.rd Int.latchBy = 1 ∧ L.onlyFields K [Int.latchRun, Int.latchAt, Int.latchBy, Int.latchTouched]) ∧
  (∀ (s : State) (l : LaneId) (L : Lane), s.lane l = L → L.bitOf FBI_LATCH_CFG.LAT_SRC 1 = true → L.on Int.latchRun = true →
    ∃ K, exec (.latchInput l) s = .next (s.onLane l (fun _ => K)) ∧ K.on Int.latchRun = true ∧ K.rd Int.latchAt = L.rd Int.latchAt ∧
      K.rd FBI_LATCH_STATUS.LATCH_MISSED = min (L.rd FBI_LATCH_STATUS.LATCH_MISSED + 1) (2 ^ FBI_LATCH_STATUS.LATCH_MISSED.width - 1) ∧
      K.rd (Int.cum 0x7C) = (L.rd (Int.cum 0x7C) + 1) % 2 ^ 16 ∧ K.mem = L.mem ∧ K.nor = L.nor) ∧
  (∀ (s : State) (l : LaneId), (s.lane l).bitOf FBI_LATCH_CFG.LAT_SRC 1 = false → exec (.latchInput l) s = .next (s.onLane l id)) ∧
  (∀ (s : State) (l : LaneId), (s.lane l).rd Int.actCount = 0 → exec (.latchInstant l) s = .next (s.onLane l id)) ∧
  (∀ (s : State) (l : LaneId) (L : Lane), s.lane l = L → L.rd Int.actCount ≠ 0 →
    ∃ K, exec (.latchInstant l) s = .next (s.onLane l (fun _ => K)) ∧ K.rd Int.actCount = L.rd Int.actCount - 1 ∧
      (∀ i < 3, K.rd (Int.actInstants i) = L.rd (Int.actInstants (i + 1))) ∧ K.mem = L.mem ∧ K.nor = L.nor ∧
      (L.bitOf FBI_LATCH_CFG.LAT_SRC 0 = true → L.on Int.latchRun = false →
        K.on Int.latchRun = true ∧ K.rd Int.latchAt = L.rd (Int.actInstants 0) % 2 ^ 64 ∧ K.rd Int.latchBy = 0) ∧
      (L.bitOf FBI_LATCH_CFG.LAT_SRC 0 = true → L.on Int.latchRun = true →
        K.rd Int.latchAt = L.rd Int.latchAt ∧ K.rd (Int.cum 0x7C) = (L.rd (Int.cum 0x7C) + 1) % 2 ^ 16) ∧
      (L.bitOf FBI_LATCH_CFG.LAT_SRC 0 = false →
        L.onlyFields K [Int.actCount, Int.actInstants 0, Int.actInstants 1, Int.actInstants 2])) ∧
  (∀ (s : State) (l : LaneId) (L : Lane), s.lane l = L → L.on Int.latchRun = true → L.on FBI_LATCH_STATUS.LATCHED = false →
    ∃ K, exec (.latchCaptureComplete l) s = .next (s.onLane l (fun _ => K)) ∧ K.on FBI_LATCH_STATUS.LATCHED = true ∧ K.on Int.latchRun = false ∧
      K.rd FBI_LAT.LAT_FTB = L.rd Int.latchAt % 2 ^ 32 ∧ K.rd FBI_LATCH_STATUS.LAT_CAUSE = L.rd Int.latchBy % 2 ^ FBI_LATCH_STATUS.LAT_CAUSE.width ∧
      (∀ n < 8, L.bitOf Int.latchTouched n = true → K.rd (FBI_AX_LAT.LAT_POS n) = L.rd (Int.latSave n 0) % 2 ^ 32) ∧
      (∀ n < 8, L.bitOf Int.latchTouched n = false → K.rd (FBI_AX_LAT.LAT_POS n) = L.rd (FBI_AX.POS n) % 2 ^ 32) ∧
      (∀ n < 8, K.rd (FBI_AX.POS n) = L.rd (FBI_AX.POS n)) ∧ K.mem = L.mem ∧ K.nor = L.nor) ∧
  (∀ (s : State) (l : LaneId) (L : Lane), s.lane l = L → L.on Int.latchRun = true → L.on FBI_LATCH_STATUS.LATCHED = true →
    ∃ K, exec (.latchCaptureComplete l) s = .next (s.onLane l (fun _ => K)) ∧ K.on FBI_LATCH_STATUS.LATCHED = true ∧ K.on Int.latchRun = false ∧
      K.rd FBI_LAT.LAT_FTB = L.rd FBI_LAT.LAT_FTB ∧ (∀ n < 8, K.rd (FBI_AX_LAT.LAT_POS n) = L.rd (FBI_AX_LAT.LAT_POS n)) ∧
      K.rd FBI_LATCH_STATUS.LATCH_MISSED = min (L.rd FBI_LATCH_STATUS.LATCH_MISSED + 1) (2 ^ FBI_LATCH_STATUS.LATCH_MISSED.width - 1) ∧
      K.rd (Int.cum 0x7C) = (L.rd (Int.cum 0x7C) + 1) % 2 ^ 16 ∧ K.mem = L.mem ∧ K.nor = L.nor) ∧
  (∀ (s : State) (l : LaneId), (s.lane l).on Int.latchRun = false → exec (.latchCaptureComplete l) s = .next (s.onLane l id))

/-- THRESHOLD_WRITE of OV1 and OV2, whatever is written, leaves CH_FULL ≤ OV1 < OV2 < OV3 where OV3 stands at least 2 V
above CH_FULL; values already in that order are stored as written. A write of OV3 leaves it above OV2 and at most the
rail full scale where that is above OV2; a value inside is stored as written, and HYST always is. A write of CH_ON and
CH_FULL leaves 1 ≤ CH_ON < CH_FULL ≤ OV1 where OV1 is at least 2; values already in that order are stored as written.
The other rails and every other field keep their values. RAIL_CONVERSION while the PERIPH domain runs stores the code,
clamped to 16383, and CLIP; while it is stopped the conversion changes nothing; while EN is 0 it evaluates nothing: no
threshold bit of the rail changes and no energy is added. With EN 1 and no clipping the three thresholds are evaluated
in order, then REGEN_K, loss injection and the energy account. A threshold above which the conversion lies, not yet
taken, whose run reaches FILT with it is taken and its SEEN bit set; one taken, the conversion being at or below it
less HYST, is released when the run reaches FILT; below FILT only the run grows; a conversion not toward the change
clears the run. RAIL_ENABLE to 0 releases every threshold of the rail at once and shows REGEN_K 255; to 1 it sets EN
and nothing else. Memory is unchanged in each case. ERESET clears both counters of the rail and captures the present
rail voltage, code times full scale, as the reference, and changes nothing else. ENERGY_CHECK changes nothing while EN
is 0; else, e being EIN - EOUT less the change of the energy of C_RAIL since the reference, within 2 % of EIN + EOUT
plus E_FLOOR it changes ERES alone; outside it sets EMISMATCH and raises source 0x87. Memory is unchanged in each
case. (R197, R214, R196, R198, R202, R210) -/
def Obligations.RailThresholdsConversionsAndEnergy : Prop :=
  ((∀ (s : State) (l : LaneId) (k : Fin 4) (d : Nat) (L : Lane), s.lane l = L → L.rd (DCL_RAIL_CH.CH_FULL k) + 2 ≤ L.rd (DCL_RAIL_OV3.OV3 k) →
    L.rd (DCL_RAIL_OV3.OV3 k) < 4096 →
    ∃ K, exec (.thresholdWrite l k 0 d) s = .next (s.onLane l (fun _ => K)) ∧ L.rd (DCL_RAIL_CH.CH_FULL k) ≤ K.rd (DCL_RAIL_OV12.OV1 k) ∧
      K.rd (DCL_RAIL_OV12.OV1 k) < K.rd (DCL_RAIL_OV12.OV2 k) ∧ K.rd (DCL_RAIL_OV12.OV2 k) < L.rd (DCL_RAIL_OV3.OV3 k) ∧
      (L.rd (DCL_RAIL_CH.CH_FULL k) ≤ slice 0 12 d → slice 0 12 d < slice 16 12 d → slice 16 12 d < L.rd (DCL_RAIL_OV3.OV3 k) →
        K.rd (DCL_RAIL_OV12.OV1 k) = slice 0 12 d ∧ K.rd (DCL_RAIL_OV12.OV2 k) = slice 16 12 d) ∧
      L.onlyFields K [DCL_RAIL_OV12.OV1 k, DCL_RAIL_OV12.OV2 k]) ∧
  (∀ (s : State) (l : LaneId) (k : Fin 4) (d : Nat) (L : Lane), s.lane l = L → L.rd (DCL_RAIL_OV12.OV2 k) < L.rd (DCL_RAIL_CFG.RAIL_FS k) →
    L.rd (DCL_RAIL_CFG.RAIL_FS k) < 4096 →
    ∃ K, exec (.thresholdWrite l k 1 d) s = .next (s.onLane l (fun _ => K)) ∧ L.rd (DCL_RAIL_OV12.OV2 k) < K.rd (DCL_RAIL_OV3.OV3 k) ∧
      K.rd (DCL_RAIL_OV3.OV3 k) ≤ L.rd (DCL_RAIL_CFG.RAIL_FS k) ∧ K.rd (DCL_RAIL_OV3.HYST k) = slice 16 8 d ∧
      (L.rd (DCL_RAIL_OV12.OV2 k) < slice 0 12 d → slice 0 12 d ≤ L.rd (DCL_RAIL_CFG.RAIL_FS k) → K.rd (DCL_RAIL_OV3.OV3 k) = slice 0 12 d) ∧
      L.onlyFields K [DCL_RAIL_OV3.OV3 k, DCL_RAIL_OV3.HYST k]) ∧
  (∀ (s : State) (l : LaneId) (k : Fin 4) (d : Nat) (L : Lane), s.lane l = L → 2 ≤ L.rd (DCL_RAIL_OV12.OV1 k) → L.rd (DCL_RAIL_OV12.OV1 k) < 4096 →
    ∃ K, exec (.thresholdWrite l k 2 d) s = .next (s.onLane l (fun _ => K)) ∧ 1 ≤ K.rd (DCL_RAIL_CH.CH_ON k) ∧
      K.rd (DCL_RAIL_CH.CH_ON k) < K.rd (DCL_RAIL_CH.CH_FULL k) ∧ K.rd (DCL_RAIL_CH.CH_FULL k) ≤ L.rd (DCL_RAIL_OV12.OV1 k) ∧
      (1 ≤ slice 0 12 d → slice 0 12 d < slice 16 12 d → slice 16 12 d ≤ L.rd (DCL_RAIL_OV12.OV1 k) →
        K.rd (DCL_RAIL_CH.CH_ON k) = slice 0 12 d ∧ K.rd (DCL_RAIL_CH.CH_FULL k) = slice 16 12 d) ∧
      L.onlyFields K [DCL_RAIL_CH.CH_ON k, DCL_RAIL_CH.CH_FULL k])) ∧
  ((∀ (s : State) (l : LaneId) (k : Fin 4) (code : Nat), (s.lane l).on (FCK_DOM_CTL.RUN_EN 2) = false →
    exec (.railConversion l k code) s = .next (s.onLane l id)) ∧
  (∀ (s : State) (l : LaneId) (k : Fin 4) (code : Nat) (L : Lane), s.lane l = L → L.on (FCK_DOM_CTL.RUN_EN 2) = true →
    L.on (DCL_RAIL_CFG.EN k) = false →
    ∃ K, exec (.railConversion l k code) s = .next (s.onLane l (fun _ => K)) ∧ K.rd (Int.railCode k) = min code 16383 ∧
      K.on (DCL_RAIL_STATUS.CLIP k) = decide (16383 ≤ code) ∧ (∀ i < 3, K.rd (ovAct k i) = L.rd (ovAct k i)) ∧
      K.rd (DCL_RAIL.EIN k) = L.rd (DCL_RAIL.EIN k) ∧ K.rd (DCL_RAIL.EOUT k) = L.rd (DCL_RAIL.EOUT k) ∧ K.mem = L.mem ∧ K.nor = L.nor) ∧
  (∀ (s : State) (l : LaneId) (k : Fin 4) (code : Nat) (L J : Lane), s.lane l = L → L.on (FCK_DOM_CTL.RUN_EN 2) = true →
    L.on (DCL_RAIL_CFG.EN k) = true → code < 16383 →
    J = (((L.wrAt (Int.railCode k) code L.ftb).wr (DCL_RAIL_STATUS.U_V k) (divRound 196 ((code : Int) * L.rd (DCL_RAIL_CFG.RAIL_FS k)) 16383).toNat).wr
      (DCL_RAIL_STATUS.CLIP k) 0).wr (Int.clipRun k) 0 →
    ∃ K, exec (.railConversion l k code) s = .next (s.onLane l (fun _ => K)) ∧
      K = (((((J.evalOv k 0).evalOv k 1).evalOv k 2).syncRegen k).syncLoss).addEnergy k ∧ K.rd (Int.railCode k) = code ∧
      K.mem = L.mem ∧ K.nor = L.nor) ∧
  (∀ (L : Lane) (k i : Nat), k < 4 → i < 3 → L.on (ovAct k i) = false → L.railAbove k (L.rd (ovValue k i)) = true →
    L.rd (DCL_RAIL_CFG.FILT k) ≤ L.rd (Int.ovRun k i) + 1 → (L.evalOv k i).on (ovAct k i) = true ∧ (L.evalOv k i).on (ovSeen k i) = true) ∧
  (∀ (L : Lane) (k i : Nat), k < 4 → i < 3 → L.on (ovAct k i) = true → L.rd (DCL_RAIL_OV3.HYST k) ≤ L.rd (ovValue k i) →
    L.railAbove k (L.rd (ovValue k i) - L.rd (DCL_RAIL_OV3.HYST k)) = false →
    L.rd (DCL_RAIL_CFG.FILT k) ≤ L.rd (Int.ovRun k i) + 1 → (L.evalOv k i).on (ovAct k i) = false) ∧
  (∀ (L : Lane) (k i : Nat), k < 4 → i < 3 → L.on (ovAct k i) = false → L.railAbove k (L.rd (ovValue k i)) = true →
    L.rd (Int.ovRun k i) + 1 < L.rd (DCL_RAIL_CFG.FILT k) → L.evalOv k i = L.wr (Int.ovRun k i) (L.rd (Int.ovRun k i) + 1)) ∧
  (∀ (L : Lane) (k i : Nat), k < 4 → i < 3 → L.on (ovAct k i) = false → L.railAbove k (L.rd (ovValue k i)) = false →
    L.evalOv k i = L.wr (Int.ovRun k i) 0) ∧
  (∀ (s : State) (l : LaneId) (k : Fin 4) (L : Lane), s.lane l = L →
    ∃ K, exec (.railEnable l k false) s = .next (s.onLane l (fun _ => K)) ∧ K.on (DCL_RAIL_CFG.EN k) = false ∧ (∀ i < 3, K.on (ovAct k i) = false) ∧
      K.rd (DCL_RAIL_STATUS.REGEN_K k) = 255 ∧ K.mem = L.mem ∧ K.nor = L.nor) ∧
  (∀ (s : State) (l : LaneId) (k : Fin 4) (L : Lane), s.lane l = L →
    ∃ K, exec (.railEnable l k true) s = .next (s.onLane l (fun _ => K)) ∧ K.on (DCL_RAIL_CFG.EN k) = true ∧ L.onlyFields K [DCL_RAIL_CFG.EN k])) ∧
  ((∀ (s : State) (l : LaneId) (k : Fin 4) (L : Lane), s.lane l = L →
    ∃ K, exec (.ereset l k) s = .next (s.onLane l (fun _ => K)) ∧ K.rd (DCL_RAIL.EIN k) = 0 ∧ K.rd (DCL_RAIL.EOUT k) = 0 ∧
      K.rd (Int.uRef k) = (L.rd (Int.railCode k) * L.rd (DCL_RAIL_CFG.RAIL_FS k)) % 2 ^ (Int.uRef k).width ∧
      L.onlyFields K [Int.eInFine k, Int.eOutFine k, DCL_RAIL.EIN k, DCL_RAIL.EOUT k, Int.uRef k]) ∧
  (∀ (s : State) (l : LaneId) (k : Fin 4), (s.lane l).on (DCL_RAIL_CFG.EN k) = false → exec (.energyCheck l k) s = .next (s.onLane l id)) ∧
  (∀ (s : State) (l : LaneId) (k : Fin 4) (L : Lane) (u r e tol : Int), s.lane l = L → L.on (DCL_RAIL_CFG.EN k) = true →
    u = (L.rd (Int.railCode k) : Int) * L.rd (DCL_RAIL_CFG.RAIL_FS k) → r = L.rd (Int.uRef k) →
    e = 20 * ((L.rd (DCL_RAIL.EIN k) : Int) - L.rd (DCL_RAIL.EOUT k)) * (16383 * 16383) - (L.rd (DCL_RAIL_ECFG.C_RAIL k) : Int) * (u * u - r * r) →
    tol = (20 * ((L.rd (DCL_RAIL.EIN k) : Int) + L.rd (DCL_RAIL.EOUT k)) + 1000000 * (L.rd (DCL_RAIL_ECFG.E_FLOOR k) : Int)) * (16383 * 16383) →
    (50 * (e.natAbs : Int) ≤ tol →
      ∃ K, exec (.energyCheck l k) s = .next (s.onLane l (fun _ => K)) ∧ L.onlyFields K [DCL_RAIL_ERES.ERES k]) ∧
    (tol < 50 * (e.natAbs : Int) →
      ∃ K, exec (.energyCheck l k) s = .next (s.onLane l (fun _ => K)) ∧ K.on (DCL_RAIL_FLAGS.EMISMATCH k) = true ∧
        K.rd (Int.cum 0x87) = (L.rd (Int.cum 0x87) + 1) % 2 ^ 16 ∧ K.rd (DCL_RAIL.EIN k) = L.rd (DCL_RAIL.EIN k) ∧
        K.rd (DCL_RAIL.EOUT k) = L.rd (DCL_RAIL.EOUT k) ∧ K.mem = L.mem ∧ K.nor = L.nor)))

/-- FAULT_ARRIVAL of one real occurrence of a source while BGR_STATE is CLEAR: the first-fault record names it with its
severity, not forced, and is valid, and its counter goes up, saturating. With a severity below S4 the state is
LATCHED, the exit decision stays, at S3 the PEND bit is set, and nothing waits for the collector any more; at S4 the
state is FAULT and E0 is latched. In LATCHED, below S4, the record keeps its source, OVERFLOW is set, LATER_CNT counts
and LATER_MAX is at least the severity. Sources named by the command arrive in one cycle with those that wait. Memory
is unchanged below S4. FAULT_FORCE of a defined host source with nothing else arriving, in a mode that allows it,
counts as forced and leaves the exit decision and memory as they were, whatever severity the source has; at S4 DRY is
set. In another mode it is refused and counted; an undefined source has no effect; a field source goes to the field
die as an injection. (R22, R288, R291, R293, R294, R295, R297, R298) -/
def Obligations.FaultArrivalsAndInjectedFaults : Prop :=
  ((∀ (s : State) (l : LaneId) (src : Nat) (L : Lane), s.lane l = L → L.inbox = [⟨src, false, 1, 0⟩] → src < 256 → L.rd BGR_STATE.STATE = 0 →
    L.severity src < 4 →
    ∃ K, exec (.faultArrival l []) s = .next (s.onLane l (fun _ => K)) ∧ K.rd BGR_STATE.STATE = 1 ∧ K.rd BGR_FIRST.ID = src ∧
      K.on BGR_FIRST.VALID = true ∧ K.rd BGR_FIRST.SEV = L.severity src ∧ K.inbox = [] ∧ K.rd Int.e0 = L.rd Int.e0 ∧
      (L.severity src = 3 → K.pending src = true) ∧ K.mem = L.mem ∧ K.nor = L.nor ∧
      K.rd (BGR_CNT.CNT src) = min (L.rd (BGR_CNT.CNT src) + 1) (2 ^ (BGR_CNT.CNT src).width - 1)) ∧
  (∀ (s : State) (l : LaneId) (src : Nat) (L : Lane), s.lane l = L → L.inbox = [⟨src, false, 1, 0⟩] → src < 256 → L.rd BGR_STATE.STATE = 0 →
    L.severity src = 4 → L.on Int.e0 = false → L.canExit = true →
    ∃ K, exec (.faultArrival l []) s = .next (s.onLane l (fun _ => K)) ∧ K.rd BGR_STATE.STATE = 2 ∧ K.on Int.e0 = true ∧
      K.rd BGR_FIRST.ID = src ∧ K.rd BGR_FIRST.SEV = 4 ∧ K.on BGR_FIRST.VALID = true ∧
      K.rd (BGR_CNT.CNT src) = min (L.rd (BGR_CNT.CNT src) + 1) (2 ^ (BGR_CNT.CNT src).width - 1)) ∧
  (∀ (s : State) (l : LaneId) (src : Nat) (L : Lane), s.lane l = L → L.inbox = [⟨src, false, 1, 0⟩] → src < 256 → L.rd BGR_STATE.STATE = 1 →
    L.severity src < 4 →
    ∃ K, exec (.faultArrival l []) s = .next (s.onLane l (fun _ => K)) ∧ K.rd BGR_STATE.STATE = 1 ∧ K.rd BGR_FIRST.ID = L.rd BGR_FIRST.ID ∧
      K.on BGR_FIRST.OVERFLOW = true ∧ K.rd BGR_FIRST.LATER_CNT = min (L.rd BGR_FIRST.LATER_CNT + 1) (2 ^ BGR_FIRST.LATER_CNT.width - 1) ∧
      L.severity src ≤ K.rd BGR_FIRST.LATER_MAX ∧ K.mem = L.mem ∧ K.nor = L.nor) ∧
  (∀ (s : State) (l : LaneId) (src : Nat) (L : Lane), s.lane l = L → sourceDefined src = true → fieldSource src = false →
    exec (.faultArrival l [src]) s =
      .next (s.onLane l (fun _ => ({ L with inbox := [] } : Lane).collect (L.inbox ++ [⟨src, false, 1, 0⟩]))) ∧
    exec (.faultArrival l []) s = .next (s.onLane l (fun _ => ({ L with inbox := [] } : Lane).collect L.inbox)))) ∧
  ((∀ (s : State) (l : LaneId) (src : Nat) (L : Lane), s.lane l = L → L.inbox = [] → forceAllowed L.mode = true → sourceDefined src = true →
    fieldSource src = false →
    ∃ K, exec (.faultForce l src) s = .next (s.onLane l (fun _ => K)) ∧ K.rd Int.e0 = L.rd Int.e0 ∧ K.mem = L.mem ∧ K.nor = L.nor ∧
      (L.severity src = 4 → K.on BGR_STATE.DRY = true) ∧
      K.rd BGR_STATE.FORCED_CNT = min (L.rd BGR_STATE.FORCED_CNT + 1) (2 ^ BGR_STATE.FORCED_CNT.width - 1)) ∧
  (∀ (s : State) (l : LaneId) (src : Nat) (L : Lane), s.lane l = L → forceAllowed L.mode = false →
    ∃ K, exec (.faultForce l src) s = .next (s.onLane l (fun _ => K)) ∧
      K.rd BGR_STATE.FORCE_REFUSED = min (L.rd BGR_STATE.FORCE_REFUSED + 1) (2 ^ BGR_STATE.FORCE_REFUSED.width - 1) ∧
      L.onlyFields K [BGR_STATE.FORCE_REFUSED]) ∧
  (∀ (s : State) (l : LaneId) (src : Nat), forceAllowed (s.lane l).mode = true → sourceDefined src = false →
    exec (.faultForce l src) s = .next (s.onLane l id)) ∧
  (∀ (s : State) (l : LaneId) (src : Nat), forceAllowed (s.lane l).mode = true → sourceDefined src = true → fieldSource src = true →
    exec (.faultForce l src) s = .next (s.onLane l (fun L => L.toField (.control (.inject src))))))

/-- PEND_ACK clears the PEND bits written 1 and changes no other field but PEND_ANY and the events of the pairs; with a
fault arriving in the same cycle its S3 arrival sets its PEND bit, whatever is written. REACTION_TIMER_EXPIRY with no
pending fault, or in FAULT, changes nothing; for a pending fault that a real occurrence set it latches E0, sets
ESC_TIMER, and the state is FAULT; for one that only an injection set it sets DRY and leaves the exit decision.
FIRST_FAULT_CLEAR in LATCHED with nothing arriving returns to CLEAR and empties the record, and changes nothing else;
with faults arriving in the same cycle it does what FAULT_ARRIVAL does; outside LATCHED it changes nothing. (R8, R289,
R293, R295, R298, R374) -/
def Obligations.PendingFaultsAndReactionTimer : Prop :=
  (∀ (s : State) (l : LaneId) (k mask : Nat) (L : Lane), s.lane l = L →
    ∃ K, exec (.pendAck l k mask false) s = .next (s.onLane l (fun _ => K)) ∧
      (∀ i < 32, K.bitOf (BGR_PEND.BITS (k % 8)) i = (L.bitOf (BGR_PEND.BITS (k % 8)) i && ! mask.testBit i)) ∧
      L.keepsBut K ([BGR_PEND.BITS (k % 8), BGR_STATE.PEND_ANY] ++ eventFields)) ∧
  (∀ (s : State) (l : LaneId) (k mask src : Nat) (L : Lane), s.lane l = L → L.inbox = [⟨src, false, 1, 0⟩] → src < 256 → L.severity src = 3 →
    ∃ K, exec (.pendAck l k mask true) s = .next (s.onLane l (fun _ => K)) ∧ K.pending src = true ∧ K.inbox = [] ∧ K.mem = L.mem ∧ K.nor = L.nor) ∧
  (∀ (s : State) (l : LaneId), ((s.lane l).rd BGR_STATE.STATE = 2 ∨ (s.lane l).oldestPending = none) →
    exec (.reactionTimerExpiry l) s = .next (s.onLane l id)) ∧
  (∀ (s : State) (l : LaneId) (k : Nat) (L : Lane), s.lane l = L → L.rd BGR_STATE.STATE ≠ 2 → L.oldestPending = some k →
    L.on (Int.pendForced k) = false → L.on Int.e0 = false → L.canExit = true →
    ∃ K, exec (.reactionTimerExpiry l) s = .next (s.onLane l (fun _ => K)) ∧ K.on Int.e0 = true ∧ K.rd BGR_STATE.STATE = 2 ∧
      K.on BGR_STATE.ESC_TIMER = true) ∧
  (∀ (s : State) (l : LaneId) (k : Nat) (L : Lane), s.lane l = L → L.rd BGR_STATE.STATE ≠ 2 → L.oldestPending = some k →
    L.on (Int.pendForced k) = true →
    ∃ K, exec (.reactionTimerExpiry l) s = .next (s.onLane l (fun _ => K)) ∧ K.on BGR_STATE.DRY = true ∧ K.rd Int.e0 = L.rd Int.e0 ∧
      L.onlyFields K [Int.pendFired k, BGR_ESC.ESC_TIME, BGR_STATE.DRY]) ∧
  (∀ (s : State) (l : LaneId) (same : Bool) (L : Lane), s.lane l = L → L.rd BGR_STATE.STATE = 1 → (same = false ∨ L.inbox = []) →
    ∃ K, exec (.firstFaultClear l same) s = .next (s.onLane l (fun _ => K)) ∧ K.rd BGR_STATE.STATE = 0 ∧ K.on BGR_FIRST.VALID = false ∧
      K.rd BGR_FIRST.ID = 0 ∧
      L.onlyFields K [BGR_FIRST.ID, BGR_FIRST.SEV, BGR_FIRST.FORCED, BGR_FIRST.OBSERVED, BGR_FIRST.ORIGIN, BGR_FIRST.TCLK, BGR_FIRST.VALID,
        BGR_FIRST.OVERFLOW, BGR_FIRST.LATER_MAX, BGR_FIRST.LATER_CNT, BGR_FIRST_T.T, BGR_FIRST_FTB.FTB, BGR_STATE.STATE]) ∧
  (∀ (s : State) (l : LaneId), (s.lane l).rd BGR_STATE.STATE = 1 → (s.lane l).inbox ≠ [] →
    exec (.firstFaultClear l true) s = exec (.faultArrival l []) s) ∧
  (∀ (s : State) (l : LaneId) (same : Bool), (s.lane l).rd BGR_STATE.STATE ≠ 1 → exec (.firstFaultClear l same) s = .next (s.onLane l id))

/-- FIELD_FAULT_MESSAGE takes the first urgent message before the ordered channel, whose first item it takes where that is
a fault message, its credit starting back. A real message whose CUM is n above the last one taken adds n to the
counter of its source, CUM is noted, and, with the link up and a credit held, its acknowledgement leaves; at S4 the
lane exits. One already taken adds nothing and is acknowledged again. An injected one counts as forced and leaves the
exit decision. With no message nothing changes. FAULT_ACKNOWLEDGE at the head of the ordered channel is taken, its CUM
noted, the occurrences it covers are dropped, and its credit starts back; another item leaves everything. (R288, R292,
R297, R302, R306) -/
def Obligations.FieldFaultMessagesCountedOnce : Prop :=
  (∀ (s : State) (l : LaneId) (m : FieldMsg) (r : List FieldMsg) (n : Nat) (L : Lane), s.lane l = L → L.urgent = m :: r → m.forced = false →
    fieldSource m.src = true → n = (m.cum + 65536 - L.rd (Int.last m.src)) % 65536 → n ≠ 0 → L.severity m.src < 4 →
    ∃ K, exec (.fieldFaultMessage l) s = .next (s.onLane l (fun _ => K)) ∧ K.urgent = r ∧ K.rd (Int.last m.src) = m.cum % 2 ^ 16 ∧
      K.rd (BGR_CNT.CNT m.src) = min (L.rd (BGR_CNT.CNT m.src) + n) (2 ^ (BGR_CNT.CNT m.src).width - 1) ∧ K.mem = L.mem ∧ K.nor = L.nor ∧
      (L.on COU_STATUS.LINK = true → L.couQueue = [] → 0 < L.rd COU_STATUS.CREDITS → K.down = L.down ++ [.faultAck m.src m.cum])) ∧
  (∀ (s : State) (l : LaneId) (m : FieldMsg) (r : List FieldMsg) (n : Nat) (L : Lane), s.lane l = L → L.urgent = m :: r → m.forced = false →
    fieldSource m.src = true → n = (m.cum + 65536 - L.rd (Int.last m.src)) % 65536 → n ≠ 0 → L.severity m.src = 4 →
    L.on Int.e0 = false → L.canExit = true →
    ∃ K, exec (.fieldFaultMessage l) s = .next (s.onLane l (fun _ => K)) ∧ K.on Int.e0 = true ∧
      K.rd (BGR_CNT.CNT m.src) = min (L.rd (BGR_CNT.CNT m.src) + n) (2 ^ (BGR_CNT.CNT m.src).width - 1)) ∧
  (∀ (s : State) (l : LaneId) (m : FieldMsg) (r : List FieldMsg) (L : Lane), s.lane l = L → L.urgent = m :: r → m.forced = false →
    (m.cum + 65536 - L.rd (Int.last m.src)) % 65536 = 0 →
    ∃ K, exec (.fieldFaultMessage l) s = .next (s.onLane l (fun _ => K)) ∧
      K = (({ L with urgent := r } : Lane).wr (Int.last m.src) m.cum).toField (.faultAck m.src m.cum)) ∧
  (∀ (s : State) (l : LaneId) (m : FieldMsg) (r : List FieldMsg) (L : Lane), s.lane l = L → L.urgent = m :: r → m.forced = true →
    ∃ K, exec (.fieldFaultMessage l) s = .next (s.onLane l (fun _ => K)) ∧ K.urgent = r ∧ K.rd Int.e0 = L.rd Int.e0 ∧ K.mem = L.mem ∧ K.nor = L.nor ∧
      K.rd BGR_STATE.FORCED_CNT = min (L.rd BGR_STATE.FORCED_CNT + 1) (2 ^ BGR_STATE.FORCED_CNT.width - 1)) ∧
  (∀ (s : State) (l : LaneId) (m : FieldMsg) (r : List UpItem) (L J : Lane), s.lane l = L → L.urgent = [] → L.up = .fault m :: r →
    J = ({ L with up := r } : Lane).wr Int.upBack (L.rd Int.upBack + 1) →
    exec (.fieldFaultMessage l) s = .next (s.onLane l (fun _ => J.takeFieldMsg m))) ∧
  (∀ (s : State) (l : LaneId), (s.lane l).urgent = [] → (∀ m r, (s.lane l).up ≠ .fault m :: r) →
    exec (.fieldFaultMessage l) s = .next (s.onLane l id)) ∧
  (∀ (s : State) (l : LaneId) (src cum : Nat) (r : List DownItem) (L : Lane), s.lane l = L → L.down = .faultAck src cum :: r →
    ∃ K, exec (.faultAcknowledge l) s = .next (s.onLane l (fun _ => K)) ∧ K.down = r ∧ K.downCredits = L.downCredits ++ [false] ∧
      K.rd (Int.acked src) = cum % 2 ^ 16 ∧ K.mem = L.mem ∧ K.nor = L.nor ∧
      K.occurrences = L.occurrences.filter (fun m => ! (m.src = src && (cum + 65536 - m.cum) % 65536 < 32768))) ∧
  (∀ (s : State) (l : LaneId), (∀ src cum r, (s.lane l).down ≠ .faultAck src cum :: r) → exec (.faultAcknowledge l) s = .next (s.onLane l id))

/-- LOG_POP removes the oldest log entry and leaves the others; BGR_LOG shows how many are held, and nothing else changes.
SEVERITY_WRITE in SERVICE with the seal open stores for each of the eight defined sources of its word the written
severity, at most 4 and at least the floor of the source; an undefined source and the sources of other words keep
theirs; outside, it is refused and counted, and nothing else changes. (R289, R290, R299) -/
def Obligations.FaultLogAndSeverityWrites : Prop :=
  (∀ (s : State) (l : LaneId) (L : Lane), s.lane l = L →
    ∃ K, exec (.logPop l) s = .next (s.onLane l (fun _ => K)) ∧ K.log = L.log.drop 1 ∧ K.rd BGR_LOG.USED = (L.log.drop 1).length % 2 ^ BGR_LOG.USED.width ∧
      ({ L with log := L.log.drop 1 } : Lane).onlyFields K [BGR_LOG.ID, BGR_LOG.SEV, BGR_LOG.QUAL, BGR_LOG.TCLK, BGR_LOG.USED, BGR_LOG_T.T]) ∧
  (∀ (s : State) (l : LaneId) (k data : Nat) (L : Lane), s.lane l = L → L.mode = mService → L.rd SSF_SEAL.READING = 7 →
    ∃ K, exec (.severityWrite l k data) s = .next (s.onLane l (fun _ => K)) ∧ K.mem = L.mem ∧ K.nor = L.nor ∧
      (∀ j < 8, sourceDefined (8 * (k % 32) + j) = true →
        K.severity (8 * (k % 32) + j) = max (sourceFloor (8 * (k % 32) + j)) (min (slice (4 * j) 4 data) 4)) ∧
      (∀ i < 256, (i / 8 ≠ k % 32 ∨ sourceDefined i = false) → K.severity i = L.severity i)) ∧
  (∀ (s : State) (l : LaneId) (k data : Nat) (L : Lane), s.lane l = L → (L.mode ≠ mService ∨ L.rd SSF_SEAL.READING ≠ 7) →
    ∃ K, exec (.severityWrite l k data) s = .next (s.onLane l (fun _ => K)) ∧
      K.rd BGR_STATE.SEV_WR_REFUSED = min (L.rd BGR_STATE.SEV_WR_REFUSED + 1) (2 ^ BGR_STATE.SEV_WR_REFUSED.width - 1) ∧
      L.onlyFields K [BGR_STATE.SEV_WR_REFUSED])

/-- SYNC_SEND with a live Couch puts a marker with the lane time on the way; without one it changes nothing. SYNC_RECEIPT
of a marker over a live Couch stamps it in quarter nanoseconds less the barrier delay, keeps the pair before it,
SYNC_VALID holds from the second pair on, and a status item answers; without a marker or the link it only takes the
marker. SYNC_LOSS clears SYNC_VALID, the count of pairs and ALIGNED of every group, and nothing else. (R154, R302,
R305, R402) -/
def Obligations.SyncMarkersMapTheTimebases : Prop :=
  (∀ (s : State) (l : LaneId) (L : Lane), s.lane l = L → L.on COU_STATUS.LINK = true →
    ∃ K, exec (.syncSend l) s = .next (s.onLane l (fun _ => K)) ∧ K.on Int.syncFly = true ∧ K.rd Int.syncL = L.now % 2 ^ 64 ∧
      L.onlyFields K [Int.syncFly, Int.syncL]) ∧
  (∀ (s : State) (l : LaneId), (s.lane l).on COU_STATUS.LINK = false → exec (.syncSend l) s = .next (s.onLane l id)) ∧
  (∀ (s : State) (l : LaneId) (q : Fin 4) (L : Lane), s.lane l = L → L.on Int.syncFly = true → L.on Int.fieldLink = true →
    ∃ K, exec (.syncReceipt l q) s = .next (s.onLane l (fun _ => K)) ∧ K.rd (Int.ftbF 0) = (4 * L.ftb + q - L.rd CFG_CAL.BARRIER) % 2 ^ 64 ∧
      K.rd (Int.ftbL 0) = L.rd Int.syncL % 2 ^ 64 ∧ K.rd (Int.ftbF 1) = L.rd (Int.ftbF 0) % 2 ^ 64 ∧ K.rd (Int.ftbL 1) = L.rd (Int.ftbL 0) % 2 ^ 64 ∧
      K.on Int.syncFly = false ∧ K.on Int.syncValid = decide (1 ≤ L.rd Int.syncN) ∧ K.statusItem ∈ K.up ++ K.upQueue ∧ K.mem = L.mem ∧ K.nor = L.nor) ∧
  (∀ (s : State) (l : LaneId) (q : Fin 4) (L : Lane), s.lane l = L → (L.on Int.syncFly = false ∨ L.on Int.fieldLink = false) →
    ∃ K, exec (.syncReceipt l q) s = .next (s.onLane l (fun _ => K)) ∧ K.on Int.syncFly = false ∧ L.onlyFields K [Int.syncFly]) ∧
  (∀ (s : State) (l : LaneId) (L : Lane), s.lane l = L →
    ∃ K, exec (.syncLoss l) s = .next (s.onLane l (fun _ => K)) ∧ K.on Int.syncValid = false ∧ K.rd Int.syncN = 0 ∧
      (∀ g < 12, K.on (PWM_GROUP_STATUS.ALIGNED g) = false) ∧
      L.onlyFields K ([Int.syncValid, Int.syncN] ++ (List.range 12).map (fun g => PWM_GROUP_STATUS.ALIGNED g)))

/-- FIELD_REGISTER_WRITE by a pair whose outputs are not held, to an aligned field address inside a block window, with a
live Couch and an empty queue: with a credit the item is on its way and the credit spent; without one it waits in the
queue. FIELD_REGISTER_READ of an aligned field address with a live Couch marks the read outstanding at the lane time
and sends the request. A misaligned address, or no link, is a bus error of the pair (event 1, where it is neither
fenced nor withdrawn), and so is a write outside every block window. READ_TIMEOUT of an outstanding read ends it with
a bus error and source 0x43; with none outstanding it changes nothing. The access of a pair whose outputs are held,
and an address that is not a field address, change nothing. Nothing else changes. (R6, R221, R304, R306, R374) -/
def Obligations.FieldAccessesArePostedOrStall : Prop :=
  (∀ (s : State) (l : LaneId) (p : Fin 4) (a d : Nat) (L : Lane), s.lane l = L → fieldAssigned a = true → a % 4 = 0 → L.pairHeld p = false →
    L.on COU_STATUS.LINK = true → L.couQueue = [] → 0 < L.rd COU_STATUS.CREDITS →
    ∃ K, exec (.fieldRegisterWrite l p a d) s = .next (s.onLane l (fun _ => K)) ∧ K.down = L.down ++ [.write a (d % 2 ^ 32)] ∧ K.couQueue = [] ∧
      K.rd COU_STATUS.CREDITS = (L.rd COU_STATUS.CREDITS - 1) % 2 ^ COU_STATUS.CREDITS.width ∧
      ({ L with down := L.down ++ [.write a (d % 2 ^ 32)] } : Lane).onlyFields K couchFields) ∧
  (∀ (s : State) (l : LaneId) (p : Fin 4) (a d : Nat) (L : Lane), s.lane l = L → fieldAssigned a = true → a % 4 = 0 → L.pairHeld p = false →
    L.on COU_STATUS.LINK = true → L.rd COU_STATUS.CREDITS = 0 →
    ∃ K, exec (.fieldRegisterWrite l p a d) s = .next (s.onLane l (fun _ => K)) ∧ K.down = L.down ∧
      K.couQueue = L.couQueue ++ [.write a (d % 2 ^ 32)] ∧
      ({ L with couQueue := L.couQueue ++ [.write a (d % 2 ^ 32)] } : Lane).onlyFields K couchFields) ∧
  (∀ (s : State) (l : LaneId) (p : Fin 4) (a d : Nat) (L : Lane), s.lane l = L → fieldAddr a = true → L.pairHeld p = false →
    (a % 4 ≠ 0 ∨ L.on COU_STATUS.LINK = false ∨ fieldAssigned a = false) →
    ∃ K, exec (.fieldRegisterWrite l p a d) s = .next (s.onLane l (fun _ => K)) ∧ (L.rd (LSC_PAIR_STATUS.STATE p) ≠ 5 → K.bitOf (Int.events p) 1 = true) ∧
      K.down = L.down ∧ K.couQueue = L.couQueue ∧ L.keepsBut K eventFields) ∧
  (∀ (s : State) (l : LaneId) (p : Fin 4) (a : Nat) (L : Lane), s.lane l = L → fieldAddr a = true → a % 4 = 0 → L.pairHeld p = false →
    L.on COU_STATUS.LINK = true →
    ∃ K, exec (.fieldRegisterRead l p a) s = .next (s.onLane l (fun _ => K)) ∧ K.on (Int.readOut p) = true ∧ K.rd (Int.readAt p) = L.now % 2 ^ 64 ∧
      K.down ++ K.couQueue = L.down ++ L.couQueue ++ [.readReq a p] ∧
      ({ L with down := K.down, couQueue := K.couQueue } : Lane).onlyFields K (couchFields ++ [Int.readOut p, Int.readAt p])) ∧
  (∀ (s : State) (l : LaneId) (p : Fin 4) (a : Nat) (L : Lane), s.lane l = L → fieldAddr a = true → L.pairHeld p = false →
    (a % 4 ≠ 0 ∨ L.on COU_STATUS.LINK = false) →
    ∃ K, exec (.fieldRegisterRead l p a) s = .next (s.onLane l (fun _ => K)) ∧ (L.rd (LSC_PAIR_STATUS.STATE p) ≠ 5 → K.bitOf (Int.events p) 1 = true) ∧
      K.down = L.down ∧ K.couQueue = L.couQueue ∧ L.keepsBut K eventFields) ∧
  (∀ (s : State) (l : LaneId) (p : Fin 4) (L : Lane), s.lane l = L → L.on (Int.readOut p) = true →
    ∃ K, exec (.readTimeout l p) s = .next (s.onLane l (fun _ => K)) ∧ K.on (Int.readOut p) = false ∧
      (L.rd (LSC_PAIR_STATUS.STATE p) ≠ 3 → L.rd (LSC_PAIR_STATUS.STATE p) ≠ 5 → K.bitOf (Int.events p) 1 = true) ∧
      K.inbox = L.inbox ++ [⟨0x43, false, 1, 0⟩] ∧ L.keepsBut K ([Int.readOut p] ++ eventFields)) ∧
  (∀ (s : State) (l : LaneId) (p : Fin 4), (s.lane l).on (Int.readOut p) = false → exec (.readTimeout l p) s = .next (s.onLane l id)) ∧
  (∀ (s : State) (l : LaneId) (p : Fin 4) (a d : Nat), (fieldAddr a = false ∨ (s.lane l).pairHeld p = true) →
    exec (.fieldRegisterWrite l p a d) s = .next (s.onLane l id) ∧ exec (.fieldRegisterRead l p a) s = .next (s.onLane l id))

/-- STATUS_ITEM at the head of the ordered channel is taken, its credit starting back: its axis speeds, SYNC_VALID and the
class G latch show in the host. EVENT_ITEM at the head is taken likewise and enters an event queue of fewer than 32
items; a full queue loses it and counts it; an entry to SAFE with a cause marks its axis absent. EVQ_READ by a pair
whose outputs are not held returns the oldest item with the number held and removes it, keeping the order of the rest;
with none held it returns 0. With another item at the head, or for a held pair, nothing changes. Memory is unchanged
by EVQ_READ and STATUS_ITEM. (R119, R302, R306, R314, R374) -/
def Obligations.FieldItemsReachTheHost : Prop :=
  (∀ (s : State) (l : LaneId) (sp fx rn : List Nat) (v g : Bool) (r : List UpItem) (L : Lane), s.lane l = L → L.up = .status sp fx rn v g :: r →
    ∃ K, exec (.statusItem l) s = .next (s.onLane l (fun _ => K)) ∧ K.up = r ∧ K.rd Int.upBack = (L.rd Int.upBack + 1) % 2 ^ Int.upBack.width ∧
      K.on COU_STATUS.SYNC_VALID = v ∧ K.on PSC_STATUS.G_LATCHED = g ∧ (∀ n < 8, K.rd (Int.axisSpeed n) = sp.getD n 0 % 2 ^ 32) ∧ K.mem = L.mem ∧ K.nor = L.nor) ∧
  (∀ (s : State) (l : LaneId), (∀ sp fx rn v g r, (s.lane l).up ≠ .status sp fx rn v g :: r) → exec (.statusItem l) s = .next (s.onLane l id)) ∧
  (∀ (s : State) (l : LaneId) (kd ax ix cs : Nat) (r : List UpItem) (L : Lane), s.lane l = L → L.up = .event kd ax ix cs :: r → L.evq.length < 32 →
    ∃ K, exec (.eventItem l) s = .next (s.onLane l (fun _ => K)) ∧ K.up = r ∧ K.evq = L.evq ++ [⟨kd, ax, ix, cs⟩] ∧
      K.rd Int.upBack = (L.rd Int.upBack + 1) % 2 ^ Int.upBack.width ∧
      (kd = 3 → cs ≠ 0 → ax < 8 → K.bitOf Int.axisAbsent ax = true)) ∧
  (∀ (s : State) (l : LaneId) (kd ax ix cs : Nat) (r : List UpItem) (L : Lane), s.lane l = L → L.up = .event kd ax ix cs :: r → 32 ≤ L.evq.length →
    ∃ K, exec (.eventItem l) s = .next (s.onLane l (fun _ => K)) ∧ K.up = r ∧ K.evq = L.evq ∧
      K.rd COU_EVQ_LOST.EVQ_LOST = min (L.rd COU_EVQ_LOST.EVQ_LOST + 1) (2 ^ COU_EVQ_LOST.EVQ_LOST.width - 1)) ∧
  (∀ (s : State) (l : LaneId), (∀ kd ax ix cs r, (s.lane l).up ≠ .event kd ax ix cs :: r) → exec (.eventItem l) s = .next (s.onLane l id)) ∧
  (∀ (s : State) (l : LaneId) (p : Fin 4) (e : EvItem) (r : List EvItem) (L : Lane), s.lane l = L → L.evq = e :: r → L.pairHeld p = false →
    ∃ K, exec (.evqRead l p) s = .next (s.onLane l (fun _ => K)) ∧ K.evq = r ∧ K.mem = L.mem ∧ K.nor = L.nor ∧
      K.rd (Int.readData p) = packWord [(e.kind, 0), (e.axis, 4), (e.index, 8), (e.cause, 16), (r.length + 1, 24)] % 2 ^ 32) ∧
  (∀ (s : State) (l : LaneId) (p : Fin 4) (L : Lane), s.lane l = L → L.evq = [] → L.pairHeld p = false →
    ∃ K, exec (.evqRead l p) s = .next (s.onLane l (fun _ => K)) ∧ K.evq = [] ∧ K.rd (Int.readData p) = 0 ∧ K.mem = L.mem ∧ K.nor = L.nor) ∧
  (∀ (s : State) (l : LaneId) (p : Fin 4), (s.lane l).pairHeld p = true → exec (.evqRead l p) s = .next (s.onLane l id))

/-- CREDIT_RETURN on the Couch to the field with a credit on its way gives it to the host, at most 16, or to the first
waiting item, which leaves; from the field likewise; with none on its way it changes nothing. On a Felt port with an
item outstanding beyond those on the way and none waiting, the credit goes back, at most 8; with none outstanding
beyond those nothing changes. A NACK on the Couch drops the oldest item on the way, counts it and reports source 0x42
at the host, or from the field source 0x41; on a Felt port it drops the oldest item, counts it and reports source 0x4B
at the sender and 0x4A at the sibling; with no item on the way it changes nothing. LINK_TIMEOUT of the Couch at the
host takes the link down and latches E0; at the field die it takes the link down there, is counted and latches the
exit there; of a Felt port it takes the link down and reports source 0x48 or 0x49; of the mailbox it takes the link
down and reports source 0x50; of a link that is down it changes nothing. A fabric port of the host die whose restart
times out has its next epoch and the lane exits; one of the field die has its next epoch and raises source 0x9D.
(R306, R308, R310, R307, R309, R311, R433, R440, R461) -/
def Obligations.CreditsAndLinkLosses : Prop :=
  ((∀ (s : State) (l : LaneId) (b : Bool) (r : List Bool) (L : Lane), s.lane l = L → L.downCredits = b :: r → L.couQueue = [] →
    ∃ K, exec (.creditReturn l 0 false) s = .next (s.onLane l (fun _ => K)) ∧ K.downCredits = r ∧ K.down = L.down ∧
      K.rd COU_STATUS.CREDITS = min 16 (L.rd COU_STATUS.CREDITS + 1) ∧ ({ L with downCredits := r } : Lane).onlyFields K couchFields) ∧
  (∀ (s : State) (l : LaneId) (b : Bool) (r : List Bool) (i : DownItem) (q : List DownItem) (L : Lane), s.lane l = L → L.downCredits = b :: r →
    L.couQueue = i :: q → L.rd COU_STATUS.CREDITS = 0 →
    ∃ K, exec (.creditReturn l 0 false) s = .next (s.onLane l (fun _ => K)) ∧ K.downCredits = r ∧ K.down = L.down ++ [i] ∧ K.couQueue = q ∧
      K.rd COU_STATUS.CREDITS = 0) ∧
  (∀ (s : State) (l : LaneId), (s.lane l).downCredits = [] → exec (.creditReturn l 0 false) s = .next (s.onLane l id)) ∧
  (∀ (s : State) (l : LaneId) (i : DownItem) (r : List DownItem) (L : Lane), s.lane l = L → L.down = i :: r → L.couQueue = [] →
    ∃ K, exec (.creditReturn l 0 true) s = .next (s.onLane l (fun _ => K)) ∧ K.down = r ∧
      K.rd COU_CNT.DROPPED = min (L.rd COU_CNT.DROPPED + 1) (2 ^ COU_CNT.DROPPED.width - 1) ∧ K.inbox = L.inbox ++ [⟨0x42, false, 1, 0⟩] ∧
      K.rd (Int.cum 0x41) = (L.rd (Int.cum 0x41) + 1) % 2 ^ 16) ∧
  (∀ (s : State) (l : LaneId) (L : Lane), s.lane l = L → L.rd Int.upBack ≠ 0 → L.upQueue = [] →
    ∃ K, exec (.creditReturn l 1 false) s = .next (s.onLane l (fun _ => K)) ∧ K.rd Int.upBack = (L.rd Int.upBack - 1) % 2 ^ Int.upBack.width ∧
      K.rd Int.fieldCredits = min 16 (L.rd Int.fieldCredits + 1) ∧ L.onlyFields K [Int.upBack, Int.fieldCredits, Int.fieldOut]) ∧
  (∀ (s : State) (l : LaneId), (s.lane l).rd Int.upBack = 0 → exec (.creditReturn l 1 false) s = .next (s.onLane l id)) ∧
  (∀ (s : State) (l : LaneId) (i : UpItem) (r : List UpItem) (L : Lane), s.lane l = L → L.up = i :: r → L.upQueue = [] →
    ∃ K, exec (.creditReturn l 1 true) s = .next (s.onLane l (fun _ => K)) ∧ K.up = r ∧ K.inbox = L.inbox ++ [⟨0x41, false, 1, 0⟩] ∧
      K.rd COU_LQ.CRC_ERR = min (L.rd COU_LQ.CRC_ERR + 1) (2 ^ COU_LQ.CRC_ERR.width - 1) ∧ K.mem = L.mem ∧ K.nor = L.nor) ∧
  (∀ (s : State) (l : LaneId) (k : Fin 4) (p : Fin 2) (L : Lane), s.lane l = L → (k : Nat) = 2 + p → L.feltWait p = [] →
    (L.felt p).length < L.rd (FLT_P_STATUS.OUTSTANDING p) →
    ∃ K, exec (.creditReturn l k false) s = .next (s.onLane l (fun _ => K)) ∧
      K.rd (FLT_P_STATUS.CREDITS p) = min 8 (L.rd (FLT_P_STATUS.CREDITS p) + 1) ∧ L.onlyFields K [FLT_P_STATUS.CREDITS p, FLT_P_STATUS.OUTSTANDING p]) ∧
  (∀ (s : State) (l : LaneId) (k : Fin 4) (p : Fin 2), (k : Nat) = 2 + p → (s.lane l).rd (FLT_P_STATUS.OUTSTANDING p) ≤ ((s.lane l).felt p).length →
    exec (.creditReturn l k false) s = .next (s.onLane l id)) ∧
  (∀ (s : State) (l m : LaneId) (k : Fin 4) (p : Fin 2) (i : FeltMsg) (r : List FeltMsg) (L M : Lane), s.lane l = L → (k : Nat) = 2 + p →
    m = laneNumbered (L.portPeer p) → s.lane m = M → l ≠ m → s.variant.fitted l = true → s.variant.fitted m = true → L.felt p = i :: r → L.feltWait p = [] →
    ∃ t, exec (.creditReturn l k true) s = .next t ∧ (t.lane l).felt p = r ∧ (t.lane l).inbox = L.inbox ++ [⟨0x4B, false, 1, 0⟩] ∧
      (t.lane l).rd (FLT_P_CNT.DROPPED p) = min (L.rd (FLT_P_CNT.DROPPED p) + 1) (2 ^ (FLT_P_CNT.DROPPED p).width - 1) ∧
      (t.lane m).inbox = M.inbox ++ [⟨0x4A, false, 1, 0⟩]) ∧
  (∀ (s : State) (l : LaneId), ((s.lane l).down = [] → exec (.creditReturn l 0 true) s = .next (s.onLane l id)) ∧
    ((s.lane l).up = [] → exec (.creditReturn l 1 true) s = .next (s.onLane l id)) ∧
    ((s.lane l).felt 0 = [] → exec (.creditReturn l 2 true) s = .next s) ∧ ((s.lane l).felt 1 = [] → exec (.creditReturn l 3 true) s = .next s))) ∧
  ((∀ (s : State) (l : LaneId) (L : Lane), s.lane l = L → L.on COU_STATUS.LINK = true → L.canExit = true →
    ∃ K, exec (.linkTimeout l 0) s = .next (s.onLane l (fun _ => K)) ∧ K.on COU_STATUS.LINK = false ∧ K.on Int.e0 = true) ∧
  (∀ (s : State) (l : LaneId) (L : Lane), s.lane l = L → L.on Int.fieldLink = true →
    ∃ K, exec (.linkTimeout l 1) s = .next (s.onLane l (fun _ => K)) ∧ K.on Int.fieldLink = false ∧ K.on FBG_STATUS.LINK = false ∧
      K.on Int.fieldE0 = true ∧ K.rd Int.fieldLoss = min (L.rd Int.fieldLoss + 1) (2 ^ Int.fieldLoss.width - 1) ∧ K.mem = L.mem ∧ K.nor = L.nor) ∧
  (∀ (s : State) (l : LaneId) (p : Fin 2) (k : Fin 15) (L : Lane), s.lane l = L → (k : Nat) = 2 + p → L.on (FLT_P_STATUS.LINK p) = true →
    ∃ K, exec (.linkTimeout l k) s = .next (s.onLane l (fun _ => K)) ∧ K.on (FLT_P_STATUS.LINK p) = false ∧
      K.inbox = L.inbox ++ [⟨0x48 + p, false, 1, 0⟩] ∧
      ({ L with inbox := L.inbox ++ [⟨0x48 + p, false, 1, 0⟩] } : Lane).onlyFields K [FLT_P_STATUS.LINK p]) ∧
  (∀ (s : State) (l : LaneId) (L : Lane), s.lane l = L → L.on MBX_STATUS.LINK = true →
    ∃ K, exec (.linkTimeout l 4) s = .next (s.onLane l (fun _ => K)) ∧ K.on MBX_STATUS.LINK = false ∧ ⟨0x50, false, 1, 0⟩ ∈ K.inbox ∧ K.mem = L.mem ∧ K.nor = L.nor) ∧
  (∀ (s : State) (l : LaneId) (L : Lane), s.lane l = L →
    (L.on COU_STATUS.LINK = false → exec (.linkTimeout l 0) s = .next (s.onLane l id)) ∧
    (L.on Int.fieldLink = false → exec (.linkTimeout l 1) s = .next (s.onLane l id)) ∧
    (L.on (FLT_P_STATUS.LINK 0) = false → exec (.linkTimeout l 2) s = .next (s.onLane l id)) ∧
    (L.on (FLT_P_STATUS.LINK 1) = false → exec (.linkTimeout l 3) s = .next (s.onLane l id)) ∧
    (L.on MBX_STATUS.LINK = false → exec (.linkTimeout l 4) s = .next (s.onLane l id))) ∧
  (∀ (s : State) (l : LaneId) (k : Fin 15) (L : Lane), s.lane l = L → 5 ≤ (k : Nat) → (k : Nat) < 12 → L.canExit = true →
    ∃ K, exec (.linkTimeout l k) s = .next (s.onLane l (fun _ => K)) ∧
      K.rd (PSC_PORT.EPOCH (k - 5)) = (L.rd (PSC_PORT.EPOCH (k - 5)) + 1) % 2 ^ (PSC_PORT.EPOCH (k - 5)).width ∧ K.on Int.e0 = true) ∧
  (∀ (s : State) (l : LaneId) (k : Fin 15) (L : Lane), s.lane l = L → 12 ≤ (k : Nat) →
    ∃ K, exec (.linkTimeout l k) s = .next (s.onLane l (fun _ => K)) ∧
      K.rd (FPS_PORT.EPOCH (k - 12)) = (L.rd (FPS_PORT.EPOCH (k - 12)) + 1) % 2 ^ (FPS_PORT.EPOCH (k - 12)).width ∧
      K.rd (Int.cum 0x9D) = (L.rd (Int.cum 0x9D) + 1) % 2 ^ 16 ∧ K.mem = L.mem ∧ K.nor = L.nor))

/-- LINK_START on the Couch while both dies run and the lane has not loaded: the link is up with 16 credits, nothing
outstanding or on the way to the field die, and both sides hold the same new epoch; once the lane has loaded, E0 is
latched as well. On a Felt port of a fitted lane towards a fitted sibling, both running: both ports are up with the
same epoch and, before a digest record has been sent, with 8 credits, nothing outstanding and nothing on the way. On
the mailbox of a running lane the link is up and one record, its identity, is on the way. A start of a fabric port
does what its LINK_TIMEOUT does. While the host die does not run, no link of it starts. (R306, R307, R309, R310, R433,
R440) -/
def Obligations.LinkStartsAgreeTheEpoch : Prop :=
  (∀ (s : State) (l : LaneId) (k : Fin 15) (L : Lane), s.lane l = L → (k : Nat) < 2 → L.portsRun = true → L.on Int.fieldHeld = false →
    L.rd Int.loadPhase = 0 →
    ∃ K, exec (.linkStart l k) s = .next (s.onLane l (fun _ => K)) ∧ K.on COU_STATUS.LINK = true ∧ K.on Int.fieldLink = true ∧
      K.rd COU_STATUS.CREDITS = 16 ∧ K.rd COU_STATUS.OUTSTANDING = 0 ∧ K.down = [] ∧ K.couQueue = [] ∧ K.rd COU_STATUS.EPOCH = K.rd Int.fieldEpoch ∧ K.mem = L.mem ∧ K.nor = L.nor) ∧
  (∀ (s : State) (l : LaneId) (k : Fin 15) (L : Lane), s.lane l = L → (k : Nat) < 2 → L.portsRun = true → L.on Int.fieldHeld = false →
    L.rd Int.loadPhase ≠ 0 → L.canExit = true →
    ∃ K, exec (.linkStart l k) s = .next (s.onLane l (fun _ => K)) ∧ K.on Int.e0 = true ∧ K.rd COU_STATUS.EPOCH = K.rd Int.fieldEpoch) ∧
  (∀ (s : State) (l : LaneId) (k : Fin 15), (k : Nat) < 2 → ((s.lane l).portsRun = false ∨ (s.lane l).on Int.fieldHeld = true) →
    exec (.linkStart l k) s = .next (s.onLane l id)) ∧
  (∀ (s : State) (l m : LaneId) (p : Fin 2) (k : Fin 15) (q : Nat) (L M : Lane), s.lane l = L → (k : Nat) = 2 + p → m = laneNumbered (L.portPeer p) →
    s.lane m = M → q = M.portTo l.num → l ≠ m → s.variant.fitted l = true → s.variant.fitted m = true → L.portsRun = true → M.portsRun = true →
    ∃ t, exec (.linkStart l k) s = .next t ∧ (t.lane l).on (FLT_P_STATUS.LINK p) = true ∧ (t.lane m).on (FLT_P_STATUS.LINK q) = true ∧
      (t.lane l).rd (FLT_P_STATUS.EPOCH p) = (t.lane m).rd (FLT_P_STATUS.EPOCH q) ∧
      (L.on Int.digestSent = false → (t.lane l).rd (FLT_P_STATUS.CREDITS p) = 8 ∧ (t.lane l).rd (FLT_P_STATUS.OUTSTANDING p) = 0 ∧ (t.lane l).felt p = []) ∧
      (M.on Int.digestSent = false → (t.lane m).rd (FLT_P_STATUS.CREDITS q) = 8 ∧ (t.lane m).rd (FLT_P_STATUS.OUTSTANDING q) = 0 ∧ (t.lane m).felt q = [])) ∧
  (∀ (s : State) (l : LaneId), s.variant.fitted l = true → (s.lane l).portsRun = true → (s.lane l).on Int.mbxOff = false →
    ∃ t, exec (.linkStart l 4) s = .next t ∧ (t.lane l).on MBX_STATUS.LINK = true ∧ (t.lane l).mbxUp.length = 1) ∧
  (∀ (s : State) (l : LaneId) (k : Fin 15), 5 ≤ (k : Nat) → exec (.linkStart l k) s = exec (.linkTimeout l k) s) ∧
  (∀ (s : State) (l : LaneId), (s.lane l).portsRun = false →
    exec (.linkStart l 2) s = .next s ∧ exec (.linkStart l 3) s = .next s ∧ exec (.linkStart l 4) s = .next s)

/-- CONTROL_MESSAGE at the head of the ordered channel is taken, its credit starts back, and the field die acts on it: a
gate permission is stored; a class G release is accepted while every group has override kind 1 and both STO enables
are deasserted, and otherwise counted as refused; a seal reading other than 7 is shown and enables the freeze trip.
CRC_RESTART at the head sets the field CRC to its initial value and changes nothing else of the registers. Another
item at the head is left. STOP_REQUEST_MESSAGE takes the sibling’s request off its port and starts a stop; a contactor
request adds its outputs to SA_CONT, to be acted on; without either nothing changes. (R207, R302, R306, R310, R368,
R430) -/
def Obligations.ControlAndStopMessages : Prop :=
  (∀ (s : State) (l : LaneId) (c : Control) (r : List DownItem) (L : Lane), s.lane l = L → L.down = .control c :: r →
    ∃ K, exec (.controlMessage l) s = .next (s.onLane l (fun _ => K)) ∧
      K = ({ L with down := r, downCredits := L.downCredits ++ [false] } : Lane).control c) ∧
  (∀ (L : Lane) (mask : Nat), (L.control (.gatePermission mask)).rd Int.gatePerm = mask % 2 ^ 8) ∧
  (∀ (L : Lane), L.on FPS_STATUS.G_LATCHED = true → (∀ g < 12, L.rd (PWM_GROUP_STATUS.OVERRIDE g) = 1) → L.rd STO_STATUS.EN_N = 3 →
    (L.control .gRelease).on FPS_STATUS.G_LATCHED = false ∧ L.onlyFields (L.control .gRelease) [FPS_STATUS.G_LATCHED]) ∧
  (∀ (L : Lane) (g : Nat), L.on FPS_STATUS.G_LATCHED = true → g < 12 → (L.rd (PWM_GROUP_STATUS.OVERRIDE g) ≠ 1 ∨ L.rd STO_STATUS.EN_N ≠ 3) →
    (L.control .gRelease).on FPS_STATUS.G_LATCHED = true ∧
    (L.control .gRelease).rd FPS_CNT.REL_REFUSED = min (L.rd FPS_CNT.REL_REFUSED + 1) (2 ^ FPS_CNT.REL_REFUSED.width - 1) ∧
    L.onlyFields (L.control .gRelease) [FPS_CNT.REL_REFUSED]) ∧
  (∀ (L : Lane) (n : Nat), n < 7 → (L.control (.sealReading n)).rd Int.sealSeen = n ∧ (L.control (.sealReading n)).on STO_CFG.FREEZE_EN = true) ∧
  (∀ (s : State) (l : LaneId) (r : List DownItem) (L : Lane), s.lane l = L → L.down = .crcRestart :: r →
    ∃ K, exec (.crcRestart l) s = .next (s.onLane l (fun _ => K)) ∧ K.rd Int.crcField = 0xFFFFFFFF ∧ K.down = r ∧
      ({ L with down := r, downCredits := L.downCredits ++ [false] } : Lane).onlyFields K [Int.crcField]) ∧
  (∀ (s : State) (l : LaneId), ((∀ c r, (s.lane l).down ≠ .control c :: r) → exec (.controlMessage l) s = .next (s.onLane l id)) ∧
    ((∀ r, (s.lane l).down ≠ .crcRestart :: r) → exec (.crcRestart l) s = .next (s.onLane l id))) ∧
  (∀ (s : State) (l src : LaneId) (p : Nat) (r : List FeltMsg), l ≠ src → s.variant.fitted l = true → s.variant.fitted src = true →
    p = (s.lane src).portTo l.num → (s.lane src).felt p = .stopRequest :: r →
    exec (.stopRequestMessage l src) s = .next ((s.setLane src ((s.lane src).setFelt p r)).onLane l (fun L => L.requestStop 0x07))) ∧
  (∀ (s : State) (l src : LaneId) (p mask : Nat) (r : List FeltMsg), l ≠ src → s.variant.fitted l = true → s.variant.fitted src = true →
    p = (s.lane src).portTo l.num → (s.lane src).felt p = .contReq mask :: r →
    exec (.stopRequestMessage l src) s = .next ((s.setLane src ((s.lane src).setFelt p r)).onLane l (fun L =>
      (L.wr LSE_SA.SA_CONT (L.rd LSE_SA.SA_CONT ||| mask)).set Int.contDue))) ∧
  (∀ (s : State) (l src : LaneId), (∀ m ∈ (s.lane src).felt ((s.lane src).portTo l.num), m ≠ .stopRequest ∧ ∀ k, m ≠ .contReq k) →
    exec (.stopRequestMessage l src) s = .next s)

/-- REGISTER_WRITE by a pair whose outputs are not held, to an address of shared SRAM outside a locked graph or schedule,
or to the TCM of the pair: the word reads back and every byte outside its four reads as before; registers do not
change. A write to the locked graph is refused and counted; to the locked schedule it has no effect. An address
outside every window is a bus error of the pair (event 1, where it is neither fenced nor withdrawn) and changes
nothing else, for OUT_OF_WINDOW_ACCESS as well, which has no effect on an assigned address. A misaligned address of a
host block window has no effect, and neither has an access of a pair whose outputs are held. (R5, R6, R221, R315,
R334, R374) -/
def Obligations.CoreWritesToMemory : Prop :=
  (∀ (s : State) (l : LaneId) (p : Fin 4) (a d : Nat) (L : Lane), s.lane l = L → L.pairHeld p = false → sramRange a = true →
    ¬ (graphRange a = true ∧ L.on SCH_CFG.LOCK = true) → ¬ (scheduleRange a = true ∧ L.on Int.ngbLock = true) →
    ∃ K, exec (.registerWrite l p a d) s = .next (s.onLane l (fun _ => K)) ∧ K.memWord a 4 = d % 2 ^ 32 ∧
      (∀ b, b < a ∨ a + 4 ≤ b → K.mem.byte ramDefault b = L.mem.byte ramDefault b) ∧ K.regs = L.regs) ∧
  (∀ (s : State) (l : LaneId) (p : Fin 4) (a d : Nat) (L : Lane), s.lane l = L → L.pairHeld p = false → tcmRange a = true →
    ∃ K, exec (.registerWrite l p a d) s = .next (s.onLane l (fun _ => K)) ∧ K.memWord (tcmAddr p a) 4 = d % 2 ^ 32 ∧
      (∀ b, b < tcmAddr p a ∨ tcmAddr p a + 4 ≤ b → K.mem.byte ramDefault b = L.mem.byte ramDefault b) ∧ K.regs = L.regs) ∧
  (∀ (s : State) (l : LaneId) (p : Fin 4) (a d : Nat) (L : Lane), s.lane l = L → L.pairHeld p = false → graphRange a = true → L.on SCH_CFG.LOCK = true →
    ∃ K, exec (.registerWrite l p a d) s = .next (s.onLane l (fun _ => K)) ∧
      K.rd SCH_STATUS.GRAPH_WR_REFUSED = min (L.rd SCH_STATUS.GRAPH_WR_REFUSED + 1) (2 ^ SCH_STATUS.GRAPH_WR_REFUSED.width - 1) ∧
      L.onlyFields K [SCH_STATUS.GRAPH_WR_REFUSED]) ∧
  (∀ (s : State) (l : LaneId) (p : Fin 4) (a d : Nat), scheduleRange a = true → (s.lane l).on Int.ngbLock = true →
    exec (.registerWrite l p a d) s = .next (s.onLane l id)) ∧
  (∀ (s : State) (l : LaneId) (p : Fin 4) (a d : Nat) (L : Lane), s.lane l = L → L.pairHeld p = false → assigned a = false →
    ∃ K, exec (.registerWrite l p a d) s = .next (s.onLane l (fun _ => K)) ∧ exec (.outOfWindowAccess l p a) s = .next (s.onLane l (fun _ => K)) ∧
      (L.rd (LSC_PAIR_STATUS.STATE p) ≠ 5 → K.bitOf (Int.events p) 1 = true) ∧ L.keepsBut K eventFields) ∧
  (∀ (s : State) (l : LaneId) (p : Fin 4) (a : Nat), assigned a = true → exec (.outOfWindowAccess l p a) s = .next (s.onLane l id)) ∧
  (∀ (s : State) (l : LaneId) (p : Fin 4) (a d : Nat), hostWindow a = true → a % 4 ≠ 0 → exec (.registerWrite l p a d) s = .next s) ∧
  (∀ (s : State) (l : LaneId) (p : Fin 4) (a d : Nat), (s.lane l).pairHeld p = true → exec (.registerWrite l p a d) s = .next s ∧
    exec (.outOfWindowAccess l p a) s = .next (s.onLane l id))

/-- REGISTER_WRITE_ITEM at the head of the ordered channel is taken, its credit starts back, the CRC runs over its address
and data, and the block stores it; another item is left. A field address posted by REGISTER_WRITE does what
FIELD_REGISTER_WRITE does. A word written to the demand register of channel 0 is stored and no other field changes.
Writing the frame length of a lane: FRAME_WRITE only notes it, clamped to 250 to 2000, or nothing where it is the
length in force. (R6, R8, R9, R304, R306, R368) -/
def Obligations.RegisterWriteItemsAndClamps : Prop :=
  (∀ (s : State) (l : LaneId) (a d : Nat) (r : List DownItem) (L : Lane), s.lane l = L → L.down = .write a d :: r →
    ∃ K, exec (.registerWriteItem l) s = .next (s.onLane l (fun _ => K)) ∧
      K = ((({ L with down := r, downCredits := L.downCredits ++ [false] } : Lane).wr Int.crcField (crcItem (L.rd Int.crcField) a d)).fieldWrite a d)) ∧
  (∀ (s : State) (l : LaneId), (∀ a d r, (s.lane l).down ≠ .write a d :: r) → exec (.registerWriteItem l) s = .next (s.onLane l id)) ∧
  (∀ (s : State) (l : LaneId) (p : Fin 4) (a d : Nat), fieldAddr a = true → exec (.registerWrite l p a d) s = exec (.fieldRegisterWrite l p a d) s) ∧
  (∀ (s : State) (l : LaneId) (p : Fin 4) (d : Nat) (L : Lane), s.lane l = L → L.pairHeld p = false →
    ∃ K, exec (.registerWrite l p (LSC_CH_DEMAND.DEMAND 0).addr d) s = .next (s.onLane l (fun _ => K)) ∧
      K.rd (LSC_CH_DEMAND.DEMAND 0) = d % 2 ^ 32 ∧ L.onlyFields K [LSC_CH_DEMAND.DEMAND 0]) ∧
  (∀ (s : State) (l : LaneId) (v : Nat) (L : Lane), s.lane l = L → clampN 250 2000 (v % 2048) ≠ L.rd LSC_AGR_CFG.FRAME →
    ∃ K, exec (.frameWrite l v) s = .next (s.onLane l (fun _ => K)) ∧ K.rd Int.framePending = clampN 250 2000 (v % 2048) ∧
      L.onlyFields K [Int.framePending]) ∧
  (∀ (s : State) (l : LaneId) (v : Nat) (L : Lane), s.lane l = L → clampN 250 2000 (v % 2048) = L.rd LSC_AGR_CFG.FRAME →
    ∃ K, exec (.frameWrite l v) s = .next (s.onLane l (fun _ => K)) ∧ K.rd Int.framePending = 0 ∧ L.onlyFields K [Int.framePending])

/-- FRAME_START of a lane whose agreement runs, at a lane time that is a multiple of FRAME, opens the window, counts
FRAMENO, clears READY and forgets the messages heard; at another lane time it changes nothing. AGREEMENT_READY in an
open frame whose message is not sent sends it once: READY written, the message kept and sent on each live Felt port,
LATE set exactly from E0 on, else with the demands of the lane; in a frame whose message is sent, only READY is
written. READY_TIMEOUT sends it LATE and without demands. Memory is unchanged. Of a lane whose agreement does not run,
none of the three changes anything. (R27, R29, R43, R230, R231, R232, R310) -/
def Obligations.FrameStartAndFrameMessage : Prop :=
  (∀ (s : State) (l : LaneId) (L : Lane), s.lane l = L → L.framesRun = true → L.now % (1000 * L.rd LSC_AGR_CFG.FRAME) = 0 →
    ∃ K, exec (.frameStart l) s = .next (s.onLane l (fun _ => K)) ∧ K.on Int.frameOpen = true ∧ K.on LSC_AGR_CFG.READY = false ∧
      K.rd LSC_AGR_FRAMENO.FRAMENO = (L.rd LSC_AGR_FRAMENO.FRAMENO + 1) % 2 ^ 32 ∧ K.heard = [none, none, none] ∧ K.on Int.readyDone = false ∧
      K.rd Int.frameAt = L.now % 2 ^ Int.frameAt.width) ∧
  (∀ (s : State) (l : LaneId), (s.lane l).now % (1000 * (s.lane l).rd LSC_AGR_CFG.FRAME) ≠ 0 → exec (.frameStart l) s = .next (s.onLane l id)) ∧
  (∀ (s : State) (l : LaneId) (L : Lane), s.lane l = L → L.framesRun = true → L.on Int.frameOpen = true → L.on Int.readyDone = false →
    ∃ K, exec (.agreementReady l) s = .next (s.onLane l (fun _ => K)) ∧ K.on LSC_AGR_CFG.READY = true ∧ K.on Int.readyDone = true ∧
      K.on LSC_AGR_STATUS.SELF_LATE = L.on Int.e0 ∧ K.mem = L.mem ∧ K.nor = L.nor ∧ ∃ m, K.sent = some m ∧ m.late = L.on Int.e0 ∧
      (L.on Int.e0 = false → m.demands = (List.range 16).map (fun k => L.rdI (LSC_CH_DEMAND.DEMAND k))) ∧
      (L.on (FLT_P_STATUS.LINK 0) = true → .frame m ∈ K.felt 0 ++ K.feltWait 0) ∧
      (L.on (FLT_P_STATUS.LINK 1) = true → .frame m ∈ K.felt 1 ++ K.feltWait 1)) ∧
  (∀ (s : State) (l : LaneId) (L : Lane), s.lane l = L → L.framesRun = true → (L.on Int.frameOpen = false ∨ L.on Int.readyDone = true) →
    ∃ K, exec (.agreementReady l) s = .next (s.onLane l (fun _ => K)) ∧ K.on LSC_AGR_CFG.READY = true ∧ L.onlyFields K [LSC_AGR_CFG.READY]) ∧
  (∀ (s : State) (l : LaneId) (L : Lane), s.lane l = L → L.framesRun = true → L.on Int.frameOpen = true → L.on Int.readyDone = false →
    ∃ K, exec (.readyTimeout l) s = .next (s.onLane l (fun _ => K)) ∧ K.on LSC_AGR_STATUS.SELF_LATE = true ∧ K.on Int.readyDone = true ∧ K.mem = L.mem ∧ K.nor = L.nor ∧
      ∃ m, K.sent = some m ∧ m.late = true ∧ m.demands = [] ∧
      (L.on (FLT_P_STATUS.LINK 0) = true → .frame m ∈ K.felt 0 ++ K.feltWait 0) ∧
      (L.on (FLT_P_STATUS.LINK 1) = true → .frame m ∈ K.felt 1 ++ K.feltWait 1)) ∧
  (∀ (s : State) (l : LaneId), (s.lane l).framesRun = true → ((s.lane l).on Int.frameOpen = false ∨ (s.lane l).on Int.readyDone = true) →
    exec (.readyTimeout l) s = .next (s.onLane l id)) ∧
  (∀ (s : State) (l : LaneId), (s.lane l).framesRun = false → exec (.frameStart l) s = .next (s.onLane l id) ∧
    exec (.agreementReady l) s = .next (s.onLane l id) ∧ exec (.readyTimeout l) s = .next (s.onLane l id))

/-- FRAME_MESSAGE_RECEIPT takes the sibling’s frame message off its port and gives it to the lane, which shows it in the
receive register of the port with its time and, while its window is open, keeps it for the frame; the longest delivery
is kept in 10 ns; after the window has closed nothing else of it acts. With no frame message on the port nothing
changes. WINDOW_CLOSE of an open frame closes it and records the messages that were heard in time; with no frame open
it changes nothing. Of several decisions the first of the lowest rank is taken. (R43, R45, R232, R311, R314) -/
def Obligations.FrameReceiptAndWindowClose : Prop :=
  (∀ (s : State) (l src : LaneId) (p : Nat) (m : FrameMsg) (r : List FeltMsg), l ≠ src → s.variant.fitted l = true → s.variant.fitted src = true →
    p = (s.lane src).portTo l.num → (s.lane src).felt p = .frame m :: r →
    exec (.frameMessageReceipt l src) s = .next ((s.setLane src ((s.lane src).setFelt p r)).onLane l (fun L =>
      (L.takeFrameMsg src.num m).frameDelay (L.portTo src.num) ((s.lane src).now - (s.lane src).rd Int.frameSentAt)))) ∧
  (∀ (L : Lane) (p d : Nat), L.rd (FLT_P_LQ.LAT_MAX p) ≤ 255 → (L.frameDelay p d).rd (FLT_P_LQ.LAT_MAX p) = max (L.rd (FLT_P_LQ.LAT_MAX p)) (min 255 (d / 10))) ∧
  (∀ (L : Lane) (n : Nat) (m : FrameMsg), L.on Int.frameOpen = true → (L.takeFrameMsg n m).heard = L.heard.set n (some m) ∧
    (L.takeFrameMsg n m).feltRx = L.feltRx.set (L.portTo n) (some m)) ∧
  (∀ (L : Lane) (n : Nat) (m : FrameMsg), L.on Int.frameOpen = false → (L.takeFrameMsg n m).heard = L.heard ∧
    (L.takeFrameMsg n m).rd (Int.rxTime (L.portTo n)) = L.now % 2 ^ (Int.rxTime (L.portTo n)).width ∧
    ({ L with feltRx := L.feltRx.set (L.portTo n) (some m) } : Lane).onlyFields (L.takeFrameMsg n m) [Int.rxTime (L.portTo n)]) ∧
  (∀ (s : State) (l src : LaneId), (∀ m ∈ (s.lane src).felt ((s.lane src).portTo l.num), ∀ f, m ≠ .frame f) →
    exec (.frameMessageReceipt l src) s = .next s) ∧
  (∀ (s : State) (l : LaneId) (irms : List Nat) (L : Lane), s.lane l = L → L.framesRun = true → L.on Int.frameOpen = true →
    ∃ K, exec (.windowClose l irms) s = .next (s.onLane l (fun _ => K)) ∧ K.on Int.frameOpen = false ∧ K.on Int.viewHave = true ∧
      K.rd Int.heardView = L.frameMsgs.onTime % 2 ^ Int.heardView.width ∧ K.mem = L.mem) ∧
  (∀ (s : State) (l : LaneId) (irms : List Nat), ((s.lane l).framesRun = false ∨ (s.lane l).on Int.frameOpen = false) →
    exec (.windowClose l irms) s = .next (s.onLane l id)) ∧
  (∀ (ds : List Decision) (d : Decision), firstDecision ds = some d → d ∈ ds ∧ ∀ e ∈ ds, d.rank ≤ e.rank)

/-- MODE_REQ_CLEAR, STANDBY_REQUEST, OPERATE_REQUEST, SERVICE_REQUEST and SHUTDOWN_REQUEST store TARGET 0, 5, 6, 11 and 12
with the lane time; the frame messages carry it until the device mode equals it, an operating mode for 6, and carry
none where it does already; nothing else changes. STOP_REQUEST stores TARGET 9 with the lane time and sends a stop
request on each live Felt port; in an operating mode in which no SS1 runs it starts SS1 at once with the stop instant
and proposes SAFE-STOP; in SERVICE it proposes TORQUE-OFF with STO at once; in other modes it starts no SS1.
LANE_WAIT_EXPIRY of a waiting request refuses it with the lane time; without one it changes nothing. A decided
transition to another mode, but from SERVICE to STANDBY, which may reset the dies: DEVICE_MODE is the new mode,
PREV_MODE the old one, and the cause, the lane it came from and the lane time are recorded; RAM is unchanged. A
decision for the present mode changes nothing. (R44, R46, R48, R55, R268, R271, R310, R45, R58, R282) -/
def Obligations.ModeRequestsAndTransitions : Prop :=
  ((∀ (s : State) (l : LaneId) (L : Lane), s.lane l = L →
    (∃ K, exec (.modeReqClear l) s = .next (s.onLane l (fun _ => K)) ∧ K.rd CFG_MODE_REQ.TARGET = 0 ∧ K.rd Int.targetAt = L.now % 2 ^ 64 ∧
      K.targetSent = (if L.mode = 0 then 0 else 0) ∧ L.onlyFields K [CFG_MODE_REQ.TARGET, Int.targetAt, Int.targetDone]) ∧
    (∃ K, exec (.standbyRequest l) s = .next (s.onLane l (fun _ => K)) ∧ K.rd CFG_MODE_REQ.TARGET = 5 ∧ K.rd Int.targetAt = L.now % 2 ^ 64 ∧
      K.targetSent = (if L.mode = 5 then 0 else 5) ∧ L.onlyFields K [CFG_MODE_REQ.TARGET, Int.targetAt, Int.targetDone]) ∧
    (∃ K, exec (.operateRequest l) s = .next (s.onLane l (fun _ => K)) ∧ K.rd CFG_MODE_REQ.TARGET = 6 ∧ K.rd Int.targetAt = L.now % 2 ^ 64 ∧
      K.targetSent = (if L.mode = 6 ∨ operating L.mode = true then 0 else 6) ∧ L.onlyFields K [CFG_MODE_REQ.TARGET, Int.targetAt, Int.targetDone]) ∧
    (∃ K, exec (.serviceRequest l) s = .next (s.onLane l (fun _ => K)) ∧ K.rd CFG_MODE_REQ.TARGET = 11 ∧ K.rd Int.targetAt = L.now % 2 ^ 64 ∧
      K.targetSent = (if L.mode = 11 then 0 else 11) ∧ L.onlyFields K [CFG_MODE_REQ.TARGET, Int.targetAt, Int.targetDone]) ∧
    (∃ K, exec (.shutdownRequest l) s = .next (s.onLane l (fun _ => K)) ∧ K.rd CFG_MODE_REQ.TARGET = 12 ∧ K.rd Int.targetAt = L.now % 2 ^ 64 ∧
      K.targetSent = (if L.mode = 12 then 0 else 12) ∧ L.onlyFields K [CFG_MODE_REQ.TARGET, Int.targetAt, Int.targetDone])) ∧
  (∀ (s : State) (l : LaneId) (L : Lane), s.lane l = L →
    ∃ K, exec (.stopRequest l) s = .next (s.onLane l (fun _ => K)) ∧ K.rd CFG_MODE_REQ.TARGET = 9 ∧ K.rd Int.targetAt = L.now % 2 ^ 64 ∧ K.mem = L.mem ∧ K.nor = L.nor ∧
      (∀ p < 2, L.on (FLT_P_STATUS.LINK p) = true → .stopRequest ∈ K.felt p ++ K.feltWait p) ∧
      (operating L.mode = true → L.on SSF_STATUS.SS_ACTIVE = false → L.rd Int.restrict < 16 →
        K.on SSF_STATUS.SS_ACTIVE = true ∧ K.rd Int.s0Time = L.now % 2 ^ 64 ∧ 9 ≤ K.rd Int.restrict) ∧
      (operating L.mode = true → L.on SSF_STATUS.SS_ACTIVE = true → K.rd Int.s0Time = L.rd Int.s0Time) ∧
      (L.mode = mService → K.rd Int.restrict = mTorqueOff ∧ K.on Int.ssfSto = true) ∧
      (operating L.mode = false → K.rd SSF_STATUS.SS_ACTIVE = L.rd SSF_STATUS.SS_ACTIVE)) ∧
  (∀ (s : State) (l : LaneId) (L : Lane), s.lane l = L → L.on Int.waiting = true →
    ∃ K, exec (.laneWaitExpiry l) s = .next (s.onLane l (fun _ => K)) ∧ K.on CFG_MODE_STATUS.START_REFUSED = true ∧ K.on Int.waiting = false ∧
      K.rd Int.refusedAt = max 1 L.now % 2 ^ Int.refusedAt.width ∧ L.onlyFields K [CFG_MODE_STATUS.START_REFUSED, Int.refusedAt, Int.waiting]) ∧
  (∀ (s : State) (l : LaneId), (s.lane l).on Int.waiting = false → exec (.laneWaitExpiry l) s = .next (s.onLane l id))) ∧
  ((∀ (L K : Lane) (m cause lane : Nat), L.mode ≠ m → m < 16 → cause < 256 → lane < 4 → L.mode < 16 → (L.mode ≠ mService ∨ m ≠ mStandby) →
    K = L.setMode m cause lane →
    K.mode = m ∧ K.rd CFG_MODE_STATUS.PREV_MODE = L.mode ∧ K.rd CFG_MODE_CAUSE.CAUSE = cause % 2 ^ CFG_MODE_CAUSE.CAUSE.width ∧
    K.rd CFG_MODE_CAUSE.CAUSE_LANE = lane % 2 ^ CFG_MODE_CAUSE.CAUSE_LANE.width ∧
    K.rd CFG_MODE_TIME.T = L.now % 2 ^ CFG_MODE_TIME.T.width ∧ K.mem = L.mem) ∧
  (∀ (L : Lane) (cause lane : Nat), L.setMode L.mode cause lane = L))

/-- KEY_ON_FALL clears the key and its hold, and KEYOFF_HELD shows a moving device above standstill. KEYOFF_HOLD_EXPIRY
with the key off notes the hold, with the key on it changes nothing. KEY_ON_RISE with the key on already changes
nothing; else the key is on, and a lane asleep starts again through host die reset with PREV_MODE DORMANT and cause 1;
in SHUTDOWN, before N4 of a power entry and not at level 2, one goes through host die reset with PREV_MODE SHUTDOWN.
LANE_EXIT of a lane not exiting latches E0, drives STOP and makes the collector state FAULT; where it aborts a power
entry that has the field regions OFF, the lane goes through host die reset; a host die in reset latches none.
HOST_DIE_RESET of a lane that is not FAILED leaves lane state and mode at their reset values BOOT and WAKE, nothing on
its way to the field die, BGR_FIRST in BGR_PREV, memory as it was, and holds the die. AUTO_REJOIN_RESET resets an
exited lane with fewer than three exits where it is enabled, and otherwise changes nothing. LANE_RESET_REQUEST resets
where R26 permits it, and is otherwise counted as refused. (R22, R26, R47, R50, R293, R360, R423, R436) -/
def Obligations.KeysAndResetsOfALane : Prop :=
  (∀ (s : State) (l : LaneId) (L : Lane), s.lane l = L →
    ∃ K, exec (.keyOnFall l) s = .next (s.onLane l (fun _ => K)) ∧ K.on Int.keyOn = false ∧ K.on Int.keyOffHeld = false ∧
      K.on CFG_MODE_STATUS.KEYOFF_HELD = ((operating L.mode || decide (L.mode = mSafeStop)) && ! L.on SSF_STATUS.STILL) ∧
      L.onlyFields K [Int.keyOn, Int.keyOffHeld, CFG_MODE_STATUS.KEYOFF_HELD]) ∧
  (∀ (s : State) (l : LaneId) (L : Lane), s.lane l = L → L.on Int.keyOn = false →
    ∃ K, exec (.keyoffHoldExpiry l) s = .next (s.onLane l (fun _ => K)) ∧ K.on Int.keyOffHeld = true ∧ L.onlyFields K [Int.keyOffHeld]) ∧
  (∀ (s : State) (l : LaneId), (s.lane l).on Int.keyOn = true → exec (.keyoffHoldExpiry l) s = .next (s.onLane l id) ∧
    exec (.keyOnRise l) s = .next (s.onLane l id)) ∧
  (∀ (s : State) (l : LaneId) (L : Lane), s.lane l = L → L.on Int.keyOn = false → L.state ≠ stAsleep → L.mode ≠ mShutdown →
    ∃ K, exec (.keyOnRise l) s = .next (s.onLane l (fun _ => K)) ∧ K.on Int.keyOn = true ∧ K.on Int.keyOffHeld = false ∧ K.mode = L.mode ∧ K.mem = L.mem ∧ K.nor = L.nor) ∧
  (∀ (s : State) (l : LaneId) (L : Lane), s.lane l = L → L.on Int.keyOn = false → L.state = stAsleep →
    ∃ K, exec (.keyOnRise l) s = .next (s.onLane l (fun _ => K)) ∧ K.rd CFG_MODE_STATUS.PREV_MODE = mDormant ∧ K.rd CFG_MODE_CAUSE.CAUSE = 1 ∧
      K.on Int.held = true) ∧
  (∀ (s : State) (l : LaneId) (L : Lane), s.lane l = L → L.on Int.keyOn = false → L.state ≠ stAsleep → L.mode = mShutdown →
    L.rd PSC_STATUS.LEVEL_NOW = 0 → L.on Int.pscN4 = false →
    ∃ K, exec (.keyOnRise l) s = .next (s.onLane l (fun _ => K)) ∧ K.rd CFG_MODE_STATUS.PREV_MODE = mShutdown ∧ K.rd CFG_MODE_CAUSE.CAUSE = 1 ∧
      K.on Int.held = true) ∧
  (∀ (s : State) (l : LaneId) (cause : Nat) (L : Lane), s.lane l = L → L.on Int.e0 = false → L.canExit = true →
    ∃ K, exec (.laneExit l cause) s = .next (s.onLane l (fun _ => K)) ∧ K.on Int.e0 = true ∧ K.rd BGR_STATE.STATE = 2 ∧ K.rd COU_STATUS.LINE = 1) ∧
  (∀ (s : State) (l : LaneId) (cause : Nat) (L : Lane), s.lane l = L → L.on Int.e0 = false → L.on Int.held = false → L.canExit = false →
    ∃ K, exec (.laneExit l cause) s = .next (s.onLane l (fun _ => K)) ∧ K.on Int.held = true) ∧
  (∀ (s : State) (l : LaneId) (cause : Nat) (L : Lane), s.lane l = L → L.on Int.held = true →
    ∃ K, exec (.laneExit l cause) s = .next (s.onLane l (fun _ => K)) ∧ K.rd Int.e0 = L.rd Int.e0) ∧
  (∀ (s : State) (l : LaneId) (L : Lane), s.lane l = L → L.state ≠ stFailed → L.on Int.hfoRec = false →
    ∃ K, exec (.hostDieReset l) s = .next (s.onLane l (fun _ => K)) ∧ K.state = stBoot ∧ K.mode = mWake ∧ K.down = [] ∧ K.on Int.held = true ∧ K.mem = L.mem ∧
      K.nor = L.nor ∧ K.rd BGR_PREV.PREV = L.firstWord % 2 ^ 32 ∧ K.on BGR_FIRST.VALID = false) ∧
  (∀ (s : State) (l : LaneId) (L : Lane), s.lane l = L → L.state = stExited → L.on CFG_LANE_RST.AUTO_REJOIN = true → L.rd (exitsOf L.me) < 3 →
    exec (.autoRejoinReset l) s = exec (.hostDieReset l) s ∧
    (L.on Int.hfoRec = false → ∃ K, exec (.autoRejoinReset l) s = .next (s.onLane l (fun _ => K)) ∧ K.state = stBoot ∧ K.mode = mWake ∧
      K.on Int.held = true ∧ K.mem = L.mem ∧ K.nor = L.nor)) ∧
  (∀ (s : State) (l : LaneId) (L : Lane), s.lane l = L → (L.state ≠ stExited ∨ L.on CFG_LANE_RST.AUTO_REJOIN = false ∨ 3 ≤ L.rd (exitsOf L.me)) →
    exec (.autoRejoinReset l) s = .next (s.onLane l id)) ∧
  (∀ (s : State) (l : LaneId) (L : Lane), s.lane l = L → L.resetAllowed = true →
    exec (.laneResetRequest l) s = exec (.hostDieReset l) s ∧
    (L.state ≠ stFailed → L.on Int.hfoRec = false → ∃ K, exec (.laneResetRequest l) s = .next (s.onLane l (fun _ => K)) ∧ K.state = stBoot ∧
      K.mode = mWake ∧ K.on Int.held = true ∧ K.mem = L.mem ∧ K.nor = L.nor)) ∧
  (∀ (s : State) (l : LaneId) (L : Lane), s.lane l = L → L.resetAllowed = false →
    ∃ K, exec (.laneResetRequest l) s = .next (s.onLane l (fun _ => K)) ∧
      K.rd CFG_LANE_RST.RST_REFUSED = min (L.rd CFG_LANE_RST.RST_REFUSED + 1) (2 ^ CFG_LANE_RST.RST_REFUSED.width - 1) ∧
      L.onlyFields K [CFG_LANE_RST.RST_REFUSED])

/-- SS_REQUEST latches the request; in an operating mode with no SS1 running it starts SS1 with the stop instant and the
proposal SAFE-STOP, and reports source 0xB0; in SERVICE it proposes TORQUE-OFF with STO at once; outside these modes
it does no more than latch; while it stands it has no further effect. SS_REQ_RELEASE clears the request and nothing
else. SS1_TMAX_EXPIRY without standstill sets TMAX, reports source 0xB2 and proposes TORQUE-OFF with STO at once; at
standstill or without SS1 it changes nothing. VEH_TIMEOUT clears VEH_VALID, sets VEH_LOST and reports source 0xB3.
Memory is unchanged in each case. (R268, R271, R272, R273, R283) -/
def Obligations.SafeStopRequestsAndTimes : Prop :=
  (∀ (s : State) (l : LaneId) (L : Lane), s.lane l = L → L.on SSF_STATUS.SSREQ = false → operating L.mode = true → L.on SSF_STATUS.SS_ACTIVE = false → L.rd Int.restrict < 16 →
    ∃ K, exec (.ssRequest l) s = .next (s.onLane l (fun _ => K)) ∧ K.on SSF_STATUS.SSREQ = true ∧ K.on SSF_STATUS.SS_ACTIVE = true ∧
      K.rd Int.s0Time = L.now % 2 ^ 64 ∧ 9 ≤ K.rd Int.restrict ∧ K.inbox = L.inbox ++ [⟨0xB0, false, 1, 0⟩] ∧ K.mem = L.mem ∧ K.nor = L.nor) ∧
  (∀ (s : State) (l : LaneId) (L : Lane), s.lane l = L → L.on SSF_STATUS.SSREQ = false → operating L.mode = false → L.mode ≠ mService →
    ∃ K, exec (.ssRequest l) s = .next (s.onLane l (fun _ => K)) ∧ K.on SSF_STATUS.SSREQ = true ∧ L.onlyFields K [SSF_STATUS.SSREQ]) ∧
  (∀ (s : State) (l : LaneId) (L : Lane), s.lane l = L → L.on SSF_STATUS.SSREQ = false → L.mode = mService →
    ∃ K, exec (.ssRequest l) s = .next (s.onLane l (fun _ => K)) ∧ K.on SSF_STATUS.SSREQ = true ∧ K.rd Int.restrict = mTorqueOff ∧ K.on Int.ssfSto = true ∧
      L.onlyFields K [SSF_STATUS.SSREQ, Int.restrict, Int.restrictCause, Int.ssfSto, COU_STATUS.LINE]) ∧
  (∀ (s : State) (l : LaneId), (s.lane l).on SSF_STATUS.SSREQ = true → exec (.ssRequest l) s = .next (s.onLane l id)) ∧
  (∀ (s : State) (l : LaneId) (L : Lane), s.lane l = L →
    ∃ K, exec (.ssReqRelease l) s = .next (s.onLane l (fun _ => K)) ∧ K.on SSF_STATUS.SSREQ = false ∧ L.onlyFields K [SSF_STATUS.SSREQ]) ∧
  (∀ (s : State) (l : LaneId) (L : Lane), s.lane l = L → L.on SSF_STATUS.SS_ACTIVE = true → L.on SSF_STATUS.STILL = false →
    ∃ K, exec (.ss1TmaxExpiry l) s = .next (s.onLane l (fun _ => K)) ∧ K.on SSF_FLAGS.TMAX = true ∧ K.rd Int.restrict = 10 ∧
      K.on Int.ssfSto = true ∧ K.inbox = L.inbox ++ [⟨0xB2, false, 1, 0⟩] ∧
      ({ L with inbox := L.inbox ++ [⟨0xB2, false, 1, 0⟩] } : Lane).onlyFields K [SSF_FLAGS.TMAX, Int.restrict, Int.restrictCause, Int.ssfSto, COU_STATUS.LINE]) ∧
  (∀ (s : State) (l : LaneId), ((s.lane l).on SSF_STATUS.SS_ACTIVE = false ∨ (s.lane l).on SSF_STATUS.STILL = true) →
    exec (.ss1TmaxExpiry l) s = .next (s.onLane l id)) ∧
  (∀ (s : State) (l : LaneId) (L : Lane), s.lane l = L →
    ∃ K, exec (.vehTimeout l) s = .next (s.onLane l (fun _ => K)) ∧ K.on SSF_STATUS.VEH_VALID = false ∧ K.on SSF_FLAGS.VEH_LOST = true ∧
      ⟨0xB3, false, 1, 0⟩ ∈ K.inbox ∧ K.mem = L.mem ∧ K.nor = L.nor)

/-- STOP_LINE_STATE that decodes STO after another state: both clusters have STO and every gate pad is low. A state that
is the present one changes nothing. STOP_LINE_FAULT latches the exit on the field die. STO_READBACK_FAULT, and
STO_TEST failed while it is due and no trip stands, latch TRIP, and every gate pad of the cluster is low; a passed
test counts, is timed, and ends the due of its cluster, TEST_DUE standing only while the other’s does; a test that is
not due, or of a tripped cluster, changes nothing. FREEZE_TRIP with the trip enabled and an output high trips both
clusters; else it changes nothing. TEST_MAX_EXPIRY sets TEST_DUE and the due of each cluster whose passed test is not
the later. Memory is unchanged in each case. (R274, R276, R277, R278, R303) -/
def Obligations.StoForcesEveryGatePadLow : Prop :=
  (∀ (s : State) (l : LaneId) (L : Lane), s.lane l = L → L.rd COU_STATUS.LINE = 2 → L.rd Int.line ≠ 2 →
    ∃ K, exec (.stopLineState l) s = .next (s.onLane l (fun _ => K)) ∧ K.stoHolds 0 = true ∧ K.stoHolds 1 = true ∧
      (∀ k < 48, K.padLevel k = false) ∧ K.mem = L.mem ∧ K.nor = L.nor) ∧
  (∀ (s : State) (l : LaneId), (s.lane l).rd COU_STATUS.LINE = (s.lane l).rd Int.line → exec (.stopLineState l) s = .next (s.onLane l id)) ∧
  (∀ (s : State) (l : LaneId), ∃ K, exec (.stopLineFault l) s = .next (s.onLane l (fun _ => K)) ∧ K.on Int.fieldE0 = true ∧ K.rd Int.line = 3) ∧
  (∀ (s : State) (l : LaneId) (c : Fin 2), ∃ K, exec (.stoReadbackFault l c) s = .next (s.onLane l (fun _ => K)) ∧
    K.bitOf STO_STATUS.TRIP c = true ∧ K.on STO_FLAGS.READBACK = true ∧ (∀ k < 24, K.padLevel (24 * c + k) = false)) ∧
  (∀ (s : State) (l : LaneId) (c : Fin 2) (L : Lane), s.lane l = L → L.bitOf Int.stoTestDue c = true → L.bitOf STO_STATUS.TRIP c = false →
    (∃ K, exec (.stoTest l c false) s = .next (s.onLane l (fun _ => K)) ∧ K.bitOf STO_STATUS.TRIP c = true ∧ K.on STO_FLAGS.TEST_FAIL = true ∧
      (∀ k < 24, K.padLevel (24 * c + k) = false) ∧ K.mem = L.mem ∧ K.nor = L.nor) ∧
    (∃ K, exec (.stoTest l c true) s = .next (s.onLane l (fun _ => K)) ∧ K.bitOf Int.stoTestDue c = false ∧ K.bitOf Int.stoDue c = false ∧
      K.rd STO_CNT.TESTS = min (L.rd STO_CNT.TESTS + 1) (2 ^ STO_CNT.TESTS.width - 1) ∧ K.rd (Int.stoPassed c) = L.ftb % 2 ^ (Int.stoPassed c).width ∧
      (L.bitOf Int.stoDue (1 - c.val) = true → K.on STO_STATUS.TEST_DUE = true) ∧ (L.rd Int.stoDue = 2 ^ c.val → K.on STO_STATUS.TEST_DUE = false) ∧
      L.onlyFields K [Int.stoTestDue, STO_CNT.TESTS, Int.stoPassed c, Int.stoDue, STO_STATUS.TEST_DUE])) ∧
  (∀ (s : State) (l : LaneId) (c : Fin 2) (ok : Bool), ((s.lane l).bitOf Int.stoTestDue c = false ∨ (s.lane l).bitOf STO_STATUS.TRIP c = true) →
    exec (.stoTest l c ok) s = .next (s.onLane l id)) ∧
  (∀ (s : State) (l : LaneId) (L : Lane), s.lane l = L → L.on STO_CFG.FREEZE_EN = true → L.anyPadHigh = true →
    ∃ K, exec (.freezeTrip l) s = .next (s.onLane l (fun _ => K)) ∧ K.on STO_FLAGS.FREEZE_TRIP = true ∧ K.rd STO_STATUS.TRIP = 3 ∧ (∀ k < 48, K.padLevel k = false) ∧
      K.mem = L.mem ∧ K.nor = L.nor) ∧
  (∀ (s : State) (l : LaneId), ((s.lane l).on STO_CFG.FREEZE_EN = false ∨ (s.lane l).anyPadHigh = false) →
    exec (.freezeTrip l) s = .next (s.onLane l id)) ∧
  (∀ (s : State) (l : LaneId) (L : Lane), s.lane l = L →
    ∃ K, exec (.testMaxExpiry l) s = .next (s.onLane l (fun _ => K)) ∧ K.on STO_STATUS.TEST_DUE = true ∧
      (∀ c < 2, L.rd (Int.stoPassed c) ≤ L.rd (Int.stoPassed (1 - c)) → K.bitOf Int.stoDue c = true) ∧ L.onlyFields K [STO_STATUS.TEST_DUE, Int.stoDue])

/-- SEAL_SAMPLE: the eighth equal sample with another contact pattern than the reading becomes the reading and counts, and
where it differs from the loaded set outside SERVICE it sets SEAL_CHG and reports source 0xB4; fewer equal samples
change only the sample and its count. SEAL_LOOP_SAMPLE with the seal open clears the count of disagreements alone; one
that agrees clears it and sets LOOP_OK; the second disagreement in a row, and each further one, clears LOOP_OK and
sets LOOP_FAULT, reporting source 0xB5 where that is not set; the first changes only its count. Memory is unchanged in
each case. (R279, R280, R282) -/
def Obligations.SealReadingsAndLoop : Prop :=
  (∀ (s : State) (l : LaneId) (c : Fin 8) (L : Lane), s.lane l = L → L.rd Int.sealLast = c → 7 ≤ L.rd Int.sealCnt → L.rd SSF_SEAL.READING ≠ c →
    ∃ K, exec (.sealSample l c) s = .next (s.onLane l (fun _ => K)) ∧ K.rd SSF_SEAL.READING = c ∧
      K.rd SSF_SEAL.SEAL_CNT = min (L.rd SSF_SEAL.SEAL_CNT + 1) (2 ^ SSF_SEAL.SEAL_CNT.width - 1) ∧ K.mem = L.mem ∧ K.nor = L.nor ∧
      (L.rd Int.loadPhase = 4 → L.mode ≠ mService → L.rd SSF_SEAL.LOADED_SET ≠ c →
        K.on SSF_FLAGS.SEAL_CHG = true ∧ K.inbox = L.inbox ++ [⟨0xB4, false, 1, 0⟩])) ∧
  (∀ (s : State) (l : LaneId) (c : Fin 8) (L : Lane), s.lane l = L → (L.rd Int.sealLast ≠ c ∨ L.rd Int.sealCnt < 7 ∨ L.rd SSF_SEAL.READING = c) →
    ∃ K, exec (.sealSample l c) s = .next (s.onLane l (fun _ => K)) ∧ K.rd Int.sealLast = c ∧
      K.rd Int.sealCnt = (if L.rd Int.sealLast = c then min 8 (L.rd Int.sealCnt + 1) else 1) ∧ L.onlyFields K [Int.sealLast, Int.sealCnt]) ∧
  (∀ (s : State) (l : LaneId) (ok : Bool) (L : Lane), s.lane l = L → L.rd SSF_SEAL.READING = 7 →
    ∃ K, exec (.sealLoopSample l ok) s = .next (s.onLane l (fun _ => K)) ∧ K.rd Int.loopBad = 0 ∧ L.onlyFields K [Int.loopBad]) ∧
  (∀ (s : State) (l : LaneId) (L : Lane), s.lane l = L → L.rd SSF_SEAL.READING ≠ 7 →
    ∃ K, exec (.sealLoopSample l true) s = .next (s.onLane l (fun _ => K)) ∧ K.on SSF_SEAL.LOOP_OK = true ∧ K.rd Int.loopBad = 0 ∧
      L.onlyFields K [Int.loopBad, SSF_SEAL.LOOP_OK]) ∧
  (∀ (s : State) (l : LaneId) (L : Lane), s.lane l = L → L.rd SSF_SEAL.READING ≠ 7 → 1 ≤ L.rd Int.loopBad →
    ∃ K, exec (.sealLoopSample l false) s = .next (s.onLane l (fun _ => K)) ∧ K.on SSF_SEAL.LOOP_OK = false ∧ K.on SSF_FLAGS.LOOP_FAULT = true ∧
      K.inbox = (if L.on SSF_FLAGS.LOOP_FAULT then L.inbox else L.inbox ++ [⟨0xB5, false, 1, 0⟩]) ∧
      ({ L with inbox := K.inbox } : Lane).onlyFields K [Int.loopBad, SSF_SEAL.LOOP_OK, SSF_FLAGS.LOOP_FAULT]) ∧
  (∀ (s : State) (l : LaneId) (L : Lane), s.lane l = L → L.rd SSF_SEAL.READING ≠ 7 → L.rd Int.loopBad = 0 →
    ∃ K, exec (.sealLoopSample l false) s = .next (s.onLane l (fun _ => K)) ∧ K.rd Int.loopBad = 1 ∧ L.onlyFields K [Int.loopBad])

/-- LEASE_EXPIRY of a holder clears the drive, falls back to STANDBY, sets EXPIRED, counts and raises 0xA0; memory and
every other register keep their values but for event inputs and Couch credits. CLAIM_TIMEOUT of an eligible standby
that hears the bus and whose watch runs claims with the next sequence, names its successor, sends CLAIM on each live
Felt port and does not drive yet. GUARD_EXPIRY of a claiming lane: not eligible, it falls back; eligible with SA
powered, it drives as HOLDER, its sequence being that of the claim; with SA not powered it only notes the end of the
guard. SD_HOLD_EXPIRY of a holder in SHUTDOWN releases without a successor and sends RELEASE. In any other state each
of the four has no effect. (R244, R248, R249, R252, R253, R255, R263, R264) -/
def Obligations.LeaseRolesChangeAsTheTimersSay : Prop :=
  (∀ (s : State) (l : LaneId) (L : Lane), s.lane l = L → L.holds = true →
    ∃ K, exec (.leaseExpiry l) s = .next (s.onLane l (fun _ => K)) ∧ K.on LSE_STATUS.DRIVING = false ∧ K.rd LSE_STATUS.ROLE = 1 ∧
      K.on LSE_FLAGS.EXPIRED = true ∧ K.rd LSE_CNT.EXPIRIES = min (L.rd LSE_CNT.EXPIRIES + 1) (2 ^ LSE_CNT.EXPIRIES.width - 1) ∧
      K.inbox = L.inbox ++ [⟨0xA0, false, 1, 0⟩] ∧
      L.keepsBut K ([LSE_STATUS.DRIVING, LSE_STATUS.ROLE, LSE_STATUS.ELIGIBLE, LSE_FLAGS.EXPIRED, LSE_CNT.EXPIRIES, Int.hoPhase] ++
        eventFields ++ couchFields)) ∧
  (∀ (s : State) (l : LaneId), (s.lane l).holds = false → exec (.leaseExpiry l) s = .next (s.onLane l id)) ∧
  (∀ (s : State) (l : LaneId) (L : Lane), s.lane l = L → L.on Int.watchArmed = true → L.isStandby = true → L.eligible = true → 2 ≤ L.rd Int.ngbOk →
    (L.rd PSC_STATUS.SA = 0 ∨ L.rd PSC_STATUS.STAGE = 0) →
    ∃ K, exec (.claimTimeout l) s = .next (s.onLane l (fun _ => K)) ∧ K.rd LSE_STATUS.ROLE = 2 ∧
      K.rd LSE_STATUS.SEQ = (L.rd Int.watchSeq + 1) % 65536 ∧ K.rd LSE_STATUS.HOLDER = L.me ∧
      K.rd LSE_STATUS.SUCCESSOR = successorOf (L.rd Int.eligMask) (L.rd LSE_CFG.PREF) L.me ∧ (∀ p < 2, L.on (FLT_P_STATUS.LINK p) = true → (.claim ((L.rd Int.watchSeq + 1) % 65536)) ∈ K.felt p ++ K.feltWait p) ∧
      K.rd LSE_STATUS.DRIVING = L.rd LSE_STATUS.DRIVING ∧ K.mem = L.mem ∧ K.nor = L.nor) ∧
  (∀ (s : State) (l : LaneId) (L : Lane), s.lane l = L → (L.on Int.watchArmed = false ∨ L.isStandby = false ∨ L.eligible = false ∨
    L.rd Int.ngbOk < 2) → exec (.claimTimeout l) s = .next (s.onLane l id)) ∧
  (∀ (s : State) (l : LaneId) (L : Lane), s.lane l = L → L.rd LSE_STATUS.ROLE = 2 → L.eligible = false →
    ∃ K, exec (.guardExpiry l) s = .next (s.onLane l (fun _ => K)) ∧ K.rd LSE_STATUS.ROLE = 1 ∧ K.rd LSE_STATUS.DRIVING = L.rd LSE_STATUS.DRIVING ∧
      L.keepsBut K ([LSE_STATUS.ROLE, LSE_STATUS.HOLDER, Int.guardDone] ++ eventFields)) ∧
  (∀ (s : State) (l : LaneId) (L : Lane), s.lane l = L → L.rd LSE_STATUS.ROLE = 2 → L.eligible = true → L.rd PSC_STATUS.SA = 0 →
    ∃ K, exec (.guardExpiry l) s = .next (s.onLane l (fun _ => K)) ∧ K.rd LSE_STATUS.ROLE = 3 ∧ K.on LSE_STATUS.DRIVING = true ∧
      K.rd LSE_STATUS.HOLDER = L.me ∧ K.rd LSE_STATUS.SEQ = L.rd LSE_STATUS.SEQ ∧
      K.rd LSE_CNT.TAKEOVERS = min (L.rd LSE_CNT.TAKEOVERS + 1) (2 ^ LSE_CNT.TAKEOVERS.width - 1) ∧ K.mem = L.mem ∧ K.nor = L.nor) ∧
  (∀ (s : State) (l : LaneId) (L : Lane), s.lane l = L → L.rd LSE_STATUS.ROLE = 2 → L.eligible = true → L.rd PSC_STATUS.SA ≠ 0 →
    ∃ K, exec (.guardExpiry l) s = .next (s.onLane l (fun _ => K)) ∧ K.on Int.guardDone = true ∧ L.onlyFields K [Int.guardDone]) ∧
  (∀ (s : State) (l : LaneId), (s.lane l).rd LSE_STATUS.ROLE ≠ 2 → exec (.guardExpiry l) s = .next (s.onLane l id)) ∧
  (∀ (s : State) (l : LaneId) (L : Lane), s.lane l = L → L.mode = mShutdown → L.holds = true →
    ∃ K, exec (.sdHoldExpiry l) s = .next (s.onLane l (fun _ => K)) ∧ K.on LSE_STATUS.DRIVING = false ∧ K.rd LSE_STATUS.ROLE = 1 ∧
      K.rd LSE_STATUS.HOLDER = 3 ∧ K.rd LSE_STATUS.SUCCESSOR = 3 ∧ K.rd LSE_STATUS.SEQ = (L.rd LSE_STATUS.SEQ + 1) % 65536 ∧
      (∀ p < 2, L.on (FLT_P_STATUS.LINK p) = true → (.release ((L.rd LSE_STATUS.SEQ + 1) % 65536) 3) ∈ K.felt p ++ K.feltWait p) ∧ K.mem = L.mem ∧ K.nor = L.nor) ∧
  (∀ (s : State) (l : LaneId), ((s.lane l).mode ≠ mShutdown ∨ (s.lane l).holds = false) → exec (.sdHoldExpiry l) s = .next (s.onLane l id))

/-- HANDOVER_REQUEST of a holder with a successor starts the handover to it; of another lane, or without one, it has no
effect. SWAP_INTERVAL_EXPIRY with swaps disabled, or of a lane that does not hold, has no effect; blocked, it notes
the deferral; else the handover starts; a deferred swap that is no longer blocked starts at the next frame start and
is then counted. HOLDOFF_EXPIRY notes the preferred return only of a holder whose eligible preferred lane is another.
SNAPSHOT_PUSH of a holder sends the snapshot, or lets it wait for a credit, to every eligible standby whose link is
up. SA_READBACK_FAULT of a driving or claiming lane bars it, ends its claim and sets READBACK; of another it has no
effect. SA_CONT_CLR in SERVICE clears the bits written 1 that no present lane still reports; in other modes, nothing.
(R247, R258, R259, R260, R261, R262, R8) -/
def Obligations.PlannedHandoverSwapAndSnapshots : Prop :=
  (∀ (s : State) (l : LaneId) (L : Lane), s.lane l = L → L.rd LSE_STATUS.ROLE = 3 → L.rd LSE_STATUS.SUCCESSOR < 3 →
    ∃ K, exec (.handoverRequest l) s = .next (s.onLane l (fun _ => K)) ∧ K.rd LSE_STATUS.ROLE = 4 ∧ K.rd Int.hoPhase = 1 ∧
      K.rd Int.hoTarget = L.rd LSE_STATUS.SUCCESSOR ∧ L.keepsBut K ([LSE_STATUS.ROLE, Int.hoPhase, Int.hoTarget] ++ eventFields)) ∧
  (∀ (s : State) (l : LaneId), ((s.lane l).rd LSE_STATUS.ROLE ≠ 3 ∨ (s.lane l).rd LSE_STATUS.SUCCESSOR = 3) →
    exec (.handoverRequest l) s = .next (s.onLane l id)) ∧
  (∀ (s : State) (l : LaneId), ((s.lane l).on LSE_CFG.SWAP_EN = false ∨ (s.lane l).rd LSE_STATUS.ROLE ≠ 3) →
    exec (.swapIntervalExpiry l) s = .next (s.onLane l id)) ∧
  (∀ (s : State) (l : LaneId) (L : Lane), s.lane l = L → L.on LSE_CFG.SWAP_EN = true → L.rd LSE_STATUS.ROLE = 3 → L.swapBlocked = true →
    ∃ K, exec (.swapIntervalExpiry l) s = .next (s.onLane l (fun _ => K)) ∧ K.on Int.swapDue = true ∧
      L.onlyFields K [Int.swapAt, Int.swapDue]) ∧
  (∀ (L : Lane), L.rd LSE_STATUS.ROLE = 3 → L.on Int.prefDue = false → L.on Int.swapDue = true → L.swapBlocked = false →
    (L.plannedStart).rd LSE_STATUS.ROLE = 4 ∧ (L.plannedStart).on Int.swapDue = false ∧
    (L.plannedStart).rd LSE_CNT.SWAP_DEFER = min (L.rd LSE_CNT.SWAP_DEFER + 1) (2 ^ LSE_CNT.SWAP_DEFER.width - 1)) ∧
  (∀ (s : State) (l : LaneId) (L : Lane), s.lane l = L → L.on LSE_CFG.SWAP_EN = true → L.rd LSE_STATUS.ROLE = 3 → L.swapBlocked = false →
    ∃ K, exec (.swapIntervalExpiry l) s = .next (s.onLane l (fun _ => K)) ∧ K.rd LSE_STATUS.ROLE = 4 ∧ K.rd Int.hoPhase = 1 ∧
      K.rd Int.hoTarget = successorOf (L.rd Int.eligMask) (L.rd LSE_CFG.PREF) L.me ∧ K.inbox = L.inbox) ∧
  (∀ (s : State) (l : LaneId) (L : Lane), s.lane l = L → L.rd LSE_STATUS.ROLE = 3 → L.rd LSE_CFG.PREF < 3 → L.rd LSE_CFG.PREF ≠ L.me →
    L.bitOf Int.eligMask (L.rd LSE_CFG.PREF) = true →
    ∃ K, exec (.holdoffExpiry l) s = .next (s.onLane l (fun _ => K)) ∧ K.on Int.prefDue = true ∧ L.onlyFields K [Int.prefDue]) ∧
  (∀ (s : State) (l : LaneId) (L : Lane), s.lane l = L → (L.rd LSE_STATUS.ROLE ≠ 3 ∨ 3 ≤ L.rd LSE_CFG.PREF ∨ L.rd LSE_CFG.PREF = L.me ∨
    L.bitOf Int.eligMask (L.rd LSE_CFG.PREF) = false) → exec (.holdoffExpiry l) s = .next (s.onLane l id)) ∧
  (∀ (s : State) (l : LaneId) (L : Lane), s.lane l = L → L.holds = true →
    ∃ K, exec (.snapshotPush l) s = .next (s.onLane l (fun _ => K)) ∧ K.rd Int.snapPushAt = L.leaseNow % 2 ^ 64 ∧
      (∀ n ∈ L.siblings, L.bitOf Int.eligMask n = true → L.on (FLT_P_STATUS.LINK (L.portTo n)) = true →
        .snapshot L.snapshot ∈ K.felt (L.portTo n) ++ K.feltWait (L.portTo n)) ∧
      L.keepsBut K (Int.snapPushAt :: feltFields)) ∧
  (∀ (s : State) (l : LaneId), (s.lane l).holds = false → exec (.snapshotPush l) s = .next (s.onLane l id)) ∧
  (∀ (s : State) (l : LaneId) (m : Fin 8) (L : Lane), s.lane l = L → (L.on LSE_STATUS.DRIVING = true ∨ L.rd LSE_STATUS.ROLE = 2) →
    ∃ K, exec (.saReadbackFault l m) s = .next (s.onLane l (fun _ => K)) ∧ K.on LSE_FLAGS.READBACK = true ∧ K.rd LSE_STATUS.ROLE = 5 ∧
      K.inbox = L.inbox ++ [⟨0xA4, false, 1, 0⟩] ∧ (L.holds = true → K.on LSE_STATUS.DRIVING = false) ∧
      (L.rd LSE_STATUS.ROLE = 2 → L.rd LSE_STATUS.HOLDER = L.me → K.rd LSE_STATUS.HOLDER = 3) ∧ K.mem = L.mem ∧ K.nor = L.nor) ∧
  (∀ (s : State) (l : LaneId) (m : Fin 8), (s.lane l).on LSE_STATUS.DRIVING = false → (s.lane l).rd LSE_STATUS.ROLE ≠ 2 → exec (.saReadbackFault l m) s = .next (s.onLane l id)) ∧
  (∀ (s : State) (l : LaneId) (mask : Nat) (L : Lane), s.lane l = L → L.mode = mService →
    ∃ K, exec (.saContClr l mask) s = .next (s.onLane l (fun _ => K)) ∧
      (∀ m < 8, K.bitOf LSE_SA.SA_CONT m = (L.bitOf LSE_SA.SA_CONT m && ! (mask.testBit m && ! L.contReported.testBit m))) ∧
      L.keepsBut K (LSE_SA.SA_CONT :: couchFields)) ∧
  (∀ (s : State) (l : LaneId) (mask : Nat), (s.lane l).mode ≠ mService → exec (.saContClr l mask) s = .next (s.onLane l id))

/-- CLAIM_RECEIPT, RELEASE_RECEIPT, HANDOVER_RECEIPT and SNAPSHOT_RECEIPT take such a message at the head of the sibling’s
port and give it to the lane; with none of its kind on the port the package is unchanged. A newer CLAIM makes its
sender the HOLDER in a standby, and makes a holder step down with CLAIM_CONFLICT and source 0xA2; of two equal claims
the lower LANE_ID stands. A newer RELEASE that names an eligible standby makes it claim; its sequence stands in a
claiming and in a holding lane too. A snapshot is written into the half without the newest valid copy, checks there,
and no other byte changes. SA_POWER_UP without a start under way has no effect; with a bad retention CRC the lane
exits; else SA runs, and a claim whose guard has ended takes the drive. SA_POWER_DOWN of a standby with two renewals
running turns SA OFF. (R250, R252, R253, R255, R257, R258, R262, R310, R432) -/
def Obligations.LeaseMessagesAndSaPower : Prop :=
  (∀ (s : State) (l src : LaneId) (p : Nat) (x : FeltMsg) (r : List FeltMsg), l ≠ src → s.variant.fitted l = true → s.variant.fitted src = true →
    p = (s.lane src).portTo l.num → (s.lane src).felt p = x :: r →
    (∀ q, x = .claim q → exec (.claimReceipt l src) s = .next ((s.setLane src ((s.lane src).setFelt p r)).onLane l (fun L =>
      (L.claimFrom src.num q).syncEligible))) ∧
    (∀ q n, x = .release q n → exec (.releaseReceipt l src) s = .next ((s.setLane src ((s.lane src).setFelt p r)).onLane l (fun L => L.releaseFrom q n))) ∧
    (∀ q, x = .handover q → exec (.handoverReceipt l src) s = .next ((s.setLane src ((s.lane src).setFelt p r)).onLane l (fun L =>
      if L.isStandby then (L.wakeSa.wr Int.acceptNext 1).wr Int.renewRun 0 else L))) ∧
    (∀ m, x = .snapshot m → exec (.snapshotReceipt l src) s = .next ((s.setLane src ((s.lane src).setFelt p r)).onLane l (fun L => L.storeSnap m)))) ∧
  (∀ (s : State) (l src : LaneId) (ms : List FeltMsg), ms = (s.lane src).felt ((s.lane src).portTo l.num) →
    ((∀ m ∈ ms, ∀ q, m ≠ .claim q) → exec (.claimReceipt l src) s = .next s) ∧
    ((∀ m ∈ ms, ∀ q n, m ≠ .release q n) → exec (.releaseReceipt l src) s = .next s) ∧
    ((∀ m ∈ ms, ∀ q, m ≠ .handover q) → exec (.handoverReceipt l src) s = .next s) ∧
    ((∀ m ∈ ms, ∀ x, m ≠ .snapshot x) → exec (.snapshotReceipt l src) s = .next s)) ∧
  (∀ (L : Lane) (n q : Nat), n < 3 → q < 65536 → L.rd LSE_STATUS.ROLE ≤ 1 → seqNewer q (L.rd Int.watchSeq) = true →
    (L.claimFrom n q).rd LSE_STATUS.HOLDER = n ∧ (L.claimFrom n q).rd LSE_STATUS.SEQ = q ∧ (L.claimFrom n q).rd LSE_STATUS.ROLE = L.rd LSE_STATUS.ROLE ∧
    (L.claimFrom n q).on Int.watchArmed = true) ∧
  (∀ (L : Lane) (n q : Nat), n < 3 → q < 65536 → L.holds = true → seqNewer q (L.rd Int.watchSeq) = true →
    (L.claimFrom n q).rd LSE_STATUS.ROLE = 1 ∧ (L.claimFrom n q).on LSE_STATUS.DRIVING = false ∧ (L.claimFrom n q).on LSE_FLAGS.CLAIM_CONFLICT = true ∧
    (L.claimFrom n q).inbox = L.inbox ++ [⟨0xA2, false, 1, 0⟩] ∧ (L.claimFrom n q).rd LSE_STATUS.HOLDER = n) ∧
  (∀ (L : Lane) (n : Nat), n < 3 → L.rd LSE_STATUS.ROLE = 2 → (n < L.me → (L.claimFrom n (L.rd Int.claimSeq)).rd LSE_STATUS.ROLE = 1) ∧
    (L.me < n → L.claimFrom n (L.rd Int.claimSeq) = L)) ∧
  (∀ (L : Lane) (q : Nat), q < 65536 → L.isStandby = true → L.eligible = true → seqNewer q (L.rd Int.watchSeq) = true →
    (L.rd PSC_STATUS.SA = 0 ∨ L.rd PSC_STATUS.STAGE = 0) →
    (L.releaseFrom q L.me).rd LSE_STATUS.ROLE = 2 ∧ (L.releaseFrom q L.me).rd LSE_STATUS.SEQ = (q + 1) % 65536 ∧
    (L.releaseFrom q L.me).rd LSE_STATUS.HOLDER = L.me) ∧
  (∀ (L : Lane) (q n : Nat), q < 65536 → seqNewer q (L.rd Int.watchSeq) = true → (L.holds = true ∨ (L.rd LSE_STATUS.ROLE = 2 ∧ n ≠ L.me)) →
    (L.releaseFrom q n).rd LSE_STATUS.SEQ = q ∧ (L.releaseFrom q n).rd LSE_STATUS.ROLE = L.rd LSE_STATUS.ROLE) ∧
  (∀ (L : Lane) (m : Snapshot) (h : Nat), h = (if L.newestSnap = some 0 then 1 else 0) →
    (L.storeSnap m).snapValid h = true ∧ (L.storeSnap m).mem.bytes ramDefault (snapBase h) 21 = m.bytes ∧
    (∀ a, a < snapBase h ∨ snapBase h + 25 ≤ a → (L.storeSnap m).mem.byte ramDefault a = L.mem.byte ramDefault a)) ∧
  (∀ (s : State) (l : LaneId), (s.lane l).on Int.saStarting = false → exec (.saPowerUp l) s = .next (s.onLane l id)) ∧
  (∀ (s : State) (l : LaneId) (L : Lane), s.lane l = L → L.on Int.saStarting = true → L.retOk = false → L.canExit = true →
    ∃ K, exec (.saPowerUp l) s = .next (s.onLane l (fun _ => K)) ∧ K.on Int.e0 = true ∧ K.on PSC_RET.RET_BAD = true) ∧
  (∀ (s : State) (l : LaneId) (L : Lane), s.lane l = L → L.on Int.saStarting = true → L.retOk = true → L.rd PSC_RET.N = 0 → L.on Int.guardDone = false →
    ∃ K, exec (.saPowerUp l) s = .next (s.onLane l (fun _ => K)) ∧ K.rd PSC_STATUS.SA = 0 ∧ K.on Int.saStarting = false ∧
      K.rd LSE_STATUS.ROLE = (if L.rd LSE_STATUS.ROLE % 8 = 0 then 1 else L.rd LSE_STATUS.ROLE % 8) ∧ K.mem = L.mem ∧ K.nor = L.nor) ∧
  (∀ (s : State) (l : LaneId) (L : Lane), s.lane l = L → L.on Int.saStarting = true → L.retOk = true → L.rd PSC_RET.N = 0 → L.on Int.guardDone = true →
    L.rd LSE_STATUS.ROLE = 2 →
    ∃ K, exec (.saPowerUp l) s = .next (s.onLane l (fun _ => K)) ∧ K.rd PSC_STATUS.SA = 0 ∧ K.rd LSE_STATUS.ROLE = 3 ∧ K.on LSE_STATUS.DRIVING = true ∧
      K.mem = L.mem ∧ K.nor = L.nor) ∧
  (∀ (s : State) (l : LaneId) (L : Lane), s.lane l = L → L.isStandby = true → L.rd PSC_STATUS.SA = 0 → 2 ≤ L.rd Int.renewRun →
    L.rd Int.acceptNext = 0 →
    ∃ K, exec (.saPowerDown l) s = .next (s.onLane l (fun _ => K)) ∧ K.rd PSC_STATUS.SA = 3 ∧ K.rd LSE_STATUS.ROLE = 0) ∧
  (∀ (s : State) (l : LaneId) (L : Lane), s.lane l = L → (L.isStandby = false ∨ L.rd PSC_STATUS.SA ≠ 0 ∨ L.rd Int.renewRun < 2 ∨
    L.rd Int.acceptNext ≠ 0) → exec (.saPowerDown l) s = .next (s.onLane l id))

/-- SCH_POST to a locked graph’s operation of TRIG 4: with its tokens there and no instance in progress a new instance
with the next number is ready; with one in progress it coalesces, with OVERRUN and source 0x35; with tokens missing
only the trigger is noted; else no effect. DISPATCH moves the first ready operation that has a target into its queue,
or starts it where a NEXT read waits; in exit or out of service, nothing. NEXT_READ starts the head of the queue,
waits on an empty one, and is a protocol error while one executes; NEXT_WAIT_EXPIRY gives IDLE to a waiting read.
DONE_WRITE completes the executing operation its index names, and is else a protocol error with source 0x3A. A NEXT
read or a DONE write of a pair whose outputs are held, and a NEXT read of target 4 without SPLIT3, do nothing. (R315,
R317, R318, R319, R320, R327, R329) -/
def Obligations.SchedulerDispatchesAndCompletes : Prop :=
  (∀ (s : State) (l : LaneId) (op : Fin 4096) (L : Lane), s.lane l = L → L.on SCH_CFG.LOCK = true → L.opTrig op = 4 → L.inProgress op = false →
    L.opNpred op - 1 ≤ L.rd (Int.opTokens op) →
    ∃ K, exec (.schPost l op) s = .next (s.onLane l (fun _ => K)) ∧ K.mem = L.mem ∧ K.rd (Int.opInst op) = (L.rd (Int.opInst op) + 1) % 65536 ∧
      ∃ o ∈ K.sched.ready, o.index = op ∧ o.inst = (L.rd (Int.opInst op) + 1) % 65536 ∧ o.readyAt = L.now ∧ o.trigAt = L.now % 2 ^ 64 ∧
        o.shadow = false) ∧
  (∀ (s : State) (l : LaneId) (op : Fin 4096) (L : Lane), s.lane l = L → L.on SCH_CFG.LOCK = true → L.opTrig op = 4 → L.inProgress op = true →
    L.opNpred op - 1 ≤ L.rd (Int.opTokens op) →
    ∃ K, exec (.schPost l op) s = .next (s.onLane l (fun _ => K)) ∧ K.on SCH_FLAGS.OVERRUN = true ∧ K.sched = L.sched ∧
      K.inbox = L.inbox ++ [⟨0x35, false, 1, 0⟩]) ∧
  (∀ (s : State) (l : LaneId) (op : Fin 4096) (L : Lane), s.lane l = L → L.on SCH_CFG.LOCK = true → L.opTrig op = 4 →
    L.rd (Int.opTokens op) < L.opNpred op - 1 →
    ∃ K, exec (.schPost l op) s = .next (s.onLane l (fun _ => K)) ∧ K.on (Int.opFlag op) = true ∧ L.onlyFields K [Int.opFlag op, Int.opTrigAt op]) ∧
  (∀ (s : State) (l : LaneId) (op : Fin 4096), ((s.lane l).on SCH_CFG.LOCK = false ∨ (s.lane l).opTrig op ≠ 4) →
    exec (.schPost l op) s = .next (s.onLane l id)) ∧
  (∀ (s : State) (l : LaneId), ((s.lane l).on Int.e0 = true ∨ liveState (s.lane l).state = false ∨ (s.lane l).nextDispatch = none) →
    exec (.dispatch l) s = .next (s.onLane l id)) ∧
  (∀ (s : State) (l : LaneId) (o : OpInst) (t : Nat) (L : Lane), s.lane l = L → L.on Int.e0 = false → liveState L.state = true →
    L.nextDispatch = some (o, t) → t < 5 → L.sched.queues.length = 5 → L.sched.exec.length = 5 →
    ∃ K, exec (.dispatch l) s = .next (s.onLane l (fun _ => K)) ∧ K.sched.ready = L.sched.ready.erase o ∧ K.mem = L.mem ∧
      (L.on (Int.nextWait t) = false → K.queue t = L.enqueue o (L.queue t) ∧ K.sched.exec = L.sched.exec) ∧
      (L.on (Int.nextWait t) = true → L.queue t = [] → K.queue t = [] ∧ K.execOf t = some { o with startAt := L.now })) ∧
  (∀ (s : State) (l : LaneId) (t : Fin 5) (o : OpInst) (r : List OpInst) (L : Lane), s.lane l = L → (t ≠ 4 ∨ L.split3 = true) →
    L.pairHeld (targetPair t) = false → L.execOf t = none → L.queue t = o :: r → L.sched.exec.length = 5 →
    ∃ K, exec (.nextRead l t) s = .next (s.onLane l (fun _ => K)) ∧ K.queue t = r ∧ K.execOf t = some { o with startAt := L.now } ∧
      K.rd (SCH_T_NEXT.INDEX t) = o.index % 4096 ∧ K.rd (SCH_T_NEXT.INST t) = o.inst % 65536 ∧ K.on (SCH_T_NEXT.SHADOW t) = o.shadow ∧
      K.on (SCH_T_NEXT.IDLE t) = false ∧ K.mem = L.mem) ∧
  (∀ (s : State) (l : LaneId) (t : Fin 5) (L : Lane), s.lane l = L → (t ≠ 4 ∨ L.split3 = true) →
    L.pairHeld (targetPair t) = false → L.execOf t = none → L.queue t = [] →
    ∃ K, exec (.nextRead l t) s = .next (s.onLane l (fun _ => K)) ∧ K.on (Int.nextWait t) = true ∧ L.onlyFields K [Int.nextWait t]) ∧
  (∀ (s : State) (l : LaneId) (t : Fin 5) (i : Fin 4096) (c : Instr) (L : Lane), s.lane l = L → L.pairHeld (targetPair t) = false →
    ((t ≠ 4 ∨ L.split3 = true) ∧ (L.execOf t).isSome = true ∧ c = .nextRead l t ∨
      (∀ o, L.execOf t = some o → o.index ≠ i) ∧ c = .doneWrite l t i) →
    ∃ K, exec c s = .next (s.onLane l (fun _ => K)) ∧
      K.rd (SCH_T_STATUS.PROTO_ERR t) = min (L.rd (SCH_T_STATUS.PROTO_ERR t) + 1) (2 ^ (SCH_T_STATUS.PROTO_ERR t).width - 1) ∧
      K.inbox = L.inbox ++ [⟨0x3A, false, 1, 0⟩] ∧ K.sched = L.sched ∧ L.keepsBut K [SCH_T_STATUS.PROTO_ERR t]) ∧
  (∀ (s : State) (l : LaneId), (s.lane l).split3 = false → exec (.nextRead l 4) s = .next (s.onLane l id)) ∧
  (∀ (s : State) (l : LaneId) (t : Fin 5) (i : Fin 4096) (c : Instr), (s.lane l).pairHeld (targetPair t) = true →
    (c = .nextRead l t ∨ c = .doneWrite l t i) → exec c s = .next (s.onLane l id)) ∧
  (∀ (s : State) (l : LaneId) (t : Fin 5) (L : Lane), s.lane l = L → L.on (Int.nextWait t) = true →
    ∃ K, exec (.nextWaitExpiry l t) s = .next (s.onLane l (fun _ => K)) ∧ K.on (SCH_T_NEXT.IDLE t) = true ∧ K.on (Int.nextWait t) = false ∧
      L.onlyFields K [Int.nextWait t, SCH_T_NEXT.IDLE t, SCH_T_NEXT.INDEX t, SCH_T_NEXT.INST t, SCH_T_NEXT.SHADOW t]) ∧
  (∀ (s : State) (l : LaneId) (t : Fin 5), (s.lane l).on (Int.nextWait t) = false → exec (.nextWaitExpiry l t) s = .next (s.onLane l id)) ∧
  (∀ (s : State) (l : LaneId) (t : Fin 5) (i : Fin 4096) (o : OpInst) (L : Lane), s.lane l = L →
    L.pairHeld (targetPair t) = false → L.execOf t = some o → o.index = i →
    ∃ K, exec (.doneWrite l t i) s = .next (s.onLane l (fun _ => K)) ∧ K.execOf t = none ∧ K.sched.queues = L.sched.queues ∧
      K.rd (SCH_T_CNT.DONE_CNT t) = min (L.rd (SCH_T_CNT.DONE_CNT t) + 1) (2 ^ (SCH_T_CNT.DONE_CNT t).width - 1) ∧ K.mem = L.mem)

/-- BUDGET_EXPIRY and HANG_EXPIRY of an executing operation mark it and raise 0x33 and 0x34, once. DEADLINE_EXPIRY of an
instance counts the miss of its class and raises 0x32, and 0x31 where a safety operation has missed DL_EXIT times in a
row, once. NO_TARGET_TIMEOUT of a waiting operation without a target raises 0x38, once. WITHDRAWAL_REQUEST acts on a
pair in RUN or SPLIT that is not being withdrawn: refused where capacity forbids it; else its queue returns, and it is
WITHDRAWN at once if it executes nothing. WITHDRAWAL_TIMEOUT ends a withdrawal under way with a refusal and leaves the
pair’s state. In all other cases no effect. (R319, R321, R323, R325, R326) -/
def Obligations.BudgetsDeadlinesAndWithdrawal : Prop :=
  (∀ (s : State) (l : LaneId) (t : Fin 5) (o : OpInst) (L : Lane), s.lane l = L → L.execOf t = some o → o.budgetRep = false →
    ∃ K, exec (.budgetExpiry l t) s = .next (s.onLane l (fun _ => K)) ∧ K.on SCH_FLAGS.BUDGET_OVR = true ∧ (⟨0x33, false, 1, 0⟩ : Arrival) ∈ K.inbox ∧
      K.execOf t = some { o with budgetRep := true } ∧ K.sched.queues = L.sched.queues ∧ K.sched.ready = L.sched.ready ∧ K.mem = L.mem) ∧
  (∀ (s : State) (l : LaneId) (t : Fin 5), (∀ o, (s.lane l).execOf t = some o → o.budgetRep = true) → exec (.budgetExpiry l t) s = .next (s.onLane l id)) ∧
  (∀ (s : State) (l : LaneId) (t : Fin 5) (o : OpInst) (L : Lane), s.lane l = L → L.execOf t = some o → o.hangRep = false →
    ∃ K, exec (.hangExpiry l t) s = .next (s.onLane l (fun _ => K)) ∧ (⟨0x34, false, 1, 0⟩ : Arrival) ∈ K.inbox ∧
      K.execOf t = some { o with hangRep := true } ∧ K.sched.queues = L.sched.queues ∧ K.sched.ready = L.sched.ready ∧ K.mem = L.mem) ∧
  (∀ (s : State) (l : LaneId) (t : Fin 5), (∀ o, (s.lane l).execOf t = some o → o.hangRep = true) → exec (.hangExpiry l t) s = .next (s.onLane l id)) ∧
  (∀ (s : State) (l : LaneId) (op : Fin 4096) (o : OpInst) (k : Nat) (L : Lane), s.lane l = L → L.instanceOf op = some o → o.missed = false →
    k = L.opClass op →
    ∃ K, exec (.deadlineExpiry l op) s = .next (s.onLane l (fun _ => K)) ∧
      K.rd (SCH_CL_DL.DL_MISS k) = min (L.rd (SCH_CL_DL.DL_MISS k) + 1) (2 ^ (SCH_CL_DL.DL_MISS k).width - 1) ∧
      K.inbox = L.inbox ++ [⟨0x32, false, 1, 0⟩] ++
        (if k ≤ 7 ∧ min 255 (L.rd (Int.dlRun op) + 1) = L.rd SCH_CFG.DL_EXIT then [⟨0x31, false, 1, 0⟩] else []) ∧
      L.keepsBut K [SCH_CL_DL.DL_MISS k, Int.dlRun op]) ∧
  (∀ (s : State) (l : LaneId) (op : Fin 4096), (∀ o, (s.lane l).instanceOf op = some o → o.missed = true) →
    exec (.deadlineExpiry l op) s = .next (s.onLane l id)) ∧
  (∀ (s : State) (l : LaneId) (op : Fin 4096) (o : OpInst) (L : Lane), s.lane l = L →
    L.sched.ready.find? (fun o => o.index == (op : Nat) && ! o.shadow) = some o → o.noTarget = false → L.hasTarget op = false →
    ∃ K, exec (.noTargetTimeout l op) s = .next (s.onLane l (fun _ => K)) ∧ K.inbox = L.inbox ++ [⟨0x38, false, 1, 0⟩] ∧ K.regs = L.regs ∧
      K.mem = L.mem ∧ K.sched.ready.length = L.sched.ready.length) ∧
  (∀ (s : State) (l : LaneId) (op : Fin 4096), ((s.lane l).hasTarget op = true ∨
    (s.lane l).sched.ready.find? (fun o => o.index == (op : Nat) && ! o.shadow) = none) → exec (.noTargetTimeout l op) s = .next (s.onLane l id)) ∧
  (∀ (s : State) (l : LaneId) (p : Fin 4) (L : Lane), s.lane l = L → (L.pairState p = 0 ∨ L.pairState p = 4) → L.bitOf Int.withdraw p = false →
    L.capacityForbids p = false →
    ∃ K, exec (.withdrawalRequest l p) s = .next (s.onLane l (fun _ => K)) ∧ K.queue p = [] ∧ K.sched.exec = L.sched.exec ∧
      (L.execOf p = none → (p ≠ 3 ∨ L.execOf 4 = none) → K.pairState p = 5 ∧ K.bitOf Int.withdraw p = false) ∧
      ((L.execOf p).isSome = true → K.pairState p = L.pairState p ∧ K.bitOf Int.withdraw p = true)) ∧
  (∀ (s : State) (l : LaneId) (p : Fin 4) (L : Lane), s.lane l = L → (L.pairState p = 0 ∨ L.pairState p = 4) → L.bitOf Int.withdraw p = false →
    L.capacityForbids p = true →
    ∃ K, exec (.withdrawalRequest l p) s = .next (s.onLane l (fun _ => K)) ∧ K.on SCH_FLAGS.WD_REFUSED = true ∧ K.inbox = L.inbox ++ [⟨0x36, false, 1, 0⟩] ∧
      K.rd BST_SLICE.REFUSED = min (L.rd BST_SLICE.REFUSED + 1) (2 ^ BST_SLICE.REFUSED.width - 1) ∧ K.pairState p = L.pairState p ∧
      K.bitOf Int.withdraw p = false ∧ K.sched = L.sched) ∧
  (∀ (s : State) (l : LaneId) (p : Fin 4), ((s.lane l).pairState p ≠ 0 ∧ (s.lane l).pairState p ≠ 4 ∨ (s.lane l).bitOf Int.withdraw p = true) →
    exec (.withdrawalRequest l p) s = .next (s.onLane l id)) ∧
  (∀ (s : State) (l : LaneId) (p : Fin 4), (s.lane l).bitOf Int.withdraw p = false → exec (.withdrawalTimeout l p) s = .next (s.onLane l id)) ∧
  (∀ (s : State) (l : LaneId) (p : Fin 4) (L : Lane), s.lane l = L → L.bitOf Int.withdraw p = true →
    ∃ K, exec (.withdrawalTimeout l p) s = .next (s.onLane l (fun _ => K)) ∧ K.on SCH_FLAGS.WD_REFUSED = true ∧ K.inbox = L.inbox ++ [⟨0x36, false, 1, 0⟩] ∧
      K.rd BST_SLICE.REFUSED = min (L.rd BST_SLICE.REFUSED + 1) (2 ^ BST_SLICE.REFUSED.width - 1) ∧ K.pairState p = L.pairState p ∧
      K.bitOf Int.withdraw p = false ∧ K.sched = L.sched)

/-- LOCKSTEP_FAULT, from the groups each rail judges different and the groups with a parity error: in a fenced pair, and
in a cycle without a difference that a parity error in the same or the last two cycles does not explain, nothing. In
the split pair the queue and the operation of the faulted core return. In a withdrawn pair a parity error or rails
that disagree fail the slice with E0. Of RUN, RESTART and RESYNC: equal rails with a difference are a mismatch, a
parity error counts alone, unequal rails are CMP_RAIL; CAUSE and the lowest group are recorded. CMP_RAIL, or a third
fault in the window, fences the pair. Where it is in RUN with safety work in an ACTIVE lane, E0 is latched and its
outputs stay held. Else it goes into RESTART with its source and count, or, after E0, stays as it is with its outputs
held. COMPARATOR_TEST_DONE before a restart of a lane without E0 starts both cores at LSC_RESTART_VEC or fences with
0x20; in TEST of a pair in RUN it passes, or the lane fails; elsewhere nothing. CHECKPOINT_COMMIT of a pair not split
and not held swaps the valid half and stamps the frame number. RESTORED and GIVE_UP act after M5 only: restore with a
valid checkpoint enters RESYNC; without one, and at give-up, the pair is fenced with 0x21. SHADOW_RESULT of an
executing shadow operation of a pair not held is kept. That a parity error and unequal rails of one cycle are two
faults is the model’s (assumption 115). (R218, R220, R221, R223, R224, R225, R226, R229, R392) -/
def Obligations.LockstepFaultsAndCheckpoints : Prop :=
  (∀ (m : Nat), m ≠ 0 → m < 2 ^ 64 → m.testBit (lowestGroup m) = true ∧ ∀ i < lowestGroup m, m.testBit i = false) ∧
  (∀ (s : State) (l : LaneId) (p : Fin 4) (a b x y : Nat), (s.lane l).pairState p = 3 → exec (.lockstepFault l p a b x y) s = .next (s.onLane l id)) ∧
  (∀ (s : State) (l : LaneId) (p : Fin 4) (a b x y : Nat) (L : Lane), s.lane l = L → a < 2 ^ 64 → b < 2 ^ 64 → x < 2 ^ 64 → y < 2 ^ 64 → L.pairState p ≠ 4 → a = b → x ||| y = 0 →
    (a = 0 ∨ L.now ≤ L.rd (Int.parAt p) + 2 ∧ a &&& L.rd (Int.parGroups p) = a) → exec (.lockstepFault l p a b x y) s = .next (s.onLane l id)) ∧
  (∀ (s : State) (l : LaneId) (p : Fin 4) (a b x y : Nat) (L : Lane), s.lane l = L → a < 2 ^ 64 → b < 2 ^ 64 → x < 2 ^ 64 → y < 2 ^ 64 → L.pairState p = 4 →
    ∃ K, exec (.lockstepFault l p a b x y) s = .next (s.onLane l (fun _ => K)) ∧ K.pairState p = 4 ∧ K.mem = L.mem ∧ K.nor = L.nor ∧
      (a ≠ 0 → K.queue p = [] ∧ K.execOf p = none) ∧ (b ≠ 0 → K.queue 4 = [] ∧ K.execOf 4 = none) ∧
      (a = 0 → K.queue p = L.queue p ∧ K.execOf p = L.execOf p) ∧ (b = 0 → K.queue 4 = L.queue 4 ∧ K.execOf 4 = L.execOf 4)) ∧
  (∀ (s : State) (l : LaneId) (p : Fin 4) (a b x y : Nat) (L : Lane), s.lane l = L → a < 2 ^ 64 → b < 2 ^ 64 → x < 2 ^ 64 → y < 2 ^ 64 → L.pairState p = 5 → L.canExit = true → (a ≠ b ∨ x ||| y ≠ 0) →
    ∃ K, exec (.lockstepFault l p a b x y) s = .next (s.onLane l (fun _ => K)) ∧ K.on BST_STATUS.ST_FAIL = true ∧ K.on Int.e0 = true) ∧
  (∀ (s : State) (l : LaneId) (p : Fin 4) (a b x y : Nat) (k g : Nat) (L : Lane), s.lane l = L → a < 2 ^ 64 → b < 2 ^ 64 → x < 2 ^ 64 → y < 2 ^ 64 → L.pairState p < 3 →
    ((k = 0 ∧ a = b ∧ a ≠ 0 ∧ x ||| y = 0 ∧ L.rd (Int.parAt p) + 2 < L.now ∧ g = lowestGroup a) ∨
      (k = 1 ∧ a = b ∧ x ||| y ≠ 0 ∧ g = lowestGroup (x ||| y)) ∨ (k = 2 ∧ a ≠ b ∧ x ||| y = 0 ∧ g = lowestGroup (a ^^^ b))) →
    (k = 2 ∨ 2 ≤ L.winEarlier p) → L.canExit = true →
    ∃ K, exec (.lockstepFault l p a b x y) s = .next (s.onLane l (fun _ => K)) ∧ K.pairState p = 3 ∧ K.on (Int.fenced p) = true ∧
      K.rd (LSC_PAIR_STATUS.CAUSE p) = k + 1 ∧ K.rd (LSC_PAIR_MMINFO.GROUP p) = g) ∧
  (∀ (s : State) (l : LaneId) (p : Fin 4) (a b x y : Nat) (L : Lane), s.lane l = L → a < 2 ^ 64 → b < 2 ^ 64 → x < 2 ^ 64 → y < 2 ^ 64 → L.pairState p < 3 →
    a ≠ b → x ||| y ≠ 0 → L.canExit = true →
    ∃ K, exec (.lockstepFault l p a b x y) s = .next (s.onLane l (fun _ => K)) ∧ K.pairState p = 3 ∧
      K.rd (LSC_PAIR_CNT.DLY_CNT p) = min (L.rd (LSC_PAIR_CNT.DLY_CNT p) + 1) 255 ∧
      K.rd (LSC_PAIR_CNT.RAIL_CNT p) = min (L.rd (LSC_PAIR_CNT.RAIL_CNT p) + 1) 255) ∧
  (∀ (s : State) (l : LaneId) (p : Fin 4) (a b x y : Nat) (k g : Nat) (L : Lane), s.lane l = L → a < 2 ^ 64 → b < 2 ^ 64 → x < 2 ^ 64 → y < 2 ^ 64 → L.pairState p < 3 →
    ((k = 0 ∧ a = b ∧ a ≠ 0 ∧ x ||| y = 0 ∧ L.rd (Int.parAt p) + 2 < L.now ∧ g = lowestGroup a) ∨
      (k = 1 ∧ a = b ∧ x ||| y ≠ 0 ∧ g = lowestGroup (x ||| y)) ∨ (k = 2 ∧ a ≠ b ∧ x ||| y = 0 ∧ g = lowestGroup (a ^^^ b))) →
    k ≠ 2 → L.winEarlier p < 2 → (L.state ≠ stActive ∨ L.runsSafety p = false ∨ L.pairState p ≠ 0 ∨ L.on Int.e0 = true) →
    ∃ K, exec (.lockstepFault l p a b x y) s = .next (s.onLane l (fun _ => K)) ∧ K.rd (LSC_PAIR_STATUS.CAUSE p) = k + 1 ∧ K.rd (LSC_PAIR_MMINFO.GROUP p) = g ∧ K.on Int.e0 = L.on Int.e0 ∧
      (⟨0x10 + 4 * k + p, false, 1, 0⟩ : Arrival) ∈ K.inbox ∧ K.mem = L.mem ∧ K.nor = L.nor ∧
      (L.on Int.e0 = false → K.pairState p = 1) ∧ (L.on Int.e0 = true → K.pairState p = L.pairState p ∧ K.pairHeld p = true) ∧
      (k = 0 → K.rd (LSC_PAIR_CNT.MM_CNT p) = min (L.rd (LSC_PAIR_CNT.MM_CNT p) + 1) 255) ∧
      (k = 1 → K.rd (LSC_PAIR_CNT.DLY_CNT p) = min (L.rd (LSC_PAIR_CNT.DLY_CNT p) + 1) 255)) ∧
  (∀ (s : State) (l : LaneId) (p : Fin 4) (a b x y : Nat) (k g : Nat) (L : Lane), s.lane l = L → a < 2 ^ 64 → b < 2 ^ 64 → x < 2 ^ 64 → y < 2 ^ 64 → L.pairState p = 0 →
    ((k = 0 ∧ a = b ∧ a ≠ 0 ∧ x ||| y = 0 ∧ L.rd (Int.parAt p) + 2 < L.now ∧ g = lowestGroup a) ∨
      (k = 1 ∧ a = b ∧ x ||| y ≠ 0 ∧ g = lowestGroup (x ||| y)) ∨ (k = 2 ∧ a ≠ b ∧ x ||| y = 0 ∧ g = lowestGroup (a ^^^ b))) →
    L.state = stActive → L.runsSafety p = true → L.on Int.e0 = false → L.canExit = true →
    ∃ K, exec (.lockstepFault l p a b x y) s = .next (s.onLane l (fun _ => K)) ∧ K.on Int.e0 = true ∧ K.pairHeld p = true ∧ K.rd (LSC_PAIR_STATUS.CAUSE p) = k + 1 ∧ K.rd (LSC_PAIR_MMINFO.GROUP p) = g) ∧
  (∀ (s : State) (l : LaneId) (p : Fin 4) (L : Lane), s.lane l = L → L.pairState p = 1 → L.on (Int.m5 p) = false → L.on Int.e0 = false →
    (∃ K, exec (.comparatorTestDone l p true) s = .next (s.onLane l (fun _ => K)) ∧ K.on (LSC_PAIR_STATUS.CMP_TESTED p) = true ∧
      K.on (Int.m5 p) = true ∧ K.rd (Int.startPc p 0) = L.rd LSC_RESTART_VEC.VEC % 2 ^ 32 ∧
      K.rd (Int.startPc p 1) = L.rd LSC_RESTART_VEC.VEC % 2 ^ 32 ∧
      L.onlyFields K [LSC_PAIR_STATUS.CMP_TESTED p, Int.m5 p, Int.startPc p 0, Int.startPc p 1]) ∧
    (∃ K, exec (.comparatorTestDone l p false) s = .next (s.onLane l (fun _ => K)) ∧ K.pairState p = 3 ∧
      K.on (LSC_PAIR_STATUS.CMP_TESTED p) = false ∧ (⟨0x20, false, 1, 0⟩ : Arrival) ∈ K.inbox)) ∧
  (∀ (s : State) (l : LaneId) (p : Fin 4) (L : Lane), s.lane l = L → L.inTest = true → L.pairState p = 0 →
    (∃ K, exec (.comparatorTestDone l p true) s = .next (s.onLane l (fun _ => K)) ∧ K.on (LSC_PAIR_STATUS.CMP_TESTED p) = true ∧
      L.onlyFields K [LSC_PAIR_STATUS.CMP_TESTED p]) ∧
    (∃ K, exec (.comparatorTestDone l p false) s = .next (s.onLane l (fun _ => K)) ∧ K.state = stFailed ∧ K.rd BST_STATUS.FAIL_UNIT = 7)) ∧
  (∀ (s : State) (l : LaneId) (p : Fin 4) (b : Bool) (L : Lane), s.lane l = L → (L.pairState p ≠ 0 ∨ L.inTest = false) →
    (L.pairState p ≠ 1 ∨ L.on (Int.m5 p) = true ∨ L.on Int.e0 = true) → exec (.comparatorTestDone l p b) s = .next (s.onLane l id)) ∧
  (∀ (s : State) (l : LaneId) (p : Fin 4) (L : Lane), s.lane l = L → L.pairState p ≠ 4 → L.pairHeld p = false →
    ∃ K, exec (.checkpointCommit l p) s = .next (s.onLane l (fun _ => K)) ∧ K.on (LSC_PAIR_CKPT.VALID p) = true ∧
      K.on (LSC_PAIR_CKPT.VALID_HALF p) = (! L.on (LSC_PAIR_CKPT.VALID_HALF p)) ∧ K.rd (LSC_PAIR_CKPT.SEQ p) = L.rd LSC_AGR_FRAMENO.FRAMENO % 65536 ∧
      L.onlyFields K [LSC_PAIR_CKPT.VALID p, LSC_PAIR_CKPT.VALID_HALF p, LSC_PAIR_CKPT.SEQ p]) ∧
  (∀ (s : State) (l : LaneId) (p : Fin 4), ((s.lane l).pairState p = 4 ∨ (s.lane l).pairHeld p = true) → exec (.checkpointCommit l p) s = .next (s.onLane l id)) ∧
  (∀ (s : State) (l : LaneId) (p : Fin 4) (L : Lane), s.lane l = L → L.pairState p = 1 → L.on (Int.m5 p) = true → L.on (LSC_PAIR_CKPT.VALID p) = true →
    ∃ K, exec (.restored l p) s = .next (s.onLane l (fun _ => K)) ∧ K.pairState p = 2 ∧
      L.onlyFields K [LSC_PAIR_STATUS.STATE p, Int.rsRun p, Int.rsWhole p]) ∧
  (∀ (s : State) (l : LaneId) (p : Fin 4) (L : Lane), s.lane l = L → L.pairState p = 1 → L.on (Int.m5 p) = true →
    (∃ K, exec (.giveUp l p) s = .next (s.onLane l (fun _ => K)) ∧ K.pairState p = 3 ∧ (⟨0x21, false, 1, 0⟩ : Arrival) ∈ K.inbox) ∧
    (L.on (LSC_PAIR_CKPT.VALID p) = false →
      ∃ K, exec (.restored l p) s = .next (s.onLane l (fun _ => K)) ∧ K.pairState p = 3 ∧ (⟨0x21, false, 1, 0⟩ : Arrival) ∈ K.inbox)) ∧
  (∀ (s : State) (l : LaneId) (p : Fin 4), ((s.lane l).pairState p ≠ 1 ∨ (s.lane l).on (Int.m5 p) = false) →
    exec (.giveUp l p) s = .next (s.onLane l id) ∧ exec (.restored l p) s = .next (s.onLane l id)) ∧
  (∀ (s : State) (l : LaneId) (t : Fin 4) (ch : Fin 16) (v : Nat) (o : OpInst) (L : Lane), s.lane l = L → L.pairHeld t = false →
    L.execOf t = some o → o.shadow = true →
    ∃ K, exec (.shadowResult l t ch v) s = .next (s.onLane l (fun _ => K)) ∧
      K.sched = { L.sched with shadowResults := L.sched.shadowResults ++ [(16 * (t : Nat) + (ch : Nat), v % 2 ^ 32)] } ∧ K.mem = L.mem) ∧
  (∀ (s : State) (l : LaneId) (t : Fin 4) (ch : Fin 16) (v : Nat), ((s.lane l).pairHeld t = true ∨
    ∀ o, (s.lane l).execOf t = some o → o.shadow = false) → exec (.shadowResult l t ch v) s = .next (s.onLane l id))

/-- DEBUG_HALT_REQUEST in a mode that forbids it is counted as refused; with the debug port closed it raises 0xE7; else
the pair is halted. DEBUG_RESUME runs the pair, and the field clocks with the last halted pair. DEBUG_STEP retires one
instruction of a halted pair; of a running one it has no effect. DEBUG_WRITE of a register writes that of the main
core and logs the write with the retirement count; at a full log it is refused with source 0x23. DEBUG_WRITE of an
address is a REGISTER_WRITE to it; where a write is not permitted, 0xE7. DEBUG_REPLAY at a retirement count writes the
oldest write logged with it to the checker and takes it off the log; without one, nothing. (R52, R53, R227, R228) -/
def Obligations.DebuggerHaltsStepsAndWrites : Prop :=
  (∀ (s : State) (l : LaneId) (p : Fin 4) (b : Bool) (L : Lane), s.lane l = L → haltAllowed L.mode = false →
    ∃ K, exec (.debugHaltRequest l p b) s = .next (s.onLane l (fun _ => K)) ∧
      K.rd CFG_MODE_STATUS.HALT_REFUSED = min (L.rd CFG_MODE_STATUS.HALT_REFUSED + 1) (2 ^ CFG_MODE_STATUS.HALT_REFUSED.width - 1) ∧
      L.onlyFields K [CFG_MODE_STATUS.HALT_REFUSED]) ∧
  (∀ (s : State) (l : LaneId) (p : Fin 4) (b : Bool) (L : Lane), s.lane l = L → haltAllowed L.mode = true → L.on LCS_STATE.DBG_OPEN = true →
    ∃ K, exec (.debugHaltRequest l p b) s = .next (s.onLane l (fun _ => K)) ∧ K.bitOf Int.halted p = true ∧
      (∀ q < 4, q ≠ p → K.bitOf Int.halted q = L.bitOf Int.halted q) ∧ (b = true → K.on Int.pwmStopped = true) ∧
      L.onlyFields K ([Int.halted] ++ if b then [Int.haltClk, Int.pwmStopped] else [])) ∧
  (∀ (s : State) (l : LaneId) (p : Fin 4) (b : Bool) (place : DebugPlace) (v : Nat) (c : Instr) (L : Lane), s.lane l = L →
    (haltAllowed L.mode = true ∧ L.on LCS_STATE.DBG_OPEN = false ∧ c = .debugHaltRequest l p b ∨
      (haltAllowed L.mode = false ∨ L.on LCS_STATE.DBG_OPEN = false) ∧ c = .debugWrite l p place v) →
    exec c s = .next (s.onLane l (fun L => { L with inbox := L.inbox ++ [⟨0xE7, false, 1, 0⟩] }))) ∧
  (∀ (s : State) (l : LaneId) (p : Fin 4) (L : Lane), s.lane l = L → L.on Int.haltClk = false →
    ∃ K, exec (.debugResume l p) s = .next (s.onLane l (fun _ => K)) ∧ K.bitOf Int.halted p = false ∧
      (∀ q < 4, q ≠ p → K.bitOf Int.halted q = L.bitOf Int.halted q) ∧ L.onlyFields K [Int.halted]) ∧
  (∀ (s : State) (l : LaneId) (p : Fin 4) (L : Lane), s.lane l = L → L.on Int.haltClk = true → L.rd Int.halted = 2 ^ (p : Nat) →
    ∃ K, exec (.debugResume l p) s = .next (s.onLane l (fun _ => K)) ∧ K.rd Int.halted = 0 ∧ K.on Int.haltClk = false ∧ K.on Int.pwmStopped = false) ∧
  (∀ (s : State) (l : LaneId) (p : Fin 4) (L : Lane), s.lane l = L → L.bitOf Int.halted p = true →
    ∃ K, exec (.debugStep l p) s = .next (s.onLane l (fun _ => K)) ∧ K.rd (Int.retired p) = (L.rd (Int.retired p) + 1) % 2 ^ 64 ∧
      L.onlyFields K [Int.retired p]) ∧
  (∀ (s : State) (l : LaneId) (p : Fin 4), (s.lane l).bitOf Int.halted p = false → exec (.debugStep l p) s = .next (s.onLane l id)) ∧
  (∀ (s : State) (l : LaneId) (p : Fin 4) (reg v : Nat) (L : Lane), s.lane l = L → haltAllowed L.mode = true →
    L.on LCS_STATE.DBG_OPEN = true → reg < 256 → L.debugLog.length < 32 →
    ∃ K, exec (.debugWrite l p (.reg reg) v) s = .next (s.onLane l (fun _ => K)) ∧ K.rd (Int.coreReg p 0 reg) = v % 2 ^ 64 ∧
      K.debugLog = L.debugLog ++ [⟨p, reg, v, L.rd (Int.retired p)⟩] ∧ K.rd LSC_DBG.LOG_USED = L.debugLog.length + 1 ∧
      L.keepsBut K [Int.coreReg p 0 reg, LSC_DBG.LOG_USED]) ∧
  (∀ (s : State) (l : LaneId) (p : Fin 4) (reg v : Nat) (L : Lane), s.lane l = L → haltAllowed L.mode = true →
    L.on LCS_STATE.DBG_OPEN = true → 32 ≤ L.debugLog.length →
    ∃ K, exec (.debugWrite l p (.reg reg) v) s = .next (s.onLane l (fun _ => K)) ∧ K.on LSC_DBG.LOG_FULL = true ∧ K.inbox = L.inbox ++ [⟨0x23, false, 1, 0⟩] ∧
      K.rd LSC_DBG.REFUSED_WR = min (L.rd LSC_DBG.REFUSED_WR + 1) (2 ^ LSC_DBG.REFUSED_WR.width - 1) ∧ K.debugLog = L.debugLog ∧
      L.keepsBut K [LSC_DBG.LOG_FULL, LSC_DBG.REFUSED_WR]) ∧
  (∀ (s : State) (l : LaneId) (p : Fin 4) (a v : Nat), haltAllowed (s.lane l).mode = true → (s.lane l).on LCS_STATE.DBG_OPEN = true →
    exec (.debugWrite l p (.mem a) v) s = exec (.registerWrite l p a v) s) ∧
  (∀ (s : State) (l : LaneId) (p : Fin 4) (n : Nat) (w : DebugWrite) (L : Lane), s.lane l = L →
    L.debugLog.find? (fun w => w.pair = (p : Nat) ∧ w.retired = n) = some w → w.reg < 256 →
    ∃ K, exec (.debugReplay l (p, n)) s = .next (s.onLane l (fun _ => K)) ∧ K.rd (Int.coreReg p 1 w.reg) = w.value % 2 ^ 64 ∧
      K.debugLog = L.debugLog.erase w ∧ K.rd LSC_DBG.LOG_USED = K.debugLog.length % 64 ∧
      K.rd LSC_DBG.REPLAYED = min (L.rd LSC_DBG.REPLAYED + 1) (2 ^ LSC_DBG.REPLAYED.width - 1) ∧
      L.keepsBut K [Int.coreReg p 1 w.reg, LSC_DBG.LOG_USED, LSC_DBG.REPLAYED]) ∧
  (∀ (s : State) (l : LaneId) (p : Fin 4) (n : Nat), (s.lane l).debugLog.find? (fun w => w.pair = (p : Nat) ∧ w.retired = n) = none →
    exec (.debugReplay l (p, n)) s = .next (s.onLane l id))

/-- NGUAS_FRAME_RECEIPT of a node that is OFF, or whose NET domain does not run, does nothing. In a node past LISTEN a
copy outside every window counts GAP_CNT with 0xC5; a bad one, or one whose header does not match the slot, counts
with 0xC6; a matching one is kept, taken if it is the slot’s first, its payload stored where the slot keeps it; a
second copy that differs sets COPY_DIFF with 0xC7. A listening node heeds only SYNC frames that decode. SLOT_TRANSMIT
of another node’s slot, or of one that the node may not send, does nothing; a collision sends a cold node back to
LISTEN; past the guard window the guardian blocks; else the frame with the header of R332, the payload and its CRC is
on the line, and an error between both windows counts as drift. COLDSTART_TIMER_EXPIRY of a listening node that may
cold-start begins mode 0, cycle 0, with a COLD frame in its first SYNC slot, or goes back to LISTEN at a collision.
That a stopped NET domain receives nothing is assumption 118. (R331, R333, R336, R337, R338, R343, R344, R346, R347) -/
def Obligations.NguasFramesAndSlots : Prop :=
  (∀ (s : State) (l : LaneId) (y g : Bool) (st : Int) (src : Fin 4) (b : List Nat) (L : Lane), s.lane l = L → (L.nstate = ngbOff ∨
    L.on (CKG_DOM_CTL.RUN_EN 3) = false ∨ L.nstate = ngbListen ∧ (g = false ∨ (headerOf b).sync = false ∨ (b.drop 8).length ≠ (headerOf b).len)) → exec (.nguasFrameReceipt l y g st src b) s = .next (s.onLane l id)) ∧
  (∀ (s : State) (l : LaneId) (y g : Bool) (st : Int) (src : Fin 4) (b : List Nat) (L : Lane), s.lane l = L → 2 ≤ L.nstate →
    L.on (CKG_DOM_CTL.RUN_EN 3) = true → L.windowOf st = none →
    ∃ K, exec (.nguasFrameReceipt l y g st src b) s = .next (s.onLane l (fun _ => K)) ∧ K.rd NGB_CNT.GAP_CNT = min (L.rd NGB_CNT.GAP_CNT + 1) 255 ∧
      K.inbox = L.inbox ++ [⟨0xC5, false, 1, 0⟩] ∧ L.keepsBut K [NGB_CNT.GAP_CNT] ∧ K.ngbCopies = L.ngbCopies) ∧
  (∀ (s : State) (l : LaneId) (y g : Bool) (st : Int) (src : Fin 4) (b : List Nat) (n : Nat) (e : Slot) (f : Fld) (L : Lane), s.lane l = L →
    2 ≤ L.nstate → L.on (CKG_DOM_CTL.RUN_EN 3) = true → L.windowOf st = some (n, e) → (g = false ∧ f = (if y then NGB_CNT.CRC_Y else NGB_CNT.CRC_X) ∨
      g = true ∧ ((headerOf b).node ≠ e.owner ∨ (headerOf b).len ≠ e.len ∨ (headerOf b).slot ≠ n ∨ (headerOf b).mode ≠ L.ngbMode ∨
        (headerOf b).cycle ≠ L.rd NGB_STATUS.CYCLE_NO ∨ (b.drop 8).length ≠ (headerOf b).len) ∧ f = NGB_CNT.HDR_ERR) →
    ∃ K, exec (.nguasFrameReceipt l y g st src b) s = .next (s.onLane l (fun _ => K)) ∧ K.rd f = min (L.rd f + 1) 255 ∧
      K.inbox = L.inbox ++ [⟨0xC6, false, 1, 0⟩] ∧ L.keepsBut K [f] ∧ K.ngbCopies = L.ngbCopies) ∧
  (∀ (s : State) (l : LaneId) (y : Bool) (st : Int) (src : Fin 4) (b : List Nat) (n : Nat) (e : Slot) (h : Header) (L : Lane), s.lane l = L →
    2 ≤ L.nstate → L.on (CKG_DOM_CTL.RUN_EN 3) = true → L.windowOf st = some (n, e) → h = headerOf b → h.node = e.owner → h.len = e.len → h.slot = n → h.mode = L.ngbMode →
    h.cycle = L.rd NGB_STATUS.CYCLE_NO → (b.drop 8).length = h.len →
    ∃ K c, exec (.nguasFrameReceipt l y true st src b) s = .next (s.onLane l (fun _ => K)) ∧ K.ngbCopies = L.ngbCopies ++ [c] ∧ c.slot = n ∧
      c.node = e.owner ∧ c.payload = b.drop 8 ∧ c.taken = ! L.ngbCopies.any (fun k => k.taken && k.slot = n) ∧
      (c.taken = true → e.keep = true → K.mem = L.mem.setBytes ramDefault (0x203D0000 + 0x200 * e.buf) ((b.drop 8).map (BitVec.ofNat 8))) ∧
      (c.taken = false ∨ e.keep = false → K.mem = L.mem) ∧ K.nor = L.nor ∧
      (∀ k, L.ngbCopies.find? (fun k => k.taken && k.slot = n) = some k → k.payload ≠ b.drop 8 →
        K.on NGB_FLAGS.COPY_DIFF = true ∧ K.inbox = L.inbox ++ [⟨0xC7, false, 1, 0⟩] ∧ L.keepsBut K [NGB_FLAGS.COPY_DIFF])) ∧
  (∀ (s : State) (l : LaneId) (n : Fin 1024) (e : Int) (x y c : Bool) (L : Lane), s.lane l = L → (L.owns (L.slot L.ngbMode n) = false ∨
    L.nstate ≠ ngbRun ∧ L.nstate ≠ ngbCold ∨ L.maySend (L.slot L.ngbMode n) = false ∨ c = true ∧ L.nstate = ngbRun) →
    exec (.slotTransmit l n e x y c) s = .next (s.onLane l id)) ∧
  (∀ (s : State) (l : LaneId) (n : Fin 1024) (e : Int) (x y : Bool) (L : Lane), s.lane l = L → L.owns (L.slot L.ngbMode n) = true →
    L.nstate = ngbCold → L.maySend (L.slot L.ngbMode n) = true →
    ∃ K, exec (.slotTransmit l n e x y true) s = .next (s.onLane l (fun _ => K)) ∧ K.nstate = ngbListen ∧ K.on NGB_FLAGS.COLLISION = true ∧
      K.rd NGB_CNT2.COLL_CNT = min (L.rd NGB_CNT2.COLL_CNT + 1) 255 ∧ K.inbox = L.inbox ++ [⟨0xCA, false, 1, 0⟩] ∧ K.ngbCopies = []) ∧
  (∀ (s : State) (l : LaneId) (n : Fin 1024) (e : Int) (x y : Bool) (L : Lane), s.lane l = L → L.owns (L.slot L.ngbMode n) = true →
    (L.nstate = ngbRun ∨ L.nstate = ngbCold) → L.maySend (L.slot L.ngbMode n) = true →
    10 * L.rd NGB_TIMING.TX_WIN + 10 * L.rd NGB_TIMING.GUARD < e.natAbs → L.rd Int.ngbOk ≠ 0 →
    ∃ K, exec (.slotTransmit l n e x y false) s = .next (s.onLane l (fun _ => K)) ∧ K.nstate = ngbSyncing ∧ K.on NGB_FLAGS.BLOCKED = true ∧
      K.rd NGB_CNT2.BLOCK_CNT = min (L.rd NGB_CNT2.BLOCK_CNT + 1) 255 ∧ K.inbox = L.inbox ++ [⟨0xC3, false, 1, 0⟩] ∧ K.ngbCopies = L.ngbCopies) ∧
  (∀ (s : State) (l : LaneId) (n : Fin 1024) (e : Int) (x y : Bool) (w : Nat) (q : Slot) (L : Lane), s.lane l = L → L.slot L.ngbMode n = q →
    L.owns q = true → (L.nstate = ngbRun ∨ L.nstate = ngbCold) → L.maySend q = true → 10 * L.rd NGB_TIMING.TX_WIN = w →
    (e.natAbs ≤ w + 10 * L.rd NGB_TIMING.GUARD ∨ L.rd Int.ngbOk = 0) →
    ∃ K, exec (.slotTransmit l n e x y false) s = .next (s.onLane l (fun _ => K)) ∧
      headerOf K.ngbLine = ⟨L.rd NGB_CFG.NODE, q.sync, L.nstate = ngbCold, q.len, n, L.ngbMode, L.on NGB_STATUS.SW_PEND, L.rd NGB_STATUS.CYCLE_NO, L.mreqSent⟩ ∧
      (K.ngbLine.drop 8).take q.len = L.payloadOf q ∧
      K.ngbLine.drop (8 + q.len) = (bytesOf 4 (crc32c ((K.ngbLine.take (8 + q.len)).map (BitVec.ofNat 8)))).map BitVec.toNat ∧
      K.ngbCopies.length = L.ngbCopies.length + bit x + bit y ∧
      K.on NGB_FLAGS.DRIFT = (L.on NGB_FLAGS.DRIFT || decide (w < e.natAbs) && decide (e.natAbs ≤ w + 10 * L.rd NGB_TIMING.GUARD)) ∧
      L.keepsBut K [NGB_FLAGS.DRIFT, NGB_CNT2.DRIFT_CNT] ∧ K.inbox = L.inbox) ∧
  (∀ (s : State) (l : LaneId) (c : Bool) (L : Lane), s.lane l = L → (L.nstate ≠ ngbListen ∨ L.on NGB_CFG.COLDSTART = false ∨ L.mayTransmit = false ∨
    (∀ p, L.coldSlot = some p → L.maySend p.2 = false)) → exec (.coldstartTimerExpiry l c) s = .next (s.onLane l id)) ∧
  (∀ (s : State) (l : LaneId) (n : Nat) (e : Slot) (L : Lane), s.lane l = L → L.nstate = ngbListen → L.on NGB_CFG.COLDSTART = true →
    L.maySend e = true → L.coldSlot = some (n, e) →
    (∃ K, exec (.coldstartTimerExpiry l false) s = .next (s.onLane l (fun _ => K)) ∧ K.nstate = ngbCold ∧ K.ngbMode = 0 ∧
      K.rd NGB_STATUS.CYCLE_NO = 0 ∧ K.ngbCopies.length = 2 ∧ (∀ c ∈ K.ngbCopies, c.slot = n) ∧ (headerOf K.ngbLine).cold = true ∧
      (headerOf K.ngbLine).slot = n % 1024 ∧ K.mem = L.mem ∧ K.nor = L.nor) ∧
    (∃ K, exec (.coldstartTimerExpiry l true) s = .next (s.onLane l (fun _ => K)) ∧ K.nstate = ngbListen ∧ K.on NGB_FLAGS.COLLISION = true ∧
      K.inbox = L.inbox ++ [⟨0xCA, false, 1, 0⟩] ∧ K.ngbCopies = [] ∧ K.mem = L.mem ∧ K.nor = L.nor))

/-- CYCLE_END of an OFF node does nothing; a listening node that heard two consecutive cycles integrates into SYNCING with
the next cycle number; of a node past LISTEN the cycle number goes on, MEMB names the nodes taken in this cycle, and
no copy is kept. ACTION_INSTANT raises event 25 and passes every used buffer from copy 0 to copy 1;
ACTION_INSTANT_NOTICE tells the field die the instant; both do nothing below COLD. NGB_MODE_REQ stores 0 for 1 to 7.
WAKE_TX asks for the wake pattern, which WAKE_PATTERN_SEND sends in LISTEN. REINT listens again. NGUAS_WAKE_DETECT of
an OFF node is latched as privileged wake 2; of another it has no effect. (R338, R339, R341, R346, R348, R350, R351,
R357, R425) -/
def Obligations.NguasCyclesActionAndWake : Prop :=
  (∀ (s : State) (l : LaneId) (L : Lane), s.lane l = L → L.nstate = ngbOff →
    exec (.cycleEnd l) s = .next (s.onLane l id) ∧ exec (.reint l) s = .next (s.onLane l id)) ∧
  (∀ (s : State) (l : LaneId) (L : Lane), s.lane l = L → L.nstate = ngbListen → L.rd Int.ngbHeardRun = 2 →
    ∃ K, exec (.cycleEnd l) s = .next (s.onLane l (fun _ => K)) ∧ K.nstate = ngbSyncing ∧
      K.rd NGB_STATUS.CYCLE_NO = (L.rd Int.ngbHeardCycle + 1) % 65536 ∧ K.ngbMode = L.rd Int.ngbHeardMode % 8 ∧ K.ngbCopies = [] ∧ K.mem = L.mem) ∧
  (∀ (s : State) (l : LaneId) (L : Lane), s.lane l = L → L.nstate = ngbListen → L.rd Int.ngbHeardRun ≠ 2 →
    ∃ K, exec (.cycleEnd l) s = .next (s.onLane l (fun _ => K)) ∧ K.ngbCopies = [] ∧ L.keepsBut K [Int.ngbOk]) ∧
  (∀ (s : State) (l : LaneId) (L : Lane), s.lane l = L → 2 ≤ L.nstate → L.canExit = true →
    ∃ K, exec (.cycleEnd l) s = .next (s.onLane l (fun _ => K)) ∧ K.rd NGB_STATUS.CYCLE_NO = (L.rd NGB_STATUS.CYCLE_NO + 1) % 65536 ∧
      (∀ k < 64, K.bitOf NGB_MEMB.MEMB k = L.ngbCopies.any (fun c => c.taken && c.node = k)) ∧ K.ngbCopies = [] ∧ K.mem = L.mem ∧ K.nor = L.nor) ∧
  (∀ (s : State) (l : LaneId) (L : Lane), s.lane l = L → 2 ≤ L.nstate →
    (∃ K, exec (.actionInstant l) s = .next (s.onLane l (fun _ => K)) ∧ (∀ p < 4, K.bitOf (Int.events p) 25 = true) ∧
      (∀ b ∈ L.usedBufs, K.mem.bytes ramDefault (0x203D0100 + 0x200 * b.1) 256 = L.mem.bytes ramDefault (0x203D0000 + 0x200 * b.1) 256) ∧
      (∀ b ∈ L.usedBufs, b.2 = true → K.on (NGB_BUF_STAT.VALID b.1) = L.on (Int.bufNew b.1))) ∧
    exec (.actionInstantNotice l) s =
      .next (s.onLane l (fun L => L.toField (.control (.actionInstant (L.now + 20000) (L.rd NGB_STATUS.CYCLE_NO)))))) ∧
  (∀ (s : State) (l : LaneId), (s.lane l).nstate < 2 →
    exec (.actionInstant l) s = .next (s.onLane l id) ∧ exec (.actionInstantNotice l) s = .next (s.onLane l id)) ∧
  (∀ (s : State) (l : LaneId) (v : Fin 16) (L : Lane), s.lane l = L →
    ∃ K, exec (.ngbModeReq l v) s = .next (s.onLane l (fun _ => K)) ∧ K.rd NGB_MODE_REQ.TARGET = (if (v : Nat) < 8 then 0 else v) ∧
      L.onlyFields K [NGB_MODE_REQ.TARGET]) ∧
  (∀ (s : State) (l : LaneId) (L : Lane), s.lane l = L →
    ∃ K, exec (.wakeTx l) s = .next (s.onLane l (fun _ => K)) ∧ K.on Int.ngbWakeReq = true ∧ L.onlyFields K [Int.ngbWakeReq]) ∧
  (∀ (s : State) (l : LaneId) (L : Lane), s.lane l = L → L.on Int.ngbWakeReq = true → L.nstate = ngbListen →
    ∃ K, exec (.wakePatternSend l) s = .next (s.onLane l (fun _ => K)) ∧ K.on Int.ngbWakeReq = false ∧
      K.rd Int.ngbWakeSent = L.rd NGB_CTL.WAKE_CH % 4 ∧ L.onlyFields K [Int.ngbWakeReq, Int.ngbWakeSent]) ∧
  (∀ (s : State) (l : LaneId), ((s.lane l).on Int.ngbWakeReq = false ∨ (s.lane l).nstate ≠ ngbListen) →
    exec (.wakePatternSend l) s = .next (s.onLane l id)) ∧
  (∀ (s : State) (l : LaneId) (L : Lane), s.lane l = L → L.nstate ≠ ngbOff →
    (∃ K, exec (.reint l) s = .next (s.onLane l (fun _ => K)) ∧ K.nstate = ngbListen ∧ K.ngbCopies = [] ∧
      L.keepsBut K [NGB_STATUS.NSTATE, NGB_STATUS.TIME_VALID, Int.ngbQuiet, Int.ngbHeardRun]) ∧
    ∀ ch, exec (.nguasWakeDetect l ch) s = .next (s.onLane l id)) ∧
  (∀ (s : State) (l : LaneId) (ch : Fin 2) (L : Lane), s.lane l = L → L.nstate = ngbOff → L.rd PSC_STATUS.STAGE = 0 → L.state ≠ stAsleep →
    L.rd PSC_STATUS.LEVEL_NOW ≠ 2 → L.mode ≠ mShutdown →
    ∃ K, exec (.nguasWakeDetect l ch) s = .next (s.onLane l (fun _ => K)) ∧ K.bitOf Int.ngbWakeCh ch = true ∧ K.bitOf PSC_WAKE.WAKES 2 = true ∧
      K.rd PSC_WAKE_TICK.TICK = L.lfo % 2 ^ 32 ∧ L.keepsBut K ([Int.ngbWakeCh, PSC_WAKE.WAKES, PSC_WAKE_TICK.TICK] ++ eventFields)) ∧
  (∀ (s : State) (l : LaneId) (ch : Fin 2) (L : Lane), s.lane l = L → L.nstate = ngbOff → L.rd PSC_STATUS.STAGE = 0 → L.state = stAsleep →
    ∃ K, exec (.nguasWakeDetect l ch) s = .next (s.onLane l (fun _ => K)) ∧ K.bitOf Int.ngbWakeCh ch = true ∧ K.on Int.held = true ∧
      K.rd CFG_MODE_STATUS.PREV_MODE = mDormant ∧ K.mem = L.mem)

/-- CAN_FRAME_RECEIVED by an acting port: a remote frame is counted, an FD frame without FD_EN is dropped, one no filter
takes is counted, one a full FIFO cannot hold sets RX_OVF with 0xCE, and another enters the FIFO with identifier,
length, filter, time stamp and bytes. CAN_TX_REQUEST adds requests; CAN_TX_DONE clears the lowest and marks it done.
CAN_POP frees the oldest entry. CAN_ERROR counts; past 255 transmit errors the port is bus-off with 0xCC, past 127
error passive with 0xCD (the steps of 1 and 8 are the model’s, from ISO 11898-1, notes/assumptions/40.md). CAN_RECOVER
starts the recovery, which BUS_OFF_RECOVERY_COMPLETE ends; both act in bus-off only. A port that is off or bus-off
neither receives nor counts. (R353, R354, R355, R358) -/
def Obligations.CanFramesRequestsAndErrors : Prop :=
  (∀ (s : State) (l : LaneId) (i a : Nat) (x r f b e : Bool) (n : Fin 16) (d : List Nat) (tx t8 : Bool), (s.lane l).canActs = false →
    exec (.canFrameReceived l i a x r f b e n d) s = .next (s.onLane l id) ∧ exec (.canError l tx t8) s = .next (s.onLane l id) ∧
    exec (.canTxDone l) s = .next (s.onLane l id)) ∧
  (∀ (s : State) (l : LaneId) (i a : Nat) (x f b e : Bool) (n : Fin 16) (d : List Nat) (L : Lane), s.lane l = L → L.canActs = true →
    ∃ K, exec (.canFrameReceived l i a x true f b e n d) s = .next (s.onLane l (fun _ => K)) ∧
      K.rd CAN_CNT.REMOTE_CNT = min (L.rd CAN_CNT.REMOTE_CNT + 1) 255 ∧ L.onlyFields K [CAN_STATUS.REC, CAN_STATUS.STATE, CAN_CNT.REMOTE_CNT]) ∧
  (∀ (s : State) (l : LaneId) (i a id29 : Nat) (x f b e : Bool) (n : Fin 16) (d : List Nat) (L : Lane), s.lane l = L → L.canActs = true →
    id29 = (if x then i % 2 ^ 29 else i % 2 ^ 11 * 2 ^ 18) → (f = false ∨ L.on CAN_CFG.FD_EN = true) → L.canFilter id29 x = none →
    ∃ K, exec (.canFrameReceived l i a x false f b e n d) s = .next (s.onLane l (fun _ => K)) ∧
      K.rd CAN_CNT.NOMATCH = min (L.rd CAN_CNT.NOMATCH + 1) 255 ∧ L.onlyFields K [CAN_STATUS.REC, CAN_STATUS.STATE, CAN_CNT.NOMATCH]) ∧
  (∀ (s : State) (l : LaneId) (i a id29 k : Nat) (x f b e : Bool) (n : Fin 16) (d : List Nat) (L : Lane), s.lane l = L → L.canActs = true →
    id29 = (if x then i % 2 ^ 29 else i % 2 ^ 11 * 2 ^ 18) → (f = false ∨ L.on CAN_CFG.FD_EN = true) → L.canFilter id29 x = some k →
    L.rd CAN_STATUS.LEVEL = 32 →
    ∃ K, exec (.canFrameReceived l i a x false f b e n d) s = .next (s.onLane l (fun _ => K)) ∧ K.on CAN_FLAGS.RX_OVF = true ∧
      K.rd CAN_CNT.OVF_CNT = min (L.rd CAN_CNT.OVF_CNT + 1) 255 ∧ K.inbox = L.inbox ++ [⟨0xCE, false, 1, 0⟩] ∧
      L.keepsBut K [CAN_STATUS.REC, CAN_STATUS.STATE, CAN_FLAGS.RX_OVF, CAN_CNT.OVF_CNT]) ∧
  (∀ (s : State) (l : LaneId) (i a id29 k q : Nat) (x f b e : Bool) (n : Fin 16) (d : List Nat) (L : Lane), s.lane l = L → L.canActs = true →
    id29 = (if x then i % 2 ^ 29 else i % 2 ^ 11 * 2 ^ 18) → (f = false ∨ L.on CAN_CFG.FD_EN = true) → L.canFilter id29 x = some k →
    L.rd CAN_STATUS.LEVEL < 32 → q = (L.rd CAN_FLAGS.HEAD + L.rd CAN_STATUS.LEVEL) % 32 →
    ∃ K, exec (.canFrameReceived l i a x false f b e n d) s = .next (s.onLane l (fun _ => K)) ∧ K.rd CAN_STATUS.LEVEL = L.rd CAN_STATUS.LEVEL + 1 ∧
      K.rd (CAN_RXE.IDENT q) = id29 ∧ K.on (CAN_RXE.XTD q) = x ∧ K.on (CAN_RXE.FDF q) = f ∧ K.on (CAN_RXE.BRS q) = b ∧ K.on (CAN_RXE.ESI q) = e ∧ K.rd (CAN_RXE.DLC q) = n ∧ K.rd (CAN_RXE.FILT q) = k ∧
      K.rd (CAN_RXE.TS q) = (L.now - a) % 2 ^ 64 ∧
      (∀ j < dlcBytes n f, slice (8 * (j % 4)) 8 (K.rd (CAN_RXE.DATA q (j / 4))) = d.getD j 0 % 256) ∧ (∀ p < 4, K.bitOf (Int.events p) 26 = true) ∧
      K.mem = L.mem ∧ K.nor = L.nor ∧ K.inbox = L.inbox) ∧
  (∀ (s : State) (l : LaneId) (i a : Nat) (x b e : Bool) (n : Fin 16) (d : List Nat) (L : Lane), s.lane l = L → L.canActs = true →
    L.on CAN_CFG.FD_EN = false →
    ∃ K, exec (.canFrameReceived l i a x false true b e n d) s = .next (s.onLane l (fun _ => K)) ∧ L.onlyFields K [CAN_STATUS.REC, CAN_STATUS.STATE]) ∧
  (∀ (s : State) (l : LaneId) (m : Nat) (L : Lane), s.lane l = L →
    ∃ K, exec (.canTxRequest l m) s = .next (s.onLane l (fun _ => K)) ∧ (∀ t < 16, K.bitOf CAN_TXREQ.REQ t = (L.bitOf CAN_TXREQ.REQ t || m.testBit t)) ∧
      L.onlyFields K [CAN_TXREQ.REQ]) ∧
  (∀ (s : State) (l : LaneId) (t : Nat) (L : Lane), s.lane l = L → L.canActs = true → L.on CAN_CFG.LISTEN_ONLY = false → t < 16 →
    L.bitOf CAN_TXREQ.REQ t = true → (∀ u < t, L.bitOf CAN_TXREQ.REQ u = false) →
    ∃ K, exec (.canTxDone l) s = .next (s.onLane l (fun _ => K)) ∧ K.bitOf CAN_TXREQ.REQ t = false ∧ K.bitOf CAN_TXDONE.DONE t = true ∧
      (∀ u < 16, u ≠ t → K.bitOf CAN_TXREQ.REQ u = L.bitOf CAN_TXREQ.REQ u ∧ K.bitOf CAN_TXDONE.DONE u = L.bitOf CAN_TXDONE.DONE u) ∧
      L.keepsBut K ([CAN_TXREQ.REQ, CAN_TXDONE.DONE, CAN_STATUS.TEC, CAN_STATUS.STATE] ++ eventFields)) ∧
  (∀ (s : State) (l : LaneId) (L : Lane), s.lane l = L → (L.on CAN_CFG.LISTEN_ONLY = true ∨ ∀ t < 16, L.bitOf CAN_TXREQ.REQ t = false) →
    exec (.canTxDone l) s = .next (s.onLane l id)) ∧
  (∀ (s : State) (l : LaneId) (L : Lane), s.lane l = L → L.rd CAN_STATUS.LEVEL ≠ 0 → L.rd CAN_STATUS.LEVEL ≤ 32 →
    ∃ K, exec (.canPop l) s = .next (s.onLane l (fun _ => K)) ∧ K.rd CAN_STATUS.LEVEL = L.rd CAN_STATUS.LEVEL - 1 ∧
      K.rd CAN_FLAGS.HEAD = (L.rd CAN_FLAGS.HEAD + 1) % 32 ∧ L.keepsBut K ([CAN_STATUS.LEVEL, CAN_FLAGS.HEAD] ++ eventFields)) ∧
  (∀ (s : State) (l : LaneId), (s.lane l).rd CAN_STATUS.LEVEL = 0 → exec (.canPop l) s = .next (s.onLane l id)) ∧
  (∀ (s : State) (l : LaneId) (t8 : Bool) (v : Nat) (L : Lane), s.lane l = L → L.canActs = true → v = L.rd CAN_STATUS.TEC + (if t8 then 8 else 1) →
    255 < v →
    ∃ K, exec (.canError l true t8) s = .next (s.onLane l (fun _ => K)) ∧ K.rd CAN_STATUS.STATE = 2 ∧ K.on CAN_FLAGS.BUSOFF = true ∧
      K.rd CAN_CNT.BUSOFF_CNT = min (L.rd CAN_CNT.BUSOFF_CNT + 1) 255 ∧ K.on Int.canRecov = L.on CAN_CFG.AUTO_RECOV ∧
      K.inbox = L.inbox ++ [⟨0xCC, false, 1, 0⟩] ∧
      L.keepsBut K [CAN_STATUS.TEC, CAN_STATUS.STATE, CAN_FLAGS.BUSOFF, CAN_CNT.BUSOFF_CNT, Int.canRecov]) ∧
  (∀ (s : State) (l : LaneId) (tx t8 : Bool) (f : Fld) (v : Nat) (L : Lane), s.lane l = L → L.canActs = true →
    f = (if tx then CAN_STATUS.TEC else CAN_STATUS.REC) → v = L.rd f + (if t8 then 8 else 1) → (tx = true → v ≤ 255) → 127 < v →
    L.rd CAN_STATUS.STATE = 0 →
    ∃ K, exec (.canError l tx t8) s = .next (s.onLane l (fun _ => K)) ∧ K.rd f = min v 255 ∧ K.rd CAN_STATUS.STATE = 1 ∧
      K.on CAN_FLAGS.PASSIVE = true ∧ K.inbox = L.inbox ++ [⟨0xCD, false, 1, 0⟩] ∧ L.keepsBut K [f, CAN_STATUS.STATE, CAN_FLAGS.PASSIVE]) ∧
  (∀ (s : State) (l : LaneId) (tx t8 : Bool) (f : Fld) (v : Nat) (L : Lane), s.lane l = L → L.canActs = true →
    f = (if tx then CAN_STATUS.TEC else CAN_STATUS.REC) → v = L.rd f + (if t8 then 8 else 1) → (tx = true → v ≤ 255) →
    (v ≤ 127 ∨ L.rd CAN_STATUS.STATE = 1) →
    ∃ K, exec (.canError l tx t8) s = .next (s.onLane l (fun _ => K)) ∧ K.rd f = min v 255 ∧ L.onlyFields K [f]) ∧
  (∀ (s : State) (l : LaneId) (L : Lane), s.lane l = L → L.rd CAN_STATUS.STATE = 2 →
    (∃ K, exec (.canRecover l) s = .next (s.onLane l (fun _ => K)) ∧ K.on Int.canRecov = true ∧ L.onlyFields K [Int.canRecov]) ∧
    (L.on Int.canRecov = true → ∃ K, exec (.busOffRecoveryComplete l) s = .next (s.onLane l (fun _ => K)) ∧ K.rd CAN_STATUS.STATE = 0 ∧
      K.rd CAN_STATUS.TEC = 0 ∧ K.rd CAN_STATUS.REC = 0 ∧ L.onlyFields K [CAN_STATUS.STATE, CAN_STATUS.TEC, CAN_STATUS.REC, Int.canRecov]) ∧
    (L.on Int.canRecov = false → exec (.busOffRecoveryComplete l) s = .next (s.onLane l id))) ∧
  (∀ (s : State) (l : LaneId), (s.lane l).rd CAN_STATUS.STATE ≠ 2 → exec (.canRecover l) s = .next (s.onLane l id) ∧
    exec (.busOffRecoveryComplete l) s = .next (s.onLane l id))

/-- TOKEN_SUBMIT starts a verification and notes a condition of R380 that does not hold; with one under way it has no
effect. TOKEN_VERIFIED without one has no effect; with one it shows the code of the first check that fails, and then
changes no register but BUSY, CODE and the challenge and raises 0xE5; with every check passed the life-cycle state is
the token’s TARGET 1, 2 or 3, or the retirement of TARGET 4 is pending, the transition is counted and 0xE6 is raised.
SLICE_PERIOD_EXPIRY on a PG930-T or outside the modes of R52 has no effect; with a handover, test or withdrawal under
way only the cover times go on; else the next pair that is not fenced is withdrawn. SLICE_DONE outside a slice has no
effect; a failed slice sets ST_FAIL and exits the lane; a passed one counts, moves to the next segment and restarts
the pair; after a lane exit it is not counted. SHUTDOWN_TEST_DONE outside the shutdown test has no effect; a failure
sets SD_FAIL with 0xE2 and leaves the NOR; a pass counts and writes a certificate into the other copy and no other
byte of the NOR. (R379, R380, R381, R397, R51, R229, R386, R389, R390, R391, R392, R394) -/
def Obligations.TokensAndSelfTest : Prop :=
  ((∀ (s : State) (l : LaneId) (L : Lane), s.lane l = L → L.on LCS_RESULT.BUSY = false →
    ∃ K, exec (.tokenSubmit l) s = .next (s.onLane l (fun _ => K)) ∧ K.on LCS_RESULT.BUSY = true ∧ K.on Int.tokenBad = (! L.tokenCondition) ∧
      L.onlyFields K [LCS_RESULT.BUSY, Int.tokenBad]) ∧
  (∀ (s : State) (l : LaneId), (s.lane l).on LCS_RESULT.BUSY = true → exec (.tokenSubmit l) s = .next (s.onLane l id)) ∧
  (∀ (s : State) (l : LaneId), (s.lane l).on LCS_RESULT.BUSY = false → exec (.tokenVerified l) s = .next (s.onLane l id)) ∧
  (∀ (s : State) (l : LaneId) (L : Lane), s.lane l = L → L.on LCS_RESULT.BUSY = true → L.tokenCode ≠ 0 →
    ∃ K, exec (.tokenVerified l) s = .next (s.onLane l (fun _ => K)) ∧ K.rd LCS_RESULT.CODE = L.tokenCode ∧ K.on LCS_RESULT.BUSY = false ∧
      K.inbox = L.inbox ++ [⟨0xE5, false, 1, 0⟩] ∧
      L.keepsBut K ([LCS_RESULT.BUSY, LCS_RESULT.CODE] ++ (List.range 4).map LCS_CHAL.CHAL)) ∧
  (∀ (s : State) (l : LaneId) (t : Nat) (L : Lane), s.lane l = L → L.on LCS_RESULT.BUSY = true → L.tokenCode = 0 → t = L.token 4 4 →
    ∃ K, exec (.tokenVerified l) s = .next (s.onLane l (fun _ => K)) ∧ 1 ≤ t ∧ t ≤ 4 ∧ K.rd LCS_RESULT.CODE = 0 ∧ K.on LCS_RESULT.BUSY = false ∧
      (t < 4 → K.rd LCS_STATE.STATE = t) ∧ (t = 4 → K.on LCS_STATE.RETIRE_PEND = true ∧ K.rd LCS_STATE.STATE = L.rd LCS_STATE.STATE) ∧
      (t = 1 → K.rd Int.serviceKey = L.token 0x90 96 % 2 ^ Int.serviceKey.width) ∧ K.inbox = L.inbox ++ [⟨0xE6, false, 1, 0⟩] ∧
      K.rd LCS_RESULT.TRANS_CNT = min (L.rd LCS_RESULT.TRANS_CNT + 1) (2 ^ LCS_RESULT.TRANS_CNT.width - 1) ∧ K.mem = L.mem ∧ K.nor = L.nor)) ∧
  ((∀ (s : State) (l : LaneId) (L : Lane), s.lane l = L → (L.strap.variant = .t ∨ L.mode < mStandby ∨ mTorqueOff < L.mode) →
    exec (.slicePeriodExpiry l) s = .next (s.onLane l id)) ∧
  (∀ (s : State) (l : LaneId) (L : Lane), s.lane l = L → L.strap.variant = .d → mStandby ≤ L.mode → L.mode ≤ mTorqueOff →
    (L.rd Int.hoPhase ≠ 0 ∨ L.rd BST_STATUS.PHASE ≠ 0 ∨ L.rd Int.withdraw ≠ 0) →
    ∃ K, exec (.slicePeriodExpiry l) s = .next (s.onLane l (fun _ => K)) ∧
      (∀ p < 4, K.rd (Int.coverMs p) = min (L.rd (Int.coverMs p) + L.rd BST_CFG.SLICE_PERIOD) (2 ^ 32 - 1)) ∧
      L.keepsBut K (BST_COVER.COVER :: ((List.range 4).map Int.coverMs ++ (List.range 4).map Int.coverLate))) ∧
  (∀ (s : State) (l : LaneId) (q : Fin 4) (L : Lane), s.lane l = L → L.strap.variant = .d → mStandby ≤ L.mode → L.mode ≤ mTorqueOff →
    L.rd Int.hoPhase = 0 → L.rd BST_STATUS.PHASE = 0 → L.rd Int.withdraw = 0 → L.slicePairFrom (L.rd BST_SLICE.NEXT_PAIR) = q →
    L.pairState q = 0 → L.capacityForbids q = false → L.execOf q = none → q ≠ 3 →
    ∃ K, exec (.slicePeriodExpiry l) s = .next (s.onLane l (fun _ => K)) ∧ K.pairState q = 5 ∧ K.rd BST_STATUS.PHASE = 3 ∧
      K.rd BST_SLICE.NEXT_PAIR = q) ∧
  (∀ (s : State) (l : LaneId) (b : Bool) (L : Lane), s.lane l = L → (L.rd BST_STATUS.PHASE ≠ 3 ∨ L.pairState (L.rd BST_SLICE.NEXT_PAIR) ≠ 5) →
    exec (.sliceDone l b) s = .next (s.onLane l id)) ∧
  (∀ (s : State) (l : LaneId) (L : Lane), s.lane l = L → L.rd BST_STATUS.PHASE = 3 → L.pairState (L.rd BST_SLICE.NEXT_PAIR) = 5 → L.canExit = true →
    ∃ K, exec (.sliceDone l false) s = .next (s.onLane l (fun _ => K)) ∧ K.on BST_STATUS.ST_FAIL = true ∧ K.on Int.e0 = true ∧
      K.rd BST_STATUS.PHASE = 0 ∧ K.mem = L.mem ∧ K.nor = L.nor) ∧
  (∀ (s : State) (l : LaneId) (p : Fin 4) (L : Lane), s.lane l = L → L.rd BST_STATUS.PHASE = 3 → L.rd BST_SLICE.NEXT_PAIR = p → L.pairState p = 5 →
    L.on Int.e0 = false →
    ∃ K, exec (.sliceDone l true) s = .next (s.onLane l (fun _ => K)) ∧ K.rd BST_STATUS.PHASE = 0 ∧
      K.rd BST_CNT.SLICES = min (L.rd BST_CNT.SLICES + 1) 65535 ∧ (L.rd (Int.seg p) + 1 < 100 → K.rd (Int.seg p) = L.rd (Int.seg p) + 1) ∧
      (100 ≤ L.rd (Int.seg p) + 1 → K.rd (Int.seg p) = 0 ∧ K.rd (Int.coverMs p) = 0) ∧
      (p ≠ 3 ∨ L.split3 = false → K.pairState p = 1) ∧ (p = 3 → L.split3 = true → K.pairState p = 4) ∧ K.mem = L.mem ∧ K.nor = L.nor) ∧
  (∀ (s : State) (l : LaneId) (L : Lane), s.lane l = L → L.rd BST_STATUS.PHASE = 3 → L.pairState (L.rd BST_SLICE.NEXT_PAIR) = 5 → L.on Int.e0 = true →
    ∃ K, exec (.sliceDone l true) s = .next (s.onLane l (fun _ => K)) ∧ K.rd BST_STATUS.PHASE = 0 ∧ K.rd BST_CNT.SLICES = L.rd BST_CNT.SLICES ∧
      (∀ p < 4, K.rd (Int.seg p) = L.rd (Int.seg p)) ∧ K.mem = L.mem ∧ K.nor = L.nor) ∧
  (∀ (s : State) (l : LaneId) (b : Bool) (u : Fin 7) (L : Lane), s.lane l = L → (L.mode ≠ mShutdown ∨ L.rd BST_STATUS.PHASE ≠ 2) →
    exec (.shutdownTestDone l b u) s = .next (s.onLane l id)) ∧
  (∀ (s : State) (l : LaneId) (u : Fin 7) (L : Lane), s.lane l = L → L.mode = mShutdown → L.rd BST_STATUS.PHASE = 2 →
    (∃ K, exec (.shutdownTestDone l false u) s = .next (s.onLane l (fun _ => K)) ∧ K.on BST_STATUS.SD_FAIL = true ∧ K.rd BST_STATUS.FAIL_UNIT = u ∧
      K.inbox = L.inbox ++ [⟨0xE2, false, 1, 0⟩] ∧ L.keepsBut K [BST_STATUS.PHASE, BST_STATUS.SD_FAIL, BST_STATUS.FAIL_UNIT]) ∧
    (∃ K c, exec (.shutdownTestDone l true u) s = .next (s.onLane l (fun _ => K)) ∧ c = (if L.newestCert = some 0 then 1 else 0) ∧
      K.rd BST_CNT.FULL_PASS = min (L.rd BST_CNT.FULL_PASS + 1) 255 ∧ K.norWord (certBase c) 4 = 0x54435357 ∧
      K.norWord (certBase c + 4) 4 = 0xFFFFFFFF ∧ K.mem = L.mem ∧
      ∀ a, a < certBase c ∨ certBase c + 0x1000 ≤ a → K.nor.byte norDefault a = L.nor.byte norDefault a)))

/-- DIRECT_TEST_START that R393 does not allow is refused with 0xE7; allowed, PHASE is 4, a pair that executes nothing is
withdrawn, and the test of field logic keeps STO. DIRECT_TEST_DONE outside such a test has no effect; a failure sets
ST_FAIL; else the pair restarts. BOUNDARY_SCAN_INSTRUCTION is free for IDCODE and BYPASS and where R379 permits it,
and else raises 0xE7. SCRUB_SWEEP shows and counts the sweep, SCRUB_LATE raises 0xF6. PARITY_ERROR of no parity source
has no effect; of a field source it counts there, and its block’s axes, groups or channels are forced; of a host
source it exits the lane, fences the pair, bars the lease, stops CAN or the mailbox, invalidates the checkpoint half
or snapshot copy that holds the word, or is raised, as its block’s rule says. What part of a block an error names is
the model’s (assumption 83). (R264, R296, R356, R376, R377, R379, R384, R392, R393) -/
def Obligations.DirectTestsScrubAndParity : Prop :=
  (∀ (s : State) (l : LaneId) (t : Fin 256) (u : Fin 16) (g : Fin 128) (L : Lane), s.lane l = L → L.directAllowed t u = false →
    ∃ K, exec (.directTestStart l t u g) s = .next (s.onLane l (fun _ => K)) ∧
      K.rd BST_CNT.DIRECT_REFUSED = min (L.rd BST_CNT.DIRECT_REFUSED + 1) 255 ∧ K.inbox = L.inbox ++ [⟨0xE7, false, 1, 0⟩] ∧
      L.keepsBut K [BST_CNT.DIRECT_REFUSED]) ∧
  (∀ (s : State) (l : LaneId) (t : Fin 256) (u : Fin 16) (g : Fin 128) (L : Lane), s.lane l = L → L.directAllowed t u = true →
    ∃ K, exec (.directTestStart l t u g) s = .next (s.onLane l (fun _ => K)) ∧ K.rd BST_STATUS.PHASE = 4 ∧ ((t : Nat) = 2 → K.on Int.bstSto = true) ∧
      (t = 0 → (u : Nat) < 3 → L.execOf u = none → L.bitOf Int.withdraw u = false → K.pairState u = 5) ∧ K.mem = L.mem ∧ K.nor = L.nor) ∧
  (∀ (s : State) (l : LaneId) (b : Bool) (L : Lane), s.lane l = L → (L.rd BST_STATUS.PHASE ≠ 4 ∨ L.rd Int.directUnit < 4 ∧
    L.pairState (L.rd Int.directUnit) ≠ 5) → exec (.directTestDone l b) s = .next (s.onLane l id)) ∧
  (∀ (s : State) (l : LaneId) (L : Lane), s.lane l = L → L.rd BST_STATUS.PHASE = 4 → 4 ≤ L.rd Int.directUnit →
    (∃ K, exec (.directTestDone l true) s = .next (s.onLane l (fun _ => K)) ∧ K.rd BST_STATUS.PHASE = 0 ∧ K.on Int.bstSto = false ∧ K.mem = L.mem ∧ K.nor = L.nor) ∧
    (∃ K, exec (.directTestDone l false) s = .next (s.onLane l (fun _ => K)) ∧ K.rd BST_STATUS.PHASE = 0 ∧ K.on BST_STATUS.ST_FAIL = true ∧
      K.rd BST_STATUS.FAIL_UNIT = L.rd Int.directUnit % 2 ^ BST_STATUS.FAIL_UNIT.width)) ∧
  (∀ (s : State) (l : LaneId) (p : Fin 4) (L : Lane), s.lane l = L → L.rd BST_STATUS.PHASE = 4 → L.rd Int.directUnit = p → L.pairState p = 5 →
    (p ≠ 3 ∨ L.split3 = false) →
    ∃ K, exec (.directTestDone l true) s = .next (s.onLane l (fun _ => K)) ∧ K.rd BST_STATUS.PHASE = 0 ∧ K.pairState p = 1 ∧ K.mem = L.mem ∧ K.nor = L.nor) ∧
  (∀ (s : State) (l : LaneId) (b : Bool) (L : Lane), s.lane l = L → (b = false ∨ L.rd LCS_STATE.STATE ≠ 2 ∧ L.rd LCS_STATE.STATE ≠ 4 ∧
    gatesOff L.mode = true) → exec (.boundaryScanInstruction l b) s = .next (s.onLane l id)) ∧
  (∀ (s : State) (l : LaneId) (L : Lane), s.lane l = L → (L.rd LCS_STATE.STATE = 2 ∨ L.rd LCS_STATE.STATE = 4 ∨ gatesOff L.mode = false) →
    exec (.boundaryScanInstruction l true) s = .next (s.onLane l (fun L => { L with inbox := L.inbox ++ [⟨0xE7, false, 1, 0⟩] }))) ∧
  (∀ (s : State) (l : LaneId) (ms : Nat) (L : Lane), s.lane l = L →
    ∃ K, exec (.scrubSweep l ms) s = .next (s.onLane l (fun _ => K)) ∧ K.rd CFG_SCRUB.SWEEP_MS = min ms 65535 ∧
      K.rd CFG_SCRUB.SWEEPS = min (L.rd CFG_SCRUB.SWEEPS + 1) 65535 ∧ L.onlyFields K [CFG_SCRUB.SWEEP_MS, CFG_SCRUB.SWEEPS]) ∧
  (∀ (s : State) (l : LaneId), exec (.scrubLate l) s = .next (s.onLane l (fun L => { L with inbox := L.inbox ++ [⟨0xF6, false, 1, 0⟩] }))) ∧
  (∀ (s : State) (l : LaneId) (src : Nat) (p : Fin 16), src ∉ fieldParitySources → src ∉ hostParitySources →
    exec (.parityError l src p) s = .next (s.onLane l id)) ∧
  (∀ (s : State) (l : LaneId) (src : Nat) (p : Fin 16) (L : Lane), s.lane l = L → src ∈ fieldParitySources →
    ∃ K, exec (.parityError l src p) s = .next (s.onLane l (fun _ => K)) ∧ K.rd (Int.cum src) = (L.rd (Int.cum src) + 1) % 2 ^ 16 ∧
      ((src = 0x60 ∨ src = 0x6F ∨ src = 0x8D) → ∀ n < 8, K.rd (CLE_AX_FOX_STATUS.STATE n) = 6) ∧
      (src = 0x61 → K.rd (CLE_AX_FOX_STATUS.STATE (p % 8)) = 6) ∧ (src = 0x70 → K.on Int.pwmBad = true) ∧ (src = 0x7D → K.on Int.fbiBad = true) ∧
      (src = 0x88 → K.on Int.dclBad = true) ∧ (src = 0x9B → K.on Int.stoBad = true) ∧ K.mem = L.mem ∧ K.nor = L.nor) ∧
  (∀ (s : State) (l : LaneId) (src : Nat) (p : Fin 16) (L : Lane), s.lane l = L →
    src ∈ [0x01, 0x0B, 0x24, 0x39, 0x46, 0x4D, 0xB7, 0xC9, 0xD9, 0xE9, 0xEA, 0xF3, 0xFD] → L.canExit = true →
    ∃ K, exec (.parityError l src p) s = .next (s.onLane l (fun _ => K)) ∧ K.on Int.e0 = true) ∧
  (∀ (s : State) (l : LaneId) (p : Fin 16) (L : Lane), s.lane l = L →
    (∃ K, exec (.parityError l 0xA6 p) s = .next (s.onLane l (fun _ => K)) ∧ K.rd LSE_STATUS.ROLE = 5 ∧ K.inbox = L.inbox ++ [⟨0xA6, false, 1, 0⟩]) ∧
    (∃ K, exec (.parityError l 0xF1 p) s = .next (s.onLane l (fun _ => K)) ∧ K.pairState (p % 4) = 3 ∧ (⟨0xF1, false, 1, 0⟩ : Arrival) ∈ K.inbox) ∧
    (∃ K, exec (.parityError l 0xCF p) s = .next (s.onLane l (fun _ => K)) ∧ K.rd CAN_STATUS.STATE = 3 ∧ K.inbox = L.inbox ++ [⟨0xCF, false, 1, 0⟩]) ∧
    (∃ K, exec (.parityError l 0x52 p) s = .next (s.onLane l (fun _ => K)) ∧ K.on MBX_STATUS.LINK = false ∧ (⟨0x52, false, 1, 0⟩ : Arrival) ∈ K.inbox) ∧
    (∃ K, exec (.parityError l 0xF5 p) s = .next (s.onLane l (fun _ => K)) ∧ K.inbox = L.inbox ++ [⟨0xF5, false, 1, 0⟩] ∧ K.mem = L.mem ∧ K.nor = L.nor ∧
      ((p : Nat) < 8 → L.rd (LSC_PAIR_CKPT.VALID_HALF (p / 2)) = p % 2 → K.on (LSC_PAIR_CKPT.VALID (p / 2)) = false) ∧
      (p = 8 ∨ p = 9 → K.on (Int.snapWritten (p - 8)) = false)) ∧
    ∀ src ∈ [0xF0, 0xF2, 0xF4], exec (.parityError l src p) s =
      .next (s.onLane l (fun L => { L with inbox := L.inbox ++ [⟨src, false, 1, 0⟩] })))

/-- SWITCH_COMPLETE and SWITCH_TIMEOUT of a domain with a switch that is ready give it the new source and count; the
timeout also notes a lost edge with 0x0C, or 0x93 in the field die; RAMP_STEP moves a ramp; with nothing to do each
has no effect. SSC_PERIOD_START takes the spread settings unless a switch runs. A failing host crystal switches the
reference, raises 0x08, reaches every pair and starts the hold, whose end exits the lane; a field crystal raises 0x90.
A lost root raises 0x91 in the field die and exits the lane in the host die. Two low HFO checks, or one that is zero,
fail the HFO, with 0x95 in the field die and the lane exit in the host die. Failures of the management die’s clocks
are logged while it is awake. (R403, R404, R405, R406, R407, R408, R409, R410, R411, R414) -/
def Obligations.ClockSourcesSwitchAndFail : Prop :=
  (∀ (s : State) (l : LaneId) (die : Fin 2) (d : Fin 5) (t : Nat) (L : Lane) (c : ClkRegs), s.lane l = L → c = (if die = 0 then ckg else fck) →
    L.switchReady c d = false →
    exec (.switchComplete l die d t) s = .next (s.onLane l id) ∧ exec (.switchTimeout l die d t) s = .next (s.onLane l id)) ∧
  (∀ (s : State) (l : LaneId) (die : Fin 2) (d : Fin 5) (t : Nat) (L : Lane) (c : ClkRegs), s.lane l = L → c = (if die = 0 then ckg else fck) →
    L.switchReady c d = true → (die = 0 ∨ d ≠ 3) →
    (∃ K, exec (.switchComplete l die d t) s = .next (s.onLane l (fun _ => K)) ∧ K.rd (c.src d) = L.rd (c.dest d) % 2 ∧
      K.rd c.switches = min (L.rd c.switches + 1) (2 ^ c.switches.width - 1) ∧
      ((L.on c.mode = false ∨ L.on (c.native d) = true) → L.rd (c.next d) = 0 → K.on (c.pend d) = false) ∧
      (L.on c.mode = true → L.on (c.native d) = false → K.rd (c.ramp d) = 5) ∧ K.mem = L.mem ∧ K.inbox = L.inbox) ∧
    (∃ K, exec (.switchTimeout l die d t) s = .next (s.onLane l (fun _ => K)) ∧ K.rd (c.src d) = L.rd (c.dest d) % 2 ∧ K.on c.indet = true ∧
      (die = 0 → K.inbox = L.inbox ++ [⟨0x0C, false, 1, 0⟩]) ∧ (die = 1 → K.rd (Int.cum 0x93) = (L.rd (Int.cum 0x93) + 1) % 2 ^ 16) ∧
      (die = 1 → d = 1 → K.on Int.pwmStopped = true) ∧ K.mem = L.mem ∧ K.nor = L.nor)) ∧
  (∀ (s : State) (l : LaneId) (die : Fin 2) (d : Fin 5) (t : Nat) (L : Lane) (c : ClkRegs), s.lane l = L → c = (if die = 0 then ckg else fck) →
    (L.on (c.pend d) = false ∨ L.on c.mode = false ∨ L.on (c.native d) = true ∨ L.rd (c.ramp d) = 4) →
    exec (.rampStep l die d t) s = .next (s.onLane l id)) ∧
  (∀ (s : State) (l : LaneId) (die : Fin 2) (d : Fin 5) (t : Nat) (L : Lane) (c : ClkRegs), s.lane l = L → c = (if die = 0 then ckg else fck) →
    L.on (c.pend d) = true → L.on c.mode = true → L.on (c.native d) = false → L.rd (c.ramp d) < 8 → L.rd (c.ramp d) ≠ 4 →
    ∃ K, exec (.rampStep l die d t) s = .next (s.onLane l (fun _ => K)) ∧ K.rd (c.ramp d) = L.rd (c.ramp d) + 1 ∧ L.onlyFields K [c.ramp d]) ∧
  (∀ (s : State) (l : LaneId) (die : Fin 2) (d : Fin 5) (t : Nat) (L : Lane) (c : ClkRegs), s.lane l = L → c = (if die = 0 then ckg else fck) →
    L.on (c.pend d) = true → L.on c.mode = true → L.on (c.native d) = false → L.rd (c.ramp d) = 8 → L.rd (c.next d) = 0 → (die = 0 ∨ d ≠ 3) →
    ∃ K, exec (.rampStep l die d t) s = .next (s.onLane l (fun _ => K)) ∧ K.on (c.pend d) = false ∧ K.rd (c.ramp d) = 0 ∧
      ((d : Nat) < 4 → K.rd (c.swTime d) = min t 65535) ∧ K.mem = L.mem) ∧
  (∀ (s : State) (l : LaneId) (die : Fin 2) (L : Lane) (c : ClkRegs), s.lane l = L → c = (if die = 0 then ckg else fck) → L.on c.busy = true →
    exec (.sscPeriodStart l die) s = .next (s.onLane l id)) ∧
  (∀ (s : State) (l : LaneId) (L : Lane), s.lane l = L → L.on CKG_STATUS.SW_BUSY = false →
    ∃ K, exec (.sscPeriodStart l 0) s = .next (s.onLane l (fun _ => K)) ∧ K.rd Int.sscDepth = L.rd CKG_CFG.SSC_DEPTH % 32 ∧
      K.rd Int.sscRate = L.rd CKG_CFG.SSC_RATE % 128 ∧ L.onlyFields K [Int.sscDepth, Int.sscRate]) ∧
  (∀ (s : State) (l : LaneId) (x r : Nat) (L : Lane), s.lane l = L → crystalOk x (L.rd CKG_CFG.XTOL) = true →
    (L.on CKG_STATUS.PLL_LOCK = false ∨ rootOk r = true) →
    ∃ K, exec (.crystalWindow l 0 x r) s = .next (s.onLane l (fun _ => K)) ∧ K.on CKG_STATUS.XTAL_OK = true ∧ K.rd CKG_STATUS.XCOUNT = min x 1023 ∧
      K.rd Int.xBad = 0 ∧ L.onlyFields K [CKG_STATUS.XCOUNT, CKG_STATUS.XTAL_OK, Int.xBad]) ∧
  (∀ (s : State) (l : LaneId) (x r : Nat) (c : Instr) (L : Lane), s.lane l = L → L.on CKG_STATUS.REF = false → L.on (Int.swPend 4) = false →
    (c = .xtalEdgeTimeout l 0 ∨ c = .crystalWindow l 0 x r ∧ crystalOk x (L.rd CKG_CFG.XTOL) = false ∧ 1 ≤ L.rd Int.xBad ∧ rootOk r = true) →
    ∃ K, exec c s = .next (s.onLane l (fun _ => K)) ∧ K.on CKG_STATUS.REF = true ∧ K.on CKG_FLAGS.XTAL_FAIL = true ∧ K.on CKG_STATUS.XTAL_OK = false ∧
      K.inbox = L.inbox ++ [⟨0x08, false, 1, 0⟩] ∧ K.rd LSE_CLK.TOL_IN_USE = 20000 ∧ K.on Int.xfHold = true ∧
      K.rd CKG_STATUS.HOLD_LEFT = L.rd CKG_HOLD.XF_HOLD % 4096 ∧ (∀ p < 4, K.bitOf (Int.events p) 2 = true) ∧ K.mem = L.mem) ∧
  (∀ (s : State) (l : LaneId) (L : Lane), s.lane l = L → (L.on CKG_STATUS.REF = true → exec (.xtalEdgeTimeout l 0) s = .next (s.onLane l id)) ∧
    (L.on FCK_STATUS.REF = true → exec (.xtalEdgeTimeout l 1) s = .next (s.onLane l id)) ∧
    (L.on CKG_STATUS.PLL_LOCK = false → exec (.rootLockError l 0) s = .next (s.onLane l id)) ∧
    (L.on FCK_STATUS.PLL_LOCK = false → exec (.rootLockError l 1) s = .next (s.onLane l id)) ∧
    (L.on Int.xfHold = false → exec (.xfHoldExpiry l) s = .next (s.onLane l id))) ∧
  (∀ (s : State) (l : LaneId) (L : Lane), s.lane l = L → L.on FCK_STATUS.REF = false → L.on FCK_FLAGS.HFO_FAIL = false → L.rd Int.fhfoBad ≠ 2 →
    ∃ K, exec (.xtalEdgeTimeout l 1) s = .next (s.onLane l (fun _ => K)) ∧ K.on FCK_STATUS.REF = true ∧ K.on FCK_FLAGS.XTAL_FAIL = true ∧
      K.rd (Int.cum 0x90) = (L.rd (Int.cum 0x90) + 1) % 2 ^ 16 ∧ K.mem = L.mem) ∧
  (∀ (s : State) (l : LaneId) (L : Lane), s.lane l = L → L.on CKG_STATUS.PLL_LOCK = true → L.canExit = true →
    ∃ K, exec (.rootLockError l 0) s = .next (s.onLane l (fun _ => K)) ∧ K.on CKG_FLAGS.LOCK_LOST = true ∧ K.on CKG_STATUS.PLL_LOCK = false ∧
      K.on Int.e0 = true ∧ K.rd CKG_CNT.UNLOCK_CNT = min (L.rd CKG_CNT.UNLOCK_CNT + 1) 255) ∧
  (∀ (s : State) (l : LaneId) (L : Lane), s.lane l = L → L.on FCK_STATUS.PLL_LOCK = true →
    ∃ K, exec (.rootLockError l 1) s = .next (s.onLane l (fun _ => K)) ∧ K.on FCK_FLAGS.LOCK_LOST = true ∧ K.on FCK_STATUS.PLL_LOCK = false ∧
      K.rd (Int.cum 0x91) = (L.rd (Int.cum 0x91) + 1) % 2 ^ 16 ∧ K.rd Int.e0 = L.rd Int.e0) ∧
  (∀ (s : State) (l : LaneId) (L : Lane), s.lane l = L → L.on Int.xfHold = true → L.canExit = true →
    ∃ K, exec (.xfHoldExpiry l) s = .next (s.onLane l (fun _ => K)) ∧ K.on Int.xfHold = false ∧ K.rd CKG_STATUS.HOLD_LEFT = 0 ∧ K.on Int.e0 = true) ∧
  (∀ (s : State) (l : LaneId) (n : Nat) (L : Lane), s.lane l = L → (hfoOk n = true ∨ n ≠ 0 ∧ L.rd Int.hfoBad = 0) →
    ∃ K, exec (.hfoCheck l 0 n) s = .next (s.onLane l (fun _ => K)) ∧ K.rd Int.hfoBad = (if hfoOk n then 0 else 1) ∧ L.onlyFields K [Int.hfoBad]) ∧
  (∀ (s : State) (l : LaneId) (n : Nat) (L : Lane), s.lane l = L → hfoOk n = false → (n = 0 ∨ 1 ≤ L.rd Int.hfoBad) → L.on CKG_FLAGS.HFO_FAIL = false →
    L.on CKG_STATUS.REF = false → L.canExit = true →
    ∃ K, exec (.hfoCheck l 0 n) s = .next (s.onLane l (fun _ => K)) ∧ K.on CKG_FLAGS.HFO_FAIL = true ∧ K.on Int.e0 = true ∧
      K.on Int.hfoRec = true ∧ K.rd Int.hfoTick = L.lfo % 2 ^ Int.hfoTick.width) ∧
  (∀ (s : State) (l : LaneId) (n : Nat) (L : Lane), s.lane l = L →
    ((hfoOk n = true ∨ n ≠ 0 ∧ L.rd Int.fhfoBad = 0) → ∃ K, exec (.hfoCheck l 1 n) s = .next (s.onLane l (fun _ => K)) ∧
      K.rd Int.fhfoBad = (if hfoOk n then 0 else 1) ∧ L.onlyFields K [Int.fhfoBad]) ∧
    (hfoOk n = false → (n = 0 ∨ 1 ≤ L.rd Int.fhfoBad) → L.on FCK_FLAGS.HFO_FAIL = false → L.on FCK_STATUS.REF = false →
      ∃ K, exec (.hfoCheck l 1 n) s = .next (s.onLane l (fun _ => K)) ∧ K.on FCK_FLAGS.HFO_FAIL = true ∧
        K.rd (Int.cum 0x95) = (L.rd (Int.cum 0x95) + 1) % 2 ^ 16 ∧ K.mem = L.mem ∧ K.nor = L.nor)) ∧
  (∀ (s : State) (l : LaneId) (c : Instr), s.md.awake = true → s.md.queue.length < 4096 → c ∈ [.xtalEdgeTimeout l 2, .rootLockError l 2] →
    ∃ r t, exec c s = .next t ∧ t.md.queue = s.md.queue ++ [r] ∧ r.body.type = 9 ∧ r.body.origin = 7 ∧ r.tmd = s.md.rd Int.mdTick ∧
      t = { s with md := { s.md with queue := t.md.queue, free := s.md.free + 1 } }) ∧
  (∀ (s : State) (l : LaneId) (c : Instr) (x r : Nat), s.md.awake = false → c ∈ [.xtalEdgeTimeout l 2, .rootLockError l 2, .crystalWindow l 2 x r] → exec c s = .next s)

/-- DOZE of a pair that is in reset, out of service, has work, or at which an enabled level-sensitive event stands, has no
effect; without a level asked for it only dozes the pair; the last pair in service starts the entry, or is refused
where R419 does not permit the level. BLOCK_ANSWER records an acceptance, ends the entry with a refusal and 0xD0, and
with the last answer commits level 1, or NET off for 2 and 3. DRAIN_TIMEOUT of a port that still holds items refuses
with 0xD2. FIELD_OFF_DONE, RETENTION_SAVE_DONE and REGION_OFF_DONE act in their stages only: they move on, or end with
a late refusal and 0xD1; level 3 ends with the lane ASLEEP in DORMANT. Outside its stage each has no effect. (R413,
R418, R419, R420, R421, R422, R423, R424, R436, R437) -/
def Obligations.DormouseEntersLevels : Prop :=
  (∀ (s : State) (l : LaneId) (p : Fin 4) (L : Lane), s.lane l = L → (L.on Int.held = true ∨ L.inService p = false ∨ L.pairState p = 1 ∨
    L.queue p ≠ [] ∨ L.levelStands p = true) → exec (.doze l p) s = .next (s.onLane l id)) ∧
  (∀ (s : State) (l : LaneId) (p : Fin 4) (L : Lane), s.lane l = L → L.on Int.held = false → L.inService p = true → L.pairState p ≠ 1 → L.queue p = [] →
    L.levelStands p = false →
    L.rd PSC_MODE.LEVEL = 0 →
    ∃ K, exec (.doze l p) s = .next (s.onLane l (fun _ => K)) ∧ K.bitOf PSC_STATUS.DOZED p = true ∧ L.onlyFields K [PSC_STATUS.DOZED]) ∧
  (∀ (s : State) (l : LaneId) (p : Fin 4) (L : Lane), s.lane l = L → L.on Int.held = false → L.inService p = true → L.pairState p ≠ 1 → L.queue p = [] →
    L.levelStands p = false →
    L.rd PSC_MODE.LEVEL ≠ 0 → L.rd PSC_STATUS.STAGE = 0 → (∀ q < 4, q ≠ p → L.inService q = true → L.bitOf PSC_STATUS.DOZED q = true) →
    (L.levelPermitted (L.rd PSC_MODE.LEVEL) = true → L.rd PSC_WAKE.WAKES = 0 →
      ∃ K, exec (.doze l p) s = .next (s.onLane l (fun _ => K)) ∧ K.rd PSC_STATUS.STAGE = 1 ∧ K.rd Int.pscAsk = L.rd PSC_MODE.LEVEL % 4 ∧
        L.onlyFields K [PSC_STATUS.DOZED, Int.pscAsk, PSC_STATUS.STAGE, Int.pscAnswered, Int.wakePend, Int.pscN3]) ∧
    (L.levelPermitted (L.rd PSC_MODE.LEVEL) = false →
      ∃ K, exec (.doze l p) s = .next (s.onLane l (fun _ => K)) ∧ K.rd PSC_STATUS.STAGE = 0 ∧ K.rd PSC_REFUSE.ID = 0x0D ∧ K.rd PSC_REFUSE.REASON = 7 ∧
        K.rd PSC_CNT.REFUSED = min (L.rd PSC_CNT.REFUSED + 1) 255 ∧ K.inbox = L.inbox ++ [⟨0xD0, false, 1, 0⟩])) ∧
  (∀ (s : State) (l : LaneId) (k : Fin 32) (b : Bool) (L : Lane), s.lane l = L → (L.rd PSC_STATUS.STAGE ≠ 1 ∨
    (k : Nat) ∉ levelBlocks (L.rd Int.pscAsk) ∨ L.bitOf Int.pscAnswered k = true) →
    exec (.blockAnswer l k b) s = .next (s.onLane l id) ∧ exec (.drainTimeout l k) s = .next (s.onLane l id)) ∧
  (∀ (s : State) (l : LaneId) (k : Fin 32) (b : Bool) (L : Lane), s.lane l = L → L.undrained k = true → exec (.blockAnswer l k b) s = .next (s.onLane l id)) ∧
  (∀ (s : State) (l : LaneId) (k : Fin 32) (b : Bool) (L : Lane), s.lane l = L → L.rd PSC_STATUS.STAGE = 1 →
    (k : Nat) ∈ levelBlocks (L.rd Int.pscAsk) → L.bitOf Int.pscAnswered k = false → L.undrained k = false →
    (L.refusal k b ≠ 0 → ∃ K, exec (.blockAnswer l k b) s = .next (s.onLane l (fun _ => K)) ∧ K.rd PSC_STATUS.STAGE = 0 ∧ K.rd PSC_REFUSE.ID = k ∧
      K.rd PSC_REFUSE.REASON = L.refusal k b ∧ K.rd PSC_CNT.REFUSED = min (L.rd PSC_CNT.REFUSED + 1) 255 ∧
      K.inbox = L.inbox ++ [⟨0xD0, false, 1, 0⟩] ∧
      L.keepsBut K [PSC_CNT.REFUSED, PSC_REFUSE.ID, PSC_REFUSE.REASON, PSC_REFUSE.STAGE, PSC_REFUSE.LVL, PSC_STATUS.STAGE]) ∧
    (L.refusal k b = 0 → (∃ j ∈ levelBlocks (L.rd Int.pscAsk), j ≠ k ∧ L.bitOf Int.pscAnswered j = false) →
      ∃ K, exec (.blockAnswer l k b) s = .next (s.onLane l (fun _ => K)) ∧ K.bitOf Int.pscAnswered k = true ∧ L.onlyFields K [Int.pscAnswered]) ∧
    (L.refusal k b = 0 → (∀ j ∈ levelBlocks (L.rd Int.pscAsk), j ≠ k → L.bitOf Int.pscAnswered j = true) → L.on Int.wakePend = false →
      ∃ K, exec (.blockAnswer l k b) s = .next (s.onLane l (fun _ => K)) ∧
        (L.rd Int.pscAsk = 1 → K.rd PSC_STATUS.LEVEL_NOW = 1 ∧ K.rd PSC_STATUS.CORE = 1 ∧ K.rd PSC_STATUS.STAGE = 0 ∧
          K.rd PSC_CNT.ENTRIES = min (L.rd PSC_CNT.ENTRIES + 1) 255) ∧
        (L.rd Int.pscAsk = 2 → K.rd PSC_STATUS.NET = 3 ∧ K.rd PSC_STATUS.STAGE = 3) ∧
        (L.rd Int.pscAsk = 3 → K.rd PSC_STATUS.NET = 3 ∧ K.rd PSC_STATUS.STAGE = 2))) ∧
  (∀ (s : State) (l : LaneId) (k : Fin 32) (L : Lane), s.lane l = L → L.rd PSC_STATUS.STAGE = 1 → (k : Nat) ∈ levelBlocks (L.rd Int.pscAsk) →
    L.bitOf Int.pscAnswered k = false →
    ((L.undrained k = true ∨ 16 ≤ (k : Nat)) → ∃ K, exec (.drainTimeout l k) s = .next (s.onLane l (fun _ => K)) ∧ K.rd PSC_STATUS.STAGE = 0 ∧
      K.rd PSC_REFUSE.ID = k ∧ K.rd PSC_REFUSE.REASON = 5 ∧ K.inbox = L.inbox ++ [⟨0xD0, false, 1, 0⟩, ⟨0xD2, false, 1, 0⟩]) ∧
    (L.undrained k = false → (k : Nat) < 16 → exec (.drainTimeout l k) s = .next (s.onLane l id))) ∧
  (∀ (s : State) (l : LaneId) (b : Bool) (L : Lane), s.lane l = L →
    (L.rd PSC_STATUS.STAGE ≠ 2 ∨ L.rd Int.pscAsk ≠ 3 → exec (.fieldOffDone l b) s = .next (s.onLane l id)) ∧
    (L.rd PSC_STATUS.STAGE ≠ 3 → exec (.retentionSaveDone l b) s = .next (s.onLane l id)) ∧
    (L.rd PSC_STATUS.STAGE ≠ 4 → exec (.regionOffDone l) s = .next (s.onLane l id))) ∧
  (∀ (s : State) (l : LaneId) (b : Bool) (L : Lane), s.lane l = L → L.rd PSC_STATUS.STAGE = 2 → L.rd Int.pscAsk = 3 →
    (L.fieldIsOff = true → L.on Int.wakePend = false → ∃ K, exec (.fieldOffDone l true) s = .next (s.onLane l (fun _ => K)) ∧
      K.rd PSC_STATUS.STAGE = 3 ∧ K.rd PSC_STATUS.CORE = 2 ∧ K.rd PSC_STATUS.FABRIC = 2 ∧
      L.onlyFields K [Int.pscN3, PSC_STATUS.STAGE, PSC_STATUS.CORE, PSC_STATUS.FABRIC]) ∧
    (L.fieldIsOff = true → L.on Int.wakePend = true → ∃ K, exec (.fieldOffDone l true) s = .next (s.onLane l (fun _ => K)) ∧ K.on Int.held = true) ∧
    ((b = false ∨ L.fieldIsOff = false) → L.on Int.pscN3 = false → ∃ K, exec (.fieldOffDone l b) s = .next (s.onLane l (fun _ => K)) ∧ K.rd PSC_STATUS.STAGE = 0 ∧
      K.rd PSC_CNT.LATE_REFUSED = min (L.rd PSC_CNT.LATE_REFUSED + 1) 255 ∧ K.rd PSC_STATUS.DOZED = 0 ∧ (⟨0xD1, false, 1, 0⟩ : Arrival) ∈ K.inbox)) ∧
  (∀ (s : State) (l : LaneId) (L : Lane), s.lane l = L → L.rd PSC_STATUS.STAGE = 3 → L.on Int.wakePend = false →
    (L.rd Int.pscAsk = 2 → ∃ K, exec (.retentionSaveDone l true) s = .next (s.onLane l (fun _ => K)) ∧ K.rd PSC_STATUS.LEVEL_NOW = 2 ∧
      K.rd PSC_STATUS.CORE = 2 ∧ K.rd PSC_STATUS.FABRIC = 2 ∧ K.rd PSC_STATUS.STAGE = 0 ∧ K.on CKG_STATUS.PLL_LOCK = false) ∧
    (L.rd Int.pscAsk = 2 → ∃ K, exec (.retentionSaveDone l false) s = .next (s.onLane l (fun _ => K)) ∧ K.rd PSC_STATUS.STAGE = 0 ∧
      K.rd PSC_CNT.LATE_REFUSED = min (L.rd PSC_CNT.LATE_REFUSED + 1) 255 ∧ (⟨0xD1, false, 1, 0⟩ : Arrival) ∈ K.inbox) ∧
    (L.rd Int.pscAsk = 3 → ∃ K, exec (.retentionSaveDone l true) s = .next (s.onLane l (fun _ => K)) ∧ K.rd PSC_STATUS.STAGE = 4 ∧
      K.on Int.pscN4 = true ∧ K.on CKG_STATUS.PLL_LOCK = false)) ∧
  (∀ (s : State) (l : LaneId) (L : Lane), s.lane l = L → L.rd PSC_STATUS.STAGE = 4 → L.mode = mShutdown →
    (L.rd PSC_WAKE.WAKES % 16 = 0 → ∃ K, exec (.regionOffDone l) s = .next (s.onLane l (fun _ => K)) ∧ K.mode = mDormant ∧ K.state = stAsleep ∧
      K.rd PSC_STATUS.LEVEL_NOW = 3 ∧ K.rd PSC_STATUS.CORE = 3 ∧ K.rd PSC_STATUS.FABRIC = 3) ∧
    (L.rd PSC_WAKE.WAKES % 16 ≠ 0 → ∃ K, exec (.regionOffDone l) s = .next (s.onLane l (fun _ => K)) ∧ K.on Int.held = true ∧
      K.rd PSC_WAKE.REPLAYS = min (L.rd PSC_WAKE.REPLAYS + 1) 255 ∧ K.rd CFG_MODE_STATUS.PREV_MODE = mDormant))

/-- PRIVILEGED_WAKE is latched with the LFO tick; it takes a sleeping lane, but for a debug wake, and by KEY_ON or Nguas a
lane in SHUTDOWN, through host die reset, and otherwise changes nothing else with no entry under way. REGION_POWER_UP
resets a field die whose regions were OFF, ends a wake from level 2 with CORE running and NET powered, powers the host
regions of a held lane, and else has no effect. G_RELEASE goes to the field die. A host supply out of range exits the
lane, a field supply raises 0x9C, each once; SUPPLY_IN_RANGE sets its OK bit, and the last field supply ends the field
reset. A die temperature ends the recommended conditions, an over-temperature exits the lane, one of the package every
lane. (R33, R47, R425, R426, R427, R430, R434, R471, R486) -/
def Obligations.WakesSuppliesAndTemperature : Prop :=
  (∀ (s : State) (l : LaneId) (w : Fin 5) (L : Lane), s.lane l = L → L.rd PSC_STATUS.STAGE = 0 →
    (L.state ≠ stAsleep → L.rd PSC_STATUS.LEVEL_NOW ≠ 2 → (L.mode ≠ mShutdown ∨ w ≠ 0 ∧ w ≠ 2) →
      ∃ K, exec (.privilegedWake l w) s = .next (s.onLane l (fun _ => K)) ∧ K.bitOf PSC_WAKE.WAKES w = true ∧
        K.rd PSC_WAKE_TICK.TICK = L.lfo % 2 ^ 32 ∧ L.keepsBut K ([PSC_WAKE.WAKES, PSC_WAKE_TICK.TICK] ++ eventFields)) ∧
    (L.state = stAsleep → w ≠ 4 → ∃ K, exec (.privilegedWake l w) s = .next (s.onLane l (fun _ => K)) ∧ K.bitOf PSC_WAKE.WAKES w = true ∧
      K.on Int.held = true ∧ K.rd CFG_MODE_STATUS.PREV_MODE = mDormant ∧ K.rd PSC_STATUS.FABRIC = 3 ∧ K.mem = L.mem) ∧
    (L.state ≠ stAsleep → L.rd PSC_STATUS.LEVEL_NOW = 2 → ∃ K, exec (.privilegedWake l w) s = .next (s.onLane l (fun _ => K)) ∧
      K.on Int.deepWake = true ∧ K.bitOf PSC_WAKE.WAKES w = true ∧ K.on Int.held = L.on Int.held) ∧
    (L.state ≠ stAsleep → L.rd PSC_STATUS.LEVEL_NOW ≠ 2 → L.mode = mShutdown → (w = 0 ∨ w = 2) → L.on Int.pscN4 = false →
      ∃ K, exec (.privilegedWake l w) s = .next (s.onLane l (fun _ => K)) ∧ K.on Int.held = true ∧ K.rd CFG_MODE_STATUS.PREV_MODE = mShutdown)) ∧
  (∀ (s : State) (l : LaneId) (L : Lane), s.lane l = L →
    (L.fieldIsOff = true → L.state ≠ stAsleep → ∃ K, exec (.regionPowerUp l true) s = .next (s.onLane l (fun _ => K)) ∧ K.up = [] ∧ K.setpoints = [] ∧
      K.fieldIsOff = false ∧ K.rd FPS_STATUS.OK = L.rd FPS_STATUS.OK ∧ (∀ f : Fld, f.home ≠ .field → f.home ≠ .fieldAon → K.rd f = L.rd f) ∧
      K.state = L.state ∧ K.mem = L.mem ∧ K.nor = L.nor) ∧
    ((L.fieldIsOff = false ∨ L.state = stAsleep) → exec (.regionPowerUp l true) s = .next (s.onLane l id)) ∧
    (L.on Int.deepWake = true → L.rd PSC_STATUS.CORE ≠ 0 → exec (.regionPowerUp l false) s = .next (s.onLane l id)) ∧
    (L.on Int.deepWake = true → L.rd PSC_STATUS.CORE = 0 → ∃ K, exec (.regionPowerUp l false) s = .next (s.onLane l (fun _ => K)) ∧
      K.on Int.deepWake = false ∧ K.rd PSC_STATUS.LEVEL_NOW = 0 ∧ K.rd PSC_STATUS.NET ≠ 3 ∧ K.mem = L.mem ∧ K.nor = L.nor) ∧
    (L.on Int.deepWake = false → L.on Int.held = true → L.rd PSC_STATUS.FABRIC = 3 →
      ∃ K, exec (.regionPowerUp l false) s = .next (s.onLane l (fun _ => K)) ∧ K.rd PSC_STATUS.CORE = 0 ∧ K.rd PSC_STATUS.FABRIC = 0 ∧
        K.rd PSC_STATUS.NET = 0 ∧ L.onlyFields K [PSC_STATUS.CORE, PSC_STATUS.FABRIC, PSC_STATUS.NET]) ∧
    (L.on Int.deepWake = false → (L.on Int.held = false ∨ L.rd PSC_STATUS.FABRIC ≠ 3) → exec (.regionPowerUp l false) s = .next (s.onLane l id))) ∧
  (∀ (s : State) (l : LaneId), exec (.gRelease l) s = .next (s.onLane l (fun L => L.toField (.control .gRelease)))) ∧
  (∀ (s : State) (l : LaneId) (w : Fin 6) (L : Lane), s.lane l = L → (w : Nat) < 3 →
    (L.bitOf PSC_SUPPLY.OK w = false → exec (.supplyOutOfRange l w) s = .next (s.onLane l id)) ∧
    (L.bitOf PSC_SUPPLY.OK w = true → L.canExit = true → ∃ K, exec (.supplyOutOfRange l w) s = .next (s.onLane l (fun _ => K)) ∧
      K.bitOf PSC_SUPPLY.OK w = false ∧ K.on Int.e0 = true ∧ K.on CFG_GUARANTEE.COND_RECOMMENDED = false) ∧
    (∃ K, exec (.supplyInRange l w) s = .next (s.onLane l (fun _ => K)) ∧ K.bitOf PSC_SUPPLY.OK w = true ∧
      L.onlyFields K (PSC_SUPPLY.OK :: condFields))) ∧
  (∀ (s : State) (l : LaneId) (w : Fin 6) (L : Lane), s.lane l = L → 3 ≤ (w : Nat) →
    (L.bitOf FPS_STATUS.OK (w - 3) = false → exec (.supplyOutOfRange l w) s = .next (s.onLane l id)) ∧
    (L.bitOf FPS_STATUS.OK (w - 3) = true → ∃ K, exec (.supplyOutOfRange l w) s = .next (s.onLane l (fun _ => K)) ∧
      K.bitOf FPS_STATUS.OK (w - 3) = false ∧ K.rd (Int.cum 0x9C) = (L.rd (Int.cum 0x9C) + 1) % 2 ^ 16 ∧ K.rd Int.e0 = L.rd Int.e0 ∧
      ((w : Nat) < 5 → K.on FPS_STATUS.G_LATCHED = true)) ∧
    (∃ K, exec (.supplyInRange l w) s = .next (s.onLane l (fun _ => K)) ∧ K.bitOf FPS_STATUS.OK (w - 3) = true ∧
      (K.rd FPS_STATUS.OK = 7 → K.on Int.fieldHeld = false))) ∧
  (∀ (s : State) (l : LaneId) (L : Lane), s.lane l = L →
    (∃ K, exec (.temperatureOutOfRange l 0) s = .next (s.onLane l (fun _ => K)) ∧ K.on Int.overTemp = true ∧
      K.on CFG_GUARANTEE.COND_RECOMMENDED = false ∧ L.onlyFields K (Int.overTemp :: condFields)) ∧
    (L.canExit = true → ∃ K, exec (.temperatureOutOfRange l 1) s = .next (s.onLane l (fun _ => K)) ∧ K.on Int.e0 = true ∧
      K.on CFG_GUARANTEE.COND_RECOMMENDED = false)) ∧
  (∀ (s : State) (l : LaneId), ∃ t, exec (.temperatureOutOfRange l 2) s = .next t ∧
    ∀ m, s.variant.fitted m = true → (s.lane m).canExit = true → (t.lane m).on Int.e0 = true)

/-- While the management die is dormant no command of its port has an effect. Awake: a WRITE to CMD is the command it
names; READ answers its bytes, 0xFF past 4,096 and beyond the windows; STATUS, IDENT and an unknown opcode answer or
count. Staging opens with the ring shortened by 8,192 sectors, takes WRITEs only in order, closes into verification at
its whole length, is discarded with the sectors returned, and a command during verification or update is counted in
ERR_SEQ. Verification shows its verdict. A record is programmed oldest first with the next sequence number. A report
is ready with its magic. MD_DORMANT_ENTRY saves and sleeps only with every lane asleep and the queue empty; MD_WAKE
starts a sleeping die from the state block. No command changes a lane. (R441, R443, R445, R447, R449, R450, R452,
R453, R454, R457, R458, R462) -/
def Obligations.ManagementDiePortStagingAndLog : Prop :=
  (∀ (s : State) (a n : Nat) (d : List Byte) (x y : Int) (h : Nat) (b : Bool) (c : Instr), s.md.awake = false →
    c ∈ [.dpRead a n, .dpWrite a d, .dpStatus, .dpIdent, .unknownOpcode, .stageOpen, .stageClose, .stageDiscard, .updateStart, .logAck, .attest,
      .certWrite, .stateBlockSave, .mdSensorSample x y h b] → exec c s = .next s) ∧
  (∀ (s : State), exec (.dpWrite 8 [1, 0, 0, 0]) s = exec .stageOpen s ∧ exec (.dpWrite 8 [2, 0, 0, 0]) s = exec .stageClose s ∧
    exec (.dpWrite 8 [3, 0, 0, 0]) s = exec .stageDiscard s ∧ exec (.dpWrite 8 [4, 0, 0, 0]) s = exec .updateStart s ∧
    exec (.dpWrite 8 [5, 0, 0, 0]) s = exec .logAck s ∧ exec (.dpWrite 8 [6, 0, 0, 0]) s = exec .attest s ∧
    exec (.dpWrite 8 [7, 0, 0, 0]) s = exec .certWrite s) ∧
  (∀ (s : State) (w o n : Nat), s.md.awake = true → w < 8 → o < 2 ^ 29 →
    ∃ M, exec (.dpRead (w * 2 ^ 29 + o) n) s = .next { s with md := M } ∧ M.out.length = n ∧ (∀ i < n, 4096 ≤ i → M.out.getD i 0 = 0xFF) ∧
      (5 ≤ w → M.rd DP_ERR.ERR_ADDR = min (s.md.rd DP_ERR.ERR_ADDR + 1) 255 ∧ ∀ i < n, M.out.getD i 0 = 0xFF) ∧
      (w = 2 → s.md.rd DP_STATUS.STAGE ≠ 1 → ∀ i < n, i < 4096 → M.out.getD i 0 = s.md.stage.byte norDefault ((o + i) % 33554432)) ∧
      M.stage = s.md.stage ∧ M.ring = s.md.ring ∧ M.queue = s.md.queue ∧ M.win = s.md.win) ∧
  (∀ (s : State), s.md.awake = true → exec .dpStatus s = .next { s with md := { s.md with out := bytesOf 4 (s.md.word s.variant 4) } } ∧
    exec .dpIdent s = .next { s with md := { s.md with out := bytesOf 4 (s.md.word s.variant 0) ++ bytesOf 12 (s.md.rd Int.deviceId) } } ∧
    exec .unknownOpcode s = .next { s with md := s.md.wr DP_ERR.ERR_OPCODE (min (s.md.rd DP_ERR.ERR_OPCODE + 1) 255) } ∧
    exec .attest s = .next { s with md := (s.md.wr DP_STATUS.ATT_READY 0).wr Int.mdAtt 1 }) ∧
  (∀ (s : State) (c : Instr), s.md.awake = true → s.md.stageBusy = true → c ∈ [.stageOpen, .stageClose, .stageDiscard] →
    exec c s = .next { s with md := s.md.wr DP_ERR.ERR_SEQ (min (s.md.rd DP_ERR.ERR_SEQ + 1) 255) }) ∧
  (∀ (s : State), s.md.awake = true → s.md.rd DP_STATUS.STAGE = 0 →
    ∃ M, exec .stageOpen s = .next { s with md := M } ∧ M.rd DP_STATUS.STAGE = 1 ∧ M.on DP_STATUS.BUSY = true ∧ M.rd DP_STAGE.STAGE_LEN = 0 ∧
      M.stage = [] ∧ M.rd DP_LOG.CAPACITY = (s.md.rd DP_LOG.CAPACITY - 524288) % 2 ^ 20 ∧ M.queue = s.md.queue ∧
      M.rd Int.mdOpenLen = clampN 4 33554432 (s.md.rd DP_ARG.ARG)) ∧
  (∀ (s : State), s.md.awake = true → s.md.rd DP_STATUS.STAGE = 1 →
    exec .stageClose s = .next { s with md := if s.md.rd DP_STAGE.STAGE_LEN = s.md.rd Int.mdOpenLen then s.md.wr DP_STATUS.STAGE 2 else s.md }) ∧
  (∀ (s : State), s.md.awake = true → s.md.stageBusy = false → s.md.rd DP_STATUS.STAGE ≠ 0 →
    ∃ M, exec .stageDiscard s = .next { s with md := M } ∧ M.rd DP_STATUS.STAGE = 0 ∧ M.rd DP_STATUS.VERIFY_CODE = 0 ∧ M.rd DP_STAGE.STAGE_LEN = 0 ∧
      M.stage = [] ∧ M.rd DP_LOG.CAPACITY = (s.md.rd DP_LOG.CAPACITY + 524288) % 2 ^ 20 ∧ M.ring = s.md.ring) ∧
  (∀ s : State, exec .stagingEraseDone s = .next { s with md := s.md.wr DP_STATUS.BUSY 0 } ∧
    exec .stagingProgramDone s = .next { s with md := s.md.wr DP_STATUS.BUSY 0 }) ∧
  (∀ (s : State) (o : Nat) (d : List Byte), s.md.awake = true → s.md.rd DP_STATUS.STAGE = 1 → s.md.on DP_STATUS.BUSY = false → o < 33554432 →
    d.length ≤ 4096 → d.length % 4 = 0 →
    (o = s.md.rd DP_STAGE.STAGE_LEN → ∃ M, exec (.dpWrite (2 ^ 30 + o) d) s = .next { s with md := M } ∧ M.on DP_STATUS.BUSY = true ∧
      M.stage = s.md.stage.setBytes norDefault o d ∧ M.rd DP_STAGE.STAGE_LEN = min 33554432 (o + d.length) ∧ M.ring = s.md.ring) ∧
    (o ≠ s.md.rd DP_STAGE.STAGE_LEN → exec (.dpWrite (2 ^ 30 + o) d) s =
      .next { s with md := s.md.wr DP_ERR.ERR_SEQ (min (s.md.rd DP_ERR.ERR_SEQ + 1) 255) })) ∧
  (∀ (s : State), (s.md.rd DP_STATUS.STAGE ≠ 2 → exec .imageVerifyDone s = .next s) ∧
    (s.md.rd DP_STATUS.STAGE = 2 → ∃ M, exec .imageVerifyDone s = .next { s with md := M } ∧ M.rd DP_STATUS.VERIFY_CODE = s.md.verdict ∧
      M.rd DP_STATUS.STAGE = (if s.md.verdict = 0 then 3 else 4) ∧ M.stage = s.md.stage)) ∧
  (∀ (s : State) (n : Nat) (l : LaneId), s.md.awake = true → s.md.rd DP_STATUS.STAGE = 3 → s.variant.fitted l = true → n = l.num →
    s.md.rd DP_ARG.ARG = 2 ^ n → (∀ m < 3, s.md.laneUpd m ≠ 1 ∧ s.md.laneUpd m ≠ 2) → s.md.offers.length = 3 →
    ∃ M, exec .updateStart s = .next { s with md := M } ∧
      (s.md.laneCode n = 0 → M.laneUpd n = 2 ∧ M.rd DP_STATUS.STAGE = 5 ∧ M.offers.getD n [] = s.md.offers.getD n [] ++ [s.md.staged 0 0x2000]) ∧
      (s.md.laneCode n ≠ 0 → M.laneUpd n = 5 ∧ M.rd DP_UPD.FAIL_CODE = s.md.laneCode n ∧ M.offers = s.md.offers)) ∧
  (∀ (s : State), s.md.awake = true → s.md.rd DP_STATUS.STAGE ≠ 3 → exec .updateStart s = .next s) ∧
  (∀ (s : State), s.md.awake = true → ∃ M, exec .logAck s = .next { s with md := M } ∧
    M.rd Int.mdUnack = (s.md.rd Int.mdUnack - 8 * min (s.md.rd DP_ARG.ARG) (s.md.rd DP_STATUS.LOG_AVAIL)) % 2 ^ 32 ∧ M.ring = s.md.ring) ∧
  (∀ (s : State) (c : List Byte), s.md.awake = true → c = s.md.win.bytes ramDefault 0x200 (min 1024 (s.md.rd DP_ARG.ARG)) →
    exec .certWrite s = .next { s with md := if Config.certOk (s.md.rd Int.mdPub) c then { s.md.wr DP_STATUS.CERT_OK 1 with cert := c } else s.md }) ∧
  (∀ (s : State), (s.md.on Int.mdAtt = false → exec .attestReportDone s = .next s) ∧
    (s.md.on Int.mdAtt = true → ∃ M, exec .attestReportDone s = .next { s with md := M } ∧ M.on DP_STATUS.ATT_READY = true ∧ M.on Int.mdAtt = false ∧
      M.win.num ramDefault 0 4 = 0x52414D57 ∧ M.stage = s.md.stage)) ∧
  (∀ (s : State) (b : Bool), s.md.queue = [] → exec (.logRecordProgrammed b) s = .next s) ∧
  (∀ (s : State) (q : MdRecord) (r : List MdRecord), s.md.queue = q :: r → s.md.rd Int.mdLostNow = 0 →
    (∃ M, exec (.logRecordProgrammed true) s = .next { s with md := M } ∧ M.queue = r ∧ M.ring.getLast? = some { q with seq := s.md.rd Int.mdSeq } ∧
      M.rd Int.mdSeq = (s.md.rd Int.mdSeq + 1) % 2 ^ 32 ∧ (s.md.ring.length < s.md.rd DP_LOG.CAPACITY → M.ring.length = s.md.ring.length + 1)) ∧
    (∃ M, exec (.logRecordProgrammed false) s = .next { s with md := M } ∧ M.rd DP_LOG.BAD_SECT = min (s.md.rd DP_LOG.BAD_SECT + 1) 255 ∧
      M.rd DP_LOG.CAPACITY = (s.md.rd DP_LOG.CAPACITY - 64) % 2 ^ 20 ∧ M.queue = s.md.queue ∧ M.ring = s.md.ring)) ∧
  (∀ (s : State) (x y : Int) (h : Nat) (b : Bool), s.md.awake = true →
    ∃ M, exec (.mdSensorSample x y h b) s = .next { s with md := M } ∧ M.rd (Int.mdTemp 0) = ofInt 16 x ∧ M.rd (Int.mdTemp 1) = ofInt 16 y ∧
      M.rd Int.mdHumid = min 1000 h ∧ M.on Int.mdSupply = b ∧ M.ring = s.md.ring) ∧
  (∀ (s : State), s.md.awake = true → ∃ M, exec .stateBlockSave s = .next { s with md := { s.md with saved := M } } ∧ M.wear = s.md.wear ∧
    M.cert = s.md.cert ∧ (∀ e ∈ M.regs, e.1 / 2 ^ 48 = Home.mdP.code) ∧ ∀ f : Fld, f.home = .mdP → f.key / 2 ^ 48 = Home.mdP.code → M.regs.rd f = s.md.rd f) ∧
  (∀ (s : State), (s.variant.list.all s.laneAsleep && s.md.queue.isEmpty && s.md.awake) = true →
    ∃ M, exec .mdDormantEntry s = .next { s with md := M } ∧ M.awake = false ∧ M.saved.cert = s.md.cert) ∧
  (∀ (s : State), (s.variant.list.all s.laneAsleep && s.md.queue.isEmpty && s.md.awake) = false → exec .mdDormantEntry s = .next s) ∧
  (∀ (s : State), s.md.awake = true → exec .mdWake s = .next s) ∧
  (∀ (s : State), s.md.awake = false → (∀ e ∈ s.md.saved.regs, e.1 / 2 ^ 48 = Home.mdP.code) →
    ∃ M, exec .mdWake s = .next { s with md := M } ∧ M.awake = true ∧ M.queue = [] ∧ M.ring = s.md.ring ∧ M.stage = s.md.stage ∧ M.cert = s.md.saved.cert)

/-- TELEMETRY_RECEIPT, LOG_RECORD_RECEIPT, IDENTITY_RECORD and UPDATE_REPLY take such a message at the head of the lane’s
mailbox while the management die is awake, and do nothing on an empty one. TELEMETRY_SEND and MBX_SEND send, or count
a drop; whether a die temperature is above 150 °C follows the readings sent. UPDATE_OFFER is accepted with UPD_STATE
1, or refused with code 8. UPDATE_ERASE_DONE, UPDATE_CHUNK, UPDATE_VERIFY_DONE and UPDATE_CHUNK_TIMEOUT act in their
state only: chunks are programmed in order into the inactive slot, a good image ends in state 4 and a bad one in state
5 with source 0x51. ROLLBACK_COMMIT advances the counter to at most 64, or is refused. (R440, R444, R446, R449, R451,
R454, R456, R461) -/
def Obligations.MailboxAndUpdatesOfALane : Prop :=
  (∀ (s : State) (l : LaneId) (m : MbxUp) (r : List MbxUp), s.variant.fitted l = true → s.md.awake = true → (s.lane l).mbxUp = m :: r →
    (∀ t, m = .telemetry t → s.md.telemetry.length = 3 → ∃ M, exec (.telemetryReceipt l) s =
        .next { s.onLane l (fun L => { L with mbxUp := r }) with md := M } ∧ M.telemetry.getD l.num none = some t ∧ M.rd (Int.mdStale l.num) = 0 ∧
        ∀ k < 36, k / 12 ≠ l.num → M.wear.getD k Wear.reset = s.md.wear.getD k Wear.reset) ∧
    (∀ x, m = .log x → exec (.logRecordReceipt l) s = .next { s.onLane l (fun L => { L with mbxUp := r }) with md := s.md.log x }) ∧
    (∀ i, m = .identity i → s.md.identity.length = 3 → ∃ M, exec (.identityRecord l) s = .next { s.onLane l (fun L => { L with mbxUp := r }) with md := M } ∧
        M.identity.getD l.num none = some i ∧ M.on (Int.mdFresh l.num) = true ∧
        (s.md.on Int.mdKeyed = false → i.state = 1 → M.on Int.mdKeyed = true ∧ M.on DP_STATUS.KEY_PRESENT = true) ∧
        (s.md.on Int.mdKeyed = true → M.rd Int.mdKey = s.md.rd Int.mdKey)) ∧
    (m = .ready → exec (.updateReply l) s = .next (s.onLane l (fun L => { L with mbxUp := r }))) ∧
    (∀ c, m = .refuse c → c < 16 → s.md.laneUpd l.num = 2 → ∃ M, exec (.updateReply l) s = .next { s.onLane l (fun L => { L with mbxUp := r }) with md := M } ∧
        M.laneUpd l.num = 5 ∧ M.rd DP_UPD.FAIL_CODE = c) ∧
    (∀ c, m = .result true c → s.md.laneUpd l.num = 2 → ∃ M, exec (.updateReply l) s = .next { s.onLane l (fun L => { L with mbxUp := r }) with md := M } ∧
        M.laneUpd l.num = 3)) ∧
  (∀ (M : Md) (x : LogRecord), (M.queue.length < 4096 → (M.log x).queue = M.queue ++ [⟨x, M.rd Int.mdTick, 0⟩] ∧ (M.log x).regs = M.regs) ∧
    (4096 ≤ M.queue.length → (M.log x).queue = M.queue ∧ (M.log x).rd DP_LOG_CNT.LOG_LOST = min (M.rd DP_LOG_CNT.LOG_LOST + 1) 65535)) ∧
  (∀ (s : State) (l : LaneId) (c : Instr), (s.lane l).mbxUp = [] ∨ s.md.awake = false →
    c ∈ [.telemetryReceipt l, .logRecordReceipt l, .identityRecord l, .updateReply l] → exec c s = .next s) ∧
  (∀ (s : State) (l : LaneId), exec (.telemetryStale l) s = .next { s with md := s.md.wr (Int.mdStale l.num) 1 }) ∧
  (∀ (s : State) (l : LaneId) (x : List Int) (i : Fin 256) (L : Lane), s.lane l = L → L.on MBX_STATUS.LINK = true → L.mbxUp.length < 8 →
    (∃ K t, exec (.telemetrySend l x) s = .next (s.onLane l (fun _ => K)) ∧ K.mbxUp = L.mbxUp ++ [.telemetry t] ∧ t.time = L.now ∧ t.mode = L.mode ∧
      t.state = L.state ∧ t.dieTemps = x.take 4 ∧ L.keepsBut K (Int.overTemp :: condFields) ∧
      (4 ≤ x.length → K.on Int.overTemp = (x.take 4).any (fun t => decide (1500 < t)))) ∧
    (∃ r, exec (.mbxSend l i) s = .next (s.onLane l (fun L => { L with mbxUp := L.mbxUp ++ [.log r] })) ∧ r.type = 7 ∧ r.ident = i ∧ r.data.length = 36)) ∧
  (∀ (s : State) (l : LaneId) (x : List Int) (i : Fin 256) (c : Instr) (L : Lane), s.lane l = L → (L.on MBX_STATUS.LINK = false ∨ 8 ≤ L.mbxUp.length) →
    c ∈ [.telemetrySend l x, .mbxSend l i] →
    ∃ K, exec c s = .next (s.onLane l (fun _ => K)) ∧ K.rd MBX_CNT.DROPPED = min (L.rd MBX_CNT.DROPPED + 1) 65535 ∧
      L.onlyFields K (MBX_CNT.DROPPED :: Int.overTemp :: condFields)) ∧
  (∀ (s : State) (l : LaneId), ((s.lane l).on MBX_STATUS.LINK = false ∨ s.md.offers.getD l.num [] = []) → exec (.updateOffer l) s = .next s) ∧
  (∀ (s : State) (l : LaneId) (h : List Byte) (r : List (List Byte)) (L : Lane), s.lane l = L → s.variant.fitted l = true → L.on MBX_STATUS.LINK = true →
    s.md.offers.getD l.num [] = h :: r → s.md.offers.length = 3 → (L.rd MBX_STATUS.UPD_STATE = 0 ∨ 4 ≤ L.rd MBX_STATUS.UPD_STATE) →
    (L.mayUpdate = true → numOf ((h.drop 0x10).take 4) ≤ 0x02000000 →
      ∃ t, exec (.updateOffer l) s = .next t ∧ (t.lane l).rd MBX_STATUS.UPD_STATE = 1 ∧ (t.lane l).update = h ∧ t.md.offers.getD l.num [] = r ∧
        (∀ a, 0x04000000 ≤ a → (t.lane l).nor.byte norDefault a = L.nor.byte norDefault a)) ∧
    ((L.mayUpdate = false ∨ 0x02000000 < numOf ((h.drop 0x10).take 4)) → L.mbxUp.length < 8 →
      ∃ t, exec (.updateOffer l) s = .next t ∧ (t.lane l).mbxUp = L.mbxUp ++ [.refuse 8] ∧ (t.lane l).nor = L.nor ∧ t.md.offers.getD l.num [] = r)) ∧
  (∀ (s : State) (l : LaneId) (L : Lane), s.lane l = L → L.rd MBX_STATUS.UPD_STATE = 1 →
    ∃ K, exec (.updateEraseDone l) s = .next (s.onLane l (fun _ => K)) ∧ K.rd MBX_STATUS.UPD_STATE = 2 ∧ K.rd Int.updOff = 0x2000 ∧
      (L.on MBX_STATUS.LINK = true → L.mbxUp.length < 8 → K.mbxUp = L.mbxUp ++ [.ready])) ∧
  (∀ (s : State) (l : LaneId) (n : Nat) (b : Bool) (L : Lane), s.lane l = L →
    (L.rd MBX_STATUS.UPD_STATE ≠ 1 → exec (.updateEraseDone l) s = .next (s.onLane l id)) ∧
    ((L.rd MBX_STATUS.UPD_STATE ≠ 2 ∨ s.md.laneUpd l.num ≠ 2 ∨ L.on MBX_STATUS.LINK = false) → exec (.updateChunk l n b) s = .next (s.onLane l id)) ∧
    (L.rd MBX_STATUS.UPD_STATE ≠ 2 → exec (.updateChunkTimeout l) s = .next (s.onLane l id)) ∧
    (L.rd MBX_STATUS.UPD_STATE ≠ 3 → exec (.updateVerifyDone l) s = .next (s.onLane l id))) ∧
  (∀ (s : State) (l : LaneId) (n m : Nat) (L : Lane), s.lane l = L → L.rd MBX_STATUS.UPD_STATE = 2 → s.md.laneUpd l.num = 2 → L.on MBX_STATUS.LINK = true →
    m = min n (L.offeredLen - L.rd Int.updOff) → L.offeredLen ≤ 0x02000000 → L.rd Int.updOff ≤ L.offeredLen →
    (∃ K, exec (.updateChunk l n true) s = .next (s.onLane l (fun _ => K)) ∧ K.rd Int.updOff = L.rd Int.updOff + m ∧
      K.nor = L.nor.setBytes norDefault (0x02000000 * L.otherSlot + L.rd Int.updOff) (s.md.staged (L.rd Int.updOff) m) ∧
      K.rd MBX_STATUS.UPD_STATE = (if L.rd Int.updOff + m < L.offeredLen then 2 else 3) ∧ K.mem = L.mem)) ∧
  (∀ (s : State) (l : LaneId) (n : Nat) (L : Lane), s.lane l = L → L.rd MBX_STATUS.UPD_STATE = 2 →
    (s.md.laneUpd l.num = 2 → L.on MBX_STATUS.LINK = true → exec (.updateChunk l n false) s = exec (.updateChunkTimeout l) s) ∧
    ∃ K, exec (.updateChunkTimeout l) s = .next (s.onLane l (fun _ => K)) ∧ K.rd MBX_STATUS.UPD_STATE = 5 ∧ K.inbox = L.inbox ++ [⟨0x51, false, 1, 0⟩] ∧
      K.rd MBX_CNT.UPD_FAIL = min (L.rd MBX_CNT.UPD_FAIL + 1) 255 ∧ K.update = [] ∧ K.nor = L.nor) ∧
  (∀ (s : State) (l : LaneId) (L : Lane), s.lane l = L → L.rd MBX_STATUS.UPD_STATE = 3 →
    (L.updateVerdict = 0 → ∃ K, exec (.updateVerifyDone l) s = .next (s.onLane l (fun _ => K)) ∧ K.rd MBX_STATUS.UPD_STATE = 4 ∧
      K.rd MBX_CNT.UPDATES = min (L.rd MBX_CNT.UPDATES + 1) 255 ∧ K.nor = L.nor.setBytes norDefault (0x02000000 * L.otherSlot) L.update ∧ K.inbox = L.inbox) ∧
    (L.updateVerdict ≠ 0 → ∃ K, exec (.updateVerifyDone l) s = .next (s.onLane l (fun _ => K)) ∧ K.rd MBX_STATUS.UPD_STATE = 5 ∧
      K.rd MBX_STATUS.UPD_CODE = L.updateVerdict ∧ K.nor = L.nor ∧ K.inbox = L.inbox ++ [⟨0x51, false, 1, 0⟩])) ∧
  (∀ (s : State) (l : LaneId) (L : Lane), s.lane l = L →
    (L.mode = mStandby → L.rd Int.loadPhase = 4 → L.rd MBX_VER.ROLLBACK < L.rd CFG_VERSION.VERSION →
      ∃ K, exec (.rollbackCommit l) s = .next (s.onLane l (fun _ => K)) ∧ K.rd MBX_VER.ROLLBACK = min 64 (L.rd CFG_VERSION.VERSION) ∧
        L.onlyFields K [MBX_VER.ROLLBACK]) ∧
    ((L.mode ≠ mStandby ∨ L.rd Int.loadPhase ≠ 4 ∨ L.rd CFG_VERSION.VERSION ≤ L.rd MBX_VER.ROLLBACK) →
      ∃ K, exec (.rollbackCommit l) s = .next (s.onLane l (fun _ => K)) ∧ K.on MBX_VER.COMMIT_REFUSED = true ∧ L.onlyFields K [MBX_VER.COMMIT_REFUSED]))

/-- AON_POWER_ON of the host die holds it in BOOT with no supply good, clears the Squirrel store and keeps SRAM, TCM and
NOR; of the field die it holds that with class G latched and no occurrence kept. HOST_POWER_GOOD sets the supply bits.
RESET_RELEASE releases a held lane whose supplies and fabric are there, but not a failed one. PLL_LOCK locks the PLL
of a die out of reset. PLL_LOCK_TIMEOUT in WAKE retries once and then fails the lane. WAKE_STEP_DONE in BOOT with the
PLL of its die locked notes a good step: the host memory step clears TCM and SRAM, the ADC trim gives the zero codes,
the barrier step its delay; a failed memory step acts as PLL_LOCK_TIMEOUT does, a bad delay line is noted with 0xFA, a
bad fuse read fails the lane with 0xE8. FIELD_DIE_RESET, when due, empties the field die’s queues. Out of place each
has no effect. (R42, R47, R307, R359, R360, R361, R427, R430, R434) -/
def Obligations.PowerOnReleaseAndWake : Prop :=
  (∀ (s : State) (l : LaneId) (L : Lane), s.lane l = L →
    (∃ K, exec (.aonPowerOn l false) s = .next (s.onLane l (fun _ => K)) ∧ K.state = stBoot ∧ K.on Int.held = true ∧ K.rd PSC_SUPPLY.OK = 0 ∧
      K.nor = L.nor ∧ (∀ a, squirrelRange a = true → K.mem.byte ramDefault a = 0) ∧
      (∀ a, squirrelRange a = false → K.mem.byte ramDefault a = L.mem.byte ramDefault a)) ∧
    (∃ K, exec (.aonPowerOn l true) s = .next (s.onLane l (fun _ => K)) ∧ K.on Int.fieldHeld = true ∧ K.on FPS_STATUS.G_LATCHED = true ∧
      K.rd FPS_STATUS.OK = 0 ∧ K.occurrences = [] ∧ K.up = [] ∧ K.state = L.state ∧ K.rd Int.e0 = L.rd Int.e0 ∧ K.mem = L.mem) ∧
    (∃ K, exec (.hostPowerGood l) s = .next (s.onLane l (fun _ => K)) ∧ K.rd PSC_SUPPLY.OK = 7 ∧
      L.onlyFields K (PSC_SUPPLY.OK :: condFields))) ∧
  (∀ (s : State) (l : LaneId) (L : Lane), s.lane l = L → (L.on Int.held = false ∨ L.rd PSC_SUPPLY.OK ≠ 7 ∨ L.rd PSC_STATUS.FABRIC ≠ 0 ∨
    L.state = stFailed) → exec (.resetRelease l) s = .next (s.onLane l id)) ∧
  (∀ (s : State) (l : LaneId) (L : Lane), s.lane l = L → L.on Int.held = true → L.rd PSC_SUPPLY.OK = 7 → L.rd PSC_STATUS.FABRIC = 0 → L.state ≠ stFailed →
    ∃ K, exec (.resetRelease l) s = .next (s.onLane l (fun _ => K)) ∧ K.on Int.held = false ∧ K.state = stBoot ∧ K.rd CFG_BOOT.WAKE_TRIES = 1 ∧
      K.rd Int.bootTime = 0 ∧ K.mem = L.mem ∧ K.nor = L.nor) ∧
  (∀ (s : State) (l : LaneId) (L : Lane), s.lane l = L →
    (L.on Int.held = true → exec (.pllLock l false) s = .next (s.onLane l id)) ∧
    (L.on Int.fieldHeld = true → exec (.pllLock l true) s = .next (s.onLane l id)) ∧
    (L.on Int.held = false → ∃ K, exec (.pllLock l false) s = .next (s.onLane l (fun _ => K)) ∧ K.on CKG_STATUS.PLL_LOCK = true ∧ K.mem = L.mem) ∧
    (L.on Int.fieldHeld = false → ∃ K, exec (.pllLock l true) s = .next (s.onLane l (fun _ => K)) ∧ K.on FCK_STATUS.PLL_LOCK = true ∧ K.mem = L.mem)) ∧
  (∀ (s : State) (l : LaneId) (f : Bool) (L : Lane), s.lane l = L → (L.on (if f then FCK_STATUS.PLL_LOCK else CKG_STATUS.PLL_LOCK) = true ∨
    L.inWake = false) → exec (.pllLockTimeout l f) s = .next (s.onLane l id)) ∧
  (∀ (s : State) (l : LaneId) (f : Bool) (L : Lane), s.lane l = L → L.on (if f then FCK_STATUS.PLL_LOCK else CKG_STATUS.PLL_LOCK) = false →
    L.inWake = true →
    (L.rd Int.wakeFails = 0 → ∃ K, exec (.pllLockTimeout l f) s = .next (s.onLane l (fun _ => K)) ∧ K.state = stReset ∧ K.rd Int.wakeFails = 1 ∧
      K.on CKG_STATUS.PLL_LOCK = false ∧ K.on FCK_STATUS.PLL_LOCK = false) ∧
    (L.rd Int.wakeFails ≠ 0 → ∃ K, exec (.pllLockTimeout l f) s = .next (s.onLane l (fun _ => K)) ∧ K.state = stFailed)) ∧
  (∀ (s : State) (l : LaneId) (k : Fin 6) (b : Bool) (v : Nat) (L : Lane), s.lane l = L → (L.inWake = false ∨ L.state ≠ stBoot ∨
    (k = 0 ∨ k = 4 ∨ k = 5) ∧ L.on CKG_STATUS.PLL_LOCK = false ∨ (k = 1 ∨ k = 2 ∨ k = 3) ∧ (L.on FCK_STATUS.PLL_LOCK = false ∨ L.fieldIsOff = true) ∨
    k = 4 ∧ L.on COU_STATUS.LINK = false) → exec (.wakeStepDone l k b v) s = .next (s.onLane l id)) ∧
  (∀ (s : State) (l : LaneId) (v : Nat) (L : Lane), s.lane l = L → L.inWake = true → L.state = stBoot → L.on CKG_STATUS.PLL_LOCK = true →
    (∃ K, exec (.wakeStepDone l 0 true v) s = .next (s.onLane l (fun _ => K)) ∧ K.bitOf Int.wakeDone 0 = true ∧
      (∀ a, squirrelRange a = false → K.mem.byte ramDefault a = 0) ∧
      (∀ a, squirrelRange a = true → K.mem.byte ramDefault a = L.mem.byte ramDefault a)) ∧
    (∃ K, exec (.wakeStepDone l 0 false v) s = .next (s.onLane l (fun _ => K)) ∧ K.state = (if L.rd Int.wakeFails = 0 then stReset else stFailed)) ∧
    (∃ K, exec (.wakeStepDone l 5 true v) s = .next (s.onLane l (fun _ => K)) ∧ K.on LCS_STATE.FUSE_OK = true ∧ K.bitOf Int.wakeDone 5 = true ∧ K.mem = L.mem ∧ K.nor = L.nor) ∧
    (L.on COU_STATUS.LINK = true → ∃ K, exec (.wakeStepDone l 4 true v) s = .next (s.onLane l (fun _ => K)) ∧ K.bitOf Int.wakeDone 4 = true ∧
      K.rd CFG_CAL.BARRIER = v % 2 ^ CFG_CAL.BARRIER.width ∧ K.mem = L.mem ∧ K.nor = L.nor) ∧
    (∃ K, exec (.wakeStepDone l 5 false v) s = .next (s.onLane l (fun _ => K)) ∧ K.state = stFailed ∧ (⟨0xE8, false, 1, 0⟩ : Arrival) ∈ K.inbox)) ∧
  (∀ (s : State) (l : LaneId) (v : Nat) (L : Lane), s.lane l = L → L.inWake = true → L.state = stBoot → L.on FCK_STATUS.PLL_LOCK = true →
    L.fieldIsOff = false →
    (∃ K, exec (.wakeStepDone l 3 false v) s = .next (s.onLane l (fun _ => K)) ∧ K.on CFG_CAL.DL_OK = false ∧ K.on Int.loadStop = true ∧
      (⟨0xFA, false, 1, 0⟩ : Arrival) ∈ K.inbox ∧ K.mem = L.mem ∧ K.nor = L.nor) ∧
    (∃ K, exec (.wakeStepDone l 3 true v) s = .next (s.onLane l (fun _ => K)) ∧ K.on CFG_CAL.DL_OK = true ∧ K.bitOf Int.fieldWake 3 = true ∧ K.mem = L.mem ∧ K.nor = L.nor) ∧
    (∃ K, exec (.wakeStepDone l 2 true v) s = .next (s.onLane l (fun _ => K)) ∧ K.on CFG_CAL.ADC_OK = true ∧ K.bitOf Int.fieldWake 2 = true ∧
      (∀ c < 2, K.on (ADC_CL_STATUS.TRIM_OK c) = true) ∧ (∀ n < 8, K.rd (ADC_AX_IZERO.IZERO0 n) = K.rd (Int.izTrim n 0) % 2 ^ 16 ∧
        K.rd (ADC_AX_IZERO.IZERO1 n) = K.rd (Int.izTrim n 1) % 2 ^ 16) ∧ K.mem = L.mem ∧ K.nor = L.nor) ∧
    (∃ K, exec (.wakeStepDone l 1 true v) s = .next (s.onLane l (fun _ => K)) ∧ K.bitOf Int.fieldWake 1 = true ∧ K.mem = L.mem ∧ K.nor = L.nor) ∧
    (∃ K, exec (.wakeStepDone l 1 false v) s = .next (s.onLane l (fun _ => K)) ∧ K.state = (if L.rd Int.wakeFails = 0 then stReset else stFailed))) ∧
  (∀ (s : State) (l : LaneId) (L : Lane), s.lane l = L →
    (L.on Int.fieldRstDue = false → exec (.fieldDieReset l) s = .next (s.onLane l id)) ∧
    (L.on Int.fieldRstDue = true → ∃ K, exec (.fieldDieReset l) s = .next (s.onLane l (fun _ => K)) ∧ K.setpoints = [] ∧ K.recent = [] ∧
      K.occurrences = L.occurrences ∧ K.on Int.fieldLink = L.on Int.fieldLink ∧ K.state = L.state ∧ K.mem = L.mem))

/-- NOR_READ_DONE: a good header moves on to the sections, a bad one rejects the slot with 0xF8 and tries the other; a
failed or timed-out read is repeated once and then rejects the slot with 0xF7; outside the reading of slots it has no
effect. CONFIGURATION_DONE of a verified slot leaves the lane waiting for the field CRC; else nothing changes.
READ_RESPONSE answers the request at the head of the channel, or gives the answer to the waiting core, a read given up
counting as STALE; the field CRC as expected ends LOAD with the digest sent, another repeats the configuration once
with 0xFB and then fails the lane; a read of the low word of a rail’s energy counter captures the high word, and a
read of the high word gives the captured one. DIGEST_RECORD takes a sibling’s record once the lane has its own.
TEST_COMPLETE passed makes the lane READY, or JOINING while the device operates, with its pairs running; failed, or
with a bad calibration, the lane is FAILED with 0xE0. (R214, R304, R364, R365, R366, R367, R368, R369, R370, R373,
R388, R392) -/
def Obligations.SlotsConfigurationAndTest : Prop :=
  (∀ (s : State) (l : LaneId) (L : Lane), s.lane l = L → L.rd Int.loadPhase ≠ 1 → L.rd Int.loadPhase ≠ 2 →
    (∀ b, exec (.norReadDone l b) s = .next (s.onLane l id)) ∧ exec (.norReadTimeout l) s = .next (s.onLane l id)) ∧
  (∀ (s : State) (l : LaneId) (L : Lane), s.lane l = L → (L.rd Int.loadPhase = 1 ∨ L.rd Int.loadPhase = 2) →
    exec (.norReadDone l false) s = exec (.norReadTimeout l) s ∧
    (L.on Int.norRetry = false → ∃ K, exec (.norReadTimeout l) s = .next (s.onLane l (fun _ => K)) ∧ K.on Int.norRetry = true ∧ L.onlyFields K [Int.norRetry]) ∧
    (L.on Int.norRetry = true → L.on Int.slotTried = false → ∃ K, exec (.norReadTimeout l) s = .next (s.onLane l (fun _ => K)) ∧
      K.inbox = L.inbox ++ [⟨0xF7, false, 1, 0⟩, ⟨0xF8, false, 1, 0⟩] ∧ K.on Int.slotTried = true ∧ K.rd Int.loadPhase = 1 ∧
      K.rd Int.loadSlot = (1 - L.rd Int.loadSlot) % 2) ∧
    (L.on Int.norRetry = true → L.on Int.slotTried = true → ∃ K, exec (.norReadTimeout l) s = .next (s.onLane l (fun _ => K)) ∧ K.state = stFailed ∧
      K.rd Int.loadPhase = 5)) ∧
  (∀ (s : State) (l : LaneId) (g : Image) (L : Lane), s.lane l = L → L.rd Int.loadPhase = 1 → g = L.slotImage (L.rd Int.loadSlot) →
    (g.formatOk = true → g.rangesOk 0x02000000 = true → g.signed L.imageKeyNow = true → L.rd MBX_VER.ROLLBACK ≤ g.version →
      ∃ K, exec (.norReadDone l true) s = .next (s.onLane l (fun _ => K)) ∧ K.rd Int.loadPhase = 2 ∧
        L.onlyFields K [Int.loadPhase, Int.norRetry, Int.loadSect]) ∧
    ((g.formatOk = false ∨ g.signed L.imageKeyNow = false) → L.on Int.slotTried = false →
      ∃ K, exec (.norReadDone l true) s = .next (s.onLane l (fun _ => K)) ∧ K.rd Int.loadPhase = 1 ∧ K.on Int.slotTried = true ∧
        K.rd (resultOf (L.rd Int.loadSlot)) = 2 ∧ K.inbox = L.inbox ++ [⟨0xF8, false, 1, 0⟩])) ∧
  (∀ (s : State) (l : LaneId), ((s.lane l).rd Int.loadPhase ≠ 3 → exec (.configurationDone l) s = .next s) ∧
    (s.variant.fitted l = true → (s.lane l).rd Int.loadPhase = 3 → ∃ t, exec (.configurationDone l) s = .next t ∧
      (t.lane l).rd Int.loadPhase = 6 ∧ t.pending = s.pending)) ∧
  (∀ (s : State) (l : LaneId) (L : Lane), s.lane l = L →
    (∀ a p r, L.down = .readReq a p :: r →
      ∃ K d, exec (.readResponse l) s = .next (s.onLane l (fun _ => K)) ∧ K.down = r ∧ K.downCredits = L.downCredits ++ [false] ∧
        K.up ++ K.upQueue = L.up ++ L.upQueue ++ (if L.on Int.fieldLink then [.readResponse p d (! fieldAssigned a)] else []) ∧
        L.keepsBut K [Int.fieldCredits, Int.fieldOut, Int.eInHi 0, Int.eInHi 1, Int.eInHi 2, Int.eInHi 3, Int.eOutHi 0, Int.eOutHi 1, Int.eOutHi 2, Int.eOutHi 3] ∧
        ((∀ k < 4, a ≠ 0x6009001C + 0x100 * k ∧ a ≠ 0x60090024 + 0x100 * k) → d = L.word a) ∧
        (∀ k < 4, a = 0x6009001C + 0x100 * k → d = L.rd (Int.eInHi k)) ∧ (∀ k < 4, a = 0x60090024 + 0x100 * k → d = L.rd (Int.eOutHi k)) ∧
        (∀ k < 4, a = 0x60090018 + 0x100 * k → K.rd (Int.eInHi k) = L.rd (DCL_RAIL.EIN k) / 2 ^ 32) ∧
        (∀ k < 4, a = 0x60090020 + 0x100 * k → K.rd (Int.eOutHi k) = L.rd (DCL_RAIL.EOUT k) / 2 ^ 32)) ∧
    (∀ r, L.down = .readCrc :: r → ∃ K, exec (.readResponse l) s = .next (s.onLane l (fun _ => K)) ∧ K.down = r ∧
      K.up ++ K.upQueue = L.up ++ L.upQueue ++ (if L.on Int.fieldLink then [.crcResponse (L.rd Int.crcField ^^^ 0xFFFFFFFF)] else []) ∧
      L.keepsBut K [Int.fieldCredits, Int.fieldOut]) ∧
    (∀ d r b, ∀ p < 4, L.down = [] → L.up = .readResponse p d b :: r →
      ∃ K, exec (.readResponse l) s = .next (s.onLane l (fun _ => K)) ∧ K.up = r ∧ K.rd Int.upBack = (L.rd Int.upBack + 1) % 2 ^ Int.upBack.width ∧
        (L.on (Int.readGone p) = false → L.on (Int.readOut p) = true → K.on (Int.readOut p) = false ∧ (b = false → K.rd (Int.readData p) = d % 2 ^ 32) ∧
          (b = true → K.rd (Int.readData p) = L.rd (Int.readData p))) ∧
        (L.on (Int.readGone p) = true → K.on (Int.readGone p) = false ∧
          K.rd (PSC_PORT.STALE p) = min (L.rd (PSC_PORT.STALE p) + 1) (2 ^ (PSC_PORT.STALE p).width - 1)) ∧
        L.keepsBut K ([Int.upBack, Int.readGone p, PSC_PORT.STALE p, Int.readOut p, COU_LQ.LAT_MAX, Int.readData p] ++ eventFields)) ∧
    (∀ v r, L.down = [] → L.up = .crcResponse v :: r → L.rd Int.loadPhase = 6 →
      (v = L.rd Int.crcHost ^^^ 0xFFFFFFFF → ∃ K, exec (.readResponse l) s = .next (s.onLane l (fun _ => K)) ∧ K.up = r ∧ K.rd Int.loadPhase = 4 ∧
        K.rd CFG_FIELD_CRC.CRC = v % 2 ^ 32 ∧ K.on Int.digestSent = true ∧ K.rd BST_STATUS.PHASE = 1 ∧ K.rd Int.stoTestDue = 3) ∧
      (v ≠ L.rd Int.crcHost ^^^ 0xFFFFFFFF → ∃ K, exec (.readResponse l) s = .next (s.onLane l (fun _ => K)) ∧ K.up = r ∧
        (⟨0xFB, false, 1, 0⟩ : Arrival) ∈ K.inbox ∧ (L.on Int.crcRepeat = false → K.on Int.crcRepeat = true ∧ K.rd Int.loadPhase = 3) ∧
        (L.on Int.crcRepeat = true → K.state = stFailed))) ∧
    (L.down = [] → L.up = [] → exec (.readResponse l) s = .next (s.onLane l id))) ∧
  (∀ (s : State) (l src : LaneId), (s.lane l).on Int.digestSent = false → exec (.digestRecord l src) s = .next s) ∧
  (∀ (s : State) (l src : LaneId) (p : Nat) (d : DigestRecord) (r : List FeltMsg), l ≠ src → s.variant.fitted l = true → s.variant.fitted src = true →
    (s.lane l).on Int.digestSent = true → p = (s.lane src).portTo l.num → (s.lane src).felt p = .digest d :: r →
    exec (.digestRecord l src) s = .next ((s.setLane src ((s.lane src).setFelt p r)).onLane l (fun L => L.judgeRecord src.num d))) ∧
  (∀ (L : Lane) (n : Nat) (d : DigestRecord), n < 3 → (L.judgeRecord n d).bitOf CFG_PEER.REC n = true ∧
    (L.judgeRecord n d).bitOf CFG_PEER.MATCH n = L.digestMatches d ∧
    (L.digestMatches d = false → (⟨0xFC, false, 1, 0⟩ : Arrival) ∈ (L.judgeRecord n d).inbox ∧
      (L.on Int.operated = false → (L.judgeRecord n d).on CFG_MODE_STATUS.MISMATCH = true))) ∧
  (∀ (s : State) (l : LaneId) (b : Bool), ((s.lane l).rd Int.loadPhase ≠ 4 ∨ (s.lane l).state ≠ stBoot) →
    exec (.testComplete l b) s = .next (s.onLane l id)) ∧
  (∀ (s : State) (l : LaneId) (L : Lane), s.lane l = L → L.rd Int.loadPhase = 4 → L.state = stBoot →
    (L.on Int.loadStop = false → ∃ K, exec (.testComplete l true) s = .next (s.onLane l (fun _ => K)) ∧ K.rd BST_STATUS.PHASE = 0 ∧
      K.state = (if operating L.mode || L.mode = mSafeStop then stJoining else stReady) ∧
      ∀ p < 3, L.pairState p ≠ 3 → K.pairState p = 0) ∧
    (∀ b, (b = false ∨ L.on Int.loadStop = true) → ∃ K, exec (.testComplete l b) s = .next (s.onLane l (fun _ => K)) ∧ K.state = stFailed ∧
      K.rd BST_STATUS.FAIL_UNIT = 7 ∧ (⟨0xE0, false, 1, 0⟩ : Arrival) ∈ K.inbox))
end

