-- ==== Sys2Proof/Laws/State.lean ====
section
/-! SUPPORT. What the updates of the state leave and change: register fields by key, the parts of a lane, the lanes of the
package. -/

namespace Sys2Proof.Machine

/-! ### Maps by key -/

theorem mapErase_cons {α : Type} (a k : Nat) (w : α) (r : List (Nat × α)) :
    mapErase ((a, w) :: r) k = if a = k then mapErase r k else (a, w) :: mapErase r k := by
  by_cases h : a = k <;> simp [mapErase, h]

theorem mapGet_erase_same {α : Type} (m : List (Nat × α)) (k : Nat) : mapGet (mapErase m k) k = none := by
  induction m with
  | nil => rfl
  | cons e r ih =>
    rw [mapErase_cons]
    split
    · exact ih
    · next h => simp [mapGet, h, ih]

theorem mapGet_erase_ne {α : Type} (m : List (Nat × α)) (k j : Nat) (h : j ≠ k) : mapGet (mapErase m k) j = mapGet m j := by
  induction m with
  | nil => rfl
  | cons e r ih =>
    rw [mapErase_cons]
    split
    · next h1 => simp [mapGet, ih, h1, Ne.symm h]
    · simp [mapGet, ih]

theorem mapGet_set_same {α : Type} (m : List (Nat × α)) (k : Nat) (v : α) : mapGet (mapSet m k v) k = some v := by
  induction m with
  | nil => simp [mapSet, mapGet]
  | cons e r ih =>
    obtain ⟨a, w⟩ := e
    unfold mapSet
    split
    · simp [mapGet]
    · split
      · simp [mapGet]
      · next h => simp [mapGet, h, ih]

theorem mapGet_set_ne {α : Type} (m : List (Nat × α)) (k j : Nat) (v : α) (h : j ≠ k) : mapGet (mapSet m k v) j = mapGet m j := by
  induction m with
  | nil => simp [mapSet, mapGet, Ne.symm h]
  | cons e r ih =>
    obtain ⟨a, w⟩ := e
    unfold mapSet
    split
    · simp [mapGet, Ne.symm h]
    · split
      · next h2 => subst h2; simp [mapGet, Ne.symm h]
      · simp [mapGet, ih]

/-! ### Register fields -/

/-- A written field reads as what was written, less the bits beyond its width. -/
theorem Store.rd_wr_same (s : Store) (f : Fld) (v : Nat) : (s.wr f v).rd f = v % 2 ^ f.width := by
  unfold Store.wr Store.rd
  split
  · next h => rw [mapGet_erase_same, h]; rfl
  · rw [mapGet_set_same]; rfl

/-- A field under another key keeps its value. -/
theorem Store.rd_wr_ne (s : Store) (f g : Fld) (v : Nat) (h : g.key ≠ f.key) : (s.wr f v).rd g = s.rd g := by
  unfold Store.wr Store.rd
  split
  · rw [mapGet_erase_ne _ _ _ h]
  · rw [mapGet_set_ne _ _ _ _ h]

@[simp] theorem Lane.rd_wr_same (L : Lane) (f : Fld) (v : Nat) : (L.wr f v).rd f = v % 2 ^ f.width := Store.rd_wr_same L.regs f v

theorem Lane.rd_wr_ne (L : Lane) (f g : Fld) (v : Nat) (h : g.key ≠ f.key) : (L.wr f v).rd g = L.rd g := Store.rd_wr_ne L.regs f g v h

/-- A written field as a truth value. -/
@[simp] theorem Lane.on_wr_same (L : Lane) (f : Fld) (v : Nat) : (L.wr f v).on f = decide (v % 2 ^ f.width ≠ 0) := by
  simp [Lane.on, Store.rd_wr_same, Lane.wr]

theorem Lane.on_wr_ne (L : Lane) (f g : Fld) (v : Nat) (h : g.key ≠ f.key) : (L.wr f v).on g = L.on g := by
  simp [Lane.on, Lane.wr, Store.rd_wr_ne _ _ _ _ h]

/-- Whether two fields at distinct keys are told apart by home, address and bit. -/
theorem Fld.key_ne_of_addr {f g : Fld} (hh : f.home = g.home) (ha : f.addr ≠ g.addr) (hf : f.lsb < 32) (hg : g.lsb < 32) : f.key ≠ g.key := by
  unfold Fld.key
  rw [hh]
  omega

/-- Two fields of one register are told apart by their lowest bit. -/
theorem Fld.key_ne_of_lsb {f g : Fld} (hh : f.home = g.home) (ha : f.addr = g.addr) (hl : f.lsb ≠ g.lsb) : f.key ≠ g.key := by
  unfold Fld.key
  rw [hh, ha]
  omega

/-- Two fields of different regions are told apart. -/
theorem Fld.key_ne_of_home {f g : Fld} (hh : f.home.code < g.home.code) (ha : f.addr < 2 ^ 33) (hf : f.lsb < 32) : f.key ≠ g.key := by
  unfold Fld.key
  omega

/-! ### The writers of fields, in terms of one of them -/

@[simp] theorem Lane.set_eq (L : Lane) (f : Fld) : L.set f = L.wr f 1 := rfl
@[simp] theorem Lane.clr_eq (L : Lane) (f : Fld) : L.clr f = L.wr f 0 := rfl
@[simp] theorem Lane.put_eq (L : Lane) (f : Fld) (b : Bool) : L.put f b = L.wr f (bit b) := rfl
@[simp] theorem Lane.putBit_eq (L : Lane) (f : Fld) (k : Nat) (b : Bool) : L.putBit f k b = L.wr f (Sys2Proof.putBit (L.rd f) k b) := rfl
@[simp] theorem Lane.wrI_eq (L : Lane) (f : Fld) (v : Int) : L.wrI f v = L.wr f (ofInt f.width v) := rfl
@[simp] theorem Lane.add_eq (L : Lane) (f : Fld) (n : Nat) : L.add f n = L.wr f (min (L.rd f + n) (2 ^ f.width - 1)) := rfl
@[simp] theorem Lane.inc_eq (L : Lane) (f : Fld) : L.inc f = L.wr f (min (L.rd f + 1) (2 ^ f.width - 1)) := rfl
@[simp] theorem Lane.sat_eq (L : Lane) (f : Fld) (v : Nat) : L.sat f v = L.wr f (min v (2 ^ f.width - 1)) := rfl
@[simp] theorem Lane.iff_true (L : Lane) (g : Lane → Lane) : L.iff true g = g L := rfl
@[simp] theorem Lane.iff_false (L : Lane) (g : Lane → Lane) : L.iff false g = L := rfl

/-! ### The parts of a lane that a register write leaves -/

@[simp] theorem Lane.wr_strap (L : Lane) (f : Fld) (v : Nat) : (L.wr f v).strap = L.strap := rfl
@[simp] theorem Lane.wr_regs (L : Lane) (f : Fld) (v : Nat) : (L.wr f v).regs = L.regs.wr f v := rfl
@[simp] theorem Lane.wr_mem (L : Lane) (f : Fld) (v : Nat) : (L.wr f v).mem = L.mem := rfl
@[simp] theorem Lane.wr_nor (L : Lane) (f : Fld) (v : Nat) : (L.wr f v).nor = L.nor := rfl
@[simp] theorem Lane.wr_free (L : Lane) (f : Fld) (v : Nat) : (L.wr f v).free = L.free := rfl
@[simp] theorem Lane.wr_inbox (L : Lane) (f : Fld) (v : Nat) : (L.wr f v).inbox = L.inbox := rfl
@[simp] theorem Lane.wr_log (L : Lane) (f : Fld) (v : Nat) : (L.wr f v).log = L.log := rfl
@[simp] theorem Lane.wr_couQueue (L : Lane) (f : Fld) (v : Nat) : (L.wr f v).couQueue = L.couQueue := rfl
@[simp] theorem Lane.wr_down (L : Lane) (f : Fld) (v : Nat) : (L.wr f v).down = L.down := rfl
@[simp] theorem Lane.wr_downCredits (L : Lane) (f : Fld) (v : Nat) : (L.wr f v).downCredits = L.downCredits := rfl
@[simp] theorem Lane.wr_up (L : Lane) (f : Fld) (v : Nat) : (L.wr f v).up = L.up := rfl
@[simp] theorem Lane.wr_upQueue (L : Lane) (f : Fld) (v : Nat) : (L.wr f v).upQueue = L.upQueue := rfl
@[simp] theorem Lane.wr_occurrences (L : Lane) (f : Fld) (v : Nat) : (L.wr f v).occurrences = L.occurrences := rfl
@[simp] theorem Lane.wr_urgent (L : Lane) (f : Fld) (v : Nat) : (L.wr f v).urgent = L.urgent := rfl
@[simp] theorem Lane.wr_evq (L : Lane) (f : Fld) (v : Nat) : (L.wr f v).evq = L.evq := rfl
@[simp] theorem Lane.wr_recent (L : Lane) (f : Fld) (v : Nat) : (L.wr f v).recent = L.recent := rfl
@[simp] theorem Lane.wr_setpoints (L : Lane) (f : Fld) (v : Nat) : (L.wr f v).setpoints = L.setpoints := rfl
@[simp] theorem Lane.wr_felt0 (L : Lane) (f : Fld) (v : Nat) : (L.wr f v).felt0 = L.felt0 := rfl
@[simp] theorem Lane.wr_felt1 (L : Lane) (f : Fld) (v : Nat) : (L.wr f v).felt1 = L.felt1 := rfl
@[simp] theorem Lane.wr_feltWait0 (L : Lane) (f : Fld) (v : Nat) : (L.wr f v).feltWait0 = L.feltWait0 := rfl
@[simp] theorem Lane.wr_feltWait1 (L : Lane) (f : Fld) (v : Nat) : (L.wr f v).feltWait1 = L.feltWait1 := rfl
@[simp] theorem Lane.wr_heard (L : Lane) (f : Fld) (v : Nat) : (L.wr f v).heard = L.heard := rfl
@[simp] theorem Lane.wr_feltRx (L : Lane) (f : Fld) (v : Nat) : (L.wr f v).feltRx = L.feltRx := rfl
@[simp] theorem Lane.wr_sent (L : Lane) (f : Fld) (v : Nat) : (L.wr f v).sent = L.sent := rfl
@[simp] theorem Lane.wr_sched (L : Lane) (f : Fld) (v : Nat) : (L.wr f v).sched = L.sched := rfl
@[simp] theorem Lane.wr_debugLog (L : Lane) (f : Fld) (v : Nat) : (L.wr f v).debugLog = L.debugLog := rfl
@[simp] theorem Lane.wr_ngbCopies (L : Lane) (f : Fld) (v : Nat) : (L.wr f v).ngbCopies = L.ngbCopies := rfl
@[simp] theorem Lane.wr_ngbLine (L : Lane) (f : Fld) (v : Nat) : (L.wr f v).ngbLine = L.ngbLine := rfl
@[simp] theorem Lane.wr_mbxUp (L : Lane) (f : Fld) (v : Nat) : (L.wr f v).mbxUp = L.mbxUp := rfl
@[simp] theorem Lane.wr_update (L : Lane) (f : Fld) (v : Nat) : (L.wr f v).update = L.update := rfl

/-! ### What a report to the collector changes -/

@[simp] theorem Lane.raise_strap (L : Lane) (n : Nat) : (L.raise n).strap = L.strap := rfl
@[simp] theorem Lane.raise_regs (L : Lane) (n : Nat) : (L.raise n).regs = L.regs := rfl
@[simp] theorem Lane.raise_mem (L : Lane) (n : Nat) : (L.raise n).mem = L.mem := rfl
@[simp] theorem Lane.raise_nor (L : Lane) (n : Nat) : (L.raise n).nor = L.nor := rfl
@[simp] theorem Lane.raise_free (L : Lane) (n : Nat) : (L.raise n).free = L.free := rfl
@[simp] theorem Lane.raise_inbox (L : Lane) (n : Nat) : (L.raise n).inbox = L.inbox ++ [⟨n, false, 1, 0⟩] := rfl
@[simp] theorem Lane.raise_log (L : Lane) (n : Nat) : (L.raise n).log = L.log := rfl
@[simp] theorem Lane.raise_couQueue (L : Lane) (n : Nat) : (L.raise n).couQueue = L.couQueue := rfl
@[simp] theorem Lane.raise_down (L : Lane) (n : Nat) : (L.raise n).down = L.down := rfl
@[simp] theorem Lane.raise_downCredits (L : Lane) (n : Nat) : (L.raise n).downCredits = L.downCredits := rfl
@[simp] theorem Lane.raise_up (L : Lane) (n : Nat) : (L.raise n).up = L.up := rfl
@[simp] theorem Lane.raise_upQueue (L : Lane) (n : Nat) : (L.raise n).upQueue = L.upQueue := rfl
@[simp] theorem Lane.raise_occurrences (L : Lane) (n : Nat) : (L.raise n).occurrences = L.occurrences := rfl
@[simp] theorem Lane.raise_urgent (L : Lane) (n : Nat) : (L.raise n).urgent = L.urgent := rfl
@[simp] theorem Lane.raise_evq (L : Lane) (n : Nat) : (L.raise n).evq = L.evq := rfl
@[simp] theorem Lane.raise_recent (L : Lane) (n : Nat) : (L.raise n).recent = L.recent := rfl
@[simp] theorem Lane.raise_setpoints (L : Lane) (n : Nat) : (L.raise n).setpoints = L.setpoints := rfl
@[simp] theorem Lane.raise_felt0 (L : Lane) (n : Nat) : (L.raise n).felt0 = L.felt0 := rfl
@[simp] theorem Lane.raise_felt1 (L : Lane) (n : Nat) : (L.raise n).felt1 = L.felt1 := rfl
@[simp] theorem Lane.raise_feltWait0 (L : Lane) (n : Nat) : (L.raise n).feltWait0 = L.feltWait0 := rfl
@[simp] theorem Lane.raise_feltWait1 (L : Lane) (n : Nat) : (L.raise n).feltWait1 = L.feltWait1 := rfl
@[simp] theorem Lane.raise_heard (L : Lane) (n : Nat) : (L.raise n).heard = L.heard := rfl
@[simp] theorem Lane.raise_feltRx (L : Lane) (n : Nat) : (L.raise n).feltRx = L.feltRx := rfl
@[simp] theorem Lane.raise_sent (L : Lane) (n : Nat) : (L.raise n).sent = L.sent := rfl
@[simp] theorem Lane.raise_sched (L : Lane) (n : Nat) : (L.raise n).sched = L.sched := rfl
@[simp] theorem Lane.raise_debugLog (L : Lane) (n : Nat) : (L.raise n).debugLog = L.debugLog := rfl
@[simp] theorem Lane.raise_ngbCopies (L : Lane) (n : Nat) : (L.raise n).ngbCopies = L.ngbCopies := rfl
@[simp] theorem Lane.raise_ngbLine (L : Lane) (n : Nat) : (L.raise n).ngbLine = L.ngbLine := rfl
@[simp] theorem Lane.raise_mbxUp (L : Lane) (n : Nat) : (L.raise n).mbxUp = L.mbxUp := rfl
@[simp] theorem Lane.raise_update (L : Lane) (n : Nat) : (L.raise n).update = L.update := rfl
@[simp] theorem Lane.raise_rd (L : Lane) (n : Nat) (f : Fld) : (L.raise n).rd f = L.rd f := rfl
@[simp] theorem Lane.raise_on (L : Lane) (n : Nat) (f : Fld) : (L.raise n).on f = L.on f := rfl

/-! ### The lanes of the package -/

/-- A lane that has been replaced is the new one, with its wired identity. -/
@[simp] theorem State.lane_setLane_same (s : State) (l : LaneId) (L : Lane) : (s.setLane l L).lane l = { L with strap := (s.lane l).strap } := by
  cases l <;> rfl

/-- Another lane stays. -/
theorem State.lane_setLane_ne (s : State) (l m : LaneId) (L : Lane) (h : m ≠ l) : (s.setLane l L).lane m = s.lane m := by
  cases l <;> cases m <;> first | rfl | exact absurd rfl h

/-- A command's effect on its lane, where the lane is fitted. -/
theorem State.lane_onLane_same (s : State) (l : LaneId) (g : Lane → Lane) (h : s.variant.fitted l = true) :
    (s.onLane l g).lane l = { g (s.lane l) with strap := (s.lane l).strap } := by
  simp [State.onLane, h]

/-- A command's effect on a lane leaves every other lane. -/
theorem State.lane_onLane_ne (s : State) (l m : LaneId) (g : Lane → Lane) (h : m ≠ l) : (s.onLane l g).lane m = s.lane m := by
  unfold State.onLane
  split
  · exact s.lane_setLane_ne l m _ h
  · rfl

/-- A command to a lane that is not fitted has no effect (R2). -/
theorem State.onLane_unfitted (s : State) (l : LaneId) (g : Lane → Lane) (h : s.variant.fitted l = false) : s.onLane l g = s := by
  simp [State.onLane, h]

/-- A command's effect depends on its lane as it stands. -/
theorem State.onLane_at (s : State) (l : LaneId) (g : Lane → Lane) : s.onLane l g = s.onLane l (fun _ => g (s.lane l)) := rfl

/-- Wired identities never change (R14). -/
@[simp] theorem State.strap_setLane (s : State) (l m : LaneId) (L : Lane) : ((s.setLane l L).lane m).strap = (s.lane m).strap := by
  cases l <;> cases m <;> rfl

@[simp] theorem State.strap_onLane (s : State) (l m : LaneId) (g : Lane → Lane) : ((s.onLane l g).lane m).strap = (s.lane m).strap := by
  unfold State.onLane
  split
  · exact s.strap_setLane l m _
  · rfl

@[simp] theorem State.setLane_variant (s : State) (l : LaneId) (L : Lane) : (s.setLane l L).variant = s.variant := by cases l <;> rfl
@[simp] theorem State.onLane_variant (s : State) (l : LaneId) (g : Lane → Lane) : (s.onLane l g).variant = s.variant := by unfold State.onLane; split <;> simp
@[simp] theorem State.setLane_md (s : State) (l : LaneId) (L : Lane) : (s.setLane l L).md = s.md := by cases l <;> rfl
@[simp] theorem State.onLane_md (s : State) (l : LaneId) (g : Lane → Lane) : (s.onLane l g).md = s.md := by unfold State.onLane; split <;> simp
@[simp] theorem State.setLane_phys (s : State) (l : LaneId) (L : Lane) : (s.setLane l L).phys = s.phys := by cases l <;> rfl
@[simp] theorem State.onLane_phys (s : State) (l : LaneId) (g : Lane → Lane) : (s.onLane l g).phys = s.phys := by unfold State.onLane; split <;> simp
@[simp] theorem State.setLane_pending (s : State) (l : LaneId) (L : Lane) : (s.setLane l L).pending = s.pending := by cases l <;> rfl
@[simp] theorem State.onLane_pending (s : State) (l : LaneId) (g : Lane → Lane) : (s.onLane l g).pending = s.pending := by unfold State.onLane; split <;> simp
@[simp] theorem State.onMd_variant (s : State) (g : Md → Md) : (s.onMd g).variant = s.variant := rfl
@[simp] theorem State.onMd_phys (s : State) (g : Md → Md) : (s.onMd g).phys = s.phys := rfl
@[simp] theorem State.onMd_pending (s : State) (g : Md → Md) : (s.onMd g).pending = s.pending := rfl
@[simp] theorem State.onMd_a (s : State) (g : Md → Md) : (s.onMd g).a = s.a := rfl
@[simp] theorem State.onMd_b (s : State) (g : Md → Md) : (s.onMd g).b = s.b := rfl
@[simp] theorem State.onMd_c (s : State) (g : Md → Md) : (s.onMd g).c = s.c := rfl
@[simp] theorem State.onMd_md (s : State) (g : Md → Md) : (s.onMd g).md = g s.md := rfl
@[simp] theorem State.onMd_lane (s : State) (g : Md → Md) (m : LaneId) : (s.onMd g).lane m = s.lane m := by cases m <;> rfl

end Sys2Proof.Machine
end

