-- ==== Sys2Proof/Laws/Frame.lean ====
section
/-! SUPPORT. How a completion is shown, and the frame of register writes. -/

namespace Sys2Proof.Machine

/-- A command whose meaning acts on one lane completes with that lane as the meaning leaves it. -/
theorem completes_of_exec {c : Instr} {s : State} {l : LaneId} {g : Lane → Lane} {P : Lane → Prop}
    (h : exec c s = .next (s.onLane l g)) (hp : P (g (s.lane l))) :
    ∃ K, exec c s = .next (s.onLane l (fun _ => K)) ∧ P K :=
  ⟨g (s.lane l), h.trans (congrArg _ (s.onLane_at l g)), hp⟩

/-- A meaning that acts as another function on the lane as it stands. -/
theorem onLane_congr (s : State) (l : LaneId) {g h : Lane → Lane} (e : g (s.lane l) = h (s.lane l)) : s.onLane l g = s.onLane l h := by
  rw [s.onLane_at l g, s.onLane_at l h, e]

theorem Lane.onlyFields_refl (L : Lane) (fs : List Fld) : L.onlyFields L fs := ⟨L.regs, rfl, fun _ _ => rfl⟩

/-- A write to a listed field stays within the list. -/
theorem Lane.onlyFields_wr {L K : Lane} {fs : List Fld} (h : L.onlyFields K fs) (f : Fld) (v : Nat) (hf : f ∈ fs) :
    L.onlyFields (K.wr f v) fs := by
  obtain ⟨r, rfl, h2⟩ := h
  refine ⟨r.wr f v, by simp only [Lane.wr], fun g hg => ?_⟩
  have hne : g.key ≠ f.key := fun e => hg (List.mem_map.2 ⟨f, hf, e.symm⟩)
  rw [Store.rd_wr_ne _ _ _ _ hne]
  exact h2 g hg

/-- What a lane that differs in listed fields alone keeps. -/
theorem Lane.onlyFields_rd {L K : Lane} {fs : List Fld} (h : L.onlyFields K fs) (f : Fld) (hf : f.key ∉ fs.map Fld.key) : K.rd f = L.rd f := by
  obtain ⟨r, rfl, h2⟩ := h
  exact h2 f hf

end Sys2Proof.Machine
end

