-- ==== Sys2Proof/Laws/Memory.lean ====
section
/-! SUPPORT. Memory reads what was written last and keeps its canonical form through every operation on it. -/

namespace Sys2Proof.Machine

/-- The byte written is read. -/
theorem Memory.byte_setByte_same (m : Memory) (d v : Byte) (a : Nat) : (m.setByte d a v).byte d a = v := by
  unfold Memory.setByte Memory.byte
  split
  · next h => rw [mapGet_erase_same, h]; rfl
  · rw [mapGet_set_same]; rfl

/-- Another byte stays. -/
theorem Memory.byte_setByte_ne (m : Memory) (d v : Byte) (a b : Nat) (h : b ≠ a) : (m.setByte d a v).byte d b = m.byte d b := by
  unfold Memory.setByte Memory.byte
  split
  · rw [mapGet_erase_ne _ _ _ h]
  · rw [mapGet_set_ne _ _ _ _ h]

/-- A byte outside the bytes written stays. -/
theorem Memory.byte_setBytes_outside (bs : List Byte) (m : Memory) (d : Byte) (a b : Nat) (h : b < a ∨ a + bs.length ≤ b) :
    (m.setBytes d a bs).byte d b = m.byte d b := by
  induction bs generalizing m a with
  | nil => rfl
  | cons x r ih =>
    simp only [List.length_cons] at h
    rw [Memory.setBytes, ih _ _ (by omega), Memory.byte_setByte_ne _ _ _ _ _ (by omega)]

/-- A byte among the bytes written reads as written. -/
theorem Memory.byte_setBytes_inside (bs : List Byte) (m : Memory) (d : Byte) (a i : Nat) (h : i < bs.length) :
    (m.setBytes d a bs).byte d (a + i) = bs[i] := by
  induction bs generalizing m a i with
  | nil => simp at h
  | cons x r ih =>
    cases i with
    | zero => simp [Memory.setBytes, Memory.byte_setBytes_outside r _ d (a + 1) a (by omega), Memory.byte_setByte_same]
    | succ j =>
      have h2 : j < r.length := by simpa using h
      have e : a + (j + 1) = a + 1 + j := by omega
      simp [Memory.setBytes, e, ih _ _ j h2]

theorem mapErase_wf (m : Memory) (d : Byte) (a : Nat) (h : m.wf d) : Memory.wf (mapErase m a) d := by
  refine ⟨h.1.sublist List.filter_sublist, fun c hc => h.2 c (List.mem_of_mem_filter hc)⟩

/-- What a map with a value set lists. -/
theorem mem_mapSet {α : Type} (m : List (Nat × α)) (k : Nat) (v : α) (c : Nat × α) (h : c ∈ mapSet m k v) : c = (k, v) ∨ c ∈ m := by
  induction m with
  | nil => simpa [mapSet] using h
  | cons e r ih =>
    obtain ⟨a, w⟩ := e
    unfold mapSet at h
    split at h
    · simpa using h
    · split at h
      · rcases List.mem_cons.1 h with h | h
        · exact .inl h
        · exact .inr (List.mem_cons_of_mem _ h)
      · rcases List.mem_cons.1 h with h | h
        · exact .inr (by simp [h])
        · exact (ih h).imp id (List.mem_cons_of_mem _)

theorem mapSet_sorted {α : Type} (m : List (Nat × α)) (k : Nat) (v : α) (h : mapSorted m) : mapSorted (mapSet m k v) := by
  induction m with
  | nil => simp [mapSet, mapSorted]
  | cons e r ih =>
    obtain ⟨a, w⟩ := e
    obtain ⟨h1, h2⟩ := List.pairwise_cons.1 h
    unfold mapSet
    split
    · next hk =>
      refine List.pairwise_cons.2 ⟨fun c hc => ?_, h⟩
      rcases List.mem_cons.1 hc with rfl | hc
      · exact hk
      · exact lt_trans hk (h1 c hc)
    · split
      · next hk => subst hk; exact List.pairwise_cons.2 ⟨h1, h2⟩
      · refine List.pairwise_cons.2 ⟨fun c hc => ?_, ih h2⟩
        rcases mem_mapSet _ _ _ _ hc with rfl | hc
        · show a < k
          omega
        · exact h1 c hc

theorem Memory.setByte_wf (m : Memory) (d v : Byte) (a : Nat) (h : m.wf d) : Memory.wf (m.setByte d a v) d := by
  unfold Memory.setByte
  split
  · exact mapErase_wf m d a h
  · next hv =>
    refine ⟨mapSet_sorted m a v h.1, fun c hc => ?_⟩
    rcases mem_mapSet _ _ _ _ hc with rfl | hc
    · exact hv
    · exact h.2 c hc

theorem Memory.setBytes_wf (bs : List Byte) (m : Memory) (d : Byte) (a : Nat) (h : m.wf d) : Memory.wf (m.setBytes d a bs) d := by
  induction bs generalizing m a with
  | nil => exact h
  | cons x r ih => exact ih _ _ (m.setByte_wf d x a h)

theorem Memory.setNum_wf (m : Memory) (d : Byte) (a n v : Nat) (h : m.wf d) : Memory.wf (m.setNum d a n v) d :=
  Memory.setBytes_wf _ m d a h

/-- Dropping cells, as an initialisation does, keeps the form. -/
theorem Memory.filter_wf (m : Memory) (d : Byte) (p : Host.Cell → Bool) (h : m.wf d) : Memory.wf (m.filter p) d :=
  ⟨h.1.sublist List.filter_sublist, fun c hc => h.2 c (List.mem_of_mem_filter hc)⟩

/-- The memories of the reset state have the form. -/
theorem State.reset_memory_wf (l : LaneId) : (State.reset.lane l).mem.wf ramDefault ∧ (State.reset.lane l).nor.wf norDefault := by
  cases l <;> exact ⟨⟨List.Pairwise.nil, by simp [State.reset, State.lane, Lane.reset]⟩, ⟨List.Pairwise.nil, by simp [State.reset, State.lane, Lane.reset]⟩⟩

end Sys2Proof.Machine
end

