-- ==== Sys2Proof/WellFormed.lean ====
section
/-! DEFINITION. Which commands are well formed: an operand that the spec gives a width lies within it. The effect of a command
does not depend on this; it says which commands the hardware can be given. -/

namespace Sys2Proof

/-- A value of at most `w` bits. -/
def bits (w n : Nat) : Bool := decide (n < 2 ^ w)

/-- A 32-bit word (R4). -/
def word (n : Nat) : Bool := bits 32 n

/-- Whether every operand of a command lies within the width that the spec gives it. (DESIGN CHOICE, assumption 16) -/
def Instr.wellFormed (i : Instr) : Bool := match i with
  | .registerWrite _ _ addr data => word addr && word data
  | .outOfWindowAccess _ _ addr => word addr
  | .hostDieReset _ => true
  | .fieldDieReset _ => true
  | .aonPowerOn _ _ => true
  | .hostPowerGood _ => true
  | .resetRelease _ => true
  | .pllLock _ _ => true
  | .pllLockTimeout _ _ => true
  | .wakeStepDone _ _ _ value => bits 16 value
  | .norReadDone _ _ => true
  | .norReadTimeout _ => true
  | .configurationDone _ => true
  | .testComplete _ _ => true
  | .modeReqClear _ => true
  | .standbyRequest _ => true
  | .operateRequest _ => true
  | .stopRequest _ => true
  | .serviceRequest _ => true
  | .shutdownRequest _ => true
  | .frameStart _ => true
  | .frameWrite _ value => bits 11 value
  | .agreementReady _ => true
  | .readyTimeout _ => true
  | .frameMessageReceipt _ _ => true
  | .windowClose _ irms => irms.length = 8 && irms.all (bits 16)
  | .laneWaitExpiry _ => true
  | .keyoffHoldExpiry _ => true
  | .keyOnFall _ => true
  | .keyOnRise _ => true
  | .laneExit _ cause => bits 8 cause
  | .deadTimeExpiry _ _ => true
  | .isolationSettleExpiry _ _ => true
  | .autoRejoinReset _ => true
  | .laneResetRequest _ => true
  | .debugHaltRequest _ _ _ => true
  | .debugStep _ _ => true
  | .debugWrite _ _ (.reg _) value => word value
  | .debugWrite _ _ (.mem addr) value => word addr && word value
  | .debugReplay _ _ => true
  | .currentSample _ _ _ _ i0 i1 va vb vc => [i0, i1, va, vb, vc].all (bits 14)
  | .bankSwapRequest _ _ _ => true
  | .coefficientWrite _ _ _ _ value => word value
  | .mapWrite _ _ _ _ _ _ value => word value
  | .ainConversion _ _ mv => bits 16 mv
  | .pinEdge _ _ _ => true
  | .pinTimeout _ _ => true
  | .setpointMessage _ => true
  | .setpointApply _ _ => true
  | .spTimeout _ _ => true
  | .axisEnable _ _ _ => true
  | .backgroundConversion _ _ code _ => bits 14 code
  | .referenceCheck _ _ _ => true
  | .testPulseStart _ _ _ => true
  | .testPulseEnd _ _ _ _ => true
  | .resumeDeadline _ _ => true
  | .transferPoint _ _ _ => true
  | .commit _ _ => true
  | .compareEvent _ _ _ => true
  | .groupRun _ _ _ => true
  | .padReadbackFault _ _ => true
  | .pwmClockResume _ => true
  | .hallEdge _ _ _ _ => true
  | .hallWireFault _ _ _ => true
  | .hallIllegalCode _ _ => true
  | .hallSpeedEval _ _ => true
  | .hallStandstill _ _ => true
  | .posSet _ _ value => word value
  | .softLimitWrite _ _ _ value => word value
  | .compareArm _ _ _ value => word value
  | .fbiEnable _ _ _ => true
  | .latchInstant _ => true
  | .latchInput _ => true
  | .latchCaptureComplete _ => true
  | .railConversion _ _ code => bits 14 code
  | .energyCheck _ _ => true
  | .ereset _ _ => true
  | .railEnable _ _ _ => true
  | .thresholdWrite _ _ _ data => word data
  | .lockstepFault _ _ rail0 rail1 par0 par1 => [rail0, rail1, par0, par1].all (bits 64)
  | .comparatorTestDone _ _ _ => true
  | .checkpointCommit _ _ => true
  | .restored _ _ => true
  | .giveUp _ _ => true
  | .shadowResult _ _ _ result => word result
  | .leaseExpiry _ => true
  | .claimTimeout _ => true
  | .guardExpiry _ => true
  | .claimReceipt _ _ => true
  | .releaseReceipt _ _ => true
  | .handoverRequest _ => true
  | .handoverReceipt _ _ => true
  | .swapIntervalExpiry _ => true
  | .holdoffExpiry _ => true
  | .snapshotPush _ => true
  | .snapshotReceipt _ _ => true
  | .saReadbackFault _ _ => true
  | .saContClr _ mask => bits 8 mask
  | .sdHoldExpiry _ => true
  | .saPowerUp _ => true
  | .saPowerDown _ => true
  | .ssRequest _ => true
  | .ss1TmaxExpiry _ => true
  | .vehTimeout _ => true
  | .stopLineState _ => true
  | .stopLineFault _ => true
  | .stoReadbackFault _ _ => true
  | .freezeTrip _ => true
  | .stoTest _ _ _ => true
  | .testMaxExpiry _ => true
  | .sealSample _ _ => true
  | .sealLoopSample _ _ => true
  | .faultArrival _ more => more.all (bits 8)
  | .fieldFaultMessage _ => true
  | .faultAcknowledge _ => true
  | .pendAck _ k mask _ => decide (k < 8) && word mask
  | .reactionTimerExpiry _ => true
  | .firstFaultClear _ _ => true
  | .faultForce _ src => bits 8 src
  | .logPop _ => true
  | .severityWrite _ k data => decide (k < 32) && word data
  | .syncSend _ => true
  | .syncReceipt _ _ => true
  | .syncLoss _ => true
  | .fieldRegisterWrite _ _ addr data => word addr && word data
  | .fieldRegisterRead _ _ addr => word addr
  | .readResponse _ => true
  | .readTimeout _ _ => true
  | .creditReturn _ _ _ => true
  | .linkTimeout _ _ => true
  | .linkStart _ _ => true
  | .crcRestart _ => true
  | .controlMessage _ => true
  | .statusItem _ => true
  | .eventItem _ => true
  | .evqRead _ _ => true
  | .stopRequestMessage _ _ => true
  | .digestRecord _ _ => true
  | .schPost _ _ => true
  | .dispatch _ => true
  | .nextRead _ _ => true
  | .nextWaitExpiry _ _ => true
  | .doneWrite _ _ _ => true
  | .budgetExpiry _ _ => true
  | .hangExpiry _ _ => true
  | .deadlineExpiry _ _ => true
  | .noTargetTimeout _ _ => true
  | .withdrawalRequest _ _ => true
  | .withdrawalTimeout _ _ => true
  | .nguasFrameReceipt _ _ _ _ _ bytes => bytes.all (bits 8) && decide (bytes.length ≤ 266)
  | .slotTransmit _ _ _ _ _ _ => true
  | .cycleEnd _ => true
  | .actionInstant _ => true
  | .actionInstantNotice _ => true
  | .coldstartTimerExpiry _ _ => true
  | .ngbModeReq _ _ => true
  | .wakeTx _ => true
  | .wakePatternSend _ => true
  | .reint _ => true
  | .nguasWakeDetect _ _ => true
  | .canFrameReceived _ ident _ _ _ _ _ _ _ data => bits 29 ident && data.all (bits 8) && decide (data.length ≤ 64)
  | .canTxRequest _ mask => bits 16 mask
  | .canTxDone _ => true
  | .canRecover _ => true
  | .canPop _ => true
  | .canError _ _ _ => true
  | .scrubSweep _ _ => true
  | .scrubLate _ => true
  | .tokenSubmit _ => true
  | .tokenVerified _ => true
  | .slicePeriodExpiry _ => true
  | .sliceDone _ _ => true
  | .shutdownTestDone _ _ _ => true
  | .directTestStart _ _ _ _ => true
  | .directTestDone _ _ => true
  | .crystalWindow _ _ x r => word x && word r
  | .xtalEdgeTimeout _ _ => true
  | .rootLockError _ _ => true
  | .xfHoldExpiry _ => true
  | .hfoCheck _ _ count => word count
  | .switchComplete _ _ _ _ => true
  | .switchTimeout _ _ _ _ => true
  | .rampStep _ _ _ _ => true
  | .sscPeriodStart _ _ => true
  | .doze _ _ => true
  | .blockAnswer _ _ _ => true
  | .drainTimeout _ _ => true
  | .fieldOffDone _ _ => true
  | .retentionSaveDone _ _ => true
  | .regionOffDone _ => true
  | .privilegedWake _ _ => true
  | .regionPowerUp _ _ => true
  | .gRelease _ => true
  | .supplyOutOfRange _ _ => true
  | .dpRead addr n => bits 24 addr && decide (1 ≤ n)
  | .dpWrite addr data => bits 24 addr && ! data.isEmpty
  | .dpStatus => true
  | .dpIdent => true
  | .unknownOpcode => true
  | .stageOpen => true
  | .stageClose => true
  | .stageDiscard => true
  | .updateStart => true
  | .logAck => true
  | .attest => true
  | .certWrite => true
  | .stagingEraseDone => true
  | .stagingProgramDone => true
  | .imageVerifyDone => true
  | .attestReportDone => true
  | .telemetrySend _ dieTemps => dieTemps.length = 4
  | .telemetryReceipt _ => true
  | .telemetryStale _ => true
  | .logRecordReceipt _ => true
  | .logRecordProgrammed _ => true
  | .mdSensorSample _ _ humidity _ => bits 10 humidity
  | .stateBlockSave => true
  | .updateOffer _ => true
  | .updateEraseDone _ => true
  | .updateChunk _ _ _ => true
  | .updateVerifyDone _ => true
  | .updateChunkTimeout _ => true
  | .updateReply _ => true
  | .identityRecord _ => true
  | .mbxSend _ _ => true
  | .rollbackCommit _ => true
  | .mdDormantEntry => true
  | .mdWake => true
  | .ssReqRelease _ => true
  | .supplyInRange _ _ => true
  | .temperatureOutOfRange _ _ => true
  | .parityError _ src _ => bits 8 src
  | .debugResume _ _ => true
  | .busOffRecoveryComplete _ => true
  | .boundaryScanInstruction _ _ => true
  | .registerWriteItem _ => true

end Sys2Proof
end

