-- ==== Sys2Proof/Tests/Slice0.lean ====
section
/-! SUPPORT. The model's own tests. `test_hyps_X` gives, for every clause of the statement `Obligations.X` that has premises (and
for every part of its conclusion that has premises of its own), a concrete state and operands that meet all the premises together. The
lane of a clause stands for its `s.lane l`; a premise that defines a name by an equation is met by the definition of that name here; an
empty list stands for one whose front is not of a kind. `test_wf_X` shows that `Instr.wellFormed` refuses an operand that is too wide. -/

namespace Sys2Proof.Tests

open Sys2Proof Sys2Proof.Machine

set_option maxRecDepth 20000

/-- Lane A of a PG930-T as it stands at reset. -/
def lane0 : Lane := Lane.reset ⟨.a, .t⟩

/-- The package at reset with `L` as lane A. -/
def stateOf (L : Lane) : State := { State.reset with a := L }

theorem test_hyps_IdleStepPassesOneNanosecond :
    (let L := lane0; let s := stateOf L; decide (s.pending = [])) = true := by
  decide

theorem test_hyps_ResetLeavesTheResetValues :
    (let k : Nat := 2; decide (k < 8)) = true := by
  decide

theorem test_hyps_UnassignedAddressesReadZeroOrEndInABusError :
    (let a : Nat := 7; decide (slotsAt a = [])) = true ∧
    (let a : Nat := 0x40011003; decide (hostWindow a = true ∧ slotsAt a = [])) = true ∧
    (let a : Nat := 0x400EFFFC; decide (hostWindow a = true ∧ slotsAt a = [])) = true ∧
    (let a : Nat := 0x600BFFFC; decide (fieldAddr a = true ∧ slotsAt a = [])) = true ∧
    (let p : Fin 4 := 1; let a : Nat := 0x80000; let L := lane0; let L := ((L.wr (Int.pairStop p) 0).wr (LSC_PAIR_STATUS.STATE p) 0);
      decide (assigned a = false ∧ L.pairHeld p = false)) = true := by
  decide

theorem test_hyps_SuccessorIsThePreferredOrTheNextEligibleLane :
    (let holder : Nat := 0; decide (holder < 3)) = true ∧
    (let elig : Nat := 6; let pref : Nat := 2; let holder : Nat := 0;
      decide (holder < 3 ∧ pref < 3 ∧ pref ≠ holder ∧ elig.testBit pref = true)) = true ∧
    (let elig : Nat := 7; let pref : Nat := 3; let holder : Nat := 0; let n : Nat := (holder + 1) % 3;
      decide (holder < 3 ∧ (¬ (pref < 3 ∧ pref ≠ holder ∧ elig.testBit pref = true)) ∧ (n = (holder + 1) % 3 ∨ n = (holder + 2) % 3) ∧ elig.testBit n = true ∧ (n = (holder + 2) % 3 → elig.testBit ((holder + 1) % 3) = false))) = true ∧
    (let elig : Nat := 1; let holder : Nat := 0; decide (holder < 3 ∧ (∀ n : Nat, n < 3 → n ≠ holder → elig.testBit n = false))) = true ∧
    (let L := lane0; decide (successorOf (L.rd Int.eligMask) (L.rd LSE_CFG.PREF) L.me = 3)) = true ∧
    (let L := lane0; let L := L.wr Int.noSuccSpell 0;
      decide (successorOf (L.rd Int.eligMask) (L.rd LSE_CFG.PREF) L.me = 3 ∧ L.on Int.noSuccSpell = false)) = true ∧
    (let L := lane0; let L := L.wr Int.noSuccSpell 1;
      decide (successorOf (L.rd Int.eligMask) (L.rd LSE_CFG.PREF) L.me = 3 ∧ L.on Int.noSuccSpell = true)) = true ∧
    (let L := lane0; let L := L.wr Int.eligMask 6; decide (successorOf (L.rd Int.eligMask) (L.rd LSE_CFG.PREF) L.me ≠ 3)) = true := by
  decide

theorem test_hyps_DeadTimeAndCommit :
    (let p : Fin 26 := 0; let low : Bool := true; let L := lane0; let L := L.wr Int.pwmStopped 0;
      let L := L.wr (Int.dtPend p) (1 + bit low); let L := L.wr (Int.ascPend p) 0;
      decide (L.on Int.pwmStopped = false ∧ L.rd (Int.dtPend p) = 1 + bit low ∧ (L.on (Int.ascPend p) = false ∨ L.on (Int.dtBefore p) = true))) = true ∧
    (let p : Fin 26 := 1; let L := lane0; let L := L.wr (Int.ascPend p) 1; let L := L.wr (Int.dtBefore p) 0;
      decide (L.on (Int.ascPend p) = true ∧ (L.on Int.pwmStopped = true ∨ L.rd (Int.dtPend p) = 0 ∨ L.on (Int.dtBefore p) = false))) = true ∧
    (let p : Fin 26 := 0; let L := lane0; let L := L.wr (Int.ascPend p) 0; let L := L.wr Int.pwmStopped 1;
      decide (L.on (Int.ascPend p) = false ∧ (L.on Int.pwmStopped = true ∨ L.rd (Int.dtPend p) = 0))) = true ∧
    (let g : Fin 12 := 1; let L := lane0; let L := L.wr (Int.commit g) 0; decide (L.on (Int.commit g) = false)) = true ∧
    (let g : Fin 12 := 1; let L := lane0; let L := L.wr (Int.commit g) 1; decide (L.on (Int.commit g) = true)) = true := by
  decide

theorem test_hyps_CompareEventSwitchesOutput :
    (let k : Fin 52 := 51; let L := lane0; let L := L.wr (PWM_GROUP_STATUS.COUNTING (groupOf k)) 1; let L := L.wr Int.pwmStopped 0;
      let L := if L.rd (Int.actRise k) ≠ L.rd (Int.actFall k) then L else L.wr (Int.actRise k) ((L.rd (Int.actFall k)) + 1);
      let L := if L.rd (Int.actRise k) < L.steps (groupOf k) then L else L.wr (Int.actRise k) ((L.steps (groupOf k)) - 1);
      let L := L.wr (Int.refLvl k) 0;
      let L := if L.rd (PWM_OUT_CFG.MINPULSE_MODE k) ≠ 2 then L else L.wr (PWM_OUT_CFG.MINPULSE_MODE k) ((2) + 1);
      let L := (((L.wr (Int.actPeriod (groupOf k)) 5000).wr (Int.actRise k) 100).wr (Int.actFall k) 20000).wr (Int.actIndep (k / 2)) 1;
      decide (L.on (PWM_GROUP_STATUS.COUNTING (groupOf k)) = true ∧ L.on Int.pwmStopped = false ∧ L.compl k = false ∧ never (L.rd (Int.actRise k)) = false ∧ never (L.rd (Int.actFall k)) = false ∧ L.rd (Int.actRise k) ≠ L.rd (Int.actFall k) ∧ L.rd (Int.actRise k) < L.steps (groupOf k) ∧ L.on (Int.refLvl k) = false ∧ L.rd (PWM_OUT_CFG.MINPULSE_MODE k) ≠ 2 ∧ (match L.lengthTo (groupOf k) (L.rd (Int.actRise k)) (L.rd (Int.actFall k)) with | some n => decide (8 * L.rd (PWM_OUT_CFG.MIN_PULSE k) ≤ n) | none => true) = true)) = true ∧
    (let k : Fin 52 := 51; let L := lane0; let L := L.wr (PWM_GROUP_STATUS.COUNTING (groupOf k)) 1; let L := L.wr Int.pwmStopped 0;
      let L := if L.rd (Int.actRise k) ≠ L.rd (Int.actFall k) then L else L.wr (Int.actRise k) ((L.rd (Int.actFall k)) + 1);
      let L := if L.rd (Int.actFall k) < L.steps (groupOf k) then L else L.wr (Int.actFall k) ((L.steps (groupOf k)) - 1);
      let L := L.wr (Int.refLvl k) 1; let L := L.wr (Int.supp k) 0; let L := L.wr (Int.moved k) 0;
      let L := (((L.wr (Int.actPeriod (groupOf k)) 5000).wr (Int.actRise k) 100).wr (Int.actFall k) 20000).wr (Int.actIndep (k / 2)) 1;
      decide (L.on (PWM_GROUP_STATUS.COUNTING (groupOf k)) = true ∧ L.on Int.pwmStopped = false ∧ L.compl k = false ∧ never (L.rd (Int.actRise k)) = false ∧ never (L.rd (Int.actFall k)) = false ∧ L.rd (Int.actRise k) ≠ L.rd (Int.actFall k) ∧ L.rd (Int.actFall k) < L.steps (groupOf k) ∧ L.on (Int.refLvl k) = true ∧ L.on (Int.supp k) = false ∧ L.on (Int.moved k) = false)) = true ∧
    (let k : Fin 52 := 51; let L := lane0; let L := L.wr (PWM_GROUP_STATUS.COUNTING (groupOf k)) 1; let L := L.wr Int.pwmStopped 0;
      let L := L.wr (Int.moved k) 1; let L := L.wr (Int.refLvl k) 0;
      decide (L.on (PWM_GROUP_STATUS.COUNTING (groupOf k)) = true ∧ L.on Int.pwmStopped = false ∧ L.compl k = false ∧ L.on (Int.moved k) = true ∧ L.on (Int.refLvl k) = false)) = true ∧
    (let p : Fin 24 := 3; let k : Fin 52 := 6; let L := lane0; let L := L.wr (PWM_GROUP_STATUS.COUNTING (groupOf k)) 1;
      let L := L.wr Int.pwmStopped 0;
      let L := if L.rd (Int.actRise k) ≠ L.rd (Int.actFall k) then L else L.wr (Int.actRise k) ((L.rd (Int.actFall k)) + 1);
      let L := if L.rd (Int.actRise k) < L.steps (groupOf k) then L else L.wr (Int.actRise k) ((L.steps (groupOf k)) - 1);
      let L := L.wr (Int.refLvl k) 0; let L := L.wr (Int.supp (2 * p + 1)) 0; let L := L.wr (Int.moved (2 * p + 1)) 0;
      let L := if L.rd (PWM_OUT_CFG.MINPULSE_MODE k) ≠ 2 then L else L.wr (PWM_OUT_CFG.MINPULSE_MODE k) ((2) + 1);
      let L := (((L.wr (Int.actDt p) 4).wr (PWM_OUT_CFG.MIN_PULSE k) 5).wr (Int.actPeriod (groupOf k)) 5000).wr (Int.actRise k) 100 |>.wr (Int.actFall k) 20000;
      decide ((k : Nat) = 2 * p ∧ L.on (PWM_GROUP_STATUS.COUNTING (groupOf k)) = true ∧ L.on Int.pwmStopped = false ∧ L.compl k = true ∧ never (L.rd (Int.actRise k)) = false ∧ never (L.rd (Int.actFall k)) = false ∧ L.rd (Int.actRise k) ≠ L.rd (Int.actFall k) ∧ L.rd (Int.actRise k) < L.steps (groupOf k) ∧ L.on (Int.refLvl k) = false ∧ L.on (Int.supp (2 * p + 1)) = false ∧ L.on (Int.moved (2 * p + 1)) = false ∧ L.rd (PWM_OUT_CFG.MINPULSE_MODE k) ≠ 2 ∧ (match L.lengthTo (groupOf k) (L.rd (Int.actRise k)) (L.rd (Int.actFall k)) with | some n => decide (8 * L.rd (Int.actDt p) + 8 * L.rd (PWM_OUT_CFG.MIN_PULSE k) ≤ n) | none => true) = true)) = true ∧
    (let k : Fin 52 := 0; let L := lane0;
      decide ((never (L.rd (Int.actRise k)) = true ∨ never (L.rd (Int.actFall k)) = true ∨ (L.compl k = true ∧ (k : Nat) % 2 = 1)))) = true ∧
    (let k : Fin 52 := 0; let L := lane0;
      let L := if L.steps (groupOf k) ≤ L.rd (Int.actRise k) then L else L.wr (Int.actRise k) (L.steps (groupOf k));
      decide (L.steps (groupOf k) ≤ L.rd (Int.actRise k))) = true ∧
    (let k : Fin 52 := 0; let L := lane0;
      let L := if L.steps (groupOf k) ≤ L.rd (Int.actFall k) then L else L.wr (Int.actFall k) (L.steps (groupOf k));
      let L := if L.rd (Int.actRise k) ≠ L.rd (Int.actFall k) then L else L.wr (Int.actRise k) ((L.rd (Int.actFall k)) + 1);
      decide (L.steps (groupOf k) ≤ L.rd (Int.actFall k) ∧ L.rd (Int.actRise k) ≠ L.rd (Int.actFall k))) = true ∧
    (let k : Fin 52 := 1; let L := lane0; let L := L.wr Int.pwmStopped 1;
      decide ((L.on (PWM_GROUP_STATUS.COUNTING (groupOf k)) = false ∨ L.on Int.pwmStopped = true))) = true := by
  decide

theorem test_hyps_TransferPointsRunsAndClocks :
    (let g : Fin 12 := 3; let L := lane0; let L := L.wr (PWM_GROUP_STATUS.COUNTING g) 1; let L := L.wr Int.pwmStopped 0;
      let L := L.wr (CLE_AX_CTL.UPDATE g) 1; let L := L.wr (Int.runNew g) 0; let L := L.wr (Int.commit g) 1;
      let L := (L.wr (Int.commitAt g) 96).wr Int.fieldTime 100;
      decide ((g : Nat) < 8 ∧ L.on (PWM_GROUP_STATUS.COUNTING g) = true ∧ L.on Int.pwmStopped = false ∧ L.on (CLE_AX_CTL.UPDATE g) = true ∧ L.on (Int.runNew g) = false ∧ L.on (Int.commit g) = true ∧ L.rd (Int.commitAt g) + 4 ≤ L.ftb)) = true ∧
    (let g : Nat := 7; decide (g < 12)) = true ∧
    (let g : Nat := 0; let k : Nat := 2; decide (g < 12 ∧ k ∈ outsOf g)) = true ∧
    (let g : Nat := 7; let L := lane0; let L := L.wr (Int.commit g) 1; decide (g < 12 ∧ L.on (Int.commit g) = true)) = true ∧
    (let g : Fin 12 := 0; let L := lane0; let L := L.wr (Int.runNew g) 1;
      decide ((g : Nat) < 8 ∧ (L.on (Int.commit g) = false ∨ L.ftb < L.rd (Int.commitAt g) + 4 ∨ L.on (CLE_AX_CTL.UPDATE g) = false ∨ L.on (Int.runNew g) = true ∨ L.on (PWM_GROUP_STATUS.COUNTING g) = false ∨ L.on Int.pwmStopped = true))) = true ∧
    (let g : Fin 12 := 0; let L := lane0; let L := L.wr Int.pwmStopped 1;
      decide ((L.on (PWM_GROUP_STATUS.COUNTING g) = false ∨ L.on Int.pwmStopped = true))) = true ∧
    (let g : Fin 12 := 1; let L := lane0; let L := L.wr (PWM_GROUP_STATUS.COUNTING g) 1; let L := L.wr Int.pwmStopped 0;
      let L := L.wr (Int.commit g) 0;
      decide ((g : Nat) < 8 ∧ L.on (PWM_GROUP_STATUS.COUNTING g) = true ∧ L.on Int.pwmStopped = false ∧ L.on (Int.commit g) = false)) = true ∧
    (let l : LaneId := .a; let g : Fin 12 := 0; let on : Bool := true; let L := lane0;
      let L := L.wr (PWM_GROUP_CTL.RUN g) (if on then 1 else 0); let s := stateOf L; decide ((s.lane l).on (PWM_GROUP_CTL.RUN g) = on)) = true ∧
    (let g : Fin 12 := 1; let L := lane0; let L := L.wr (PWM_GROUP_CTL.RUN g) 0; decide (L.on (PWM_GROUP_CTL.RUN g) = false)) = true ∧
    (let g : Fin 12 := 0; let L := lane0; let L := L.wr (PWM_GROUP_CTL.RUN g) 1; decide (L.on (PWM_GROUP_CTL.RUN g) = true)) = true ∧
    (let L := lane0; let L := L.wr Int.pwmStopped 1; decide (L.on Int.pwmStopped = true)) = true ∧
    (let l : LaneId := .a; let L := lane0; let L := L.wr Int.pwmStopped 0; let s := stateOf L;
      decide ((s.lane l).on Int.pwmStopped = false)) = true ∧
    (let k : Fin 52 := 51; decide (48 ≤ (k : Nat))) = true ∧
    (let k : Fin 52 := 0; decide ((k : Nat) < 48)) = true := by
  decide

theorem test_hyps_BankSwapCoefficientAndMapWrites :
    (let ax : Fin 8 := 1; let L := lane0; let L := L.wr (CLE_AX_STATUS.RUNNING ax) 1; decide (L.on (CLE_AX_STATUS.RUNNING ax) = true)) = true ∧
    (let ax : Fin 8 := 0; let b : Fin 2 := 1; let L := lane0; let L := L.wr (CLE_AX_STATUS.RUNNING ax) 0;
      let L := if L.rd (CLE_AX_BANK.BANK_ACTIVE ax) ≠ b then L else L.wr (CLE_AX_BANK.BANK_ACTIVE ax) ((b) + 1);
      decide (L.on (CLE_AX_STATUS.RUNNING ax) = false ∧ L.rd (CLE_AX_BANK.BANK_ACTIVE ax) ≠ b)) = true ∧
    (let ax : Fin 8 := 7; let b : Fin 2 := 1; let L := lane0; let L := L.wr (CLE_AX_STATUS.RUNNING ax) 0;
      let L := L.wr (CLE_AX_BANK.BANK_ACTIVE ax) (b);
      decide (L.on (CLE_AX_STATUS.RUNNING ax) = false ∧ L.rd (CLE_AX_BANK.BANK_ACTIVE ax) = b)) = true ∧
    (let ax : Fin 8 := 1; let b : Fin 2 := 0; let k : Fin 64 := 5; let v : Nat := 3000; let w : Nat := 3000; let L := lane0;
      let L := if L.rd (CLE_AX_BANK.BANK_ACTIVE ax) ≠ b then L else L.wr (CLE_AX_BANK.BANK_ACTIVE ax) ((b) + 1);
      decide (L.rd (CLE_AX_BANK.BANK_ACTIVE ax) ≠ b ∧ clampCoef k (v % 2 ^ 32) = some w)) = true ∧
    (let l : LaneId := .a; let ax : Fin 8 := 1; let b : Fin 2 := 1; let k : Fin 64 := 26; let v : Nat := 2; let L := lane0;
      let L := if L.rd (CLE_AX_BANK.BANK_ACTIVE ax) ≠ b then L else L.wr (CLE_AX_BANK.BANK_ACTIVE ax) ((b) + 1); let s := stateOf L;
      decide ((s.lane l).rd (CLE_AX_BANK.BANK_ACTIVE ax) ≠ b ∧ clampCoef k (v % 2 ^ 32) = none)) = true ∧
    (let ax : Fin 8 := 1; let b : Fin 2 := 0; let L := lane0; let L := L.wr (CLE_AX_BANK.BANK_ACTIVE ax) (b);
      decide (L.rd (CLE_AX_BANK.BANK_ACTIVE ax) = b)) = true ∧
    (let ax : Fin 8 := 1; let L := lane0; let L := L.wr (CLE_AX_CTL.ENABLE ax) 0; decide (L.on (CLE_AX_CTL.ENABLE ax) = false)) = true ∧
    (let ax : Fin 8 := 7; let L := lane0; let L := L.wr (CLE_AX_CTL.ENABLE ax) 1; decide (L.on (CLE_AX_CTL.ENABLE ax) = true)) = true := by
  decide

theorem test_hyps_SetpointInputsAndMessages_part1 :
    (let L := lane0; let L := L.wr (FCK_DOM_CTL.RUN_EN 2) 0;
      decide ((L.on (FCK_DOM_CTL.RUN_EN 2) = false ∨ (L.on (ADC_CL_STATUS.REF_OK 0) = false ∧ L.on (ADC_CL_STATUS.REF_OK 1) = false)))) = true ∧
    (let k : Fin 4 := 1; let mv : Nat := 1500; let L := lane0; let L := L.wr (FCK_DOM_CTL.RUN_EN 2) 1;
      let L := L.wr (ADC_CL_STATUS.REF_OK 0) 1; let L := L.wr (Int.ainFault k) 0;
      let L := if L.rd (CLE_AIN_WIRE.LOW k) ≤ mv then L else L.wr (CLE_AIN_WIRE.LOW k) (mv);
      let L := if mv ≤ L.rd (CLE_AIN_WIRE.HIGH k) then L else L.wr (CLE_AIN_WIRE.HIGH k) (mv);
      let L := if L.rd (Int.ainN k) < 4 then L else L.wr (Int.ainN k) ((4) - 1);
      let L := (L.wr (CLE_AIN_WIRE.LOW k) 100).wr (CLE_AIN_WIRE.HIGH k) 3000;
      decide (L.on (FCK_DOM_CTL.RUN_EN 2) = true ∧ (L.on (ADC_CL_STATUS.REF_OK 0) = true ∨ L.on (ADC_CL_STATUS.REF_OK 1) = true) ∧ L.on (Int.ainFault k) = false ∧ L.rd (CLE_AIN_WIRE.LOW k) ≤ mv ∧ mv ≤ L.rd (CLE_AIN_WIRE.HIGH k) ∧ L.rd (Int.ainN k) < 4)) = true ∧
    (let k : Fin 4 := 1; let mv : Nat := 2; let L := lane0; let L := L.wr (FCK_DOM_CTL.RUN_EN 2) 1;
      let L := L.wr (ADC_CL_STATUS.REF_OK 0) 1; let L := L.wr (Int.ainFault k) 0;
      let L := if mv < L.rd (CLE_AIN_WIRE.LOW k) then L else L.wr (CLE_AIN_WIRE.LOW k) (mv + 1);
      let L := if L.rd (Int.ainN k) < 4 then L else L.wr (Int.ainN k) ((4) - 1); let L := L.wr (Int.ainBad k) (9);
      decide (L.on (FCK_DOM_CTL.RUN_EN 2) = true ∧ (L.on (ADC_CL_STATUS.REF_OK 0) = true ∨ L.on (ADC_CL_STATUS.REF_OK 1) = true) ∧ L.on (Int.ainFault k) = false ∧ (mv < L.rd (CLE_AIN_WIRE.LOW k) ∨ L.rd (CLE_AIN_WIRE.HIGH k) < mv) ∧ L.rd (Int.ainN k) < 4 ∧ L.rd (Int.ainBad k) = 9)) = true ∧
    (let k : Fin 4 := 3; let L := lane0; let L := if L.rd (CLE_PIN_CFG.MODE k) ≠ 3 then L else L.wr (CLE_PIN_CFG.MODE k) ((3) + 1);
      let L := L.wr (Int.pinHave k) (0);
      decide (L.rd (CLE_PIN_CFG.MODE k) ≠ 3 ∧ (L.rd (Int.pinHave k) = 0 ∨ L.rd (CLE_PIN_CFG.MODE k) = 0))) = true ∧
    (let k : Fin 4 := 1; let L := lane0; let L := L.wr (Int.pinHave k) (1); let L := L.wr (CLE_PIN_CFG.MODE k) (1);
      decide (L.rd (Int.pinHave k) = 1 ∧ L.rd (CLE_PIN_CFG.MODE k) = 1)) = true ∧
    (let k : Fin 4 := 3; let L := lane0; let L := L.wr (Int.pinHave k) (1); let L := L.wr (CLE_PIN_CFG.MODE k) (2);
      decide (L.rd (Int.pinHave k) = 1 ∧ L.rd (CLE_PIN_CFG.MODE k) = 2)) = true ∧
    (let k : Fin 4 := 0; let L := lane0; let L := L.wr (CLE_PIN_CFG.MODE k) (3);
      decide ((k = 0 ∨ k = 2) ∧ L.rd (CLE_PIN_CFG.MODE k) = 3)) = true ∧
    (let k : Fin 4 := 1; let L := lane0; let L := L.wr (CLE_PIN_CFG.MODE k) (2);
      decide ((L.rd (CLE_PIN_CFG.MODE k) = 1 ∨ L.rd (CLE_PIN_CFG.MODE k) = 2))) = true ∧
    (let l : LaneId := .a; let k : Fin 4 := 3; let L := lane0;
      let L := if L.rd (CLE_PIN_CFG.MODE k) ≠ 1 then L else L.wr (CLE_PIN_CFG.MODE k) ((1) + 1);
      let L := if L.rd (CLE_PIN_CFG.MODE k) ≠ 2 then L else L.wr (CLE_PIN_CFG.MODE k) ((2) + 1); let s := stateOf L;
      decide ((s.lane l).rd (CLE_PIN_CFG.MODE k) ≠ 1 ∧ (s.lane l).rd (CLE_PIN_CFG.MODE k) ≠ 2)) = true ∧
    (let m : Setpoint := ⟨1, 0, 0, none, none, 0, 0⟩; let rest : List DownItem := []; let L := lane0;
      let L : Lane := { L with down := .setpoint m :: rest }; decide (L.down = .setpoint m :: rest)) = true ∧
    (let l : LaneId := .a; let L := lane0; let s := stateOf L; decide ((s.lane l).down = [])) = true ∧
    (let ax : Fin 8 := 0; let L := lane0; let L := L.wr (CLE_AX_STATUS.RUNNING ax) 0;
      decide (L.on (CLE_AX_STATUS.RUNNING ax) = false)) = true ∧
    (let l : LaneId := .a; let ax : Fin 8 := 1; let L := lane0; let L := L.wr (CLE_AX_STATUS.RUNNING ax) 1; let s := stateOf L;
      decide ((s.lane l).on (CLE_AX_STATUS.RUNNING ax) = true)) = true ∧
    (let ax : Fin 8 := 0; let L := lane0; let L := L.wr (CLE_AX_STATUS.RUNNING ax) 1; let L := L.wr (CLE_AX_CTL.SP_SRC ax) (3);
      let L := L.wr (CLE_AX_STATUS.SP_LOST ax) 0;
      decide (L.on (CLE_AX_STATUS.RUNNING ax) = true ∧ L.rd (CLE_AX_CTL.SP_SRC ax) = 3 ∧ L.on (CLE_AX_STATUS.SP_LOST ax) = false)) = true := by
  decide

theorem test_hyps_SetpointInputsAndMessages_part2 :
    (let ax : Fin 8 := 0; let L := lane0; let L := L.wr (CLE_AX_STATUS.RUNNING ax) 0;
      decide ((L.on (CLE_AX_STATUS.RUNNING ax) = false ∨ L.rd (CLE_AX_CTL.SP_SRC ax) ≠ 3 ∨ L.on (CLE_AX_STATUS.SP_LOST ax) = true))) = true := by
  decide

theorem test_hyps_AxisEnableAndSettle :
    (let l : LaneId := .a; let ax : Fin 8 := 7; let on : Bool := true; let L := lane0;
      let L := L.wr (CLE_AX_CTL.ENABLE ax) (if on then 1 else 0); let s := stateOf L;
      decide ((s.lane l).on (CLE_AX_CTL.ENABLE ax) = on)) = true ∧
    (let l : LaneId := .a; let ax : Fin 8 := 0; let L := lane0; let L := L.wr (CLE_AX_CTL.ENABLE ax) 1; let s := stateOf L;
      decide ((s.lane l).on (CLE_AX_CTL.ENABLE ax) = true)) = true ∧
    (let ax : Fin 8 := 0; let L := lane0; let L := L.wr (CLE_AX_CTL.ENABLE ax) 0;
      let L := if L.rd (CLE_AX_FOX_STATUS.STATE ax) ≠ 6 then L else L.wr (CLE_AX_FOX_STATUS.STATE ax) ((6) + 1);
      let L := L.wr (CLE_AX_STATUS.RUNNING ax) 0; let L := L.wr (DCL_RAIL_STATUS.OV3_ACT (L.railOf ax)) 0;
      decide (L.on (CLE_AX_CTL.ENABLE ax) = false ∧ L.rd (CLE_AX_FOX_STATUS.STATE ax) ≠ 6 ∧ L.on (CLE_AX_STATUS.RUNNING ax) = false ∧ L.on (DCL_RAIL_STATUS.OV3_ACT (L.railOf ax)) = false)) = true ∧
    (let ax : Fin 8 := 1; let L := lane0;
      let L := if L.rd (CLE_AX_FOX_STATUS.STATE ax) ≠ 6 then L else L.wr (CLE_AX_FOX_STATUS.STATE ax) ((6) + 1);
      decide (L.rd (CLE_AX_FOX_STATUS.STATE ax) ≠ 6)) = true ∧
    (let ax : Fin 8 := 0; let L := lane0; let L := L.wr (CLE_AX_FOX_STATUS.STATE ax) (6); let L := L.wr (Int.safeDone ax) 0;
      decide (L.rd (CLE_AX_FOX_STATUS.STATE ax) = 6 ∧ L.on (Int.safeDone ax) = false)) = true ∧
    (let l : LaneId := .a; let ax : Fin 8 := 0; let L := lane0; let L := L.wr (CLE_AX_FOX_STATUS.STATE ax) (6);
      let L := L.wr (Int.safeDone ax) 1; let s := stateOf L;
      decide ((s.lane l).rd (CLE_AX_FOX_STATUS.STATE ax) = 6 ∧ (s.lane l).on (Int.safeDone ax) = true)) = true := by
  decide

theorem test_hyps_AdcBackgroundAndReference :
    (let l : LaneId := .a; let L := lane0; let L := L.wr (FCK_DOM_CTL.RUN_EN 2) 0; let s := stateOf L;
      decide (((s.lane l).on (FCK_DOM_CTL.RUN_EN 2) = false ∨ ((s.lane l).on (ADC_CL_STATUS.REF_OK 0) = false ∧ (s.lane l).on (ADC_CL_STATUS.REF_OK 1) = false)))) = true ∧
    (let i : Fin 28 := 0; let c : Nat := 0; let L := lane0; let L := L.wr (FCK_DOM_CTL.RUN_EN 2) 1;
      let L := L.wr (ADC_CL_STATUS.REF_OK 0) 1; let L := L.wr (ADC_CL_STATUS.REF_OK 1) 0;
      decide (L.on (FCK_DOM_CTL.RUN_EN 2) = true ∧ ((L.on (ADC_CL_STATUS.REF_OK 0) = true ∧ L.on (ADC_CL_STATUS.REF_OK 1) = true ∧ c = L.rd (Int.bgTurn i)) ∨ (L.on (ADC_CL_STATUS.REF_OK 0) = true ∧ L.on (ADC_CL_STATUS.REF_OK 1) = false ∧ c = 0) ∨ (L.on (ADC_CL_STATUS.REF_OK 0) = false ∧ L.on (ADC_CL_STATUS.REF_OK 1) = true ∧ c = 1)))) = true := by
  decide

theorem test_hyps_CurrentSampleRunsThePipeline :
    (let ax : Fin 8 := 0; let mid : Bool := true; let L := lane0; let L := L.wr (FCK_DOM_CTL.RUN_EN 2) 0;
      decide ((L.on (PWM_GROUP_CTL.RUN ax) = false ∨ (mid = true ∧ L.on (CLE_AX_CTL.UPDATE ax) = false) ∨ L.on (FCK_DOM_CTL.RUN_EN 0) = false ∨ L.on (FCK_DOM_CTL.RUN_EN 2) = false))) = true ∧
    (let ax : Fin 8 := 0; let mid : Bool := false; let L := lane0; let L := L.wr (PWM_GROUP_CTL.RUN ax) 1;
      let L := L.wr (FCK_DOM_CTL.RUN_EN 0) 1; let L := L.wr (FCK_DOM_CTL.RUN_EN 2) 1;
      decide (L.on (PWM_GROUP_CTL.RUN ax) = true ∧ (mid = true → L.on (CLE_AX_CTL.UPDATE ax) = true) ∧ L.on (FCK_DOM_CTL.RUN_EN 0) = true ∧ L.on (FCK_DOM_CTL.RUN_EN 2) = true)) = true := by
  decide

theorem test_hyps_CurrentsEdgesAndStartPulses :
    (let n : Nat := 1; let i0 : Nat := 8192; let i1 : Nat := 8192; let L := lane0;
      let x : Int := ((i0 : Int) - L.rd (ADC_AX_IZERO.IZERO0 n)) * 262144;
      let y : Int := ((i1 : Int) - L.rd (ADC_AX_IZERO.IZERO1 n)) * 262144;
      decide (-2147483648 ≤ x ∧ x ≤ 2147483647 ∧ -2147483648 ≤ y ∧ y ≤ 2147483647 ∧ -2147483648 ≤ -x - y ∧ -x - y ≤ 2147483647)) = true ∧
    (let d : Int := 0; decide (0 ≤ d ∧ d ≤ 2147483647)) = true ∧
    (let ax : Fin 8 := 1; let L := lane0; let L := if L.rd (Int.srPulse ax) ≠ 0 then L else L.wr (Int.srPulse ax) ((0) + 1);
      decide ((L.rd (CLE_AX_FOX_STATUS.STATE ax) ≠ 2 ∨ L.rd (Int.srPulse ax) ≠ 0))) = true ∧
    (let ax : Fin 8 := 0; let L := lane0; let L := L.wr (CLE_AX_FOX_STATUS.STATE ax) (2); let L := L.wr (Int.srPulse ax) (0);
      decide (L.rd (CLE_AX_FOX_STATUS.STATE ax) = 2 ∧ L.rd (Int.srPulse ax) = 0)) = true ∧
    (let ax : Fin 8 := 0; let L := lane0; let L := L.wr (CLE_AX_FOX_STATUS.STATE ax) (2); let L := L.wr (Int.srPulse ax) (0);
      let L := if L.rd (Int.srTry ax) < 2 then L else L.wr (Int.srTry ax) ((2) - 1);
      decide (L.rd (CLE_AX_FOX_STATUS.STATE ax) = 2 ∧ L.rd (Int.srPulse ax) = 0 ∧ L.rd (Int.srTry ax) < 2)) = true ∧
    (let ax : Fin 8 := 0; let L := lane0; let L := L.wr (CLE_AX_FOX_STATUS.STATE ax) (2); let L := L.wr (Int.srPulse ax) (0);
      let L := if 2 ≤ L.rd (Int.srTry ax) then L else L.wr (Int.srTry ax) (2);
      decide (L.rd (CLE_AX_FOX_STATUS.STATE ax) = 2 ∧ L.rd (Int.srPulse ax) = 0 ∧ 2 ≤ L.rd (Int.srTry ax))) = true ∧
    (let ax : Fin 8 := 1; let L := lane0; let L := L.wr (Int.srPulse ax) (0);
      decide ((L.rd (CLE_AX_FOX_STATUS.STATE ax) ≠ 2 ∨ L.rd (Int.srPulse ax) = 0 ∨ (L.on (Int.srEnded ax) = true ∧ L.ftb < L.rd (Int.srBack ax))))) = true ∧
    (let ax : Fin 8 := 0; let cur : Int := 0; let len : Nat := 2000000; let L := lane0;
      let L := L.wr (CLE_AX_FOX_STATUS.STATE ax) (2); let L := L.wr (Int.srEnded ax) 0;
      let L := (L.wr (Int.srPulse ax) 11).wr (Int.srEnded ax) 0; let k : Nat := L.rd (Int.srPulse ax);
      let n : Nat := min (max len 1) (1000 * L.ctl ax 16 8);
      decide (L.rd (CLE_AX_FOX_STATUS.STATE ax) = 2 ∧ 1 ≤ k ∧ k ≤ 14 ∧ L.on (Int.srEnded ax) = false ∧ L.pulseEarly ax k (satQ cur) n = false)) = true ∧
    (let ax : Fin 8 := 7; let L := lane0;
      let L := (((L.wr (CLE_AX_FOX_STATUS.STATE ax) 2).wr (Int.srPulse ax) 11).wr (Int.srEnded ax) 1).wr (Int.srBack ax) 0;
      let k : Nat := 11; let L := L.wr (CLE_AX_FOX_STATUS.STATE ax) (2); let L := L.wr (Int.srEnded ax) 1;
      let L := if L.rd (Int.srBack ax) ≤ L.ftb then L else L.wr (Int.srBack ax) (L.ftb);
      decide (L.rd (CLE_AX_FOX_STATUS.STATE ax) = 2 ∧ 1 ≤ k ∧ k ≠ 12 ∧ k ≠ 14 ∧ L.on (Int.srEnded ax) = true ∧ L.rd (Int.srBack ax) ≤ L.ftb)) = true ∧
    (let ax : Fin 8 := 1; let L := lane0; let L := L.wr (CLE_AX_FOX_STATUS.STATE ax) (5);
      decide (L.rd (CLE_AX_FOX_STATUS.STATE ax) = 5)) = true ∧
    (let l : LaneId := .a; let ax : Fin 8 := 0; let L := lane0;
      let L := if L.rd (CLE_AX_FOX_STATUS.STATE ax) ≠ 5 then L else L.wr (CLE_AX_FOX_STATUS.STATE ax) ((5) + 1); let s := stateOf L;
      decide ((s.lane l).rd (CLE_AX_FOX_STATUS.STATE ax) ≠ 5)) = true := by
  decide

theorem test_hyps_FieldOccurrenceIsCountedAndSent :
    (let src : Nat := 0x9F; decide (0x60 ≤ src ∧ src < 0xA0)) = true ∧
    (let src : Nat := 0x9F; let L := lane0; let L := L.wr Int.fieldLink 1;
      let L := if L.rd (FBG_SEV.SEV src) < 3 then L else L.wr (FBG_SEV.SEV src) ((3) - 1);
      decide (0x60 ≤ src ∧ src < 0xA0 ∧ L.on Int.fieldLink = true ∧ L.rd (FBG_SEV.SEV src) < 3)) = true ∧
    (let src : Nat := 0x9F; let L := lane0; let L := L.wr Int.fieldLink 1;
      let L := if 3 ≤ L.rd (FBG_SEV.SEV src) then L else L.wr (FBG_SEV.SEV src) (3);
      decide (0x60 ≤ src ∧ src < 0xA0 ∧ L.on Int.fieldLink = true ∧ 3 ≤ L.rd (FBG_SEV.SEV src))) = true ∧
    (let src : Nat := 0x60; let g : Nat := 3; let L := lane0; let L := L.wr (FBG_SEV.SEV src) (4);
      decide (0x60 ≤ src ∧ src < 0xA0 ∧ L.rd (FBG_SEV.SEV src) = 4 ∧ g < 12 ∧ (g < 8 → L.inAsc g = false))) = true := by
  decide

theorem test_hyps_HallEdgesFaultsAndSpeed :
    (let ax : Fin 8 := 1; let p : Fin 8 := 4; let q : Fin 8 := 3; let code : Nat := 4; let was : Nat := 0; let sec : Nat := 1;
      let L := lane0; let L := L.wr Int.fbiBad 0; let L := ((L.wr (FBI_AX_STATUS.SECTOR ax) 0).wr (FBI_AX_STATUS.CODE ax) 5);
      let n : Nat := (ax : Nat); let L := if L.rd (FBI_AX_STATUS.CODE n) ≠ code then L else L.wr (FBI_AX_STATUS.CODE n) ((code) + 1);
      let L := L.wr (FBI_AX_CFG.EN n) 1; let L := L.wr (FBI_AX_STATUS.WIRE n) (0); let n : Nat := (ax : Nat);
      decide (code = pairCode (L.rd (FBI_AX_STATUS.CODE n)) p q ∧ L.rd (FBI_AX_STATUS.CODE n) ≠ code ∧ L.on (FBI_AX_CFG.EN n) = true ∧ L.on Int.fbiBad = false ∧ L.rd (FBI_AX_STATUS.WIRE n) = 0 ∧ was = L.rd (FBI_AX_STATUS.SECTOR n) ∧ was < 6 ∧ sectorOf code = some sec ∧ sec = (was + 1) % 6)) = true ∧
    (let ax : Fin 8 := 7; let p : Fin 8 := 4; let q : Fin 8 := 3; let code : Nat := 4; let was : Nat := 2; let sec : Nat := 1;
      let L := lane0; let L := L.wr Int.fbiBad 0; let L := ((L.wr (FBI_AX_STATUS.SECTOR ax) 2).wr (FBI_AX_STATUS.CODE ax) 6);
      let n : Nat := (ax : Nat); let L := if L.rd (FBI_AX_STATUS.CODE n) ≠ code then L else L.wr (FBI_AX_STATUS.CODE n) ((code) + 1);
      let L := L.wr (FBI_AX_CFG.EN n) 1; let L := L.wr (FBI_AX_STATUS.WIRE n) (0); let n : Nat := (ax : Nat);
      decide (code = pairCode (L.rd (FBI_AX_STATUS.CODE n)) p q ∧ L.rd (FBI_AX_STATUS.CODE n) ≠ code ∧ L.on (FBI_AX_CFG.EN n) = true ∧ L.on Int.fbiBad = false ∧ L.rd (FBI_AX_STATUS.WIRE n) = 0 ∧ was = L.rd (FBI_AX_STATUS.SECTOR n) ∧ was < 6 ∧ sectorOf code = some sec ∧ was = (sec + 1) % 6)) = true ∧
    (let ax : Fin 8 := 0; let p : Fin 8 := 6; let q : Fin 8 := 1; let code : Nat := 6; let was : Nat := 0; let sec : Nat := 2;
      let L := lane0; let L := L.wr Int.fbiBad 0; let L := ((L.wr (FBI_AX_STATUS.SECTOR ax) 0).wr (FBI_AX_STATUS.CODE ax) 5);
      let n : Nat := (ax : Nat); let L := if L.rd (FBI_AX_STATUS.CODE n) ≠ code then L else L.wr (FBI_AX_STATUS.CODE n) ((code) + 1);
      let L := L.wr (FBI_AX_CFG.EN n) 1; let L := L.wr (FBI_AX_STATUS.WIRE n) (0); let n : Nat := (ax : Nat);
      decide (code = pairCode (L.rd (FBI_AX_STATUS.CODE n)) p q ∧ L.rd (FBI_AX_STATUS.CODE n) ≠ code ∧ L.on (FBI_AX_CFG.EN n) = true ∧ L.on Int.fbiBad = false ∧ L.rd (FBI_AX_STATUS.WIRE n) = 0 ∧ was = L.rd (FBI_AX_STATUS.SECTOR n) ∧ was < 6 ∧ sectorOf code = some sec ∧ sec ≠ (was + 1) % 6 ∧ was ≠ (sec + 1) % 6)) = true ∧
    (let ax : Fin 8 := 1; let p : Fin 8 := 1; let q : Fin 8 := 7; let L := lane0; let n : Nat := (ax : Nat);
      let L := L.wr (FBI_AX_CFG.EN n) 0; let n : Nat := (ax : Nat); let code : Nat := pairCode (L.rd (FBI_AX_STATUS.CODE n)) p q;
      decide ((L.rd (FBI_AX_STATUS.CODE n) = code ∨ L.on (FBI_AX_CFG.EN n) = false))) = true ∧
    (let ax : Fin 8 := 0; let p : Fin 8 := 0; let q : Fin 8 := 1; let L := lane0; let n : Nat := (ax : Nat);
      let code : Nat := pairCode (L.rd (FBI_AX_STATUS.CODE n)) p q;
      let L := if L.rd (FBI_AX_STATUS.CODE n) ≠ code then L else L.wr (FBI_AX_STATUS.CODE n) ((code) + 1);
      let L := L.wr (FBI_AX_CFG.EN n) 1; let n : Nat := (ax : Nat); let code : Nat := pairCode (L.rd (FBI_AX_STATUS.CODE n)) p q;
      decide (L.rd (FBI_AX_STATUS.CODE n) ≠ code ∧ L.on (FBI_AX_CFG.EN n) = true ∧ sectorOf code = none)) = true ∧
    (let ax : Fin 8 := 7; let p : Fin 8 := 4; let q : Fin 8 := 3; let code : Nat := 4; let sec : Nat := 1; let L := lane0;
      let L := ((L.wr (FBI_AX_STATUS.SECTOR ax) 7).wr (FBI_AX_STATUS.CODE ax) 5); let n : Nat := (ax : Nat);
      let L := if L.rd (FBI_AX_STATUS.CODE n) ≠ code then L else L.wr (FBI_AX_STATUS.CODE n) ((code) + 1);
      let L := L.wr (FBI_AX_CFG.EN n) 1; let L := L.wr Int.fbiBad 1; let n : Nat := (ax : Nat);
      decide (code = pairCode (L.rd (FBI_AX_STATUS.CODE n)) p q ∧ L.rd (FBI_AX_STATUS.CODE n) ≠ code ∧ L.on (FBI_AX_CFG.EN n) = true ∧ sectorOf code = some sec ∧ (L.on Int.fbiBad = true ∨ L.rd (FBI_AX_STATUS.WIRE n) ≠ 0 ∨ L.rd (FBI_AX_STATUS.SECTOR n) = 7))) = true ∧
    (let ax : Fin 8 := 0; let L := lane0; decide (sectorOf (L.rd (FBI_AX_STATUS.CODE ax)) = none)) = true ∧
    (let l : LaneId := .a; let ax : Fin 8 := 7; let c : Nat := 0; let L := lane0; let L := L.wr (FBI_AX_STATUS.CODE ax) 5;
      let s := stateOf L; decide (sectorOf ((s.lane l).rd (FBI_AX_STATUS.CODE ax)) = some c)) = true ∧
    (let ax : Fin 8 := 7; let L := lane0; let L := L.wr (FBI_AX_STATUS.SPD_STATUS ax) (0);
      decide (L.rd (FBI_AX_STATUS.SPD_STATUS ax) = 0)) = true ∧
    (let ax : Fin 8 := 1; let L := lane0;
      let L := if L.rd (FBI_AX_STATUS.SPD_STATUS ax) ≠ 0 then L else L.wr (FBI_AX_STATUS.SPD_STATUS ax) ((0) + 1);
      let L := L.wr (FBI_AX_CFG.SS_TIME ax) 0;
      decide (L.rd (FBI_AX_STATUS.SPD_STATUS ax) ≠ 0 ∧ 1000000 * L.rd (FBI_AX_CFG.SS_TIME ax) ≤ L.ftb - L.rd (Int.tEdge ax))) = true ∧
    (let ax : Fin 8 := 7; let L := lane0; let L := L.wr (FBI_AX_STATUS.SPD_STATUS ax) (3);
      decide ((L.rd (FBI_AX_STATUS.SPD_STATUS ax) = 1 ∨ L.rd (FBI_AX_STATUS.SPD_STATUS ax) = 3) ∧ L.ftb - L.rd (Int.tEdge ax) < 1000000 * L.rd (FBI_AX_CFG.SS_TIME ax))) = true ∧
    (let ax : Fin 8 := 1; let cnt : Nat := 1; let L := lane0;
      let L := (L.wr (Int.histN ax) cnt).wr (FBI_AX_STATUS.SPD_STATUS ax) 2 |>.wr (FBI_AX_STATUS.LAST_DIR ax) 1 |>.wr (FBI_AX_CFG.SS_TIME ax) 40;
      let n : Nat := (ax : Nat); let L := L.wr (FBI_AX_STATUS.SPD_STATUS n) (2); let L := L.wr (FBI_AX_STATUS.LAST_DIR n) (1);
      let n : Nat := (ax : Nat); let dt : Nat := L.ftb - L.rd (Int.tEdge n);
      decide ((L.rd (FBI_AX_STATUS.SPD_STATUS n) = 2 ∨ L.rd (FBI_AX_STATUS.SPD_STATUS n) = 4) ∧ L.rd (FBI_AX_STATUS.LAST_DIR n) = 1 ∧ dt < 1000000 * L.rd (FBI_AX_CFG.SS_TIME n) ∧ cnt = L.rd (Int.histN n) ∧ 0 < cnt)) = true := by
  decide

theorem test_hyps_PositionPresetLimitsAndCompares :
    (let ax : Fin 8 := 1; let L := lane0; let L := L.wr (FBI_AX_CFG.EN ax) 0; decide (L.on (FBI_AX_CFG.EN ax) = false)) = true ∧
    (let l : LaneId := .a; let ax : Fin 8 := 0; let L := lane0; let L := L.wr (FBI_AX_CFG.EN ax) 1; let s := stateOf L;
      decide ((s.lane l).on (FBI_AX_CFG.EN ax) = true)) = true := by
  decide

theorem test_hyps_LatchesOfTheFeedbackUnit :
    (let L := lane0; let L := L.putBit FBI_LATCH_CFG.LAT_SRC 1 true; let L := L.wr Int.latchRun 0;
      decide (L.bitOf FBI_LATCH_CFG.LAT_SRC 1 = true ∧ L.on Int.latchRun = false)) = true ∧
    (let L := lane0; let L := L.putBit FBI_LATCH_CFG.LAT_SRC 1 true; let L := L.wr Int.latchRun 1;
      decide (L.bitOf FBI_LATCH_CFG.LAT_SRC 1 = true ∧ L.on Int.latchRun = true)) = true ∧
    (let l : LaneId := .a; let L := lane0; let L := L.putBit FBI_LATCH_CFG.LAT_SRC 1 false; let s := stateOf L;
      decide ((s.lane l).bitOf FBI_LATCH_CFG.LAT_SRC 1 = false)) = true ∧
    (let l : LaneId := .a; let L := lane0; let L := L.wr Int.actCount (0); let s := stateOf L;
      decide ((s.lane l).rd Int.actCount = 0)) = true ∧
    (let L := lane0; let L := if L.rd Int.actCount ≠ 0 then L else L.wr Int.actCount ((0) + 1); decide (L.rd Int.actCount ≠ 0)) = true ∧
    (let L := lane0; let L := L.wr Int.latchRun 1; let L := L.wr FBI_LATCH_STATUS.LATCHED 0;
      decide (L.on Int.latchRun = true ∧ L.on FBI_LATCH_STATUS.LATCHED = false)) = true ∧
    (let L := lane0; let L := L.wr Int.latchRun 1; let L := L.wr FBI_LATCH_STATUS.LATCHED 1;
      decide (L.on Int.latchRun = true ∧ L.on FBI_LATCH_STATUS.LATCHED = true)) = true ∧
    (let l : LaneId := .a; let L := lane0; let L := L.wr Int.latchRun 0; let s := stateOf L;
      decide ((s.lane l).on Int.latchRun = false)) = true := by
  decide

theorem test_hyps_RailThresholdsConversionsAndEnergy :
    (let k : Fin 4 := 1; let L := lane0;
      let L := if L.rd (DCL_RAIL_CH.CH_FULL k) + 2 ≤ L.rd (DCL_RAIL_OV3.OV3 k) then L else L.wr (DCL_RAIL_OV3.OV3 k) (L.rd (DCL_RAIL_CH.CH_FULL k) + 2);
      let L := if L.rd (DCL_RAIL_OV3.OV3 k) < 4096 then L else L.wr (DCL_RAIL_OV3.OV3 k) ((4096) - 1);
      decide (L.rd (DCL_RAIL_CH.CH_FULL k) + 2 ≤ L.rd (DCL_RAIL_OV3.OV3 k) ∧ L.rd (DCL_RAIL_OV3.OV3 k) < 4096)) = true ∧
    (let k : Fin 4 := 1; let L := lane0;
      let L := if L.rd (DCL_RAIL_OV12.OV2 k) < L.rd (DCL_RAIL_CFG.RAIL_FS k) then L else L.wr (DCL_RAIL_OV12.OV2 k) ((L.rd (DCL_RAIL_CFG.RAIL_FS k)) - 1);
      let L := if L.rd (DCL_RAIL_CFG.RAIL_FS k) < 4096 then L else L.wr (DCL_RAIL_CFG.RAIL_FS k) ((4096) - 1);
      decide (L.rd (DCL_RAIL_OV12.OV2 k) < L.rd (DCL_RAIL_CFG.RAIL_FS k) ∧ L.rd (DCL_RAIL_CFG.RAIL_FS k) < 4096)) = true ∧
    (let k : Fin 4 := 3; let L := lane0; let L := if 2 ≤ L.rd (DCL_RAIL_OV12.OV1 k) then L else L.wr (DCL_RAIL_OV12.OV1 k) (2);
      let L := if L.rd (DCL_RAIL_OV12.OV1 k) < 4096 then L else L.wr (DCL_RAIL_OV12.OV1 k) ((4096) - 1);
      decide (2 ≤ L.rd (DCL_RAIL_OV12.OV1 k) ∧ L.rd (DCL_RAIL_OV12.OV1 k) < 4096)) = true ∧
    (let l : LaneId := .a; let L := lane0; let L := L.wr (FCK_DOM_CTL.RUN_EN 2) 0; let s := stateOf L;
      decide ((s.lane l).on (FCK_DOM_CTL.RUN_EN 2) = false)) = true ∧
    (let k : Fin 4 := 1; let L := lane0; let L := L.wr (FCK_DOM_CTL.RUN_EN 2) 1; let L := L.wr (DCL_RAIL_CFG.EN k) 0;
      decide (L.on (FCK_DOM_CTL.RUN_EN 2) = true ∧ L.on (DCL_RAIL_CFG.EN k) = false)) = true ∧
    (let k : Fin 4 := 0; let code : Nat := 1; let L := lane0; let L := L.wr (FCK_DOM_CTL.RUN_EN 2) 1;
      let L := L.wr (DCL_RAIL_CFG.EN k) 1; decide (L.on (FCK_DOM_CTL.RUN_EN 2) = true ∧ L.on (DCL_RAIL_CFG.EN k) = true ∧ code < 16383)) = true ∧
    (let k : Nat := 0; let i : Nat := 0; let L := lane0; let L := L.wr (ovAct k i) 0;
      let L := if L.rd (DCL_RAIL_CFG.FILT k) ≤ L.rd (Int.ovRun k i) + 1 then L else L.wr (DCL_RAIL_CFG.FILT k) (L.rd (Int.ovRun k i) + 1);
      let L := (L.wr (Int.railCode k) 16383).wr (DCL_RAIL_CFG.FILT k) 2 |>.wr (Int.ovRun k i) 1;
      decide (k < 4 ∧ i < 3 ∧ L.on (ovAct k i) = false ∧ L.railAbove k (L.rd (ovValue k i)) = true ∧ L.rd (DCL_RAIL_CFG.FILT k) ≤ L.rd (Int.ovRun k i) + 1)) = true ∧
    (let k : Nat := 3; let i : Nat := 2; let L := lane0; let L := L.wr (ovAct k i) 1;
      let L := if L.rd (DCL_RAIL_OV3.HYST k) ≤ L.rd (ovValue k i) then L else L.wr (DCL_RAIL_OV3.HYST k) (L.rd (ovValue k i));
      let L := if L.rd (DCL_RAIL_CFG.FILT k) ≤ L.rd (Int.ovRun k i) + 1 then L else L.wr (DCL_RAIL_CFG.FILT k) (L.rd (Int.ovRun k i) + 1);
      let L := (L.wr (Int.railCode k) 0).wr (DCL_RAIL_CFG.FILT k) 2 |>.wr (Int.ovRun k i) 1;
      decide (k < 4 ∧ i < 3 ∧ L.on (ovAct k i) = true ∧ L.rd (DCL_RAIL_OV3.HYST k) ≤ L.rd (ovValue k i) ∧ L.railAbove k (L.rd (ovValue k i) - L.rd (DCL_RAIL_OV3.HYST k)) = false ∧ L.rd (DCL_RAIL_CFG.FILT k) ≤ L.rd (Int.ovRun k i) + 1)) = true ∧
    (let k : Nat := 3; let i : Nat := 1; let L := lane0; let L := L.wr (ovAct k i) 0;
      let L := if L.rd (Int.ovRun k i) + 1 < L.rd (DCL_RAIL_CFG.FILT k) then L else L.wr (DCL_RAIL_CFG.FILT k) (L.rd (Int.ovRun k i) + 1 + 1);
      let L := (L.wr (Int.railCode k) 16383).wr (DCL_RAIL_CFG.FILT k) 3 |>.wr (Int.ovRun k i) 1;
      decide (k < 4 ∧ i < 3 ∧ L.on (ovAct k i) = false ∧ L.railAbove k (L.rd (ovValue k i)) = true ∧ L.rd (Int.ovRun k i) + 1 < L.rd (DCL_RAIL_CFG.FILT k))) = true ∧
    (let k : Nat := 3; let i : Nat := 2; let L := lane0; let L := L.wr (ovAct k i) 0;
      let L := (L.wr (Int.railCode k) 0).wr (DCL_RAIL_CFG.FILT k) 2 |>.wr (Int.ovRun k i) 1;
      decide (k < 4 ∧ i < 3 ∧ L.on (ovAct k i) = false ∧ L.railAbove k (L.rd (ovValue k i)) = false)) = true ∧
    (let l : LaneId := .a; let k : Fin 4 := 3; let L := lane0; let L := L.wr (DCL_RAIL_CFG.EN k) 0; let s := stateOf L;
      decide ((s.lane l).on (DCL_RAIL_CFG.EN k) = false)) = true ∧
    (let k : Fin 4 := 3; let L := lane0; let L := L.wr (DCL_RAIL_CFG.EN k) 1; decide (L.on (DCL_RAIL_CFG.EN k) = true)) = true ∧
    (let k : Fin 4 := 3; let L := lane0; let L := L.wr (DCL_RAIL_CFG.EN k) 1;
      let u : Int := (L.rd (Int.railCode k) : Int) * L.rd (DCL_RAIL_CFG.RAIL_FS k); let r : Int := L.rd (Int.uRef k);
      let e : Int := 20 * ((L.rd (DCL_RAIL.EIN k) : Int) - L.rd (DCL_RAIL.EOUT k)) * (16383 * 16383) - (L.rd (DCL_RAIL_ECFG.C_RAIL k) : Int) * (u * u - r * r);
      let tol : Int := (20 * ((L.rd (DCL_RAIL.EIN k) : Int) + L.rd (DCL_RAIL.EOUT k)) + 1000000 * (L.rd (DCL_RAIL_ECFG.E_FLOOR k) : Int)) * (16383 * 16383);
      decide (L.on (DCL_RAIL_CFG.EN k) = true ∧ 50 * (e.natAbs : Int) ≤ tol)) = true ∧
    (let k : Fin 4 := 3; let L := lane0; let L := L.wr (DCL_RAIL_CFG.EN k) 1;
      let L := ((L.wr (DCL_RAIL.EIN k) 1000).wr (DCL_RAIL_ECFG.E_FLOOR k) 0).wr (DCL_RAIL_CFG.EN k) 1;
      let u : Int := (L.rd (Int.railCode k) : Int) * L.rd (DCL_RAIL_CFG.RAIL_FS k); let r : Int := L.rd (Int.uRef k);
      let e : Int := 20 * ((L.rd (DCL_RAIL.EIN k) : Int) - L.rd (DCL_RAIL.EOUT k)) * (16383 * 16383) - (L.rd (DCL_RAIL_ECFG.C_RAIL k) : Int) * (u * u - r * r);
      let tol : Int := (20 * ((L.rd (DCL_RAIL.EIN k) : Int) + L.rd (DCL_RAIL.EOUT k)) + 1000000 * (L.rd (DCL_RAIL_ECFG.E_FLOOR k) : Int)) * (16383 * 16383);
      decide (L.on (DCL_RAIL_CFG.EN k) = true ∧ tol < 50 * (e.natAbs : Int))) = true := by
  decide

theorem test_hyps_FaultArrivalsAndInjectedFaults :
    (let src : Nat := 5; let L := lane0; let L : Lane := { L with inbox := [⟨src, false, 1, 0⟩] }; let L := L.wr BGR_STATE.STATE (0);
      decide (L.inbox = [⟨src, false, 1, 0⟩] ∧ src < 256 ∧ L.rd BGR_STATE.STATE = 0 ∧ L.severity src < 4)) = true ∧
    (let src : Nat := 1; let L := lane0; let L : Lane := { L with inbox := [⟨src, false, 1, 0⟩] }; let L := L.wr BGR_STATE.STATE (0);
      let L := L.wr Int.e0 0; let L := (L.wr Int.held 0).wr PSC_STATUS.STAGE 0;
      decide (L.inbox = [⟨src, false, 1, 0⟩] ∧ src < 256 ∧ L.rd BGR_STATE.STATE = 0 ∧ L.severity src = 4 ∧ L.on Int.e0 = false ∧ L.canExit = true)) = true ∧
    (let src : Nat := 0x40; let L := lane0; let L : Lane := { L with inbox := [⟨src, false, 1, 0⟩] };
      let L := L.wr BGR_STATE.STATE (1); let L := L.wr (BGR_SEV.SEV src (sourceSeverity src)) 3;
      decide (L.inbox = [⟨src, false, 1, 0⟩] ∧ src < 256 ∧ L.rd BGR_STATE.STATE = 1 ∧ L.severity src < 4)) = true ∧
    (let src : Nat := 0x20; decide (sourceDefined src = true ∧ fieldSource src = false)) = true ∧
    (let src : Nat := 0x20; let L := lane0; let L : Lane := { L with inbox := [] };
      let L := L.wr CFG_MODE_STATUS.DEVICE_MODE mStandby;
      decide (L.inbox = [] ∧ forceAllowed L.mode = true ∧ sourceDefined src = true ∧ fieldSource src = false)) = true ∧
    (let L := lane0; decide (forceAllowed L.mode = false)) = true ∧
    (let l : LaneId := .a; let src : Nat := 5; let L := lane0; let L := L.wr CFG_MODE_STATUS.DEVICE_MODE mStandby;
      let s := stateOf L; decide (forceAllowed (s.lane l).mode = true ∧ sourceDefined src = false)) = true ∧
    (let l : LaneId := .a; let src : Nat := 0x9A; let L := lane0; let L := L.wr CFG_MODE_STATUS.DEVICE_MODE mStandby;
      let s := stateOf L; decide (forceAllowed (s.lane l).mode = true ∧ sourceDefined src = true ∧ fieldSource src = true)) = true := by
  decide

theorem test_hyps_PendingFaultsAndReactionTimer :
    (let src : Nat := 0x0A; let L := lane0; let L : Lane := { L with inbox := [⟨src, false, 1, 0⟩] };
      let L := L.wr (BGR_SEV.SEV src (sourceSeverity src)) 3; decide (L.inbox = [⟨src, false, 1, 0⟩] ∧ src < 256 ∧ L.severity src = 3)) = true ∧
    (let l : LaneId := .a; let L := lane0; let L := L.wr BGR_STATE.STATE 2; let s := stateOf L;
      decide (((s.lane l).rd BGR_STATE.STATE = 2 ∨ (s.lane l).oldestPending = none))) = true ∧
    (let k : Nat := 5; let L := lane0; let L := if L.rd BGR_STATE.STATE ≠ 2 then L else L.wr BGR_STATE.STATE ((2) + 1);
      let L := L.wr (Int.pendForced k) 0; let L := L.wr Int.e0 0; let L := (L.wr Int.held 0).wr PSC_STATUS.STAGE 0;
      let L := L.forN 8 (fun j K => K.wr (BGR_PEND.BITS j) 0); let L := (L.wr (BGR_PEND.BITS 0) 32).wr (Int.pendFired 5) 0;
      decide (L.rd BGR_STATE.STATE ≠ 2 ∧ L.oldestPending = some k ∧ L.on (Int.pendForced k) = false ∧ L.on Int.e0 = false ∧ L.canExit = true)) = true ∧
    (let k : Nat := 5; let L := lane0; let L := if L.rd BGR_STATE.STATE ≠ 2 then L else L.wr BGR_STATE.STATE ((2) + 1);
      let L := L.wr (Int.pendForced k) 1; let L := L.forN 8 (fun j K => K.wr (BGR_PEND.BITS j) 0);
      let L := (L.wr (BGR_PEND.BITS 0) 32).wr (Int.pendFired 5) 0; let L := (L.wr (Int.pendForced 5) 1).wr BGR_STATE.STATE 0;
      decide (L.rd BGR_STATE.STATE ≠ 2 ∧ L.oldestPending = some k ∧ L.on (Int.pendForced k) = true)) = true ∧
    (let same : Bool := false; let L := lane0; let L := L.wr BGR_STATE.STATE (1);
      decide (L.rd BGR_STATE.STATE = 1 ∧ (same = false ∨ L.inbox = []))) = true ∧
    (let l : LaneId := .a; let L := lane0; let L := L.wr BGR_STATE.STATE (1);
      let L : Lane := { L with inbox := [⟨0x40, false, 1, 0⟩] }; let s := stateOf L;
      decide ((s.lane l).rd BGR_STATE.STATE = 1 ∧ (s.lane l).inbox ≠ [])) = true ∧
    (let l : LaneId := .a; let L := lane0; let L := if L.rd BGR_STATE.STATE ≠ 1 then L else L.wr BGR_STATE.STATE ((1) + 1);
      let s := stateOf L; decide ((s.lane l).rd BGR_STATE.STATE ≠ 1)) = true := by
  decide

theorem test_hyps_FieldFaultMessagesCountedOnce :
    (let m : FieldMsg := ⟨0x61, 5, 7, false⟩; let r : List FieldMsg := []; let L := lane0;
      let L : Lane := { L with urgent := m :: r }; let L := L.wr (Int.last 0x61) 3;
      let n : Nat := (m.cum + 65536 - L.rd (Int.last m.src)) % 65536;
      decide (L.urgent = m :: r ∧ m.forced = false ∧ fieldSource m.src = true ∧ n ≠ 0 ∧ L.severity m.src < 4)) = true ∧
    (let m : FieldMsg := ⟨0x61, 5, 7, false⟩; let r : List FieldMsg := []; let L := lane0;
      let L : Lane := { L with urgent := m :: r }; let L := L.wr Int.e0 0; let L := (L.wr Int.held 0).wr PSC_STATUS.STAGE 0;
      let L := (L.wr (Int.last 0x61) 3).wr (BGR_SEV.SEV 0x61 (sourceSeverity 0x61)) 4;
      let n : Nat := (m.cum + 65536 - L.rd (Int.last m.src)) % 65536;
      decide (L.urgent = m :: r ∧ m.forced = false ∧ fieldSource m.src = true ∧ n ≠ 0 ∧ L.severity m.src = 4 ∧ L.on Int.e0 = false ∧ L.canExit = true)) = true ∧
    (let m : FieldMsg := ⟨0x61, 5, 7, false⟩; let r : List FieldMsg := []; let L := lane0;
      let L : Lane := { L with urgent := m :: r }; let L := L.wr (Int.last 0x61) 7; let L : Lane := { L with urgent := m :: r };
      let L := L.wr (Int.last m.src) m.cum;
      decide (L.urgent = m :: r ∧ m.forced = false ∧ (m.cum + 65536 - L.rd (Int.last m.src)) % 65536 = 0)) = true ∧
    (let m : FieldMsg := ⟨0x61, 5, 7, true⟩; let r : List FieldMsg := []; let L := lane0;
      let L : Lane := { L with urgent := m :: r }; let L := (L.wr (Int.last 0x61) 3); decide (L.urgent = m :: r ∧ m.forced = true)) = true ∧
    (let m : FieldMsg := ⟨0x61, 5, 7, false⟩; let r : List UpItem := []; let L := lane0; let L : Lane := { L with urgent := [] };
      let L : Lane := { L with up := .fault m :: r }; decide (L.urgent = [] ∧ L.up = .fault m :: r)) = true ∧
    (let l : LaneId := .a; let L := lane0; let L : Lane := { L with urgent := [] }; let s := stateOf L;
      decide ((s.lane l).urgent = [] ∧ (s.lane l).up = [])) = true ∧
    (let src : Nat := 5; let cum : Nat := 1; let r : List DownItem := []; let L := lane0;
      let L : Lane := { L with down := .faultAck src cum :: r }; decide (L.down = .faultAck src cum :: r)) = true ∧
    (let l : LaneId := .a; let L := lane0; let s := stateOf L; decide ((s.lane l).down = [])) = true := by
  decide

theorem test_hyps_FaultLogAndSeverityWrites :
    (let L := lane0; let L := L.wr CFG_MODE_STATUS.DEVICE_MODE mService; let L := L.wr SSF_SEAL.READING (7);
      decide (L.mode = mService ∧ L.rd SSF_SEAL.READING = 7)) = true ∧
    (let L := lane0; let L := if L.mode ≠ mService then L else L.wr CFG_MODE_STATUS.DEVICE_MODE 5;
      decide ((L.mode ≠ mService ∨ L.rd SSF_SEAL.READING ≠ 7))) = true := by
  decide

theorem test_hyps_SyncMarkersMapTheTimebases :
    (let L := lane0; let L := L.wr COU_STATUS.LINK 1; decide (L.on COU_STATUS.LINK = true)) = true ∧
    (let l : LaneId := .a; let L := lane0; let L := L.wr COU_STATUS.LINK 0; let s := stateOf L;
      decide ((s.lane l).on COU_STATUS.LINK = false)) = true ∧
    (let L := lane0; let L := L.wr Int.syncFly 1; let L := L.wr Int.fieldLink 1;
      decide (L.on Int.syncFly = true ∧ L.on Int.fieldLink = true)) = true ∧
    (let L := lane0; let L := L.wr Int.syncFly 0; decide ((L.on Int.syncFly = false ∨ L.on Int.fieldLink = false))) = true := by
  decide

theorem test_hyps_FieldAccessesArePostedOrStall :
    (let p : Fin 4 := 1; let a : Nat := 0x60000000; let L := lane0; let L := L.wr COU_STATUS.LINK 1;
      let L : Lane := { L with couQueue := [] }; let L := if 0 < L.rd COU_STATUS.CREDITS then L else L.wr COU_STATUS.CREDITS (0 + 1);
      decide (fieldAssigned a = true ∧ a % 4 = 0 ∧ L.pairHeld p = false ∧ L.on COU_STATUS.LINK = true ∧ L.couQueue = [] ∧ 0 < L.rd COU_STATUS.CREDITS)) = true ∧
    (let p : Fin 4 := 3; let a : Nat := 0x60000000; let L := lane0; let L := L.wr COU_STATUS.LINK 1;
      let L := L.wr COU_STATUS.CREDITS (0);
      decide (fieldAssigned a = true ∧ a % 4 = 0 ∧ L.pairHeld p = false ∧ L.on COU_STATUS.LINK = true ∧ L.rd COU_STATUS.CREDITS = 0)) = true ∧
    (let p : Fin 4 := 0; let a : Nat := 0x60000100; let L := lane0;
      decide (fieldAddr a = true ∧ L.pairHeld p = false ∧ (a % 4 ≠ 0 ∨ L.on COU_STATUS.LINK = false ∨ fieldAssigned a = false))) = true ∧
    (let p : Fin 4 := 1; let a : Nat := 0x60000100; let L := lane0; let L := L.wr COU_STATUS.LINK 1;
      decide (fieldAddr a = true ∧ a % 4 = 0 ∧ L.pairHeld p = false ∧ L.on COU_STATUS.LINK = true)) = true ∧
    (let p : Fin 4 := 0; let a : Nat := 0x60000101; let L := lane0;
      decide (fieldAddr a = true ∧ L.pairHeld p = false ∧ (a % 4 ≠ 0 ∨ L.on COU_STATUS.LINK = false))) = true ∧
    (let p : Fin 4 := 1; let L := lane0; let L := L.wr (Int.readOut p) 1; decide (L.on (Int.readOut p) = true)) = true ∧
    (let l : LaneId := .a; let p : Fin 4 := 1; let L := lane0; let L := L.wr (Int.readOut p) 0; let s := stateOf L;
      decide ((s.lane l).on (Int.readOut p) = false)) = true ∧
    (let l : LaneId := .a; let p : Fin 4 := 3; let a : Nat := 5; let L := lane0; let s := stateOf L;
      decide ((fieldAddr a = false ∨ (s.lane l).pairHeld p = true))) = true := by
  decide

theorem test_hyps_FieldItemsReachTheHost :
    (let sp : List Nat := []; let fx : List Nat := []; let rn : List Nat := []; let v : Bool := true; let g : Bool := true;
      let r : List UpItem := []; let L := lane0; let L : Lane := { L with up := .status sp fx rn v g :: r };
      decide (L.up = .status sp fx rn v g :: r)) = true ∧
    (let l : LaneId := .a; let L := lane0; let s := stateOf L; decide ((s.lane l).up = [])) = true ∧
    (let kd : Nat := 2; let ax : Nat := 2; let ix : Nat := 2; let cs : Nat := 2; let r : List UpItem := []; let L := lane0;
      let L : Lane := { L with up := .event kd ax ix cs :: r }; decide (L.up = .event kd ax ix cs :: r ∧ L.evq.length < 32)) = true ∧
    (let kd : Nat := 1; let ax : Nat := 0; let ix : Nat := 1; let cs : Nat := 1; let r : List UpItem := []; let L := lane0;
      let L : Lane := { L with up := .event kd ax ix cs :: r }; let L : Lane := { L with evq := List.replicate 32 ⟨0, 0, 0, 0⟩ };
      decide (L.up = .event kd ax ix cs :: r ∧ 32 ≤ L.evq.length)) = true ∧
    (let p : Fin 4 := 3; let e : EvItem := ⟨0, 0, 0, 0⟩; let r : List EvItem := []; let L := lane0;
      let L : Lane := { L with evq := e :: r }; decide (L.evq = e :: r ∧ L.pairHeld p = false)) = true ∧
    (let p : Fin 4 := 3; let L := lane0; let L : Lane := { L with evq := [] }; decide (L.evq = [] ∧ L.pairHeld p = false)) = true ∧
    (let l : LaneId := .a; let p : Fin 4 := 3; let L := lane0; let L := L.wr (Int.pairStop p) 1; let s := stateOf L;
      decide ((s.lane l).pairHeld p = true)) = true := by
  decide

theorem test_hyps_CreditsAndLinkLosses_part1 :
    (let b : Bool := true; let r : List Bool := []; let L := lane0; let L : Lane := { L with downCredits := b :: r };
      let L : Lane := { L with couQueue := [] }; decide (L.downCredits = b :: r ∧ L.couQueue = [])) = true ∧
    (let b : Bool := true; let r : List Bool := []; let i : DownItem := .readCrc; let q : List DownItem := []; let L := lane0;
      let L : Lane := { L with downCredits := b :: r }; let L : Lane := { L with couQueue := i :: q };
      let L := L.wr COU_STATUS.CREDITS (0); decide (L.downCredits = b :: r ∧ L.couQueue = i :: q ∧ L.rd COU_STATUS.CREDITS = 0)) = true ∧
    (let l : LaneId := .a; let L := lane0; let L : Lane := { L with downCredits := [] }; let s := stateOf L;
      decide ((s.lane l).downCredits = [])) = true ∧
    (let i : DownItem := .readCrc; let r : List DownItem := []; let L := lane0; let L : Lane := { L with down := i :: r };
      let L : Lane := { L with couQueue := [] }; decide (L.down = i :: r ∧ L.couQueue = [])) = true ∧
    (let L := lane0; let L := if L.rd Int.upBack ≠ 0 then L else L.wr Int.upBack ((0) + 1);
      decide (L.rd Int.upBack ≠ 0 ∧ L.upQueue = [])) = true ∧
    (let l : LaneId := .a; let L := lane0; let L := L.wr Int.upBack (0); let s := stateOf L; decide ((s.lane l).rd Int.upBack = 0)) = true ∧
    (let i : UpItem := .crcResponse 5; let r : List UpItem := []; let L := lane0; let L : Lane := { L with up := i :: r };
      let L : Lane := { L with up := [i], upQueue := [] }; decide (L.up = i :: r ∧ L.upQueue = [])) = true ∧
    (let k : Fin 4 := 3; let p : Fin 2 := 1; let L := lane0;
      let L := if (L.felt p).length < L.rd (FLT_P_STATUS.OUTSTANDING p) then L else L.wr (FLT_P_STATUS.OUTSTANDING p) ((L.felt p).length + 1);
      decide ((k : Nat) = 2 + p ∧ L.feltWait p = [] ∧ (L.felt p).length < L.rd (FLT_P_STATUS.OUTSTANDING p))) = true ∧
    (let l : LaneId := .a; let k : Fin 4 := 3; let p : Fin 2 := 1; let L := lane0;
      let L := if L.rd (FLT_P_STATUS.OUTSTANDING p) ≤ (L.felt p).length then L else L.wr (FLT_P_STATUS.OUTSTANDING p) ((L.felt p).length);
      let s := stateOf L; decide ((k : Nat) = 2 + p ∧ (s.lane l).rd (FLT_P_STATUS.OUTSTANDING p) ≤ ((s.lane l).felt p).length)) = true ∧
    (let l : LaneId := .a; let L := lane0; let L : Lane := { L with down := [] }; let s := stateOf L; decide ((s.lane l).down = [])) = true ∧
    (let l : LaneId := .a; let L := lane0; let L : Lane := { L with up := [] }; let s := stateOf L; decide ((s.lane l).up = [])) = true ∧
    (let l : LaneId := .a; let L := lane0; let s := stateOf L; decide ((s.lane l).felt 0 = [])) = true ∧
    (let l : LaneId := .a; let L := lane0; let s := stateOf L; decide ((s.lane l).felt 1 = [])) = true ∧
    (let L := lane0; let L := L.wr COU_STATUS.LINK 1; let L := (L.wr Int.held 0).wr PSC_STATUS.STAGE 0;
      decide (L.on COU_STATUS.LINK = true ∧ L.canExit = true)) = true := by
  decide

theorem test_hyps_CreditsAndLinkLosses_part2 :
    (let L := lane0; let L := L.wr Int.fieldLink 1; decide (L.on Int.fieldLink = true)) = true ∧
    (let p : Fin 2 := 1; let k : Fin 15 := 3; let L := lane0; let L := L.wr (FLT_P_STATUS.LINK p) 1;
      let L := L.wr (FLT_P_STATUS.LINK 1) 1; decide ((k : Nat) = 2 + p ∧ L.on (FLT_P_STATUS.LINK p) = true)) = true ∧
    (let L := lane0; let L := L.wr MBX_STATUS.LINK 1; decide (L.on MBX_STATUS.LINK = true)) = true ∧
    (let L := lane0; let L := L.wr COU_STATUS.LINK 0; decide (L.on COU_STATUS.LINK = false)) = true ∧
    (let L := lane0; let L := L.wr Int.fieldLink 0; decide (L.on Int.fieldLink = false)) = true ∧
    (let L := lane0; let L := L.wr (FLT_P_STATUS.LINK 0) 0; decide (L.on (FLT_P_STATUS.LINK 0) = false)) = true ∧
    (let L := lane0; let L := L.wr (FLT_P_STATUS.LINK 1) 0; decide (L.on (FLT_P_STATUS.LINK 1) = false)) = true ∧
    (let L := lane0; let L := L.wr MBX_STATUS.LINK 0; decide (L.on MBX_STATUS.LINK = false)) = true ∧
    (let k : Fin 15 := 5; let L := lane0; let L := (L.wr Int.held 0).wr PSC_STATUS.STAGE 0;
      decide (5 ≤ (k : Nat) ∧ (k : Nat) < 12 ∧ L.canExit = true)) = true ∧
    (let k : Fin 15 := 14; decide (12 ≤ (k : Nat))) = true := by
  decide

theorem test_hyps_LinkStartsAgreeTheEpoch :
    (let k : Fin 15 := 0; let L := lane0; let L := (L.wr Int.held 0).wr PSC_STATUS.FABRIC 0 |>.wr PSC_SUPPLY.OK 7;
      let L := L.wr Int.fieldHeld 0; let L := L.wr Int.loadPhase (0);
      decide ((k : Nat) < 2 ∧ L.portsRun = true ∧ L.on Int.fieldHeld = false ∧ L.rd Int.loadPhase = 0)) = true ∧
    (let k : Fin 15 := 0; let L := lane0; let L := (L.wr Int.held 0).wr PSC_STATUS.FABRIC 0 |>.wr PSC_SUPPLY.OK 7;
      let L := L.wr Int.fieldHeld 0; let L := if L.rd Int.loadPhase ≠ 0 then L else L.wr Int.loadPhase ((0) + 1);
      let L := (L.wr Int.held 0).wr PSC_STATUS.STAGE 0;
      decide ((k : Nat) < 2 ∧ L.portsRun = true ∧ L.on Int.fieldHeld = false ∧ L.rd Int.loadPhase ≠ 0 ∧ L.canExit = true)) = true ∧
    (let l : LaneId := .a; let k : Fin 15 := 1; let L := lane0; let s := stateOf L;
      decide ((k : Nat) < 2 ∧ ((s.lane l).portsRun = false ∨ (s.lane l).on Int.fieldHeld = true))) = true ∧
    (let l : LaneId := .a; let m : LaneId := .b; let p : Fin 2 := 0; let k : Fin 15 := 2; let s : State := State.reset;
      let L : Lane := s.lane l; let L := (L.wr Int.held 0).wr PSC_STATUS.FABRIC 0 |>.wr PSC_SUPPLY.OK 7;
      let s : State := s.setLane l L; let s : State := s.setLane .b (((s.b.wr Int.held 0).wr PSC_STATUS.FABRIC 0).wr PSC_SUPPLY.OK 7);
      let M : Lane := s.b; let s : State := s.setLane l L; let L : Lane := s.lane l;
      decide ((k : Nat) = 2 + p ∧ m = laneNumbered (L.portPeer p) ∧ s.lane m = M ∧ l ≠ m ∧ s.variant.fitted l = true ∧ s.variant.fitted m = true ∧ L.portsRun = true ∧ M.portsRun = true)) = true ∧
    (let l : LaneId := .a; let L := lane0; let L := (L.wr Int.held 0).wr PSC_STATUS.FABRIC 0 |>.wr PSC_SUPPLY.OK 7;
      let L := L.wr Int.mbxOff 0; let s := stateOf L;
      decide (s.variant.fitted l = true ∧ (s.lane l).portsRun = true ∧ (s.lane l).on Int.mbxOff = false)) = true ∧
    (let k : Fin 15 := 14; decide (5 ≤ (k : Nat))) = true ∧
    (let l : LaneId := .a; let L := lane0; let s := stateOf L; decide ((s.lane l).portsRun = false)) = true := by
  decide

theorem test_hyps_ControlAndStopMessages :
    (let c : Control := .gRelease; let r : List DownItem := []; let L := lane0; let L : Lane := { L with down := .control c :: r };
      decide (L.down = .control c :: r)) = true ∧
    (let L := lane0; let L := L.wr FPS_STATUS.G_LATCHED 1; let L := L.wr STO_STATUS.EN_N (3);
      decide (L.on FPS_STATUS.G_LATCHED = true ∧ (∀ g : Nat, g < 12 → L.rd (PWM_GROUP_STATUS.OVERRIDE g) = 1) ∧ L.rd STO_STATUS.EN_N = 3)) = true ∧
    (let g : Nat := 0; let L := lane0; let L := L.wr FPS_STATUS.G_LATCHED 1;
      let L := if L.rd STO_STATUS.EN_N ≠ 3 then L else L.wr STO_STATUS.EN_N ((3) + 1); let L := (L.wr (PWM_GROUP_STATUS.OVERRIDE g) 0);
      decide (L.on FPS_STATUS.G_LATCHED = true ∧ g < 12 ∧ (L.rd (PWM_GROUP_STATUS.OVERRIDE g) ≠ 1 ∨ L.rd STO_STATUS.EN_N ≠ 3))) = true ∧
    (let n : Nat := 0; decide (n < 7)) = true ∧
    (let r : List DownItem := []; let L := lane0; let L : Lane := { L with down := .crcRestart :: r };
      decide (L.down = .crcRestart :: r)) = true ∧
    (let l : LaneId := .a; let L := lane0; let s := stateOf L; decide ((s.lane l).down = [])) = true ∧
    (let l : LaneId := .a; let src : LaneId := .b; let p : Nat := 1; let r : List FeltMsg := []; let s : State := State.reset;
      let L : Lane := s.lane l; let s : State := s.setLane l L;
      let s : State := s.setLane src { (s.lane src) with felt0 := .stopRequest :: r, felt1 := .stopRequest :: r };
      decide (l ≠ src ∧ s.variant.fitted l = true ∧ s.variant.fitted src = true ∧ p = (s.lane src).portTo l.num ∧ (s.lane src).felt p = .stopRequest :: r)) = true ∧
    (let l : LaneId := .a; let src : LaneId := .b; let p : Nat := 1; let mask : Nat := 1; let r : List FeltMsg := [];
      let s : State := State.reset; let L : Lane := s.lane l; let s : State := s.setLane l L;
      let s : State := s.setLane src { (s.lane src) with felt0 := .contReq mask :: r, felt1 := .contReq mask :: r };
      decide (l ≠ src ∧ s.variant.fitted l = true ∧ s.variant.fitted src = true ∧ p = (s.lane src).portTo l.num ∧ (s.lane src).felt p = .contReq mask :: r)) = true ∧
    (let l : LaneId := .a; let src : LaneId := .a; let L := lane0; let s := stateOf L;
      decide ((s.lane src).felt ((s.lane src).portTo l.num) = [])) = true := by
  decide

theorem test_hyps_CoreWritesToMemory :
    (let p : Fin 4 := 3; let a : Nat := 0x203FFFFC; let L := lane0; let L := (L.wr SCH_CFG.LOCK 0).wr Int.ngbLock 0;
      decide (L.pairHeld p = false ∧ sramRange a = true ∧ ¬ (graphRange a = true ∧ L.on SCH_CFG.LOCK = true) ∧ ¬ (scheduleRange a = true ∧ L.on Int.ngbLock = true))) = true ∧
    (let p : Fin 4 := 3; let a : Nat := 0; let L := lane0; decide (L.pairHeld p = false ∧ tcmRange a = true)) = true ∧
    (let p : Fin 4 := 0; let a : Nat := 0x203FFFFC; let L := lane0; let L := L.wr SCH_CFG.LOCK 1;
      decide (L.pairHeld p = false ∧ graphRange a = true ∧ L.on SCH_CFG.LOCK = true)) = true ∧
    (let l : LaneId := .a; let a : Nat := 0x203CFFFC; let L := lane0; let L := L.wr Int.ngbLock 1; let s := stateOf L;
      decide (scheduleRange a = true ∧ (s.lane l).on Int.ngbLock = true)) = true ∧
    (let p : Fin 4 := 1; let a : Nat := 0x80000; let L := lane0; decide (L.pairHeld p = false ∧ assigned a = false)) = true ∧
    (let a : Nat := 0x80; decide (assigned a = true)) = true ∧
    (let a : Nat := 0x400EFFFF; decide (hostWindow a = true ∧ a % 4 ≠ 0)) = true ∧
    (let l : LaneId := .a; let p : Fin 4 := 3; let L := lane0; let L := L.wr (Int.pairStop p) 1; let s := stateOf L;
      decide ((s.lane l).pairHeld p = true)) = true := by
  decide

theorem test_hyps_RegisterWriteItemsAndClamps :
    (let a : Nat := 1; let d : Nat := 2; let r : List DownItem := []; let L := lane0;
      let L : Lane := { L with down := .write a d :: r }; decide (L.down = .write a d :: r)) = true ∧
    (let l : LaneId := .a; let L := lane0; let s := stateOf L; decide ((s.lane l).down = [])) = true ∧
    (let a : Nat := 0x60000002; decide (fieldAddr a = true)) = true ∧
    (let p : Fin 4 := 3; let L := lane0; decide (L.pairHeld p = false)) = true ∧
    (let v : Nat := 2; let L := lane0; decide (clampN 250 2000 (v % 2048) ≠ L.rd LSC_AGR_CFG.FRAME)) = true ∧
    (let v : Nat := 500; let L := lane0; let L := L.wr LSC_AGR_CFG.FRAME (if v = 249 then 250 else v);
      decide (clampN 250 2000 (v % 2048) = L.rd LSC_AGR_CFG.FRAME)) = true := by
  decide

theorem test_hyps_FrameStartAndFrameMessage :
    (let L := lane0;
      let L := (L.wr Int.held 0).wr PSC_STATUS.FABRIC 0 |>.wr PSC_SUPPLY.OK 7 |>.wr CFG_MODE_STATUS.LANE_STATE stReady;
      decide (L.framesRun = true ∧ L.now % (1000 * L.rd LSC_AGR_CFG.FRAME) = 0)) = true ∧
    (let l : LaneId := .a; let L := lane0; let L := (L.wr LSC_AGR_CFG.FRAME 250).wr Int.laneTime 7; let s := stateOf L;
      decide ((s.lane l).now % (1000 * (s.lane l).rd LSC_AGR_CFG.FRAME) ≠ 0)) = true ∧
    (let L := lane0;
      let L := (L.wr Int.held 0).wr PSC_STATUS.FABRIC 0 |>.wr PSC_SUPPLY.OK 7 |>.wr CFG_MODE_STATUS.LANE_STATE stReady;
      let L := L.wr Int.frameOpen 1; let L := L.wr Int.readyDone 0;
      decide (L.framesRun = true ∧ L.on Int.frameOpen = true ∧ L.on Int.readyDone = false)) = true ∧
    (let L := lane0;
      let L := (L.wr Int.held 0).wr PSC_STATUS.FABRIC 0 |>.wr PSC_SUPPLY.OK 7 |>.wr CFG_MODE_STATUS.LANE_STATE stReady;
      let L := L.wr Int.readyDone 1; decide (L.framesRun = true ∧ (L.on Int.frameOpen = false ∨ L.on Int.readyDone = true))) = true ∧
    (let l : LaneId := .a; let L := lane0;
      let L := (L.wr Int.held 0).wr PSC_STATUS.FABRIC 0 |>.wr PSC_SUPPLY.OK 7 |>.wr CFG_MODE_STATUS.LANE_STATE stReady;
      let L := L.wr Int.frameOpen 0; let s := stateOf L;
      decide ((s.lane l).framesRun = true ∧ ((s.lane l).on Int.frameOpen = false ∨ (s.lane l).on Int.readyDone = true))) = true ∧
    (let l : LaneId := .a; let L := lane0; let s := stateOf L; decide ((s.lane l).framesRun = false)) = true := by
  decide

theorem test_hyps_FrameReceiptAndWindowClose :
    (let l : LaneId := .a; let src : LaneId := .b; let p : Nat := 1;
      let m : FrameMsg := ⟨5, 0, 0, 0, 0, 0, false, false, false, false, 0, 0, false, [], [], [], 0, 0, false, 0, 0, false, false, 0, none, 0, 0, false⟩;
      let r : List FeltMsg := []; let s : State := State.reset; let L : Lane := s.lane l; let s : State := s.setLane l L;
      let s : State := s.setLane src { (s.lane src) with felt0 := .frame m :: r, felt1 := .frame m :: r };
      decide (l ≠ src ∧ s.variant.fitted l = true ∧ s.variant.fitted src = true ∧ p = (s.lane src).portTo l.num ∧ (s.lane src).felt p = .frame m :: r)) = true ∧
    (let p : Nat := 0; let L := lane0; let L := if L.rd (FLT_P_LQ.LAT_MAX p) ≤ 255 then L else L.wr (FLT_P_LQ.LAT_MAX p) (255);
      decide (L.rd (FLT_P_LQ.LAT_MAX p) ≤ 255)) = true ∧
    (let L := lane0; let L := L.wr Int.frameOpen 1; decide (L.on Int.frameOpen = true)) = true ∧
    (let L := lane0; let L := L.wr Int.frameOpen 0; decide (L.on Int.frameOpen = false)) = true ∧
    (let l : LaneId := .a; let src : LaneId := .b; let L := lane0; let s := stateOf L;
      decide ((s.lane src).felt ((s.lane src).portTo l.num) = [])) = true ∧
    (let L := lane0;
      let L := (L.wr Int.held 0).wr PSC_STATUS.FABRIC 0 |>.wr PSC_SUPPLY.OK 7 |>.wr CFG_MODE_STATUS.LANE_STATE stReady;
      let L := L.wr Int.frameOpen 1; decide (L.framesRun = true ∧ L.on Int.frameOpen = true)) = true ∧
    (let l : LaneId := .a; let L := lane0; let s := stateOf L;
      decide (((s.lane l).framesRun = false ∨ (s.lane l).on Int.frameOpen = false))) = true ∧
    (let ds : List Decision := [⟨3, 5, 2, 0, 0⟩, ⟨1, 5, 2, 0, 0⟩, ⟨2, 5, 2, 0, 0⟩]; let d : Decision := ⟨1, 5, 2, 0, 0⟩;
      decide (firstDecision ds = some d)) = true ∧
    (let ds : List Decision := [⟨3, 5, 2, 0, 0⟩, ⟨1, 5, 2, 0, 0⟩, ⟨2, 5, 2, 0, 0⟩]; let d : Decision := ⟨1, 5, 2, 0, 0⟩;
      let e : Decision := ⟨2, 5, 2, 0, 0⟩; decide (firstDecision ds = some d ∧ e ∈ ds)) = true := by
  decide

theorem test_hyps_ModeRequestsAndTransitions :
    (let L := lane0; let L := L.wr Int.waiting 1; decide (L.on Int.waiting = true)) = true ∧
    (let l : LaneId := .a; let L := lane0; let L := L.wr Int.waiting 0; let s := stateOf L;
      decide ((s.lane l).on Int.waiting = false)) = true ∧
    (let m : Nat := 5; let cause : Nat := 7; let lane : Nat := 2; let L := lane0;
      let L := if L.mode ≠ m then L else L.wr CFG_MODE_STATUS.DEVICE_MODE 5;
      let L := if L.mode < 16 then L else L.wr CFG_MODE_STATUS.DEVICE_MODE 5; let L := L.wr CFG_MODE_STATUS.DEVICE_MODE 4;
      decide (L.mode ≠ m ∧ m < 16 ∧ cause < 256 ∧ lane < 4 ∧ L.mode < 16 ∧ (L.mode ≠ mService ∨ m ≠ mStandby))) = true := by
  decide

theorem test_hyps_KeysAndResetsOfALane_part1 :
    (let L := lane0; let L := L.wr Int.keyOn 0; decide (L.on Int.keyOn = false)) = true ∧
    (let l : LaneId := .a; let L := lane0; let L := L.wr Int.keyOn 1; let s := stateOf L; decide ((s.lane l).on Int.keyOn = true)) = true ∧
    (let L := lane0; let L := L.wr Int.keyOn 0; let L := if L.state ≠ stAsleep then L else L.wr CFG_MODE_STATUS.LANE_STATE 5;
      let L := if L.mode ≠ mShutdown then L else L.wr CFG_MODE_STATUS.DEVICE_MODE 5;
      decide (L.on Int.keyOn = false ∧ L.state ≠ stAsleep ∧ L.mode ≠ mShutdown)) = true ∧
    (let L := lane0; let L := L.wr Int.keyOn 0; let L := L.wr CFG_MODE_STATUS.LANE_STATE stAsleep;
      decide (L.on Int.keyOn = false ∧ L.state = stAsleep)) = true ∧
    (let L := lane0; let L := L.wr Int.keyOn 0; let L := if L.state ≠ stAsleep then L else L.wr CFG_MODE_STATUS.LANE_STATE 5;
      let L := L.wr CFG_MODE_STATUS.DEVICE_MODE mShutdown; let L := L.wr PSC_STATUS.LEVEL_NOW (0); let L := L.wr Int.pscN4 0;
      decide (L.on Int.keyOn = false ∧ L.state ≠ stAsleep ∧ L.mode = mShutdown ∧ L.rd PSC_STATUS.LEVEL_NOW = 0 ∧ L.on Int.pscN4 = false)) = true ∧
    (let L := lane0; let L := L.wr Int.e0 0; let L := (L.wr Int.held 0).wr PSC_STATUS.STAGE 0;
      let L := (L.wr Int.held 0).wr PSC_STATUS.STAGE 0; decide (L.on Int.e0 = false ∧ L.canExit = true)) = true ∧
    (let L := lane0; let L := L.wr Int.e0 0; let L := L.wr Int.held 0;
      let L := ((L.wr PSC_STATUS.STAGE 3).wr Int.pscN3 1).wr Int.pscAsk 3 |>.wr Int.pscN4 0;
      decide (L.on Int.e0 = false ∧ L.on Int.held = false ∧ L.canExit = false)) = true ∧
    (let L := lane0; let L := L.wr Int.held 1; decide (L.on Int.held = true)) = true ∧
    (let L := lane0; let L := if L.state ≠ stFailed then L else L.wr CFG_MODE_STATUS.LANE_STATE 5; let L := L.wr Int.hfoRec 0;
      decide (L.state ≠ stFailed ∧ L.on Int.hfoRec = false)) = true ∧
    (let L := lane0; let L := L.wr CFG_MODE_STATUS.LANE_STATE stExited; let L := L.wr CFG_LANE_RST.AUTO_REJOIN 1;
      let L := if L.rd (exitsOf L.me) < 3 then L else L.wr (exitsOf L.me) ((3) - 1);
      decide (L.state = stExited ∧ L.on CFG_LANE_RST.AUTO_REJOIN = true ∧ L.rd (exitsOf L.me) < 3)) = true ∧
    (let L := lane0; let L := L.wr CFG_MODE_STATUS.LANE_STATE stExited; let L := L.wr CFG_LANE_RST.AUTO_REJOIN 1;
      let L := if L.rd (exitsOf L.me) < 3 then L else L.wr (exitsOf L.me) ((3) - 1); let L := L.wr Int.hfoRec 0;
      decide (L.state = stExited ∧ L.on CFG_LANE_RST.AUTO_REJOIN = true ∧ L.rd (exitsOf L.me) < 3 ∧ L.on Int.hfoRec = false)) = true ∧
    (let L := lane0; let L := L.wr CFG_LANE_RST.AUTO_REJOIN 0; let L := L.wr CFG_MODE_STATUS.LANE_STATE stExited;
      decide ((L.state ≠ stExited ∨ L.on CFG_LANE_RST.AUTO_REJOIN = false ∨ 3 ≤ L.rd (exitsOf L.me)))) = true ∧
    (let L := lane0; let L := (L.wr CFG_MODE_STATUS.LANE_STATE stExited).wr CFG_MODE_STATUS.DEVICE_MODE mStandby;
      decide (L.resetAllowed = true)) = true ∧
    (let L := lane0; let L := if L.state ≠ stFailed then L else L.wr CFG_MODE_STATUS.LANE_STATE 5; let L := L.wr Int.hfoRec 0;
      let L := (L.wr CFG_MODE_STATUS.LANE_STATE stExited).wr CFG_MODE_STATUS.DEVICE_MODE mStandby;
      decide (L.resetAllowed = true ∧ L.state ≠ stFailed ∧ L.on Int.hfoRec = false)) = true := by
  decide

theorem test_hyps_KeysAndResetsOfALane_part2 :
    (let L := lane0; decide (L.resetAllowed = false)) = true := by
  decide

theorem test_hyps_SafeStopRequestsAndTimes :
    (let L := lane0; let L := L.wr SSF_STATUS.SSREQ 0; let L := L.wr CFG_MODE_STATUS.DEVICE_MODE mOperate2;
      let L := L.wr SSF_STATUS.SS_ACTIVE 0; let L := if L.rd Int.restrict < 16 then L else L.wr Int.restrict ((16) - 1);
      decide (L.on SSF_STATUS.SSREQ = false ∧ operating L.mode = true ∧ L.on SSF_STATUS.SS_ACTIVE = false ∧ L.rd Int.restrict < 16)) = true ∧
    (let L := lane0; let L := L.wr SSF_STATUS.SSREQ 0; let L := if L.mode ≠ mService then L else L.wr CFG_MODE_STATUS.DEVICE_MODE 5;
      decide (L.on SSF_STATUS.SSREQ = false ∧ operating L.mode = false ∧ L.mode ≠ mService)) = true ∧
    (let L := lane0; let L := L.wr SSF_STATUS.SSREQ 0; let L := L.wr CFG_MODE_STATUS.DEVICE_MODE mService;
      decide (L.on SSF_STATUS.SSREQ = false ∧ L.mode = mService)) = true ∧
    (let l : LaneId := .a; let L := lane0; let L := L.wr SSF_STATUS.SSREQ 1; let s := stateOf L;
      decide ((s.lane l).on SSF_STATUS.SSREQ = true)) = true ∧
    (let L := lane0; let L := L.wr SSF_STATUS.SS_ACTIVE 1; let L := L.wr SSF_STATUS.STILL 0;
      decide (L.on SSF_STATUS.SS_ACTIVE = true ∧ L.on SSF_STATUS.STILL = false)) = true ∧
    (let l : LaneId := .a; let L := lane0; let L := L.wr SSF_STATUS.STILL 1; let s := stateOf L;
      decide (((s.lane l).on SSF_STATUS.SS_ACTIVE = false ∨ (s.lane l).on SSF_STATUS.STILL = true))) = true := by
  decide

theorem test_hyps_StoForcesEveryGatePadLow :
    (let L := lane0; let L := L.wr COU_STATUS.LINE (2); let L := if L.rd Int.line ≠ 2 then L else L.wr Int.line ((2) + 1);
      decide (L.rd COU_STATUS.LINE = 2 ∧ L.rd Int.line ≠ 2)) = true ∧
    (let l : LaneId := .a; let L := lane0; let L := L.wr COU_STATUS.LINE (L.rd Int.line); let s := stateOf L;
      decide ((s.lane l).rd COU_STATUS.LINE = (s.lane l).rd Int.line)) = true ∧
    (let c : Fin 2 := 1; let L := lane0; let L := L.putBit Int.stoTestDue c true; let L := L.putBit STO_STATUS.TRIP c false;
      decide (L.bitOf Int.stoTestDue c = true ∧ L.bitOf STO_STATUS.TRIP c = false)) = true ∧
    (let l : LaneId := .a; let c : Fin 2 := 1; let L := lane0; let L := L.putBit Int.stoTestDue c false; let s := stateOf L;
      decide (((s.lane l).bitOf Int.stoTestDue c = false ∨ (s.lane l).bitOf STO_STATUS.TRIP c = true))) = true ∧
    (let L := lane0; let L := L.wr STO_CFG.FREEZE_EN 1;
      let L := (L.wr FPS_STATUS.G_LATCHED 0).wr (Int.stoGroup 0) 0 |>.wr (PWM_GROUP_STATUS.OVERRIDE 0) 3 |>.wr (Int.ascPend 0) 0;
      decide (L.on STO_CFG.FREEZE_EN = true ∧ L.anyPadHigh = true)) = true ∧
    (let l : LaneId := .a; let L := lane0; let s := stateOf L;
      decide (((s.lane l).on STO_CFG.FREEZE_EN = false ∨ (s.lane l).anyPadHigh = false))) = true := by
  decide

theorem test_hyps_SealReadingsAndLoop :
    (let c : Fin 8 := 7; let L := lane0; let L := L.wr Int.sealLast (c);
      let L := if 7 ≤ L.rd Int.sealCnt then L else L.wr Int.sealCnt (7);
      let L := if L.rd SSF_SEAL.READING ≠ c then L else L.wr SSF_SEAL.READING ((c) + 1);
      decide (L.rd Int.sealLast = c ∧ 7 ≤ L.rd Int.sealCnt ∧ L.rd SSF_SEAL.READING ≠ c)) = true ∧
    (let c : Fin 8 := 0; let L := lane0; let L := L.wr SSF_SEAL.READING (c);
      decide ((L.rd Int.sealLast ≠ c ∨ L.rd Int.sealCnt < 7 ∨ L.rd SSF_SEAL.READING = c))) = true ∧
    (let L := lane0; let L := L.wr SSF_SEAL.READING (7); decide (L.rd SSF_SEAL.READING = 7)) = true ∧
    (let L := lane0; let L := if L.rd SSF_SEAL.READING ≠ 7 then L else L.wr SSF_SEAL.READING ((7) + 1);
      decide (L.rd SSF_SEAL.READING ≠ 7)) = true ∧
    (let L := lane0; let L := if L.rd SSF_SEAL.READING ≠ 7 then L else L.wr SSF_SEAL.READING ((7) + 1);
      let L := if 1 ≤ L.rd Int.loopBad then L else L.wr Int.loopBad (1); decide (L.rd SSF_SEAL.READING ≠ 7 ∧ 1 ≤ L.rd Int.loopBad)) = true ∧
    (let L := lane0; let L := if L.rd SSF_SEAL.READING ≠ 7 then L else L.wr SSF_SEAL.READING ((7) + 1);
      let L := L.wr Int.loopBad (0); decide (L.rd SSF_SEAL.READING ≠ 7 ∧ L.rd Int.loopBad = 0)) = true := by
  decide

theorem test_hyps_LeaseRolesChangeAsTheTimersSay :
    (let L := lane0; let L := L.wr LSE_STATUS.ROLE 3; decide (L.holds = true)) = true ∧
    (let l : LaneId := .a; let L := lane0; let s := stateOf L; decide ((s.lane l).holds = false)) = true ∧
    (let L := lane0; let L := L.wr Int.watchArmed 1; let L := L.wr LSE_STATUS.ROLE 1;
      let L := (L.wr CFG_MODE_STATUS.LANE_STATE stActive).wr Int.e0 0 |>.wr CFG_MODE_STATUS.DEVICE_MODE mStandby;
      let L := if L.rd LSE_STATUS.ROLE = 5 then L.wr LSE_STATUS.ROLE 1 else L;
      let L := if 2 ≤ L.rd Int.ngbOk then L else L.wr Int.ngbOk (2); let L := L.wr PSC_STATUS.SA (0);
      decide (L.on Int.watchArmed = true ∧ L.isStandby = true ∧ L.eligible = true ∧ 2 ≤ L.rd Int.ngbOk ∧ (L.rd PSC_STATUS.SA = 0 ∨ L.rd PSC_STATUS.STAGE = 0))) = true ∧
    (let L := lane0; decide ((L.on Int.watchArmed = false ∨ L.isStandby = false ∨ L.eligible = false ∨ L.rd Int.ngbOk < 2))) = true ∧
    (let L := lane0; let L := L.wr LSE_STATUS.ROLE (2); decide (L.rd LSE_STATUS.ROLE = 2 ∧ L.eligible = false)) = true ∧
    (let L := lane0; let L := L.wr LSE_STATUS.ROLE (2);
      let L := (L.wr CFG_MODE_STATUS.LANE_STATE stActive).wr Int.e0 0 |>.wr CFG_MODE_STATUS.DEVICE_MODE mStandby;
      let L := if L.rd LSE_STATUS.ROLE = 5 then L.wr LSE_STATUS.ROLE 1 else L; let L := L.wr PSC_STATUS.SA (0);
      decide (L.rd LSE_STATUS.ROLE = 2 ∧ L.eligible = true ∧ L.rd PSC_STATUS.SA = 0)) = true ∧
    (let L := lane0; let L := L.wr LSE_STATUS.ROLE (2);
      let L := (L.wr CFG_MODE_STATUS.LANE_STATE stActive).wr Int.e0 0 |>.wr CFG_MODE_STATUS.DEVICE_MODE mStandby;
      let L := if L.rd LSE_STATUS.ROLE = 5 then L.wr LSE_STATUS.ROLE 1 else L;
      let L := if L.rd PSC_STATUS.SA ≠ 0 then L else L.wr PSC_STATUS.SA ((0) + 1);
      decide (L.rd LSE_STATUS.ROLE = 2 ∧ L.eligible = true ∧ L.rd PSC_STATUS.SA ≠ 0)) = true ∧
    (let l : LaneId := .a; let L := lane0; let L := if L.rd LSE_STATUS.ROLE ≠ 2 then L else L.wr LSE_STATUS.ROLE ((2) + 1);
      let s := stateOf L; decide ((s.lane l).rd LSE_STATUS.ROLE ≠ 2)) = true ∧
    (let L := lane0; let L := L.wr CFG_MODE_STATUS.DEVICE_MODE mShutdown; let L := L.wr LSE_STATUS.ROLE 3;
      decide (L.mode = mShutdown ∧ L.holds = true)) = true ∧
    (let l : LaneId := .a; let L := lane0; let s := stateOf L; decide (((s.lane l).mode ≠ mShutdown ∨ (s.lane l).holds = false))) = true := by
  decide

theorem test_hyps_PlannedHandoverSwapAndSnapshots :
    (let L := lane0; let L := L.wr LSE_STATUS.ROLE (3);
      let L := if L.rd LSE_STATUS.SUCCESSOR < 3 then L else L.wr LSE_STATUS.SUCCESSOR ((3) - 1);
      decide (L.rd LSE_STATUS.ROLE = 3 ∧ L.rd LSE_STATUS.SUCCESSOR < 3)) = true ∧
    (let l : LaneId := .a; let L := lane0; let L := L.wr LSE_STATUS.SUCCESSOR (3); let s := stateOf L;
      decide (((s.lane l).rd LSE_STATUS.ROLE ≠ 3 ∨ (s.lane l).rd LSE_STATUS.SUCCESSOR = 3))) = true ∧
    (let l : LaneId := .a; let L := lane0; let L := L.wr LSE_CFG.SWAP_EN 0; let s := stateOf L;
      decide (((s.lane l).on LSE_CFG.SWAP_EN = false ∨ (s.lane l).rd LSE_STATUS.ROLE ≠ 3))) = true ∧
    (let L := lane0; let L := L.wr LSE_CFG.SWAP_EN 1; let L := L.wr LSE_STATUS.ROLE (3);
      decide (L.on LSE_CFG.SWAP_EN = true ∧ L.rd LSE_STATUS.ROLE = 3 ∧ L.swapBlocked = true)) = true ∧
    (let L := lane0; let L := L.wr LSE_STATUS.ROLE (3); let L := L.wr Int.prefDue 0; let L := L.wr Int.swapDue 1;
      let L := ((L.wr CFG_MODE_STATUS.DEVICE_MODE mStandby).wr Int.eligMask 7).wr LSE_CFG.PREF 1;
      let L := L.forN 4 (fun k K => K.wr (PWM_OUT_CFG.SA_ROUTE (48 + k)) 0);
      decide (L.rd LSE_STATUS.ROLE = 3 ∧ L.on Int.prefDue = false ∧ L.on Int.swapDue = true ∧ L.swapBlocked = false)) = true ∧
    (let L := lane0; let L := L.wr LSE_CFG.SWAP_EN 1; let L := L.wr LSE_STATUS.ROLE (3);
      let L := ((L.wr CFG_MODE_STATUS.DEVICE_MODE mStandby).wr Int.eligMask 7).wr LSE_CFG.PREF 1;
      let L := L.forN 16 (fun k K => K.wr (PWM_OUT_CFG.SA_ROUTE (48 + k)) 0);
      decide (L.on LSE_CFG.SWAP_EN = true ∧ L.rd LSE_STATUS.ROLE = 3 ∧ L.swapBlocked = false)) = true ∧
    (let L := lane0; let L := L.wr LSE_STATUS.ROLE (3); let L := if L.rd LSE_CFG.PREF < 3 then L else L.wr LSE_CFG.PREF ((3) - 1);
      let L := if L.rd LSE_CFG.PREF ≠ L.me then L else L.wr LSE_CFG.PREF ((L.me) + 1);
      let L := L.putBit Int.eligMask (L.rd LSE_CFG.PREF) true;
      decide (L.rd LSE_STATUS.ROLE = 3 ∧ L.rd LSE_CFG.PREF < 3 ∧ L.rd LSE_CFG.PREF ≠ L.me ∧ L.bitOf Int.eligMask (L.rd LSE_CFG.PREF) = true)) = true ∧
    (let L := lane0; let L := L.wr LSE_CFG.PREF (L.me);
      decide ((L.rd LSE_STATUS.ROLE ≠ 3 ∨ 3 ≤ L.rd LSE_CFG.PREF ∨ L.rd LSE_CFG.PREF = L.me ∨ L.bitOf Int.eligMask (L.rd LSE_CFG.PREF) = false))) = true ∧
    (let L := lane0; let L := L.wr LSE_STATUS.ROLE 3; decide (L.holds = true)) = true ∧
    (let l : LaneId := .a; let L := lane0; let s := stateOf L; decide ((s.lane l).holds = false)) = true ∧
    (let L := lane0; let L := L.wr LSE_STATUS.ROLE (2); decide ((L.on LSE_STATUS.DRIVING = true ∨ L.rd LSE_STATUS.ROLE = 2))) = true ∧
    (let l : LaneId := .a; let L := lane0; let L := L.wr LSE_STATUS.DRIVING 0;
      let L := if L.rd LSE_STATUS.ROLE ≠ 2 then L else L.wr LSE_STATUS.ROLE ((2) + 1); let s := stateOf L;
      decide ((s.lane l).on LSE_STATUS.DRIVING = false ∧ (s.lane l).rd LSE_STATUS.ROLE ≠ 2)) = true ∧
    (let L := lane0; let L := L.wr CFG_MODE_STATUS.DEVICE_MODE mService; decide (L.mode = mService)) = true ∧
    (let l : LaneId := .a; let L := lane0; let L := if L.mode ≠ mService then L else L.wr CFG_MODE_STATUS.DEVICE_MODE 5;
      let s := stateOf L; decide ((s.lane l).mode ≠ mService)) = true := by
  decide

theorem test_hyps_LeaseMessagesAndSaPower_part1 :
    (let l : LaneId := .a; let src : LaneId := .b; let p : Nat := 1; let x : FeltMsg := .stopRequest; let r : List FeltMsg := [];
      let s : State := State.reset; let L : Lane := s.lane l; let s : State := s.setLane l L;
      let s : State := s.setLane src { (s.lane src) with felt0 := x :: r, felt1 := x :: r };
      decide (l ≠ src ∧ s.variant.fitted l = true ∧ s.variant.fitted src = true ∧ p = (s.lane src).portTo l.num ∧ (s.lane src).felt p = x :: r)) = true ∧
    (let l : LaneId := .a; let src : LaneId := .b; let p : Nat := 1; let x : FeltMsg := .claim 65535; let r : List FeltMsg := [];
      let q : Nat := 65535; let s : State := State.reset; let L : Lane := s.lane l; let s : State := s.setLane l L;
      let s : State := s.setLane src { (s.lane src) with felt0 := x :: r, felt1 := x :: r };
      decide (l ≠ src ∧ s.variant.fitted l = true ∧ s.variant.fitted src = true ∧ p = (s.lane src).portTo l.num ∧ (s.lane src).felt p = x :: r ∧ x = .claim q)) = true ∧
    (let l : LaneId := .a; let src : LaneId := .b; let p : Nat := 1; let x : FeltMsg := .release 7 2; let r : List FeltMsg := [];
      let q : Nat := 7; let n : Nat := 2; let s : State := State.reset; let L : Lane := s.lane l; let s : State := s.setLane l L;
      let s : State := s.setLane src { (s.lane src) with felt0 := x :: r, felt1 := x :: r };
      decide (l ≠ src ∧ s.variant.fitted l = true ∧ s.variant.fitted src = true ∧ p = (s.lane src).portTo l.num ∧ (s.lane src).felt p = x :: r ∧ x = .release q n)) = true ∧
    (let l : LaneId := .a; let src : LaneId := .b; let p : Nat := 1; let x : FeltMsg := .handover 7; let r : List FeltMsg := [];
      let q : Nat := 7; let s : State := State.reset; let L : Lane := s.lane l; let s : State := s.setLane l L;
      let s : State := s.setLane src { (s.lane src) with felt0 := x :: r, felt1 := x :: r };
      decide (l ≠ src ∧ s.variant.fitted l = true ∧ s.variant.fitted src = true ∧ p = (s.lane src).portTo l.num ∧ (s.lane src).felt p = x :: r ∧ x = .handover q)) = true ∧
    (let l : LaneId := .a; let src : LaneId := .b; let p : Nat := 1; let x : FeltMsg := .snapshot ⟨0, 0, 0, 0, 0, 0⟩;
      let r : List FeltMsg := []; let m : Snapshot := ⟨0, 0, 0, 0, 0, 0⟩; let s : State := State.reset; let L : Lane := s.lane l;
      let s : State := s.setLane l L; let s : State := s.setLane src { (s.lane src) with felt0 := x :: r, felt1 := x :: r };
      decide (l ≠ src ∧ s.variant.fitted l = true ∧ s.variant.fitted src = true ∧ p = (s.lane src).portTo l.num ∧ (s.lane src).felt p = x :: r ∧ x = .snapshot m)) = true ∧
    (let l : LaneId := .a; let src : LaneId := .a; let L := lane0; let s := stateOf L;
      let ms : List FeltMsg := (s.lane src).felt ((s.lane src).portTo l.num);
      decide (ms = (s.lane src).felt ((s.lane src).portTo l.num))) = true ∧
    (let l : LaneId := .a; let src : LaneId := .a; let L := lane0; let s := stateOf L;
      let ms : List FeltMsg := (s.lane src).felt ((s.lane src).portTo l.num);
      decide (ms = (s.lane src).felt ((s.lane src).portTo l.num) ∧ ms = [])) = true ∧
    (let n : Nat := 2; let q : Nat := 8; let L := lane0; let L := if L.rd LSE_STATUS.ROLE ≤ 1 then L else L.wr LSE_STATUS.ROLE (1);
      let L := L.wr Int.watchSeq 7; decide (n < 3 ∧ q < 65536 ∧ L.rd LSE_STATUS.ROLE ≤ 1 ∧ seqNewer q (L.rd Int.watchSeq) = true)) = true ∧
    (let n : Nat := 2; let q : Nat := 8; let L := lane0; let L := L.wr LSE_STATUS.ROLE 3; let L := L.wr Int.watchSeq 7;
      decide (n < 3 ∧ q < 65536 ∧ L.holds = true ∧ seqNewer q (L.rd Int.watchSeq) = true)) = true ∧
    (let n : Nat := 2; let L := lane0; let L := L.wr LSE_STATUS.ROLE (2); let L := L.wr Int.watchSeq 7;
      decide (n < 3 ∧ L.rd LSE_STATUS.ROLE = 2)) = true ∧
    (let n : Nat := 0; let L := lane0; let L := L.wr LSE_STATUS.ROLE (2);
      let L : Lane := { Lane.reset ⟨.c, .t⟩ with regs := L.regs }; decide (n < 3 ∧ L.rd LSE_STATUS.ROLE = 2 ∧ n < L.me)) = true ∧
    (let n : Nat := 2; let L := lane0; let L := L.wr LSE_STATUS.ROLE (2); let L := L.wr Int.watchSeq 7;
      decide (n < 3 ∧ L.rd LSE_STATUS.ROLE = 2 ∧ L.me < n)) = true ∧
    (let q : Nat := 8; let L := lane0; let L := L.wr LSE_STATUS.ROLE 1;
      let L := (L.wr CFG_MODE_STATUS.LANE_STATE stActive).wr Int.e0 0 |>.wr CFG_MODE_STATUS.DEVICE_MODE mStandby;
      let L := if L.rd LSE_STATUS.ROLE = 5 then L.wr LSE_STATUS.ROLE 1 else L; let L := L.wr PSC_STATUS.SA (0);
      let L := L.wr Int.watchSeq 7;
      decide (q < 65536 ∧ L.isStandby = true ∧ L.eligible = true ∧ seqNewer q (L.rd Int.watchSeq) = true ∧ (L.rd PSC_STATUS.SA = 0 ∨ L.rd PSC_STATUS.STAGE = 0))) = true ∧
    (let q : Nat := 2; let n : Nat := 1; let L := lane0; let L := L.wr LSE_STATUS.ROLE 3;
      decide (q < 65536 ∧ seqNewer q (L.rd Int.watchSeq) = true ∧ (L.holds = true ∨ (L.rd LSE_STATUS.ROLE = 2 ∧ n ≠ L.me)))) = true := by
  decide

theorem test_hyps_LeaseMessagesAndSaPower_part2 :
    (let a : Nat := 0; let L := lane0; let h : Nat := (if L.newestSnap = some 0 then 1 else 0);
      decide ((a < snapBase h ∨ snapBase h + 25 ≤ a))) = true ∧
    (let l : LaneId := .a; let L := lane0; let L := L.wr Int.saStarting 0; let s := stateOf L;
      decide ((s.lane l).on Int.saStarting = false)) = true ∧
    (let L := lane0; let L := L.wr Int.saStarting 1; let L := (L.wr Int.held 0).wr PSC_STATUS.STAGE 0;
      let L := (L.wr PSC_RET.N 0).wr Int.retSaved 1; let L := L.wr Int.retCrc (L.retCrc + 1);
      decide (L.on Int.saStarting = true ∧ L.retOk = false ∧ L.canExit = true)) = true ∧
    (let L := lane0; let L := L.wr Int.saStarting 1; let L := L.wr PSC_RET.N (0); let L := L.wr Int.guardDone 0;
      let L := (L.wr PSC_RET.N 0).wr Int.retSaved 1; let L := L.wr Int.retCrc L.retCrc;
      decide (L.on Int.saStarting = true ∧ L.retOk = true ∧ L.rd PSC_RET.N = 0 ∧ L.on Int.guardDone = false)) = true ∧
    (let L := lane0; let L := L.wr Int.saStarting 1; let L := L.wr PSC_RET.N (0); let L := L.wr Int.guardDone 1;
      let L := L.wr LSE_STATUS.ROLE (2); let L := (L.wr PSC_RET.N 0).wr Int.retSaved 1; let L := L.wr Int.retCrc L.retCrc;
      decide (L.on Int.saStarting = true ∧ L.retOk = true ∧ L.rd PSC_RET.N = 0 ∧ L.on Int.guardDone = true ∧ L.rd LSE_STATUS.ROLE = 2)) = true ∧
    (let L := lane0; let L := L.wr LSE_STATUS.ROLE 1; let L := L.wr PSC_STATUS.SA (0);
      let L := if 2 ≤ L.rd Int.renewRun then L else L.wr Int.renewRun (2); let L := L.wr Int.acceptNext (0);
      decide (L.isStandby = true ∧ L.rd PSC_STATUS.SA = 0 ∧ 2 ≤ L.rd Int.renewRun ∧ L.rd Int.acceptNext = 0)) = true ∧
    (let L := lane0; decide ((L.isStandby = false ∨ L.rd PSC_STATUS.SA ≠ 0 ∨ L.rd Int.renewRun < 2 ∨ L.rd Int.acceptNext ≠ 0))) = true := by
  decide

theorem test_hyps_SchedulerDispatchesAndCompletes :
    (let op : Fin 4096 := 0; let L := lane0; let L := L.wr SCH_CFG.LOCK 1;
      let L := if L.opNpred op - 1 ≤ L.rd (Int.opTokens op) then L else L.wr (Int.opTokens op) (L.opNpred op - 1);
      let L := L.wr (Int.opTokens op) 1; let L := L.setMem (0x203F0000 + 16 * op + 4) 4 (4 * 2 ^ 10 + 2 * 2 ^ 24);
      decide (L.on SCH_CFG.LOCK = true ∧ L.opTrig op = 4 ∧ L.inProgress op = false ∧ L.opNpred op - 1 ≤ L.rd (Int.opTokens op))) = true ∧
    (let op : Fin 4096 := 0; let L := lane0; let L := L.wr SCH_CFG.LOCK 1;
      let L := if L.opNpred op - 1 ≤ L.rd (Int.opTokens op) then L else L.wr (Int.opTokens op) (L.opNpred op - 1);
      let L := L.setMem (0x203F0000 + 16 * op + 4) 4 (4 * 2 ^ 10 + 2 * 2 ^ 24); let L := L.wr (Int.opTokens op) 1;
      let L : Lane := { L with sched := { L.sched with ready := [{ index := op, inst := 1, readyAt := 0, trigAt := 0, startAt := 0, shadow := false, shadowFor := 0, missed := false, noTarget := false, budgetRep := false, hangRep := false }] } };
      decide (L.on SCH_CFG.LOCK = true ∧ L.opTrig op = 4 ∧ L.inProgress op = true ∧ L.opNpred op - 1 ≤ L.rd (Int.opTokens op))) = true ∧
    (let op : Fin 4096 := 0; let L := lane0; let L := L.wr SCH_CFG.LOCK 1;
      let L := if L.rd (Int.opTokens op) < L.opNpred op - 1 then L else L.wr (Int.opTokens op) ((L.opNpred op - 1) - 1);
      let L := L.setMem (0x203F0000 + 16 * op + 4) 4 (4 * 2 ^ 10 + 3 * 2 ^ 24); let L := L.wr (Int.opTokens op) 1;
      decide (L.on SCH_CFG.LOCK = true ∧ L.opTrig op = 4 ∧ L.rd (Int.opTokens op) < L.opNpred op - 1)) = true ∧
    (let l : LaneId := .a; let op : Fin 4096 := 1; let L := lane0; let s := stateOf L;
      decide (((s.lane l).on SCH_CFG.LOCK = false ∨ (s.lane l).opTrig op ≠ 4))) = true ∧
    (let l : LaneId := .a; let L := lane0; let s := stateOf L;
      decide (((s.lane l).on Int.e0 = true ∨ liveState (s.lane l).state = false ∨ (s.lane l).nextDispatch = none))) = true ∧
    (let o : OpInst := { index := 9, inst := 1, readyAt := 0, trigAt := 0, startAt := 0, shadow := false, shadowFor := 0, missed := false, noTarget := false, budgetRep := false, hangRep := false };
      let t : Nat := 0; let L := lane0; let L := L.wr Int.e0 0; let L := L.wr CFG_MODE_STATUS.LANE_STATE stReady;
      let L := L.forN 4 (fun p K => (K.wr (LSC_PAIR_STATUS.STATE p) 0)); let L := (L.wr Int.halted 0).wr Int.withdraw 0;
      let L : Lane := { L with sched := { L.sched with ready := [o] } }; let L := L.setMem (0x203F0000 + 16 * 9 + 4) 4 0;
      decide (L.on Int.e0 = false ∧ liveState L.state = true ∧ L.nextDispatch = some (o, t) ∧ t < 5 ∧ L.sched.queues.length = 5 ∧ L.sched.exec.length = 5)) = true ∧
    (let t : Fin 5 := 3;
      let o : OpInst := { index := 9, inst := 1, readyAt := 0, trigAt := 0, startAt := 0, shadow := false, shadowFor := 0, missed := false, noTarget := false, budgetRep := false, hangRep := false };
      let r : List OpInst := []; let L := lane0;
      let L : Lane := { L with sched := { L.sched with queues := L.sched.queues.set t (o :: r) } };
      decide ((t ≠ 4 ∨ L.split3 = true) ∧ L.pairHeld (targetPair t) = false ∧ L.execOf t = none ∧ L.queue t = o :: r ∧ L.sched.exec.length = 5)) = true ∧
    (let t : Fin 5 := 0; let L := lane0;
      decide ((t ≠ 4 ∨ L.split3 = true) ∧ L.pairHeld (targetPair t) = false ∧ L.execOf t = none ∧ L.queue t = [])) = true ∧
    (let l : LaneId := .a; let t : Fin 5 := 3; let i : Fin 4096 := 3; let L := lane0;
      let L : Lane := { L with sched := { L.sched with exec := L.sched.exec.set t (some { index := 9, inst := 1, readyAt := 0, trigAt := 0, startAt := 0, shadow := false, shadowFor := 0, missed := false, noTarget := false, budgetRep := false, hangRep := false }) } };
      let c : Instr := .nextRead l t;
      decide (L.pairHeld (targetPair t) = false ∧ ((t ≠ 4 ∨ L.split3 = true) ∧ (L.execOf t).isSome = true ∧ c = .nextRead l t ∨ (∀ o, L.execOf t = some o → o.index ≠ i) ∧ c = .doneWrite l t i))) = true ∧
    (let l : LaneId := .a; let L := lane0; let s := stateOf L; decide ((s.lane l).split3 = false)) = true ∧
    (let l : LaneId := .a; let t : Fin 5 := 0; let i : Fin 4096 := 1; let L := lane0; let L := L.wr (Int.pairStop (targetPair t)) 1;
      let s := stateOf L; let c : Instr := .nextRead l t;
      decide ((s.lane l).pairHeld (targetPair t) = true ∧ (c = .nextRead l t ∨ c = .doneWrite l t i))) = true ∧
    (let t : Fin 5 := 0; let L := lane0; let L := L.wr (Int.nextWait t) 1; decide (L.on (Int.nextWait t) = true)) = true ∧
    (let l : LaneId := .a; let t : Fin 5 := 0; let L := lane0; let L := L.wr (Int.nextWait t) 0; let s := stateOf L;
      decide ((s.lane l).on (Int.nextWait t) = false)) = true ∧
    (let t : Fin 5 := 0; let i : Fin 4096 := 9;
      let o : OpInst := { index := 9, inst := 1, readyAt := 0, trigAt := 0, startAt := 0, shadow := false, shadowFor := 0, missed := false, noTarget := false, budgetRep := false, hangRep := false };
      let L := lane0; let L : Lane := { L with sched := { L.sched with exec := L.sched.exec.set t (some o) } };
      let L := (L.wr (Int.pairStop (targetPair t)) 0).wr (LSC_PAIR_STATUS.STATE (targetPair t)) 0;
      decide (L.pairHeld (targetPair t) = false ∧ L.execOf t = some o ∧ o.index = i)) = true := by
  decide

theorem test_hyps_BudgetsDeadlinesAndWithdrawal :
    (let t : Fin 5 := 1;
      let o : OpInst := { index := 9, inst := 1, readyAt := 0, trigAt := 0, startAt := 0, shadow := false, shadowFor := 0, missed := false, noTarget := false, budgetRep := false, hangRep := false };
      let L := lane0; let L : Lane := { L with sched := { L.sched with exec := L.sched.exec.set t (some o) } };
      decide (L.execOf t = some o ∧ o.budgetRep = false)) = true ∧
    (let l : LaneId := .a; let t : Fin 5 := 4; let L := lane0; let s := stateOf L;
      decide ((match (s.lane l).execOf t with | some o => decide (o.budgetRep = true) | none => true) = true)) = true ∧
    (let t : Fin 5 := 4;
      let o : OpInst := { index := 9, inst := 1, readyAt := 0, trigAt := 0, startAt := 0, shadow := false, shadowFor := 0, missed := false, noTarget := false, budgetRep := false, hangRep := false };
      let L := lane0; let L : Lane := { L with sched := { L.sched with exec := L.sched.exec.set t (some o) } };
      decide (L.execOf t = some o ∧ o.hangRep = false)) = true ∧
    (let l : LaneId := .a; let t : Fin 5 := 4; let L := lane0; let s := stateOf L;
      decide ((match (s.lane l).execOf t with | some o => decide (o.hangRep = true) | none => true) = true)) = true ∧
    (let op : Fin 4096 := 9;
      let o : OpInst := { index := 9, inst := 1, readyAt := 0, trigAt := 0, startAt := 0, shadow := false, shadowFor := 0, missed := false, noTarget := false, budgetRep := false, hangRep := false };
      let L := lane0; let L : Lane := { L with sched := { L.sched with ready := [o] } };
      decide (L.instanceOf op = some o ∧ o.missed = false)) = true ∧
    (let l : LaneId := .a; let op : Fin 4096 := 1; let L := lane0; let s := stateOf L;
      decide ((match (s.lane l).instanceOf op with | some o => decide (o.missed = true) | none => true) = true)) = true ∧
    (let op : Fin 4096 := 9;
      let o : OpInst := { index := 9, inst := 1, readyAt := 0, trigAt := 0, startAt := 0, shadow := false, shadowFor := 0, missed := false, noTarget := false, budgetRep := false, hangRep := false };
      let L := lane0; let L : Lane := { L with sched := { L.sched with ready := [o] } };
      let L := L.forN 4 (fun p K => (K.wr (LSC_PAIR_STATUS.STATE p) 3));
      decide (L.sched.ready.find? (fun o => o.index == (op : Nat) && ! o.shadow) = some o ∧ o.noTarget = false ∧ L.hasTarget op = false)) = true ∧
    (let l : LaneId := .a; let op : Fin 4096 := 0; let L := lane0; let s := stateOf L;
      decide (((s.lane l).hasTarget op = true ∨ (s.lane l).sched.ready.find? (fun o => o.index == (op : Nat) && ! o.shadow) = none))) = true ∧
    (let p : Fin 4 := 0; let L := lane0; let L := L.wr (LSC_PAIR_STATUS.STATE p) 0; let L := L.putBit Int.withdraw p false;
      decide ((L.pairState p = 0 ∨ L.pairState p = 4) ∧ L.bitOf Int.withdraw p = false ∧ L.capacityForbids p = false)) = true ∧
    (let p : Fin 4 := 0; let L := lane0; let L := L.wr (LSC_PAIR_STATUS.STATE p) 4; let L := L.putBit Int.withdraw p false;
      let L := (L.wr (LSC_PAIR_STATUS.STATE 0) 0).wr (LSC_PAIR_STATUS.STATE 1) 3 |>.wr (LSC_PAIR_STATUS.STATE 2) 3 |>.wr (LSC_PAIR_STATUS.STATE 3) 3 |>.putBit Int.withdraw 0 false;
      decide ((L.pairState p = 0 ∨ L.pairState p = 4) ∧ L.bitOf Int.withdraw p = false ∧ L.capacityForbids p = true)) = true ∧
    (let l : LaneId := .a; let p : Fin 4 := 1; let L := lane0; let L := L.putBit Int.withdraw p true; let s := stateOf L;
      decide (((s.lane l).pairState p ≠ 0 ∧ (s.lane l).pairState p ≠ 4 ∨ (s.lane l).bitOf Int.withdraw p = true))) = true ∧
    (let l : LaneId := .a; let p : Fin 4 := 1; let L := lane0; let L := L.putBit Int.withdraw p false; let s := stateOf L;
      decide ((s.lane l).bitOf Int.withdraw p = false)) = true ∧
    (let p : Fin 4 := 3; let L := lane0; let L := L.putBit Int.withdraw p true; decide (L.bitOf Int.withdraw p = true)) = true := by
  decide

theorem test_hyps_LockstepFaultsAndCheckpoints_part1 :
    (let m : Nat := 1; decide (m ≠ 0 ∧ m < 2 ^ 64)) = true ∧
    (let m : Nat := 8; let i : Nat := 0; decide (m ≠ 0 ∧ m < 2 ^ 64 ∧ i < lowestGroup m)) = true ∧
    (let l : LaneId := .a; let p : Fin 4 := 1; let L := lane0; let L := L.wr (LSC_PAIR_STATUS.STATE p) 3; let s := stateOf L;
      decide ((s.lane l).pairState p = 3)) = true ∧
    (let p : Fin 4 := 3; let a : Nat := 5; let b : Nat := a; let x : Nat := 0; let y : Nat := 0; let L := lane0;
      let L := L.wr (LSC_PAIR_STATUS.STATE p) 0; let L := if a = 0 then L else (L.wr (Int.parAt p) L.now).wr (Int.parGroups p) 7;
      decide (a < 2 ^ 64 ∧ b < 2 ^ 64 ∧ x < 2 ^ 64 ∧ y < 2 ^ 64 ∧ L.pairState p ≠ 4 ∧ a = b ∧ x ||| y = 0 ∧ (a = 0 ∨ L.now ≤ L.rd (Int.parAt p) + 2 ∧ a &&& L.rd (Int.parGroups p) = a))) = true ∧
    (let p : Fin 4 := 3; let a : Nat := 1; let b : Nat := 0; let x : Nat := 1; let y : Nat := 0; let L := lane0;
      let L := L.wr (LSC_PAIR_STATUS.STATE p) 4; decide (a < 2 ^ 64 ∧ b < 2 ^ 64 ∧ x < 2 ^ 64 ∧ y < 2 ^ 64 ∧ L.pairState p = 4)) = true ∧
    (let p : Fin 4 := 1; let a : Nat := 1; let b : Nat := 0; let x : Nat := 1; let y : Nat := 2; let L := lane0;
      let L := L.wr (LSC_PAIR_STATUS.STATE p) 5; let L := (L.wr Int.held 0).wr PSC_STATUS.STAGE 0;
      decide (a < 2 ^ 64 ∧ b < 2 ^ 64 ∧ x < 2 ^ 64 ∧ y < 2 ^ 64 ∧ L.pairState p = 5 ∧ L.canExit = true ∧ (a ≠ b ∨ x ||| y ≠ 0))) = true ∧
    (let p : Fin 4 := 0; let a : Nat := 6; let b : Nat := 4; let x : Nat := 0; let y : Nat := 0; let k : Nat := 2; let g : Nat := 1;
      let L := lane0; let L := (L.wr Int.held 0).wr PSC_STATUS.STAGE 0;
      decide (a < 2 ^ 64 ∧ b < 2 ^ 64 ∧ x < 2 ^ 64 ∧ y < 2 ^ 64 ∧ L.pairState p < 3 ∧ ((k = 0 ∧ a = b ∧ a ≠ 0 ∧ x ||| y = 0 ∧ L.rd (Int.parAt p) + 2 < L.now ∧ g = lowestGroup a) ∨ (k = 1 ∧ a = b ∧ x ||| y ≠ 0 ∧ g = lowestGroup (x ||| y)) ∨ (k = 2 ∧ a ≠ b ∧ x ||| y = 0 ∧ g = lowestGroup (a ^^^ b))) ∧ (k = 2 ∨ 2 ≤ L.winEarlier p) ∧ L.canExit = true)) = true ∧
    (let p : Fin 4 := 3; let a : Nat := 5; let b : Nat := 0; let x : Nat := 1; let y : Nat := 2; let L := lane0;
      let L := (L.wr Int.held 0).wr PSC_STATUS.STAGE 0;
      decide (a < 2 ^ 64 ∧ b < 2 ^ 64 ∧ x < 2 ^ 64 ∧ y < 2 ^ 64 ∧ L.pairState p < 3 ∧ a ≠ b ∧ x ||| y ≠ 0 ∧ L.canExit = true)) = true ∧
    (let p : Fin 4 := 1; let a : Nat := 8; let b : Nat := 8; let x : Nat := 32; let y : Nat := 0; let k : Nat := 1; let g : Nat := 5;
      let L := lane0; let L := L.wr Int.e0 1; let L := ((L.wr (Int.parAt p) 0).wr Int.laneTime 99).wr (Int.winN p) 0;
      decide (a < 2 ^ 64 ∧ b < 2 ^ 64 ∧ x < 2 ^ 64 ∧ y < 2 ^ 64 ∧ L.pairState p < 3 ∧ ((k = 0 ∧ a = b ∧ a ≠ 0 ∧ x ||| y = 0 ∧ L.rd (Int.parAt p) + 2 < L.now ∧ g = lowestGroup a) ∨ (k = 1 ∧ a = b ∧ x ||| y ≠ 0 ∧ g = lowestGroup (x ||| y)) ∨ (k = 2 ∧ a ≠ b ∧ x ||| y = 0 ∧ g = lowestGroup (a ^^^ b))) ∧ k ≠ 2 ∧ L.winEarlier p < 2 ∧ (L.state ≠ stActive ∨ L.runsSafety p = false ∨ L.pairState p ≠ 0 ∨ L.on Int.e0 = true))) = true ∧
    (let p : Fin 4 := 0; let a : Nat := 8; let b : Nat := 8; let x : Nat := 0; let y : Nat := 0; let k : Nat := 0; let g : Nat := 3;
      let L := lane0; let L := L.wr (LSC_PAIR_STATUS.STATE p) 0; let L := L.wr CFG_MODE_STATUS.LANE_STATE stActive;
      let L := L.wr Int.e0 0; let L := (L.wr Int.held 0).wr PSC_STATUS.STAGE 0;
      let L := ((L.wr (Int.parAt p) 0).wr Int.laneTime 99).wr (Int.winN p) 0;
      let L : Lane := { L with sched := { L.sched with exec := L.sched.exec.set p (some { index := 9, inst := 1, readyAt := 0, trigAt := 0, startAt := 0, shadow := false, shadowFor := 0, missed := false, noTarget := false, budgetRep := false, hangRep := false }) } };
      let L := L.setMem (0x203F0000 + 16 * 9 + 4) 4 0;
      decide (a < 2 ^ 64 ∧ b < 2 ^ 64 ∧ x < 2 ^ 64 ∧ y < 2 ^ 64 ∧ L.pairState p = 0 ∧ ((k = 0 ∧ a = b ∧ a ≠ 0 ∧ x ||| y = 0 ∧ L.rd (Int.parAt p) + 2 < L.now ∧ g = lowestGroup a) ∨ (k = 1 ∧ a = b ∧ x ||| y ≠ 0 ∧ g = lowestGroup (x ||| y)) ∨ (k = 2 ∧ a ≠ b ∧ x ||| y = 0 ∧ g = lowestGroup (a ^^^ b))) ∧ L.state = stActive ∧ L.runsSafety p = true ∧ L.on Int.e0 = false ∧ L.canExit = true)) = true ∧
    (let p : Fin 4 := 3; let L := lane0; let L := L.wr (LSC_PAIR_STATUS.STATE p) 1; let L := L.wr (Int.m5 p) 0;
      let L := L.wr Int.e0 0; decide (L.pairState p = 1 ∧ L.on (Int.m5 p) = false ∧ L.on Int.e0 = false)) = true ∧
    (let p : Fin 4 := 1; let L := lane0; let L := (L.wr CFG_MODE_STATUS.LANE_STATE stBoot).wr Int.loadPhase 4;
      let L := L.wr (LSC_PAIR_STATUS.STATE p) 0; decide (L.inTest = true ∧ L.pairState p = 0)) = true ∧
    (let p : Fin 4 := 1; let L := lane0; let L := L.wr Int.e0 1;
      decide ((L.pairState p ≠ 0 ∨ L.inTest = false) ∧ (L.pairState p ≠ 1 ∨ L.on (Int.m5 p) = true ∨ L.on Int.e0 = true))) = true ∧
    (let p : Fin 4 := 0; let L := lane0; let L := L.wr (LSC_PAIR_STATUS.STATE p) 0; decide (L.pairState p ≠ 4 ∧ L.pairHeld p = false)) = true := by
  decide

theorem test_hyps_LockstepFaultsAndCheckpoints_part2 :
    (let l : LaneId := .a; let p : Fin 4 := 0; let L := lane0; let L := L.wr (LSC_PAIR_STATUS.STATE p) 4; let s := stateOf L;
      decide (((s.lane l).pairState p = 4 ∨ (s.lane l).pairHeld p = true))) = true ∧
    (let p : Fin 4 := 3; let L := lane0; let L := L.wr (LSC_PAIR_STATUS.STATE p) 1; let L := L.wr (Int.m5 p) 1;
      let L := L.wr (LSC_PAIR_CKPT.VALID p) 1;
      decide (L.pairState p = 1 ∧ L.on (Int.m5 p) = true ∧ L.on (LSC_PAIR_CKPT.VALID p) = true)) = true ∧
    (let p : Fin 4 := 3; let L := lane0; let L := L.wr (LSC_PAIR_STATUS.STATE p) 1; let L := L.wr (Int.m5 p) 1;
      decide (L.pairState p = 1 ∧ L.on (Int.m5 p) = true)) = true ∧
    (let p : Fin 4 := 3; let L := lane0; let L := L.wr (LSC_PAIR_STATUS.STATE p) 1; let L := L.wr (Int.m5 p) 1;
      let L := L.wr (LSC_PAIR_CKPT.VALID p) 0;
      decide (L.pairState p = 1 ∧ L.on (Int.m5 p) = true ∧ L.on (LSC_PAIR_CKPT.VALID p) = false)) = true ∧
    (let l : LaneId := .a; let p : Fin 4 := 0; let L := lane0; let L := L.wr (Int.m5 p) 0; let s := stateOf L;
      decide (((s.lane l).pairState p ≠ 1 ∨ (s.lane l).on (Int.m5 p) = false))) = true ∧
    (let t : Fin 4 := 0;
      let o : OpInst := { index := 9, inst := 1, readyAt := 0, trigAt := 0, startAt := 0, shadow := true, shadowFor := 0, missed := false, noTarget := false, budgetRep := false, hangRep := false };
      let L := lane0; let L : Lane := { L with sched := { L.sched with exec := L.sched.exec.set t (some o) } };
      let L := (L.wr (Int.pairStop t) 0).wr (LSC_PAIR_STATUS.STATE t) 0;
      decide (L.pairHeld t = false ∧ L.execOf t = some o ∧ o.shadow = true)) = true ∧
    (let l : LaneId := .a; let t : Fin 4 := 3; let L := lane0; let s := stateOf L;
      decide (((s.lane l).pairHeld t = true ∨ ∀ o, (s.lane l).execOf t = some o → o.shadow = false))) = true := by
  decide

theorem test_hyps_DebuggerHaltsStepsAndWrites :
    (let L := lane0; decide (haltAllowed L.mode = false)) = true ∧
    (let L := lane0; let L := L.wr CFG_MODE_STATUS.DEVICE_MODE mStandby; let L := L.wr LCS_STATE.DBG_OPEN 1;
      decide (haltAllowed L.mode = true ∧ L.on LCS_STATE.DBG_OPEN = true)) = true ∧
    (let l : LaneId := .a; let p : Fin 4 := 3; let b : Bool := true; let place : DebugPlace := (.reg 3); let v : Nat := 2;
      let L := lane0; let c : Instr := .debugWrite l p place v;
      decide ((haltAllowed L.mode = true ∧ L.on LCS_STATE.DBG_OPEN = false ∧ c = .debugHaltRequest l p b ∨ (haltAllowed L.mode = false ∨ L.on LCS_STATE.DBG_OPEN = false) ∧ c = .debugWrite l p place v))) = true ∧
    (let L := lane0; let L := L.wr Int.haltClk 0; decide (L.on Int.haltClk = false)) = true ∧
    (let p : Fin 4 := 1; let L := lane0; let L := L.wr Int.haltClk 1; let L := L.wr Int.halted (2 ^ (p : Nat));
      decide (L.on Int.haltClk = true ∧ L.rd Int.halted = 2 ^ (p : Nat))) = true ∧
    (let p : Fin 4 := 3; let L := lane0; let L := L.putBit Int.halted p true; decide (L.bitOf Int.halted p = true)) = true ∧
    (let l : LaneId := .a; let p : Fin 4 := 0; let L := lane0; let L := L.putBit Int.halted p false; let s := stateOf L;
      decide ((s.lane l).bitOf Int.halted p = false)) = true ∧
    (let reg : Nat := 0; let L := lane0; let L := L.wr CFG_MODE_STATUS.DEVICE_MODE mStandby; let L := L.wr LCS_STATE.DBG_OPEN 1;
      decide (haltAllowed L.mode = true ∧ L.on LCS_STATE.DBG_OPEN = true ∧ reg < 256 ∧ L.debugLog.length < 32)) = true ∧
    (let L := lane0; let L := L.wr CFG_MODE_STATUS.DEVICE_MODE mStandby; let L := L.wr LCS_STATE.DBG_OPEN 1;
      let L : Lane := { L with debugLog := List.replicate 32 ⟨0, 0, 0, 0⟩ };
      decide (haltAllowed L.mode = true ∧ L.on LCS_STATE.DBG_OPEN = true ∧ 32 ≤ L.debugLog.length)) = true ∧
    (let l : LaneId := .a; let L := lane0; let L := L.wr CFG_MODE_STATUS.DEVICE_MODE mStandby; let L := L.wr LCS_STATE.DBG_OPEN 1;
      let s := stateOf L; decide (haltAllowed (s.lane l).mode = true ∧ (s.lane l).on LCS_STATE.DBG_OPEN = true)) = true ∧
    (let p : Fin 4 := 0; let n : Nat := 5; let w : DebugWrite := ⟨p, 3, 4, 5⟩; let L := lane0;
      let L : Lane := { L with debugLog := [⟨(p + 1) % 4, 1, 1, 5⟩, w] };
      decide (L.debugLog.find? (fun w => w.pair = (p : Nat) ∧ w.retired = n) = some w ∧ w.reg < 256)) = true ∧
    (let l : LaneId := .a; let p : Fin 4 := 0; let n : Nat := 2; let L := lane0; let s := stateOf L;
      decide ((s.lane l).debugLog.find? (fun w => w.pair = (p : Nat) ∧ w.retired = n) = none)) = true := by
  decide

theorem test_hyps_NguasFramesAndSlots :
    (let g : Bool := false; let b : List Nat := []; let L := lane0; let L := L.wr (CKG_DOM_CTL.RUN_EN 3) 0;
      decide ((L.nstate = ngbOff ∨ L.on (CKG_DOM_CTL.RUN_EN 3) = false ∨ L.nstate = ngbListen ∧ (g = false ∨ (headerOf b).sync = false ∨ (b.drop 8).length ≠ (headerOf b).len)))) = true ∧
    (let st : Int := 100000000; let L := lane0; let L := if 2 ≤ L.nstate then L else L.wr NGB_STATUS.NSTATE 3;
      let L := L.wr (CKG_DOM_CTL.RUN_EN 3) 1; decide (2 ≤ L.nstate ∧ L.on (CKG_DOM_CTL.RUN_EN 3) = true ∧ L.windowOf st = none)) = true ∧
    (let y : Bool := true; let g : Bool := true; let st : Int := 10 * 0x1234; let b : List Nat := [3]; let n : Nat := 2;
      let e : Slot := { start := 0x1234, len := 8, owner := 5, sync := true, keep := false, stat := false, buf := 0 };
      let f : Fld := if g then NGB_CNT.HDR_ERR else if y then NGB_CNT.CRC_Y else NGB_CNT.CRC_X; let L := lane0;
      let L := if 2 ≤ L.nstate then L else L.wr NGB_STATUS.NSTATE 3; let L := L.wr (CKG_DOM_CTL.RUN_EN 3) 1;
      let L := (((L.wr NGB_STATUS.MODE 0).setMem 0x203C0000 4 (255 * 2 ^ 20)).setMem 0x203C0008 4 (255 * 2 ^ 20)).setMem 0x203C0010 4 (0x1234 + 8 * 2 ^ 20);
      let L := (L.setMem 0x203C0014 4 (5 + 2 ^ 6)).wr (NGB_PROP.PROP 5) 0; let L := L.wr NGB_CFG.NODE 5;
      decide (2 ≤ L.nstate ∧ L.on (CKG_DOM_CTL.RUN_EN 3) = true ∧ L.windowOf st = some (n, e) ∧ (g = false ∧ f = (if y then NGB_CNT.CRC_Y else NGB_CNT.CRC_X) ∨ g = true ∧ ((headerOf b).node ≠ e.owner ∨ (headerOf b).len ≠ e.len ∨ (headerOf b).slot ≠ n ∨ (headerOf b).mode ≠ L.ngbMode ∨ (headerOf b).cycle ≠ L.rd NGB_STATUS.CYCLE_NO ∨ (b.drop 8).length ≠ (headerOf b).len) ∧ f = NGB_CNT.HDR_ERR))) = true ∧
    (let st : Int := 10 * 0x1234; let b : List Nat := [5, 8, 2, 0, 3, 0, 0, 0] ++ List.replicate 8 7; let n : Nat := 2;
      let e : Slot := { start := 0x1234, len := 8, owner := 5, sync := true, keep := false, stat := false, buf := 0 }; let L := lane0;
      let L := if 2 ≤ L.nstate then L else L.wr NGB_STATUS.NSTATE 3; let L := L.wr (CKG_DOM_CTL.RUN_EN 3) 1;
      let L := (((L.wr NGB_STATUS.MODE 0).setMem 0x203C0000 4 (255 * 2 ^ 20)).setMem 0x203C0008 4 (255 * 2 ^ 20)).setMem 0x203C0010 4 (0x1234 + 8 * 2 ^ 20);
      let L := (L.setMem 0x203C0014 4 (5 + 2 ^ 6)).wr (NGB_PROP.PROP 5) 0; let L := L.wr NGB_CFG.NODE 5;
      let L := L.wr NGB_STATUS.CYCLE_NO 3; let h : Header := headerOf b;
      decide (2 ≤ L.nstate ∧ L.on (CKG_DOM_CTL.RUN_EN 3) = true ∧ L.windowOf st = some (n, e) ∧ h.node = e.owner ∧ h.len = e.len ∧ h.slot = n ∧ h.mode = L.ngbMode ∧ h.cycle = L.rd NGB_STATUS.CYCLE_NO ∧ (b.drop 8).length = h.len)) = true ∧
    (let n : Fin 1024 := 1; let c : Bool := true; let L := lane0;
      decide ((L.owns (L.slot L.ngbMode n) = false ∨ L.nstate ≠ ngbRun ∧ L.nstate ≠ ngbCold ∨ L.maySend (L.slot L.ngbMode n) = false ∨ c = true ∧ L.nstate = ngbRun))) = true ∧
    (let n : Fin 1024 := 2; let L := lane0; let L := if L.nstate = ngbCold then L else L.wr NGB_STATUS.NSTATE ngbCold;
      let L := (((L.wr NGB_STATUS.MODE 0).setMem 0x203C0000 4 (255 * 2 ^ 20)).setMem 0x203C0008 4 (255 * 2 ^ 20)).setMem 0x203C0010 4 (0x1234 + 8 * 2 ^ 20);
      let L := (L.setMem 0x203C0014 4 (5 + 2 ^ 6)).wr (NGB_PROP.PROP 5) 0; let L := L.wr NGB_CFG.NODE 5;
      let L := ((L.wr CFG_MODE_STATUS.DEVICE_MODE mStandby).wr CFG_MODE_STATUS.LANE_STATE stReady).wr (CKG_DOM_CTL.RUN_EN 3) 1;
      decide (L.owns (L.slot L.ngbMode n) = true ∧ L.nstate = ngbCold ∧ L.maySend (L.slot L.ngbMode n) = true)) = true ∧
    (let n : Fin 1024 := 2; let e : Int := 5000; let L := lane0;
      let L := if L.nstate = ngbRun then L else L.wr NGB_STATUS.NSTATE ngbRun;
      let L := if L.rd Int.ngbOk ≠ 0 then L else L.wr Int.ngbOk ((0) + 1);
      let L := (((L.wr NGB_STATUS.MODE 0).setMem 0x203C0000 4 (255 * 2 ^ 20)).setMem 0x203C0008 4 (255 * 2 ^ 20)).setMem 0x203C0010 4 (0x1234 + 8 * 2 ^ 20);
      let L := (L.setMem 0x203C0014 4 (5 + 2 ^ 6)).wr (NGB_PROP.PROP 5) 0; let L := L.wr NGB_CFG.NODE 5;
      let L := (L.wr NGB_TIMING.TX_WIN 3).wr NGB_TIMING.GUARD 5 |>.wr Int.ngbOk 1;
      let L := ((L.wr CFG_MODE_STATUS.DEVICE_MODE mStandby).wr CFG_MODE_STATUS.LANE_STATE stReady).wr (CKG_DOM_CTL.RUN_EN 3) 1;
      decide (L.owns (L.slot L.ngbMode n) = true ∧ (L.nstate = ngbRun ∨ L.nstate = ngbCold) ∧ L.maySend (L.slot L.ngbMode n) = true ∧ 10 * L.rd NGB_TIMING.TX_WIN + 10 * L.rd NGB_TIMING.GUARD < e.natAbs ∧ L.rd Int.ngbOk ≠ 0)) = true ∧
    (let n : Fin 1024 := 2; let e : Int := 70; let w : Nat := 30;
      let q : Slot := { start := 0x1234, len := 8, owner := 5, sync := true, keep := false, stat := false, buf := 0 }; let L := lane0;
      let L := if L.nstate = ngbRun then L else L.wr NGB_STATUS.NSTATE ngbRun;
      let L := (((L.wr NGB_STATUS.MODE 0).setMem 0x203C0000 4 (255 * 2 ^ 20)).setMem 0x203C0008 4 (255 * 2 ^ 20)).setMem 0x203C0010 4 (0x1234 + 8 * 2 ^ 20);
      let L := (L.setMem 0x203C0014 4 (5 + 2 ^ 6)).wr (NGB_PROP.PROP 5) 0; let L := L.wr NGB_CFG.NODE 5;
      let L := (L.wr NGB_TIMING.TX_WIN 3).wr NGB_TIMING.GUARD 5;
      let L := ((L.wr CFG_MODE_STATUS.DEVICE_MODE mStandby).wr CFG_MODE_STATUS.LANE_STATE stReady).wr (CKG_DOM_CTL.RUN_EN 3) 1;
      decide (L.slot L.ngbMode n = q ∧ L.owns q = true ∧ (L.nstate = ngbRun ∨ L.nstate = ngbCold) ∧ L.maySend q = true ∧ 10 * L.rd NGB_TIMING.TX_WIN = w ∧ (e.natAbs ≤ w + 10 * L.rd NGB_TIMING.GUARD ∨ L.rd Int.ngbOk = 0))) = true ∧
    (let L := lane0;
      decide ((L.nstate ≠ ngbListen ∨ L.on NGB_CFG.COLDSTART = false ∨ L.mayTransmit = false ∨ (∀ p, L.coldSlot = some p → L.maySend p.2 = false)))) = true ∧
    (let n : Nat := 2;
      let e : Slot := { start := 0x1234, len := 8, owner := 5, sync := true, keep := false, stat := false, buf := 0 }; let L := lane0;
      let L := if L.nstate = ngbListen then L else L.wr NGB_STATUS.NSTATE ngbListen; let L := L.wr NGB_CFG.COLDSTART 1;
      let L := (((L.wr NGB_STATUS.MODE 0).setMem 0x203C0000 4 (255 * 2 ^ 20)).setMem 0x203C0008 4 (255 * 2 ^ 20)).setMem 0x203C0010 4 (0x1234 + 8 * 2 ^ 20);
      let L := (L.setMem 0x203C0014 4 (5 + 2 ^ 6)).wr (NGB_PROP.PROP 5) 0; let L := L.wr NGB_CFG.NODE 5;
      let L := ((L.wr CFG_MODE_STATUS.DEVICE_MODE mStandby).wr CFG_MODE_STATUS.LANE_STATE stReady).wr (CKG_DOM_CTL.RUN_EN 3) 1;
      decide (L.nstate = ngbListen ∧ L.on NGB_CFG.COLDSTART = true ∧ L.maySend e = true ∧ L.coldSlot = some (n, e))) = true := by
  decide

theorem test_hyps_NguasCyclesActionAndWake :
    (let L := lane0; let L := if L.nstate = ngbOff then L else L.wr NGB_STATUS.NSTATE ngbOff; decide (L.nstate = ngbOff)) = true ∧
    (let L := lane0; let L := if L.nstate = ngbListen then L else L.wr NGB_STATUS.NSTATE ngbListen;
      let L := L.wr Int.ngbHeardRun (2); decide (L.nstate = ngbListen ∧ L.rd Int.ngbHeardRun = 2)) = true ∧
    (let L := lane0; let L := if L.nstate = ngbListen then L else L.wr NGB_STATUS.NSTATE ngbListen;
      let L := if L.rd Int.ngbHeardRun ≠ 2 then L else L.wr Int.ngbHeardRun ((2) + 1);
      decide (L.nstate = ngbListen ∧ L.rd Int.ngbHeardRun ≠ 2)) = true ∧
    (let L := lane0; let L := if 2 ≤ L.nstate then L else L.wr NGB_STATUS.NSTATE 3; let L := (L.wr Int.held 0).wr PSC_STATUS.STAGE 0;
      decide (2 ≤ L.nstate ∧ L.canExit = true)) = true ∧
    (let L := lane0; let L := if 2 ≤ L.nstate then L else L.wr NGB_STATUS.NSTATE 3; decide (2 ≤ L.nstate)) = true ∧
    (let l : LaneId := .a; let L := lane0; let L := if L.nstate < 2 then L else L.wr NGB_STATUS.NSTATE 0; let s := stateOf L;
      decide ((s.lane l).nstate < 2)) = true ∧
    (let L := lane0; let L := L.wr Int.ngbWakeReq 1; let L := if L.nstate = ngbListen then L else L.wr NGB_STATUS.NSTATE ngbListen;
      decide (L.on Int.ngbWakeReq = true ∧ L.nstate = ngbListen)) = true ∧
    (let l : LaneId := .a; let L := lane0; let L := L.wr Int.ngbWakeReq 0; let s := stateOf L;
      decide (((s.lane l).on Int.ngbWakeReq = false ∨ (s.lane l).nstate ≠ ngbListen))) = true ∧
    (let L := lane0; let L := if L.nstate ≠ ngbOff then L else L.wr NGB_STATUS.NSTATE 0; let L := L.wr NGB_STATUS.NSTATE 2;
      decide (L.nstate ≠ ngbOff)) = true ∧
    (let L := lane0; let L := if L.nstate = ngbOff then L else L.wr NGB_STATUS.NSTATE ngbOff; let L := L.wr PSC_STATUS.STAGE (0);
      let L := if L.state ≠ stAsleep then L else L.wr CFG_MODE_STATUS.LANE_STATE 5;
      let L := if L.rd PSC_STATUS.LEVEL_NOW ≠ 2 then L else L.wr PSC_STATUS.LEVEL_NOW ((2) + 1);
      let L := if L.mode ≠ mShutdown then L else L.wr CFG_MODE_STATUS.DEVICE_MODE 5;
      decide (L.nstate = ngbOff ∧ L.rd PSC_STATUS.STAGE = 0 ∧ L.state ≠ stAsleep ∧ L.rd PSC_STATUS.LEVEL_NOW ≠ 2 ∧ L.mode ≠ mShutdown)) = true ∧
    (let L := lane0; let L := if L.nstate = ngbOff then L else L.wr NGB_STATUS.NSTATE ngbOff; let L := L.wr PSC_STATUS.STAGE (0);
      let L := L.wr CFG_MODE_STATUS.LANE_STATE stAsleep; decide (L.nstate = ngbOff ∧ L.rd PSC_STATUS.STAGE = 0 ∧ L.state = stAsleep)) = true := by
  decide

theorem test_hyps_CanFramesRequestsAndErrors_part1 :
    (let l : LaneId := .a; let L := lane0; let L := L.wr CAN_STATUS.STATE 2; let s := stateOf L; decide ((s.lane l).canActs = false)) = true ∧
    (let L := lane0; let L := L.wr CAN_STATUS.STATE 0; decide (L.canActs = true)) = true ∧
    (let i : Nat := 1; let x : Bool := true; let f : Bool := false; let L := lane0; let L := L.wr CAN_STATUS.STATE 0;
      let id29 : Nat := (if x then i % 2 ^ 29 else i % 2 ^ 11 * 2 ^ 18);
      decide (L.canActs = true ∧ (f = false ∨ L.on CAN_CFG.FD_EN = true) ∧ L.canFilter id29 x = none)) = true ∧
    (let i : Nat := 0; let k : Nat := 5; let x : Bool := true; let f : Bool := false; let L := lane0;
      let L := L.wr CAN_STATUS.STATE 0; let L := L.wr CAN_STATUS.LEVEL (32);
      let L := (L.forN 32 (fun j K => K.wr (CAN_FILT_ID.FEN j) 0));
      let L := (((L.wr (CAN_FILT_ID.FEN 5) 1).wr (CAN_FILT_ID.XTD 5) (if x then 1 else 0)).wr (CAN_FILT_MASK.MASK 5) 0);
      let id29 : Nat := (if x then i % 2 ^ 29 else i % 2 ^ 11 * 2 ^ 18);
      decide (L.canActs = true ∧ (f = false ∨ L.on CAN_CFG.FD_EN = true) ∧ L.canFilter id29 x = some k ∧ L.rd CAN_STATUS.LEVEL = 32)) = true ∧
    (let i : Nat := 0; let k : Nat := 5; let x : Bool := true; let f : Bool := false; let L := lane0;
      let L := L.wr CAN_STATUS.STATE 0; let L := if L.rd CAN_STATUS.LEVEL < 32 then L else L.wr CAN_STATUS.LEVEL ((32) - 1);
      let L := (L.forN 32 (fun j K => K.wr (CAN_FILT_ID.FEN j) 0));
      let L := (((L.wr (CAN_FILT_ID.FEN 5) 1).wr (CAN_FILT_ID.XTD 5) (if x then 1 else 0)).wr (CAN_FILT_MASK.MASK 5) 0);
      let id29 : Nat := (if x then i % 2 ^ 29 else i % 2 ^ 11 * 2 ^ 18);
      decide (L.canActs = true ∧ (f = false ∨ L.on CAN_CFG.FD_EN = true) ∧ L.canFilter id29 x = some k ∧ L.rd CAN_STATUS.LEVEL < 32)) = true ∧
    (let L := lane0; let L := L.wr CAN_STATUS.STATE 0; let L := L.wr CAN_CFG.FD_EN 0;
      decide (L.canActs = true ∧ L.on CAN_CFG.FD_EN = false)) = true ∧
    (let t : Nat := 3; let L := lane0; let L := L.wr CAN_STATUS.STATE 0; let L := L.wr CAN_CFG.LISTEN_ONLY 0;
      let L := L.putBit CAN_TXREQ.REQ t true; let L := L.wr CAN_TXREQ.REQ (if t = 3 then 0x48 else 0x8000);
      decide (L.canActs = true ∧ L.on CAN_CFG.LISTEN_ONLY = false ∧ t < 16 ∧ L.bitOf CAN_TXREQ.REQ t = true ∧ (∀ u : Nat, u < t → L.bitOf CAN_TXREQ.REQ u = false))) = true ∧
    (let L := lane0; decide ((L.on CAN_CFG.LISTEN_ONLY = true ∨ ∀ t : Nat, t < 16 → L.bitOf CAN_TXREQ.REQ t = false))) = true ∧
    (let L := lane0; let L := if L.rd CAN_STATUS.LEVEL ≠ 0 then L else L.wr CAN_STATUS.LEVEL ((0) + 1);
      let L := if L.rd CAN_STATUS.LEVEL ≤ 32 then L else L.wr CAN_STATUS.LEVEL (32);
      decide (L.rd CAN_STATUS.LEVEL ≠ 0 ∧ L.rd CAN_STATUS.LEVEL ≤ 32)) = true ∧
    (let l : LaneId := .a; let L := lane0; let L := L.wr CAN_STATUS.LEVEL (0); let s := stateOf L;
      decide ((s.lane l).rd CAN_STATUS.LEVEL = 0)) = true ∧
    (let t8 : Bool := true; let L := lane0; let L := L.wr CAN_STATUS.STATE 0; let L := L.wr CAN_STATUS.TEC 255;
      let v : Nat := L.rd CAN_STATUS.TEC + (if t8 then 8 else 1); decide (L.canActs = true ∧ 255 < v)) = true ∧
    (let tx : Bool := true; let t8 : Bool := true; let L := lane0; let L := L.wr CAN_STATUS.STATE 0;
      let L := L.wr CAN_STATUS.STATE (0); let L := (L.wr CAN_STATUS.TEC 127).wr CAN_STATUS.REC 127;
      let f : Fld := (if tx then CAN_STATUS.TEC else CAN_STATUS.REC); let v : Nat := L.rd f + (if t8 then 8 else 1);
      decide (L.canActs = true ∧ (tx = true → v ≤ 255) ∧ 127 < v ∧ L.rd CAN_STATUS.STATE = 0)) = true ∧
    (let tx : Bool := true; let t8 : Bool := true; let L := lane0; let L := L.wr CAN_STATUS.STATE 0;
      let f : Fld := (if tx then CAN_STATUS.TEC else CAN_STATUS.REC); let v : Nat := L.rd f + (if t8 then 8 else 1);
      decide (L.canActs = true ∧ (tx = true → v ≤ 255) ∧ (v ≤ 127 ∨ L.rd CAN_STATUS.STATE = 1))) = true ∧
    (let L := lane0; let L := L.wr CAN_STATUS.STATE (2); decide (L.rd CAN_STATUS.STATE = 2)) = true := by
  decide

theorem test_hyps_CanFramesRequestsAndErrors_part2 :
    (let L := lane0; let L := L.wr CAN_STATUS.STATE (2); let L := L.wr Int.canRecov 1;
      decide (L.rd CAN_STATUS.STATE = 2 ∧ L.on Int.canRecov = true)) = true ∧
    (let L := lane0; let L := L.wr CAN_STATUS.STATE (2); let L := L.wr Int.canRecov 0;
      decide (L.rd CAN_STATUS.STATE = 2 ∧ L.on Int.canRecov = false)) = true ∧
    (let l : LaneId := .a; let L := lane0; let L := if L.rd CAN_STATUS.STATE ≠ 2 then L else L.wr CAN_STATUS.STATE ((2) + 1);
      let s := stateOf L; decide ((s.lane l).rd CAN_STATUS.STATE ≠ 2)) = true := by
  decide

theorem test_hyps_TokensAndSelfTest :
    (let L := lane0; let L := L.wr LCS_RESULT.BUSY 0; decide (L.on LCS_RESULT.BUSY = false)) = true ∧
    (let l : LaneId := .a; let L := lane0; let L := L.wr LCS_RESULT.BUSY 1; let s := stateOf L;
      decide ((s.lane l).on LCS_RESULT.BUSY = true)) = true ∧
    (let l : LaneId := .a; let L := lane0; let L := L.wr LCS_RESULT.BUSY 0; let s := stateOf L;
      decide ((s.lane l).on LCS_RESULT.BUSY = false)) = true ∧
    (let L := lane0; let L := L.wr LCS_RESULT.BUSY 1; decide (L.on LCS_RESULT.BUSY = true ∧ L.tokenCode ≠ 0)) = true ∧
    (let L := lane0; let L := L.wr CFG_MODE_STATUS.DEVICE_MODE 2;
      decide ((L.strap.variant = .t ∨ L.mode < mStandby ∨ mTorqueOff < L.mode))) = true ∧
    (let l : LaneId := .a; let s : State := State.reset; let L : Lane := s.lane l;
      let L := L.wr CFG_MODE_STATUS.DEVICE_MODE mStandby;
      let L := if L.mode ≤ mTorqueOff then L else L.wr CFG_MODE_STATUS.DEVICE_MODE 5;
      let L := if L.rd Int.hoPhase ≠ 0 then L else L.wr Int.hoPhase ((0) + 1); let L := L.wr CFG_MODE_STATUS.DEVICE_MODE mStandby;
      let s : State := s.setLane l L;
      let s : State := { s with variant := .d, a := { s.a with strap := ⟨.a, .d⟩ }, b := { s.b with strap := ⟨.b, .d⟩ } };
      let L : Lane := s.lane l;
      decide (L.strap.variant = .d ∧ mStandby ≤ L.mode ∧ L.mode ≤ mTorqueOff ∧ (L.rd Int.hoPhase ≠ 0 ∨ L.rd BST_STATUS.PHASE ≠ 0 ∨ L.rd Int.withdraw ≠ 0))) = true ∧
    (let l : LaneId := .a; let q : Fin 4 := 1; let s : State := State.reset; let L : Lane := s.lane l;
      let L := L.wr CFG_MODE_STATUS.DEVICE_MODE mStandby;
      let L := if L.mode ≤ mTorqueOff then L else L.wr CFG_MODE_STATUS.DEVICE_MODE 5; let L := L.wr Int.hoPhase (0);
      let L := L.wr BST_STATUS.PHASE (0); let L := L.wr Int.withdraw (0); let L := L.wr (LSC_PAIR_STATUS.STATE q) 0;
      let L := (L.wr CFG_MODE_STATUS.DEVICE_MODE mStandby).wr BST_SLICE.NEXT_PAIR 1 |>.wr (LSC_PAIR_STATUS.STATE 1) 0 |>.wr (LSC_PAIR_STATUS.STATE 2) 0 |>.wr SCH_CAP.CAP 7 |>.wr (LSC_PAIR_STATUS.STATE 0) 0;
      let s : State := s.setLane l L;
      let s : State := { s with variant := .d, a := { s.a with strap := ⟨.a, .d⟩ }, b := { s.b with strap := ⟨.b, .d⟩ } };
      let L : Lane := s.lane l;
      decide (L.strap.variant = .d ∧ mStandby ≤ L.mode ∧ L.mode ≤ mTorqueOff ∧ L.rd Int.hoPhase = 0 ∧ L.rd BST_STATUS.PHASE = 0 ∧ L.rd Int.withdraw = 0 ∧ L.slicePairFrom (L.rd BST_SLICE.NEXT_PAIR) = q ∧ L.pairState q = 0 ∧ L.capacityForbids q = false ∧ L.execOf q = none ∧ q ≠ 3)) = true ∧
    (let L := lane0; decide ((L.rd BST_STATUS.PHASE ≠ 3 ∨ L.pairState (L.rd BST_SLICE.NEXT_PAIR) ≠ 5))) = true ∧
    (let L := lane0; let L := L.wr BST_STATUS.PHASE (3); let L := (L.wr Int.held 0).wr PSC_STATUS.STAGE 0;
      let L := L.wr (LSC_PAIR_STATUS.STATE (L.rd BST_SLICE.NEXT_PAIR)) 5;
      decide (L.rd BST_STATUS.PHASE = 3 ∧ L.pairState (L.rd BST_SLICE.NEXT_PAIR) = 5 ∧ L.canExit = true)) = true ∧
    (let p : Fin 4 := 0; let L := lane0; let L := L.wr BST_STATUS.PHASE (3); let L := L.wr BST_SLICE.NEXT_PAIR (p);
      let L := L.wr (LSC_PAIR_STATUS.STATE p) 5; let L := L.wr Int.e0 0;
      decide (L.rd BST_STATUS.PHASE = 3 ∧ L.rd BST_SLICE.NEXT_PAIR = p ∧ L.pairState p = 5 ∧ L.on Int.e0 = false)) = true ∧
    (let L := lane0; let L := L.wr BST_STATUS.PHASE (3); let L := L.wr Int.e0 1;
      let L := L.wr (LSC_PAIR_STATUS.STATE (L.rd BST_SLICE.NEXT_PAIR)) 5;
      decide (L.rd BST_STATUS.PHASE = 3 ∧ L.pairState (L.rd BST_SLICE.NEXT_PAIR) = 5 ∧ L.on Int.e0 = true)) = true ∧
    (let L := lane0; let L := if L.mode ≠ mShutdown then L else L.wr CFG_MODE_STATUS.DEVICE_MODE 5;
      decide ((L.mode ≠ mShutdown ∨ L.rd BST_STATUS.PHASE ≠ 2))) = true ∧
    (let L := lane0; let L := L.wr CFG_MODE_STATUS.DEVICE_MODE mShutdown; let L := L.wr BST_STATUS.PHASE (2);
      decide (L.mode = mShutdown ∧ L.rd BST_STATUS.PHASE = 2)) = true := by
  decide

theorem test_hyps_DirectTestsScrubAndParity :
    (let t : Fin 256 := 1; let u : Fin 16 := 1; let L := lane0; decide (L.directAllowed t u = false)) = true ∧
    (let t : Fin 256 := 0; let u : Fin 16 := 2; let L := lane0;
      let L := (L.wr LCS_STATE.STATE 3).wr BST_STATUS.PHASE 0 |>.wr (LSC_PAIR_STATUS.STATE (directPair 2)) 0 |>.wr SCH_CAP.CAP 7 |>.wr (LSC_PAIR_STATUS.STATE 0) 0 |>.wr (LSC_PAIR_STATUS.STATE 1) 0;
      let L := (L.wr CFG_MODE_STATUS.DEVICE_MODE mService).wr SSF_STATUS.STILL 1; decide (L.directAllowed t u = true)) = true ∧
    (let L := lane0; let L := if L.rd Int.directUnit < 4 then L else L.wr Int.directUnit ((4) - 1);
      decide ((L.rd BST_STATUS.PHASE ≠ 4 ∨ L.rd Int.directUnit < 4 ∧ L.pairState (L.rd Int.directUnit) ≠ 5))) = true ∧
    (let L := lane0; let L := L.wr BST_STATUS.PHASE (4); let L := if 4 ≤ L.rd Int.directUnit then L else L.wr Int.directUnit (4);
      decide (L.rd BST_STATUS.PHASE = 4 ∧ 4 ≤ L.rd Int.directUnit)) = true ∧
    (let p : Fin 4 := 3; let L := lane0; let L := L.wr BST_STATUS.PHASE (4); let L := L.wr Int.directUnit (p);
      let L := L.wr (LSC_PAIR_STATUS.STATE p) 5;
      decide (L.rd BST_STATUS.PHASE = 4 ∧ L.rd Int.directUnit = p ∧ L.pairState p = 5 ∧ (p ≠ 3 ∨ L.split3 = false))) = true ∧
    (let b : Bool := false; let L := lane0;
      decide ((b = false ∨ L.rd LCS_STATE.STATE ≠ 2 ∧ L.rd LCS_STATE.STATE ≠ 4 ∧ gatesOff L.mode = true))) = true ∧
    (let L := lane0; decide ((L.rd LCS_STATE.STATE = 2 ∨ L.rd LCS_STATE.STATE = 4 ∨ gatesOff L.mode = false))) = true ∧
    (let src : Nat := 2; decide (src ∉ fieldParitySources ∧ src ∉ hostParitySources)) = true ∧
    (let src : Nat := 0x60; decide (src ∈ fieldParitySources)) = true ∧
    (let src : Nat := 0x46; let L := lane0; let L := (L.wr Int.held 0).wr PSC_STATUS.STAGE 0;
      decide (src ∈ [0x01, 0x0B, 0x24, 0x39, 0x46, 0x4D, 0xB7, 0xC9, 0xD9, 0xE9, 0xEA, 0xF3, 0xFD] ∧ L.canExit = true)) = true ∧
    (let src : Nat := 0xF4; decide (src ∈ [0xF0, 0xF2, 0xF4])) = true := by
  decide

theorem test_hyps_ClockSourcesSwitchAndFail_part1 :
    (let die : Fin 2 := 1; let d : Fin 5 := 1; let L := lane0; let c : ClkRegs := (if die = 0 then ckg else fck);
      decide (L.switchReady c d = false)) = true ∧
    (let die : Fin 2 := 0; let d : Fin 5 := 3; let L := lane0; let L := ((L.wr (ckg.pend 3) 1).wr (ckg.mode) 1).wr (ckg.native 3) 1;
      let c : ClkRegs := (if die = 0 then ckg else fck); decide (L.switchReady c d = true ∧ (die = 0 ∨ d ≠ 3))) = true ∧
    (let die : Fin 2 := 0; let d : Fin 5 := 4; let L := lane0; let c : ClkRegs := (if die = 0 then ckg else fck);
      let L := L.wr c.mode 0; let c : ClkRegs := (if die = 0 then ckg else fck);
      decide ((L.on (c.pend d) = false ∨ L.on c.mode = false ∨ L.on (c.native d) = true ∨ L.rd (c.ramp d) = 4))) = true ∧
    (let die : Fin 2 := 0; let d : Fin 5 := 0; let L := lane0; let c : ClkRegs := (if die = 0 then ckg else fck);
      let L := L.wr (c.pend d) 1; let L := L.wr c.mode 1; let L := L.wr (c.native d) 0;
      let L := if L.rd (c.ramp d) < 8 then L else L.wr (c.ramp d) ((8) - 1);
      let L := if L.rd (c.ramp d) ≠ 4 then L else L.wr (c.ramp d) ((4) + 1); let c : ClkRegs := (if die = 0 then ckg else fck);
      decide (L.on (c.pend d) = true ∧ L.on c.mode = true ∧ L.on (c.native d) = false ∧ L.rd (c.ramp d) < 8 ∧ L.rd (c.ramp d) ≠ 4)) = true ∧
    (let die : Fin 2 := 0; let d : Fin 5 := 0; let L := lane0; let c : ClkRegs := (if die = 0 then ckg else fck);
      let L := L.wr (c.pend d) 1; let L := L.wr c.mode 1; let L := L.wr (c.native d) 0; let L := L.wr (c.ramp d) (8);
      let L := L.wr (c.next d) (0); let c : ClkRegs := (if die = 0 then ckg else fck);
      decide (L.on (c.pend d) = true ∧ L.on c.mode = true ∧ L.on (c.native d) = false ∧ L.rd (c.ramp d) = 8 ∧ L.rd (c.next d) = 0 ∧ (die = 0 ∨ d ≠ 3))) = true ∧
    (let die : Fin 2 := 1; let L := lane0; let c : ClkRegs := (if die = 0 then ckg else fck); let L := L.wr c.busy 1;
      let c : ClkRegs := (if die = 0 then ckg else fck); decide (L.on c.busy = true)) = true ∧
    (let L := lane0; let L := L.wr CKG_STATUS.SW_BUSY 0; decide (L.on CKG_STATUS.SW_BUSY = false)) = true ∧
    (let x : Nat := 256; let r : Nat := 2; let L := lane0; let L := (L.wr CKG_CFG.XTOL 50).wr CKG_STATUS.PLL_LOCK 0;
      decide (crystalOk x (L.rd CKG_CFG.XTOL) = true ∧ (L.on CKG_STATUS.PLL_LOCK = false ∨ rootOk r = true))) = true ∧
    (let l : LaneId := .a; let x : Nat := 0; let r : Nat := 5; let L := lane0; let L := L.wr CKG_STATUS.REF 0;
      let L := L.wr (Int.swPend 4) 0; let c : Instr := .xtalEdgeTimeout l 0;
      decide (L.on CKG_STATUS.REF = false ∧ L.on (Int.swPend 4) = false ∧ (c = .xtalEdgeTimeout l 0 ∨ c = .crystalWindow l 0 x r ∧ crystalOk x (L.rd CKG_CFG.XTOL) = false ∧ 1 ≤ L.rd Int.xBad ∧ rootOk r = true))) = true ∧
    (let L := lane0; let L := L.wr CKG_STATUS.REF 1; decide (L.on CKG_STATUS.REF = true)) = true ∧
    (let L := lane0; let L := L.wr FCK_STATUS.REF 1; decide (L.on FCK_STATUS.REF = true)) = true ∧
    (let L := lane0; let L := L.wr CKG_STATUS.PLL_LOCK 0; decide (L.on CKG_STATUS.PLL_LOCK = false)) = true ∧
    (let L := lane0; let L := L.wr FCK_STATUS.PLL_LOCK 0; decide (L.on FCK_STATUS.PLL_LOCK = false)) = true ∧
    (let L := lane0; let L := L.wr Int.xfHold 0; decide (L.on Int.xfHold = false)) = true := by
  decide

theorem test_hyps_ClockSourcesSwitchAndFail_part2 :
    (let L := lane0; let L := L.wr FCK_STATUS.REF 0; let L := L.wr FCK_FLAGS.HFO_FAIL 0;
      let L := if L.rd Int.fhfoBad ≠ 2 then L else L.wr Int.fhfoBad ((2) + 1);
      decide (L.on FCK_STATUS.REF = false ∧ L.on FCK_FLAGS.HFO_FAIL = false ∧ L.rd Int.fhfoBad ≠ 2)) = true ∧
    (let L := lane0; let L := L.wr CKG_STATUS.PLL_LOCK 1; let L := (L.wr Int.held 0).wr PSC_STATUS.STAGE 0;
      decide (L.on CKG_STATUS.PLL_LOCK = true ∧ L.canExit = true)) = true ∧
    (let L := lane0; let L := L.wr FCK_STATUS.PLL_LOCK 1; decide (L.on FCK_STATUS.PLL_LOCK = true)) = true ∧
    (let L := lane0; let L := L.wr Int.xfHold 1; let L := (L.wr Int.held 0).wr PSC_STATUS.STAGE 0;
      decide (L.on Int.xfHold = true ∧ L.canExit = true)) = true ∧
    (let n : Nat := 2; let L := lane0; decide ((hfoOk n = true ∨ n ≠ 0 ∧ L.rd Int.hfoBad = 0))) = true ∧
    (let n : Nat := 0; let L := lane0; let L := L.wr CKG_FLAGS.HFO_FAIL 0; let L := L.wr CKG_STATUS.REF 0;
      let L := (L.wr Int.held 0).wr PSC_STATUS.STAGE 0;
      decide (hfoOk n = false ∧ (n = 0 ∨ 1 ≤ L.rd Int.hfoBad) ∧ L.on CKG_FLAGS.HFO_FAIL = false ∧ L.on CKG_STATUS.REF = false ∧ L.canExit = true)) = true ∧
    (let n : Nat := 5; let L := lane0; decide ((hfoOk n = true ∨ n ≠ 0 ∧ L.rd Int.fhfoBad = 0))) = true ∧
    (let n : Nat := 0; let L := lane0; let L := L.wr FCK_FLAGS.HFO_FAIL 0; let L := L.wr FCK_STATUS.REF 0;
      decide (hfoOk n = false ∧ (n = 0 ∨ 1 ≤ L.rd Int.fhfoBad) ∧ L.on FCK_FLAGS.HFO_FAIL = false ∧ L.on FCK_STATUS.REF = false)) = true ∧
    (let l : LaneId := .a; let s : State := State.reset; let L : Lane := s.lane l;
      let s : State := { s with md := s.md.wr Int.mdDormant 0 }; let s : State := s.setLane l L; let s : State := s.setLane l L;
      let c : Instr := .rootLockError l 2;
      decide (s.md.awake = true ∧ s.md.queue.length < 4096 ∧ c ∈ [.xtalEdgeTimeout l 2, .rootLockError l 2])) = true ∧
    (let l : LaneId := .a; let x : Nat := 5; let r : Nat := 5; let s : State := State.reset; let L : Lane := s.lane l;
      let s : State := { s with md := s.md.wr Int.mdDormant 1 }; let s : State := s.setLane l L; let s : State := s.setLane l L;
      let c : Instr := .rootLockError l 2;
      decide (s.md.awake = false ∧ c ∈ [.xtalEdgeTimeout l 2, .rootLockError l 2, .crystalWindow l 2 x r])) = true := by
  decide

theorem test_hyps_DormouseEntersLevels_part1 :
    (let p : Fin 4 := 3; let L := lane0;
      decide ((L.on Int.held = true ∨ L.inService p = false ∨ L.pairState p = 1 ∨ L.queue p ≠ [] ∨ L.levelStands p = true))) = true ∧
    (let p : Fin 4 := 3; let L := lane0; let L := L.wr Int.held 0; let L := L.wr (LSC_PAIR_STATUS.STATE p) 0;
      let L := L.wr PSC_MODE.LEVEL (0);
      decide (L.on Int.held = false ∧ L.inService p = true ∧ L.pairState p ≠ 1 ∧ L.queue p = [] ∧ L.levelStands p = false ∧ L.rd PSC_MODE.LEVEL = 0)) = true ∧
    (let p : Fin 4 := 1; let L := lane0; let L := L.wr Int.held 0; let L := L.wr (LSC_PAIR_STATUS.STATE p) 0;
      let L := if L.rd PSC_MODE.LEVEL ≠ 0 then L else L.wr PSC_MODE.LEVEL ((0) + 1); let L := L.wr PSC_STATUS.STAGE (0);
      let L := L.wr PSC_STATUS.DOZED (15 - 2 ^ p.val);
      decide (L.on Int.held = false ∧ L.inService p = true ∧ L.pairState p ≠ 1 ∧ L.queue p = [] ∧ L.levelStands p = false ∧ L.rd PSC_MODE.LEVEL ≠ 0 ∧ L.rd PSC_STATUS.STAGE = 0 ∧ (∀ q : Nat, q < 4 → q ≠ p → L.inService q = true → L.bitOf PSC_STATUS.DOZED q = true))) = true ∧
    (let p : Fin 4 := 1; let L := lane0; let L := L.wr Int.held 0; let L := L.wr (LSC_PAIR_STATUS.STATE p) 0;
      let L := if L.rd PSC_MODE.LEVEL ≠ 0 then L else L.wr PSC_MODE.LEVEL ((0) + 1); let L := L.wr PSC_STATUS.STAGE (0);
      let L := L.wr PSC_WAKE.WAKES (0); let L := L.wr PSC_STATUS.DOZED (15 - 2 ^ p.val);
      decide (L.on Int.held = false ∧ L.inService p = true ∧ L.pairState p ≠ 1 ∧ L.queue p = [] ∧ L.levelStands p = false ∧ L.rd PSC_MODE.LEVEL ≠ 0 ∧ L.rd PSC_STATUS.STAGE = 0 ∧ (∀ q : Nat, q < 4 → q ≠ p → L.inService q = true → L.bitOf PSC_STATUS.DOZED q = true) ∧ L.levelPermitted (L.rd PSC_MODE.LEVEL) = true ∧ L.rd PSC_WAKE.WAKES = 0)) = true ∧
    (let p : Fin 4 := 1; let L := lane0; let L := L.wr Int.held 0; let L := L.wr (LSC_PAIR_STATUS.STATE p) 0;
      let L := if L.rd PSC_MODE.LEVEL ≠ 0 then L else L.wr PSC_MODE.LEVEL ((0) + 1); let L := L.wr PSC_STATUS.STAGE (0);
      let L := (L.wr PSC_MODE.LEVEL 3).wr PSC_STATUS.DOZED (15 - 2 ^ p.val);
      decide (L.on Int.held = false ∧ L.inService p = true ∧ L.pairState p ≠ 1 ∧ L.queue p = [] ∧ L.levelStands p = false ∧ L.rd PSC_MODE.LEVEL ≠ 0 ∧ L.rd PSC_STATUS.STAGE = 0 ∧ (∀ q : Nat, q < 4 → q ≠ p → L.inService q = true → L.bitOf PSC_STATUS.DOZED q = true) ∧ L.levelPermitted (L.rd PSC_MODE.LEVEL) = false)) = true ∧
    (let k : Fin 32 := 1; let L := lane0;
      decide ((L.rd PSC_STATUS.STAGE ≠ 1 ∨ (k : Nat) ∉ levelBlocks (L.rd Int.pscAsk) ∨ L.bitOf Int.pscAnswered k = true))) = true ∧
    (let k : Fin 32 := 5; let L := lane0; let L := (L.wr (FLT_P_STATUS.LINK 0) 1).wr (FLT_P_STATUS.OUTSTANDING 0) 2;
      decide (L.undrained k = true)) = true ∧
    (let k : Fin 32 := 3; let L := lane0; let L := L.wr PSC_STATUS.STAGE (1); let L := L.putBit Int.pscAnswered k false;
      let L := (((L.wr PSC_STATUS.STAGE 1).wr Int.pscAsk 1).wr Int.pscAnswered 0).wr Int.wakePend 0;
      decide (L.rd PSC_STATUS.STAGE = 1 ∧ (k : Nat) ∈ levelBlocks (L.rd Int.pscAsk) ∧ L.bitOf Int.pscAnswered k = false ∧ L.undrained k = false)) = true ∧
    (let k : Fin 32 := 3; let b : Bool := false; let L := lane0; let L := L.wr PSC_STATUS.STAGE (1);
      let L := L.putBit Int.pscAnswered k false;
      let L := (((L.wr PSC_STATUS.STAGE 1).wr Int.pscAsk 1).wr Int.pscAnswered 0).wr Int.wakePend 0; let L := L.wr BST_STATUS.PHASE 1;
      decide (L.rd PSC_STATUS.STAGE = 1 ∧ (k : Nat) ∈ levelBlocks (L.rd Int.pscAsk) ∧ L.bitOf Int.pscAnswered k = false ∧ L.undrained k = false ∧ L.refusal k b ≠ 0)) = true ∧
    (let k : Fin 32 := 19; let b : Bool := false; let L := lane0; let L := L.wr PSC_STATUS.STAGE (1);
      let L := L.putBit Int.pscAnswered k false; let L := L.wr Int.wakePend 0;
      let L := (((L.wr PSC_STATUS.STAGE 1).wr Int.pscAsk 1).wr Int.pscAnswered 0).wr Int.wakePend 0;
      let L := L.wr Int.pscAnswered (8 + 7 * 65536);
      decide (L.rd PSC_STATUS.STAGE = 1 ∧ (k : Nat) ∈ levelBlocks (L.rd Int.pscAsk) ∧ L.bitOf Int.pscAnswered k = false ∧ L.undrained k = false ∧ L.refusal k b = 0 ∧ (∀ j ∈ levelBlocks (L.rd Int.pscAsk), j ≠ k → L.bitOf Int.pscAnswered j = true) ∧ L.on Int.wakePend = false)) = true ∧
    (let k : Fin 32 := 1; let L := lane0; let L := L.wr PSC_STATUS.STAGE (1); let L := L.putBit Int.pscAnswered k false;
      decide (L.rd PSC_STATUS.STAGE = 1 ∧ (k : Nat) ∈ levelBlocks (L.rd Int.pscAsk) ∧ L.bitOf Int.pscAnswered k = false)) = true ∧
    (let k : Fin 32 := 16; let L := lane0; let L := L.wr PSC_STATUS.STAGE (1); let L := L.putBit Int.pscAnswered k false;
      let L := (((L.wr PSC_STATUS.STAGE 1).wr Int.pscAsk 1).wr Int.pscAnswered 0).wr Int.wakePend 0;
      decide (L.rd PSC_STATUS.STAGE = 1 ∧ (k : Nat) ∈ levelBlocks (L.rd Int.pscAsk) ∧ L.bitOf Int.pscAnswered k = false ∧ (L.undrained k = true ∨ 16 ≤ (k : Nat)))) = true ∧
    (let k : Fin 32 := 1; let L := lane0; let L := L.wr PSC_STATUS.STAGE (1); let L := L.putBit Int.pscAnswered k false;
      decide (L.rd PSC_STATUS.STAGE = 1 ∧ (k : Nat) ∈ levelBlocks (L.rd Int.pscAsk) ∧ L.bitOf Int.pscAnswered k = false ∧ L.undrained k = false ∧ (k : Nat) < 16)) = true ∧
    (let L := lane0; let L := if L.rd Int.pscAsk ≠ 3 then L else L.wr Int.pscAsk ((3) + 1);
      decide ((L.rd PSC_STATUS.STAGE ≠ 2 ∨ L.rd Int.pscAsk ≠ 3))) = true := by
  decide

theorem test_hyps_DormouseEntersLevels_part2 :
    (let L := lane0; let L := if L.rd PSC_STATUS.STAGE ≠ 3 then L else L.wr PSC_STATUS.STAGE ((3) + 1);
      decide (L.rd PSC_STATUS.STAGE ≠ 3)) = true ∧
    (let L := lane0; let L := if L.rd PSC_STATUS.STAGE ≠ 4 then L else L.wr PSC_STATUS.STAGE ((4) + 1);
      decide (L.rd PSC_STATUS.STAGE ≠ 4)) = true ∧
    (let L := lane0; let L := L.wr PSC_STATUS.STAGE (2); let L := L.wr Int.pscAsk (3);
      decide (L.rd PSC_STATUS.STAGE = 2 ∧ L.rd Int.pscAsk = 3)) = true ∧
    (let L := lane0; let L := L.wr PSC_STATUS.STAGE (2); let L := L.wr Int.pscAsk (3); let L := L.wr Int.wakePend 0;
      let L := ((L.wr FPS_STATUS.CLE 3).wr FPS_STATUS.PWM 3).wr FPS_STATUS.ANALOG 3;
      decide (L.rd PSC_STATUS.STAGE = 2 ∧ L.rd Int.pscAsk = 3 ∧ L.fieldIsOff = true ∧ L.on Int.wakePend = false)) = true ∧
    (let L := lane0; let L := L.wr PSC_STATUS.STAGE (2); let L := L.wr Int.pscAsk (3); let L := L.wr Int.wakePend 1;
      let L := ((L.wr FPS_STATUS.CLE 3).wr FPS_STATUS.PWM 3).wr FPS_STATUS.ANALOG 3;
      decide (L.rd PSC_STATUS.STAGE = 2 ∧ L.rd Int.pscAsk = 3 ∧ L.fieldIsOff = true ∧ L.on Int.wakePend = true)) = true ∧
    (let b : Bool := false; let L := lane0; let L := L.wr PSC_STATUS.STAGE (2); let L := L.wr Int.pscAsk (3);
      let L := L.wr Int.pscN3 0;
      decide (L.rd PSC_STATUS.STAGE = 2 ∧ L.rd Int.pscAsk = 3 ∧ (b = false ∨ L.fieldIsOff = false) ∧ L.on Int.pscN3 = false)) = true ∧
    (let L := lane0; let L := L.wr PSC_STATUS.STAGE (3); let L := L.wr Int.wakePend 0;
      decide (L.rd PSC_STATUS.STAGE = 3 ∧ L.on Int.wakePend = false)) = true ∧
    (let L := lane0; let L := L.wr PSC_STATUS.STAGE (3); let L := L.wr Int.wakePend 0; let L := L.wr Int.pscAsk (2);
      decide (L.rd PSC_STATUS.STAGE = 3 ∧ L.on Int.wakePend = false ∧ L.rd Int.pscAsk = 2)) = true ∧
    (let L := lane0; let L := L.wr PSC_STATUS.STAGE (3); let L := L.wr Int.wakePend 0; let L := L.wr Int.pscAsk (3);
      decide (L.rd PSC_STATUS.STAGE = 3 ∧ L.on Int.wakePend = false ∧ L.rd Int.pscAsk = 3)) = true ∧
    (let L := lane0; let L := L.wr PSC_STATUS.STAGE (4); let L := L.wr CFG_MODE_STATUS.DEVICE_MODE mShutdown;
      decide (L.rd PSC_STATUS.STAGE = 4 ∧ L.mode = mShutdown)) = true ∧
    (let L := lane0; let L := L.wr PSC_STATUS.STAGE (4); let L := L.wr CFG_MODE_STATUS.DEVICE_MODE mShutdown;
      decide (L.rd PSC_STATUS.STAGE = 4 ∧ L.mode = mShutdown ∧ L.rd PSC_WAKE.WAKES % 16 = 0)) = true ∧
    (let L := lane0; let L := L.wr PSC_STATUS.STAGE (4); let L := L.wr CFG_MODE_STATUS.DEVICE_MODE mShutdown;
      let L := L.wr PSC_WAKE.WAKES 8; decide (L.rd PSC_STATUS.STAGE = 4 ∧ L.mode = mShutdown ∧ L.rd PSC_WAKE.WAKES % 16 ≠ 0)) = true := by
  decide

theorem test_hyps_WakesSuppliesAndTemperature_part1 :
    (let L := lane0; let L := L.wr PSC_STATUS.STAGE (0); decide (L.rd PSC_STATUS.STAGE = 0)) = true ∧
    (let w : Fin 5 := 1; let L := lane0; let L := L.wr PSC_STATUS.STAGE (0);
      let L := if L.state ≠ stAsleep then L else L.wr CFG_MODE_STATUS.LANE_STATE 5;
      let L := if L.rd PSC_STATUS.LEVEL_NOW ≠ 2 then L else L.wr PSC_STATUS.LEVEL_NOW ((2) + 1);
      decide (L.rd PSC_STATUS.STAGE = 0 ∧ L.state ≠ stAsleep ∧ L.rd PSC_STATUS.LEVEL_NOW ≠ 2 ∧ (L.mode ≠ mShutdown ∨ w ≠ 0 ∧ w ≠ 2))) = true ∧
    (let w : Fin 5 := 1; let L := lane0; let L := L.wr PSC_STATUS.STAGE (0); let L := L.wr CFG_MODE_STATUS.LANE_STATE stAsleep;
      decide (L.rd PSC_STATUS.STAGE = 0 ∧ L.state = stAsleep ∧ w ≠ 4)) = true ∧
    (let L := lane0; let L := L.wr PSC_STATUS.STAGE (0);
      let L := if L.state ≠ stAsleep then L else L.wr CFG_MODE_STATUS.LANE_STATE 5; let L := L.wr PSC_STATUS.LEVEL_NOW (2);
      decide (L.rd PSC_STATUS.STAGE = 0 ∧ L.state ≠ stAsleep ∧ L.rd PSC_STATUS.LEVEL_NOW = 2)) = true ∧
    (let w : Fin 5 := 0; let L := lane0; let L := L.wr PSC_STATUS.STAGE (0);
      let L := if L.state ≠ stAsleep then L else L.wr CFG_MODE_STATUS.LANE_STATE 5;
      let L := if L.rd PSC_STATUS.LEVEL_NOW ≠ 2 then L else L.wr PSC_STATUS.LEVEL_NOW ((2) + 1);
      let L := L.wr CFG_MODE_STATUS.DEVICE_MODE mShutdown; let L := L.wr Int.pscN4 0;
      decide (L.rd PSC_STATUS.STAGE = 0 ∧ L.state ≠ stAsleep ∧ L.rd PSC_STATUS.LEVEL_NOW ≠ 2 ∧ L.mode = mShutdown ∧ (w = 0 ∨ w = 2) ∧ L.on Int.pscN4 = false)) = true ∧
    (let L := lane0; let L := if L.state ≠ stAsleep then L else L.wr CFG_MODE_STATUS.LANE_STATE 5;
      let L := ((L.wr FPS_STATUS.CLE 3).wr FPS_STATUS.PWM 3).wr FPS_STATUS.ANALOG 3; decide (L.fieldIsOff = true ∧ L.state ≠ stAsleep)) = true ∧
    (let L := lane0; decide ((L.fieldIsOff = false ∨ L.state = stAsleep))) = true ∧
    (let L := lane0; let L := L.wr Int.deepWake 1; let L := if L.rd PSC_STATUS.CORE ≠ 0 then L else L.wr PSC_STATUS.CORE ((0) + 1);
      decide (L.on Int.deepWake = true ∧ L.rd PSC_STATUS.CORE ≠ 0)) = true ∧
    (let L := lane0; let L := L.wr Int.deepWake 1; let L := L.wr PSC_STATUS.CORE (0);
      decide (L.on Int.deepWake = true ∧ L.rd PSC_STATUS.CORE = 0)) = true ∧
    (let L := lane0; let L := L.wr Int.deepWake 0; let L := L.wr Int.held 1; let L := L.wr PSC_STATUS.FABRIC (3);
      decide (L.on Int.deepWake = false ∧ L.on Int.held = true ∧ L.rd PSC_STATUS.FABRIC = 3)) = true ∧
    (let L := lane0; let L := L.wr Int.deepWake 0; let L := L.wr Int.held 0;
      decide (L.on Int.deepWake = false ∧ (L.on Int.held = false ∨ L.rd PSC_STATUS.FABRIC ≠ 3))) = true ∧
    (let w : Fin 6 := 0; decide ((w : Nat) < 3)) = true ∧
    (let w : Fin 6 := 0; let L := lane0; let L := L.putBit PSC_SUPPLY.OK w false;
      decide ((w : Nat) < 3 ∧ L.bitOf PSC_SUPPLY.OK w = false)) = true ∧
    (let w : Fin 6 := 0; let L := lane0; let L := L.putBit PSC_SUPPLY.OK w true; let L := (L.wr Int.held 0).wr PSC_STATUS.STAGE 0;
      decide ((w : Nat) < 3 ∧ L.bitOf PSC_SUPPLY.OK w = true ∧ L.canExit = true)) = true := by
  decide

theorem test_hyps_WakesSuppliesAndTemperature_part2 :
    (let w : Fin 6 := 5; decide (3 ≤ (w : Nat))) = true ∧
    (let w : Fin 6 := 5; let L := lane0; let L := L.putBit FPS_STATUS.OK (w - 3) false;
      decide (3 ≤ (w : Nat) ∧ L.bitOf FPS_STATUS.OK (w - 3) = false)) = true ∧
    (let w : Fin 6 := 5; let L := lane0; let L := L.putBit FPS_STATUS.OK (w - 3) true;
      decide (3 ≤ (w : Nat) ∧ L.bitOf FPS_STATUS.OK (w - 3) = true)) = true ∧
    (let L := lane0; let L := (L.wr Int.held 0).wr PSC_STATUS.STAGE 0; decide (L.canExit = true)) = true := by
  decide

theorem test_hyps_ManagementDiePortStagingAndLog_part1 :
    (let a : Nat := 1; let n : Nat := 5; let d : List Byte := []; let x : Int := 1; let y : Int := 0; let h : Nat := 0;
      let b : Bool := true; let c : Instr := .logAck; let s : State := State.reset; let L : Lane := s.lane .a;
      let s : State := { s with md := s.md.wr Int.mdDormant 1 }; let s : State := s.setLane .a L;
      decide (s.md.awake = false ∧ c ∈ [.dpRead a n, .dpWrite a d, .dpStatus, .dpIdent, .unknownOpcode, .stageOpen, .stageClose, .stageDiscard, .updateStart, .logAck, .attest, .certWrite, .stateBlockSave, .mdSensorSample x y h b])) = true ∧
    (let w : Nat := 3; let o : Nat := 0; let s : State := State.reset; let L : Lane := s.lane .a;
      let s : State := { s with md := s.md.wr Int.mdDormant 0 }; let s : State := s.setLane .a L;
      decide (s.md.awake = true ∧ w < 8 ∧ o < 2 ^ 29)) = true ∧
    (let s : State := State.reset; let L : Lane := s.lane .a; let s : State := { s with md := s.md.wr Int.mdDormant 0 };
      let s : State := s.setLane .a L; decide (s.md.awake = true)) = true ∧
    (let c : Instr := .stageOpen; let s : State := State.reset; let L : Lane := s.lane .a;
      let s : State := { s with md := s.md.wr Int.mdDormant 0 }; let s : State := s.setLane .a L;
      let s : State := { s with md := (s.md.wr DP_STATUS.STAGE 2) };
      decide (s.md.awake = true ∧ s.md.stageBusy = true ∧ c ∈ [.stageOpen, .stageClose, .stageDiscard])) = true ∧
    (let s : State := State.reset; let L : Lane := s.lane .a; let s : State := { s with md := s.md.wr Int.mdDormant 0 };
      let s : State := { s with md := s.md.wr DP_STATUS.STAGE (0) }; let s : State := s.setLane .a L;
      decide (s.md.awake = true ∧ s.md.rd DP_STATUS.STAGE = 0)) = true ∧
    (let s : State := State.reset; let L : Lane := s.lane .a; let s : State := { s with md := s.md.wr Int.mdDormant 0 };
      let s : State := { s with md := s.md.wr DP_STATUS.STAGE (1) }; let s : State := s.setLane .a L;
      decide (s.md.awake = true ∧ s.md.rd DP_STATUS.STAGE = 1)) = true ∧
    (let s : State := State.reset; let L : Lane := s.lane .a; let s : State := { s with md := s.md.wr Int.mdDormant 0 };
      let s : State := { s with md := s.md.wr DP_STATUS.STAGE (0 + 1) }; let s : State := s.setLane .a L;
      decide (s.md.awake = true ∧ s.md.stageBusy = false ∧ s.md.rd DP_STATUS.STAGE ≠ 0)) = true ∧
    (let o : Nat := 2; let d : List Byte := []; let s : State := State.reset; let L : Lane := s.lane .a;
      let s : State := { s with md := s.md.wr Int.mdDormant 0 }; let s : State := { s with md := s.md.wr DP_STATUS.STAGE (1) };
      let s : State := { s with md := s.md.wr DP_STATUS.BUSY 0 }; let s : State := s.setLane .a L;
      decide (s.md.awake = true ∧ s.md.rd DP_STATUS.STAGE = 1 ∧ s.md.on DP_STATUS.BUSY = false ∧ o < 33554432 ∧ d.length ≤ 4096 ∧ d.length % 4 = 0)) = true ∧
    (let d : List Byte := []; let s : State := State.reset; let L : Lane := s.lane .a;
      let s : State := { s with md := s.md.wr Int.mdDormant 0 }; let s : State := { s with md := s.md.wr DP_STATUS.STAGE (1) };
      let s : State := { s with md := s.md.wr DP_STATUS.BUSY 0 }; let s : State := s.setLane .a L; let s : State := s.setLane .a L;
      let o : Nat := s.md.rd DP_STAGE.STAGE_LEN;
      decide (s.md.awake = true ∧ s.md.rd DP_STATUS.STAGE = 1 ∧ s.md.on DP_STATUS.BUSY = false ∧ o < 33554432 ∧ d.length ≤ 4096 ∧ d.length % 4 = 0)) = true ∧
    (let o : Nat := 2; let d : List Byte := []; let s : State := State.reset; let L : Lane := s.lane .a;
      let s : State := { s with md := s.md.wr Int.mdDormant 0 }; let s : State := { s with md := s.md.wr DP_STATUS.STAGE (1) };
      let s : State := { s with md := s.md.wr DP_STATUS.BUSY 0 }; let s : State := s.setLane .a L;
      decide (s.md.awake = true ∧ s.md.rd DP_STATUS.STAGE = 1 ∧ s.md.on DP_STATUS.BUSY = false ∧ o < 33554432 ∧ d.length ≤ 4096 ∧ d.length % 4 = 0 ∧ o ≠ s.md.rd DP_STAGE.STAGE_LEN)) = true ∧
    (let s : State := State.reset; let L : Lane := s.lane .a; let s : State := { s with md := s.md.wr DP_STATUS.STAGE (2 + 1) };
      let s : State := s.setLane .a L; decide (s.md.rd DP_STATUS.STAGE ≠ 2)) = true ∧
    (let s : State := State.reset; let L : Lane := s.lane .a; let s : State := { s with md := s.md.wr DP_STATUS.STAGE (2) };
      let s : State := s.setLane .a L; decide (s.md.rd DP_STATUS.STAGE = 2)) = true ∧
    (let l : LaneId := .a; let s : State := State.reset; let L : Lane := s.lane l;
      let s : State := { s with md := s.md.wr Int.mdDormant 0 }; let s : State := { s with md := s.md.wr DP_STATUS.STAGE (3) };
      let s : State := s.setLane l L; let n : Nat := l.num; let s : State := { s with md := s.md.wr DP_ARG.ARG (2 ^ n) };
      let s : State := s.setLane l L; let n : Nat := l.num;
      decide (s.md.awake = true ∧ s.md.rd DP_STATUS.STAGE = 3 ∧ s.variant.fitted l = true ∧ s.md.rd DP_ARG.ARG = 2 ^ n ∧ (∀ m : Nat, m < 3 → s.md.laneUpd m ≠ 1 ∧ s.md.laneUpd m ≠ 2) ∧ s.md.offers.length = 3)) = true ∧
    (let s : State := State.reset; let L : Lane := s.lane .a; let s : State := { s with md := s.md.wr Int.mdDormant 0 };
      let s : State := { s with md := s.md.wr DP_STATUS.STAGE (3 + 1) }; let s : State := s.setLane .a L;
      decide (s.md.awake = true ∧ s.md.rd DP_STATUS.STAGE ≠ 3)) = true := by
  decide

theorem test_hyps_ManagementDiePortStagingAndLog_part2 :
    (let s : State := State.reset; let L : Lane := s.lane .a; let s : State := { s with md := s.md.wr Int.mdDormant 0 };
      let s : State := s.setLane .a L; let s : State := s.setLane .a L;
      let c : List Byte := s.md.win.bytes ramDefault 0x200 (min 1024 (s.md.rd DP_ARG.ARG));
      decide (s.md.awake = true ∧ c = s.md.win.bytes ramDefault 0x200 (min 1024 (s.md.rd DP_ARG.ARG)))) = true ∧
    (let s : State := State.reset; let L : Lane := s.lane .a; let s : State := { s with md := s.md.wr Int.mdAtt 0 };
      let s : State := s.setLane .a L; decide (s.md.on Int.mdAtt = false)) = true ∧
    (let s : State := State.reset; let L : Lane := s.lane .a; let s : State := { s with md := s.md.wr Int.mdAtt 1 };
      let s : State := s.setLane .a L; decide (s.md.on Int.mdAtt = true)) = true ∧
    (let s : State := State.reset; let L : Lane := s.lane .a; let s : State := { s with md := { s.md with queue := [] } };
      let s : State := s.setLane .a L; decide (s.md.queue = [])) = true ∧
    (let q : MdRecord := ⟨⟨0, 0, 0, 0, 0, []⟩, 0, 0⟩; let r : List MdRecord := []; let s : State := State.reset;
      let L : Lane := s.lane .a; let s : State := { s with md := { s.md with queue := q :: r } };
      let s : State := { s with md := s.md.wr Int.mdLostNow (0) }; let s : State := s.setLane .a L;
      decide (s.md.queue = q :: r ∧ s.md.rd Int.mdLostNow = 0)) = true ∧
    (let L := lane0; let s := stateOf L; decide ((s.variant.list.all s.laneAsleep && s.md.queue.isEmpty && s.md.awake) = true)) = true ∧
    (let L := lane0; let L := L.wr MBX_STATUS.LINK 1; let s := stateOf L;
      decide ((s.variant.list.all s.laneAsleep && s.md.queue.isEmpty && s.md.awake) = false)) = true ∧
    (let s : State := State.reset; let L : Lane := s.lane .a; let s : State := { s with md := s.md.wr Int.mdDormant 1 };
      let s : State := s.setLane .a L; decide (s.md.awake = false ∧ (∀ e ∈ s.md.saved.regs, e.1 / 2 ^ 48 = Home.mdP.code))) = true := by
  decide

theorem test_hyps_MailboxAndUpdatesOfALane_part1 :
    (let l : LaneId := .a; let m : MbxUp := .ready; let r : List MbxUp := []; let s : State := State.reset; let L : Lane := s.lane l;
      let s : State := { s with md := s.md.wr Int.mdDormant 0 }; let L : Lane := { L with mbxUp := m :: r };
      let s : State := s.setLane l L; decide (s.variant.fitted l = true ∧ s.md.awake = true ∧ (s.lane l).mbxUp = m :: r)) = true ∧
    (let l : LaneId := .a; let m : MbxUp := .telemetry ⟨0, 0, 0, [], 0, 0, [], [], []⟩; let r : List MbxUp := [];
      let t : Telemetry := ⟨0, 0, 0, [], 0, 0, [], [], []⟩; let s : State := State.reset; let L : Lane := s.lane l;
      let s : State := { s with md := s.md.wr Int.mdDormant 0 }; let L : Lane := { L with mbxUp := m :: r };
      let s : State := s.setLane l L;
      decide (s.variant.fitted l = true ∧ s.md.awake = true ∧ (s.lane l).mbxUp = m :: r ∧ m = .telemetry t ∧ s.md.telemetry.length = 3)) = true ∧
    (let l : LaneId := .a; let m : MbxUp := .log ⟨0, 0, 0, 0, 0, []⟩; let r : List MbxUp := [];
      let x : LogRecord := ⟨0, 0, 0, 0, 0, []⟩; let s : State := State.reset; let L : Lane := s.lane l;
      let s : State := { s with md := s.md.wr Int.mdDormant 0 }; let L : Lane := { L with mbxUp := m :: r };
      let s : State := s.setLane l L; decide (s.variant.fitted l = true ∧ s.md.awake = true ∧ (s.lane l).mbxUp = m :: r ∧ m = .log x)) = true ∧
    (let l : LaneId := .a; let m : MbxUp := .identity ⟨0, 0, 0, 0, 0, 0, 0, 0⟩; let r : List MbxUp := [];
      let i : Identity := ⟨0, 0, 0, 0, 0, 0, 0, 0⟩; let s : State := State.reset; let L : Lane := s.lane l;
      let s : State := { s with md := s.md.wr Int.mdDormant 0 }; let L : Lane := { L with mbxUp := m :: r };
      let s : State := s.setLane l L;
      decide (s.variant.fitted l = true ∧ s.md.awake = true ∧ (s.lane l).mbxUp = m :: r ∧ m = .identity i ∧ s.md.identity.length = 3)) = true ∧
    (let l : LaneId := .a; let m : MbxUp := .refuse 15; let r : List MbxUp := []; let c : Nat := 15; let s : State := State.reset;
      let L : Lane := s.lane l; let s : State := { s with md := s.md.wr Int.mdDormant 0 }; let L : Lane := { L with mbxUp := m :: r };
      let s : State := s.setLane l L; let s : State := { s with md := s.md.setLaneUpd 0 2 };
      decide (s.variant.fitted l = true ∧ s.md.awake = true ∧ (s.lane l).mbxUp = m :: r ∧ m = .refuse c ∧ c < 16 ∧ s.md.laneUpd l.num = 2)) = true ∧
    (let l : LaneId := .a; let m : MbxUp := .result true 0; let r : List MbxUp := []; let c : Nat := 0; let s : State := State.reset;
      let L : Lane := s.lane l; let s : State := { s with md := s.md.wr Int.mdDormant 0 }; let L : Lane := { L with mbxUp := m :: r };
      let s : State := s.setLane l L; let s : State := { s with md := s.md.setLaneUpd 0 2 };
      decide (s.variant.fitted l = true ∧ s.md.awake = true ∧ (s.lane l).mbxUp = m :: r ∧ m = .result true c ∧ s.md.laneUpd l.num = 2)) = true ∧
    (let M : Md := Md.reset; decide (M.queue.length < 4096)) = true ∧
    (let M : Md := { Md.reset with queue := List.replicate 4096 ⟨⟨0, 0, 0, 0, 0, []⟩, 0, 0⟩ }; decide (4096 ≤ M.queue.length)) = true ∧
    (let l : LaneId := .a; let L := lane0; let L : Lane := { L with mbxUp := [] }; let s := stateOf L;
      let c : Instr := .updateReply l;
      decide (((s.lane l).mbxUp = [] ∨ s.md.awake = false) ∧ c ∈ [.telemetryReceipt l, .logRecordReceipt l, .identityRecord l, .updateReply l])) = true ∧
    (let L := lane0; let L := L.wr MBX_STATUS.LINK 1; decide (L.on MBX_STATUS.LINK = true ∧ L.mbxUp.length < 8)) = true ∧
    (let l : LaneId := .a; let x : List Int := []; let i : Fin 256 := 0; let L := lane0; let c : Instr := .telemetrySend l x;
      decide ((L.on MBX_STATUS.LINK = false ∨ 8 ≤ L.mbxUp.length) ∧ c ∈ [.telemetrySend l x, .mbxSend l i])) = true ∧
    (let l : LaneId := .a; let L := lane0; let s := stateOf L;
      decide (((s.lane l).on MBX_STATUS.LINK = false ∨ s.md.offers.getD l.num [] = []))) = true ∧
    (let l : LaneId := .a; let h : List Byte := []; let r : List (List Byte) := []; let s : State := State.reset;
      let L : Lane := s.lane l; let L := L.wr MBX_STATUS.LINK 1; let L := L.wr MBX_STATUS.UPD_STATE (0);
      let s : State := s.setLane l L; let s : State := { s with md := { s.md with offers := [[h], [], []] } };
      let L : Lane := s.lane l;
      decide (s.variant.fitted l = true ∧ L.on MBX_STATUS.LINK = true ∧ s.md.offers.getD l.num [] = h :: r ∧ s.md.offers.length = 3 ∧ (L.rd MBX_STATUS.UPD_STATE = 0 ∨ 4 ≤ L.rd MBX_STATUS.UPD_STATE))) = true ∧
    (let l : LaneId := .a; let h : List Byte := []; let r : List (List Byte) := []; let s : State := State.reset;
      let L : Lane := s.lane l; let L := L.wr MBX_STATUS.LINK 1; let L := L.wr MBX_STATUS.UPD_STATE (0);
      let L := ((L.wr MBX_CFG.UPD_EN 1).wr CFG_MODE_STATUS.DEVICE_MODE mService).wr SSF_STATUS.STILL 1; let s : State := s.setLane l L;
      let s : State := { s with md := { s.md with offers := [[h], [], []] } }; let L : Lane := s.lane l;
      decide (s.variant.fitted l = true ∧ L.on MBX_STATUS.LINK = true ∧ s.md.offers.getD l.num [] = h :: r ∧ s.md.offers.length = 3 ∧ (L.rd MBX_STATUS.UPD_STATE = 0 ∨ 4 ≤ L.rd MBX_STATUS.UPD_STATE) ∧ L.mayUpdate = true ∧ numOf ((h.drop 0x10).take 4) ≤ 0x02000000)) = true := by
  decide

theorem test_hyps_MailboxAndUpdatesOfALane_part2 :
    (let l : LaneId := .a; let h : List Byte := []; let r : List (List Byte) := []; let s : State := State.reset;
      let L : Lane := s.lane l; let L := L.wr MBX_STATUS.LINK 1; let L := L.wr MBX_STATUS.UPD_STATE (0);
      let s : State := s.setLane l L; let s : State := { s with md := { s.md with offers := [[h], [], []] } };
      let L : Lane := s.lane l;
      decide (s.variant.fitted l = true ∧ L.on MBX_STATUS.LINK = true ∧ s.md.offers.getD l.num [] = h :: r ∧ s.md.offers.length = 3 ∧ (L.rd MBX_STATUS.UPD_STATE = 0 ∨ 4 ≤ L.rd MBX_STATUS.UPD_STATE) ∧ (L.mayUpdate = false ∨ 0x02000000 < numOf ((h.drop 0x10).take 4)) ∧ L.mbxUp.length < 8)) = true ∧
    (let L := lane0; let L := L.wr MBX_STATUS.UPD_STATE (1); decide (L.rd MBX_STATUS.UPD_STATE = 1)) = true ∧
    (let L := lane0; let L := if L.rd MBX_STATUS.UPD_STATE ≠ 1 then L else L.wr MBX_STATUS.UPD_STATE ((1) + 1);
      decide (L.rd MBX_STATUS.UPD_STATE ≠ 1)) = true ∧
    (let l : LaneId := .a; let L := lane0; let s := stateOf L;
      decide ((L.rd MBX_STATUS.UPD_STATE ≠ 2 ∨ s.md.laneUpd l.num ≠ 2 ∨ L.on MBX_STATUS.LINK = false))) = true ∧
    (let L := lane0; let L := if L.rd MBX_STATUS.UPD_STATE ≠ 2 then L else L.wr MBX_STATUS.UPD_STATE ((2) + 1);
      decide (L.rd MBX_STATUS.UPD_STATE ≠ 2)) = true ∧
    (let L := lane0; let L := if L.rd MBX_STATUS.UPD_STATE ≠ 3 then L else L.wr MBX_STATUS.UPD_STATE ((3) + 1);
      decide (L.rd MBX_STATUS.UPD_STATE ≠ 3)) = true ∧
    (let l : LaneId := .a; let s : State := State.reset; let L : Lane := s.lane l; let L := L.wr MBX_STATUS.UPD_STATE (2);
      let L := L.wr MBX_STATUS.LINK 1; let L := if L.rd Int.updOff ≤ L.offeredLen then L else L.wr Int.updOff (L.offeredLen);
      let L : Lane := { L with update := List.replicate 20 0 }; let s : State := s.setLane l L;
      let s : State := { s with md := s.md.setLaneUpd 0 2 }; let s : State := s.setLane l L; let L : Lane := s.lane l;
      decide (L.rd MBX_STATUS.UPD_STATE = 2 ∧ s.md.laneUpd l.num = 2 ∧ L.on MBX_STATUS.LINK = true ∧ L.offeredLen ≤ 0x02000000 ∧ L.rd Int.updOff ≤ L.offeredLen)) = true ∧
    (let l : LaneId := .a; let s : State := State.reset; let L : Lane := s.lane l; let L := L.wr MBX_STATUS.UPD_STATE (2);
      let L := L.wr MBX_STATUS.LINK 1; let s : State := s.setLane l L; let s : State := { s with md := s.md.setLaneUpd 0 2 };
      let L : Lane := s.lane l; decide (L.rd MBX_STATUS.UPD_STATE = 2)) = true ∧
    (let l : LaneId := .a; let s : State := State.reset; let L : Lane := s.lane l; let L := L.wr MBX_STATUS.UPD_STATE (2);
      let L := L.wr MBX_STATUS.LINK 1; let L := L.wr MBX_STATUS.LINK 1; let s : State := s.setLane l L;
      let s : State := { s with md := s.md.setLaneUpd 0 2 }; let L : Lane := s.lane l;
      decide (L.rd MBX_STATUS.UPD_STATE = 2 ∧ s.md.laneUpd l.num = 2 ∧ L.on MBX_STATUS.LINK = true)) = true ∧
    (let L := lane0; let L := L.wr MBX_STATUS.UPD_STATE (3); decide (L.rd MBX_STATUS.UPD_STATE = 3)) = true ∧
    (let L := lane0; let L := L.wr MBX_STATUS.UPD_STATE (3); decide (L.rd MBX_STATUS.UPD_STATE = 3 ∧ L.updateVerdict ≠ 0)) = true ∧
    (let L := lane0; let L := L.wr CFG_MODE_STATUS.DEVICE_MODE mStandby; let L := L.wr Int.loadPhase (4);
      let L := if L.rd MBX_VER.ROLLBACK < L.rd CFG_VERSION.VERSION then L else L.wr MBX_VER.ROLLBACK ((L.rd CFG_VERSION.VERSION) - 1);
      let L := (L.wr MBX_VER.ROLLBACK 0).wr CFG_VERSION.VERSION 1;
      decide (L.mode = mStandby ∧ L.rd Int.loadPhase = 4 ∧ L.rd MBX_VER.ROLLBACK < L.rd CFG_VERSION.VERSION)) = true ∧
    (let L := lane0; let L := if L.rd Int.loadPhase ≠ 4 then L else L.wr Int.loadPhase ((4) + 1);
      decide ((L.mode ≠ mStandby ∨ L.rd Int.loadPhase ≠ 4 ∨ L.rd CFG_VERSION.VERSION ≤ L.rd MBX_VER.ROLLBACK))) = true := by
  decide

theorem test_hyps_PowerOnReleaseAndWake_part1 :
    (let L := lane0; let L := L.wr Int.held 0;
      decide ((L.on Int.held = false ∨ L.rd PSC_SUPPLY.OK ≠ 7 ∨ L.rd PSC_STATUS.FABRIC ≠ 0 ∨ L.state = stFailed))) = true ∧
    (let L := lane0; let L := L.wr Int.held 1; let L := L.wr PSC_SUPPLY.OK (7); let L := L.wr PSC_STATUS.FABRIC (0);
      let L := if L.state ≠ stFailed then L else L.wr CFG_MODE_STATUS.LANE_STATE 5;
      decide (L.on Int.held = true ∧ L.rd PSC_SUPPLY.OK = 7 ∧ L.rd PSC_STATUS.FABRIC = 0 ∧ L.state ≠ stFailed)) = true ∧
    (let L := lane0; let L := L.wr Int.held 1; decide (L.on Int.held = true)) = true ∧
    (let L := lane0; let L := L.wr Int.fieldHeld 1; decide (L.on Int.fieldHeld = true)) = true ∧
    (let L := lane0; let L := L.wr Int.held 0; decide (L.on Int.held = false)) = true ∧
    (let L := lane0; let L := L.wr Int.fieldHeld 0; decide (L.on Int.fieldHeld = false)) = true ∧
    (let f : Bool := true; let L := lane0;
      decide ((L.on (if f then FCK_STATUS.PLL_LOCK else CKG_STATUS.PLL_LOCK) = true ∨ L.inWake = false))) = true ∧
    (let f : Bool := true; let L := lane0; let L := L.wr (if f then FCK_STATUS.PLL_LOCK else CKG_STATUS.PLL_LOCK) 0;
      let L := (L.wr Int.held 0).wr CFG_MODE_STATUS.LANE_STATE stBoot |>.wr Int.loadPhase 0 |>.wr CFG_MODE_STATUS.DEVICE_MODE 1;
      decide (L.on (if f then FCK_STATUS.PLL_LOCK else CKG_STATUS.PLL_LOCK) = false ∧ L.inWake = true)) = true ∧
    (let f : Bool := true; let L := lane0; let L := L.wr (if f then FCK_STATUS.PLL_LOCK else CKG_STATUS.PLL_LOCK) 0;
      let L := (L.wr Int.held 0).wr CFG_MODE_STATUS.LANE_STATE stBoot |>.wr Int.loadPhase 0 |>.wr CFG_MODE_STATUS.DEVICE_MODE 1;
      let L := L.wr Int.wakeFails (0);
      decide (L.on (if f then FCK_STATUS.PLL_LOCK else CKG_STATUS.PLL_LOCK) = false ∧ L.inWake = true ∧ L.rd Int.wakeFails = 0)) = true ∧
    (let f : Bool := true; let L := lane0; let L := L.wr (if f then FCK_STATUS.PLL_LOCK else CKG_STATUS.PLL_LOCK) 0;
      let L := (L.wr Int.held 0).wr CFG_MODE_STATUS.LANE_STATE stBoot |>.wr Int.loadPhase 0 |>.wr CFG_MODE_STATUS.DEVICE_MODE 1;
      let L := if L.rd Int.wakeFails ≠ 0 then L else L.wr Int.wakeFails ((0) + 1);
      decide (L.on (if f then FCK_STATUS.PLL_LOCK else CKG_STATUS.PLL_LOCK) = false ∧ L.inWake = true ∧ L.rd Int.wakeFails ≠ 0)) = true ∧
    (let k : Fin 6 := 5; let L := lane0;
      decide ((L.inWake = false ∨ L.state ≠ stBoot ∨ (k = 0 ∨ k = 4 ∨ k = 5) ∧ L.on CKG_STATUS.PLL_LOCK = false ∨ (k = 1 ∨ k = 2 ∨ k = 3) ∧ (L.on FCK_STATUS.PLL_LOCK = false ∨ L.fieldIsOff = true) ∨ k = 4 ∧ L.on COU_STATUS.LINK = false))) = true ∧
    (let L := lane0;
      let L := (L.wr Int.held 0).wr CFG_MODE_STATUS.LANE_STATE stBoot |>.wr Int.loadPhase 0 |>.wr CFG_MODE_STATUS.DEVICE_MODE 1;
      let L := L.wr CFG_MODE_STATUS.LANE_STATE stBoot; let L := L.wr CKG_STATUS.PLL_LOCK 1;
      decide (L.inWake = true ∧ L.state = stBoot ∧ L.on CKG_STATUS.PLL_LOCK = true)) = true ∧
    (let L := lane0;
      let L := (L.wr Int.held 0).wr CFG_MODE_STATUS.LANE_STATE stBoot |>.wr Int.loadPhase 0 |>.wr CFG_MODE_STATUS.DEVICE_MODE 1;
      let L := L.wr CFG_MODE_STATUS.LANE_STATE stBoot; let L := L.wr CKG_STATUS.PLL_LOCK 1; let L := L.wr COU_STATUS.LINK 1;
      decide (L.inWake = true ∧ L.state = stBoot ∧ L.on CKG_STATUS.PLL_LOCK = true ∧ L.on COU_STATUS.LINK = true)) = true ∧
    (let L := lane0;
      let L := (L.wr Int.held 0).wr CFG_MODE_STATUS.LANE_STATE stBoot |>.wr Int.loadPhase 0 |>.wr CFG_MODE_STATUS.DEVICE_MODE 1;
      let L := L.wr CFG_MODE_STATUS.LANE_STATE stBoot; let L := L.wr FCK_STATUS.PLL_LOCK 1;
      decide (L.inWake = true ∧ L.state = stBoot ∧ L.on FCK_STATUS.PLL_LOCK = true ∧ L.fieldIsOff = false)) = true := by
  decide

theorem test_hyps_PowerOnReleaseAndWake_part2 :
    (let L := lane0; let L := L.wr Int.fieldRstDue 0; decide (L.on Int.fieldRstDue = false)) = true ∧
    (let L := lane0; let L := L.wr Int.fieldRstDue 1; decide (L.on Int.fieldRstDue = true)) = true := by
  decide

theorem test_hyps_SlotsConfigurationAndTest_part1 :
    (let L := lane0; let L := if L.rd Int.loadPhase ≠ 1 then L else L.wr Int.loadPhase ((1) + 1);
      let L := if L.rd Int.loadPhase ≠ 2 then L else L.wr Int.loadPhase ((2) + 1);
      decide (L.rd Int.loadPhase ≠ 1 ∧ L.rd Int.loadPhase ≠ 2)) = true ∧
    (let L := lane0; let L := L.wr Int.loadPhase (2); decide ((L.rd Int.loadPhase = 1 ∨ L.rd Int.loadPhase = 2))) = true ∧
    (let L := lane0; let L := L.wr Int.loadPhase (2); let L := L.wr Int.norRetry 0;
      decide ((L.rd Int.loadPhase = 1 ∨ L.rd Int.loadPhase = 2) ∧ L.on Int.norRetry = false)) = true ∧
    (let L := lane0; let L := L.wr Int.loadPhase (2); let L := L.wr Int.norRetry 1; let L := L.wr Int.slotTried 0;
      decide ((L.rd Int.loadPhase = 1 ∨ L.rd Int.loadPhase = 2) ∧ L.on Int.norRetry = true ∧ L.on Int.slotTried = false)) = true ∧
    (let L := lane0; let L := L.wr Int.loadPhase (2); let L := L.wr Int.norRetry 1; let L := L.wr Int.slotTried 1;
      decide ((L.rd Int.loadPhase = 1 ∨ L.rd Int.loadPhase = 2) ∧ L.on Int.norRetry = true ∧ L.on Int.slotTried = true)) = true ∧
    (let L := lane0; let L := L.wr Int.loadPhase (1); decide (L.rd Int.loadPhase = 1)) = true ∧
    (let L := lane0; let L := L.wr Int.loadPhase (1); let L := L.wr Int.slotTried 0;
      let g : Image := L.slotImage (L.rd Int.loadSlot);
      decide (L.rd Int.loadPhase = 1 ∧ (g.formatOk = false ∨ g.signed L.imageKeyNow = false) ∧ L.on Int.slotTried = false)) = true ∧
    (let l : LaneId := .a; let L := lane0; let L := if L.rd Int.loadPhase ≠ 3 then L else L.wr Int.loadPhase ((3) + 1);
      let s := stateOf L; decide ((s.lane l).rd Int.loadPhase ≠ 3)) = true ∧
    (let l : LaneId := .a; let L := lane0; let L := L.wr Int.loadPhase (3); let s := stateOf L;
      decide (s.variant.fitted l = true ∧ (s.lane l).rd Int.loadPhase = 3)) = true ∧
    (let a : Nat := 1; let p : Nat := 2; let r : List DownItem := []; let L := lane0;
      let L : Lane := { L with down := .readReq a p :: r }; decide (L.down = .readReq a p :: r)) = true ∧
    (let r : List DownItem := []; let L := lane0; let L : Lane := { L with down := .readCrc :: r }; decide (L.down = .readCrc :: r)) = true ∧
    (let d : Nat := 1; let r : List UpItem := []; let b : Nat := 1; let p : Nat := 3; let L := lane0;
      let L : Lane := { L with down := [] }; let L : Lane := { L with up := .readResponse p d b :: r };
      decide (p < 4 ∧ L.down = [] ∧ L.up = .readResponse p d b :: r)) = true ∧
    (let v : Nat := 1; let r : List UpItem := []; let L := lane0; let L : Lane := { L with down := [] };
      let L : Lane := { L with up := .crcResponse v :: r }; let L := L.wr Int.loadPhase (6);
      decide (L.down = [] ∧ L.up = .crcResponse v :: r ∧ L.rd Int.loadPhase = 6)) = true ∧
    (let r : List UpItem := []; let L := lane0; let L : Lane := { L with down := [] }; let L := L.wr Int.loadPhase (6);
      let v : Nat := L.rd Int.crcHost ^^^ 0xFFFFFFFF; let L : Lane := { L with up := .crcResponse v :: r };
      let v : Nat := L.rd Int.crcHost ^^^ 0xFFFFFFFF; decide (L.down = [] ∧ L.up = .crcResponse v :: r ∧ L.rd Int.loadPhase = 6)) = true := by
  decide

theorem test_hyps_SlotsConfigurationAndTest_part2 :
    (let v : Nat := 1; let r : List UpItem := []; let L := lane0; let L : Lane := { L with down := [] };
      let L : Lane := { L with up := .crcResponse v :: r }; let L := L.wr Int.loadPhase (6);
      decide (L.down = [] ∧ L.up = .crcResponse v :: r ∧ L.rd Int.loadPhase = 6 ∧ v ≠ L.rd Int.crcHost ^^^ 0xFFFFFFFF)) = true ∧
    (let L := lane0; let L : Lane := { L with down := [] }; let L : Lane := { L with up := [] }; decide (L.down = [] ∧ L.up = [])) = true ∧
    (let l : LaneId := .a; let L := lane0; let L := L.wr Int.digestSent 0; let s := stateOf L;
      decide ((s.lane l).on Int.digestSent = false)) = true ∧
    (let l : LaneId := .a; let src : LaneId := .b; let p : Nat := 1; let d : DigestRecord := ⟨0, 0, false, 0, false, false⟩;
      let r : List FeltMsg := []; let s : State := State.reset; let L : Lane := s.lane l; let L := L.wr Int.digestSent 1;
      let s : State := s.setLane l L;
      let s : State := s.setLane src { (s.lane src) with felt0 := .digest d :: r, felt1 := .digest d :: r };
      decide (l ≠ src ∧ s.variant.fitted l = true ∧ s.variant.fitted src = true ∧ (s.lane l).on Int.digestSent = true ∧ p = (s.lane src).portTo l.num ∧ (s.lane src).felt p = .digest d :: r)) = true ∧
    (let n : Nat := 2; decide (n < 3)) = true ∧
    (let l : LaneId := .a; let L := lane0; let L := if L.state ≠ stBoot then L else L.wr CFG_MODE_STATUS.LANE_STATE 5;
      let s := stateOf L; decide (((s.lane l).rd Int.loadPhase ≠ 4 ∨ (s.lane l).state ≠ stBoot))) = true ∧
    (let L := lane0; let L := L.wr Int.loadPhase (4); let L := L.wr CFG_MODE_STATUS.LANE_STATE stBoot;
      decide (L.rd Int.loadPhase = 4 ∧ L.state = stBoot)) = true ∧
    (let L := lane0; let L := L.wr Int.loadPhase (4); let L := L.wr CFG_MODE_STATUS.LANE_STATE stBoot; let L := L.wr Int.loadStop 0;
      decide (L.rd Int.loadPhase = 4 ∧ L.state = stBoot ∧ L.on Int.loadStop = false)) = true ∧
    (let b : Bool := false; let L := lane0; let L := L.wr Int.loadPhase (4); let L := L.wr CFG_MODE_STATUS.LANE_STATE stBoot;
      decide (L.rd Int.loadPhase = 4 ∧ L.state = stBoot ∧ (b = false ∨ L.on Int.loadStop = true))) = true := by
  decide

theorem test_hyps_EveryStepKeepsTheInvariant : (stateOf (lane0.wr Int.held 0)).wired ∧ (stateOf (lane0.wr Int.held 0)).memoriesWf :=
  ⟨fun l => by cases l <;> rfl, fun l => by cases l <;> decide, by decide⟩

theorem test_hyps_CommandsStayWithinTheirReach : ∃ t, ({ State.reset with variant := .d } : State).variant = .d ∧
    step { State.reset with variant := .d } = .next t := ⟨_, rfl, rfl⟩

/-- A stop request of lane A lies on its Felt port 1. -/
theorem test_hyps_CreditsAndLinkLosses_feltReturn :
    (let L : Lane := { lane0 with felt1 := [.stopRequest], feltWait1 := [] }; let s := stateOf L
     let k : Fin 4 := 3; let p : Fin 2 := 1; let m := laneNumbered (L.portPeer p)
     (k : Nat) = 2 + p ∧ LaneId.a ≠ m ∧ s.variant.fitted .a = true ∧ s.variant.fitted m = true ∧ L.felt p = [.stopRequest] ∧
      L.feltWait p = []) := by
  refine ⟨rfl, by decide, rfl, by decide, rfl, rfl⟩

theorem test_hyps_DormouseEntersLevels_answersLeft :
    (let k : Fin 32 := 16; let L := ((lane0.wr PSC_STATUS.STAGE 1).wr Int.pscAsk 1).wr Int.pscAnswered 0
      decide (L.rd PSC_STATUS.STAGE = 1 ∧ (k : Nat) ∈ levelBlocks (L.rd Int.pscAsk) ∧ L.bitOf Int.pscAnswered k = false ∧
      L.undrained k = false ∧ L.refusal k false = 0 ∧ ∃ j ∈ levelBlocks (L.rd Int.pscAsk), j ≠ k ∧ L.bitOf Int.pscAnswered j = false)) = true := by
  decide

/-- A record without a configuration set matches no lane. -/
theorem test_hyps_SlotsConfigurationAndTest_mismatch : (2 < 3) ∧ lane0.on Int.operated = false ∧
    lane0.digestMatches ⟨0, 0, false, 0, true, false⟩ = false := by
  refine ⟨by decide, by decide, ?_⟩
  simp [Lane.digestMatches]

/-- A lane whose token asks for state 4 and meets every check before the signature (R380, R381). -/
def tokenLane : Lane := ((((lane0.wr (LCS_TOKEN.BYTES 0) 0x4E4B544C).wr (LCS_TOKEN.BYTES 1) 4).wr
  CFG_MODE_STATUS.DEVICE_MODE mStandby).wr SSF_STATUS.STILL 1).wr LCS_RESULT.BUSY 1

/-- The signature check is opaque, so that it accepts is the premise of this witness. -/
theorem test_hyps_TokensAndSelfTest_accepted (h : tokenLane.tokenSigned = true) :
    tokenLane.on LCS_RESULT.BUSY = true ∧ tokenLane.tokenCode = 0 := by
  have h1 : tokenLane.tokenForm = true := by decide
  have h2 : tokenLane.tokenBound = true := by decide
  have h3 : tokenLane.token 0x28 4 = tokenLane.tokenSigner := by decide
  have h4 : tokenLane.tokenCondition = true := by decide
  have h5 : tokenLane.on Int.tokenBad = false := by decide
  exact ⟨by decide, by simp [Lane.tokenCode, h, h1, h2, h3, h4, h5]⟩

/-- A lane whose two slots hold an image of one section, in phase 1 of its load and at the end of an update (R362, R453). -/
def imageLane : Lane :=
  let put (m : Memory) (b : Nat) : Memory :=
    ((((((m.setNum norDefault b 4 0x4E424943).setNum norDefault (b + 4) 4 1).setNum norDefault (b + 0x10) 4 0).setNum norDefault
      (b + 0x14) 4 1).setNum norDefault (b + 0x104) 4 0x2000).setNum norDefault (b + 0x108) 4 0)
  ({ lane0 with nor := put (put [] 0) 0x02000000 }.wr Int.loadPhase 1).wr MBX_STATUS.UPD_STATE 3

theorem test_hyps_SlotsConfigurationAndTest_valid (h : (imageLane.slotImage (imageLane.rd Int.loadSlot)).signed imageLane.imageKeyNow = true) :
    imageLane.rd Int.loadPhase = 1 ∧ (imageLane.slotImage (imageLane.rd Int.loadSlot)).formatOk = true ∧
    (imageLane.slotImage (imageLane.rd Int.loadSlot)).rangesOk 0x02000000 = true ∧
    (imageLane.slotImage (imageLane.rd Int.loadSlot)).signed imageLane.imageKeyNow = true ∧
    imageLane.rd MBX_VER.ROLLBACK ≤ (imageLane.slotImage (imageLane.rd Int.loadSlot)).version := by
  exact ⟨by decide, by decide, by decide, h, by decide⟩

/-- Signature and digest are opaque, so that they check is the premise of this witness. -/
theorem test_hyps_MailboxAndUpdatesOfALane_verified (h : imageLane.writtenImage.signed imageLane.imageKeyNow = true)
    (g : imageLane.writtenImage.sects.all imageLane.writtenImage.hashOk = true) :
    imageLane.rd MBX_STATUS.UPD_STATE = 3 ∧ imageLane.updateVerdict = 0 := by
  have h1 : imageLane.writtenImage.formatOk = true := by decide
  have h2 : imageLane.writtenImage.rangesOk 0x02000000 = true := by decide
  have h3 : ¬ imageLane.writtenImage.version < imageLane.rd MBX_VER.ROLLBACK := by decide
  have h4 : ¬ imageLane.writtenImage.seq ≤ imageLane.rd Int.loadedSeq := by decide
  exact ⟨by decide, by simp [Lane.updateVerdict, h, g, h1, h2, h3, h4]⟩

/-- One term for each check of `Instr.wellFormed`, each with an operand that is too wide, too long or missing. -/
theorem test_wf_refuses :
    (let w := 2 ^ 32
     let terms : List Instr := [.registerWrite .a 0 w 0, .registerWrite .a 0 0 w, .outOfWindowAccess .a 0 w, .wakeStepDone .a 0 true 65536,
      .frameWrite .a 2048, .windowClose .a [0], .windowClose .a [65536, 0, 0, 0, 0, 0, 0, 0], .laneExit .a 256, .debugWrite .a 0 (.reg 0) w, .debugWrite .a 0 (.mem w) 0,
      .lockstepFault .a 0 (2 ^ 64) 0 0 0, .lockstepFault .a 0 0 0 0 (2 ^ 64),
      .currentSample .a 0 true 0 16384 0 0 0 0, .currentSample .a 0 true 0 0 0 0 0 16384, .coefficientWrite .a 0 0 0 w,
      .mapWrite .a 0 0 0 0 true w, .ainConversion .a 0 65536, .backgroundConversion .a 0 16384 0, .posSet .a 0 w,
      .softLimitWrite .a 0 true w, .compareArm .a 0 0 w, .railConversion .a 0 16384, .thresholdWrite .a 0 0 w, .shadowResult .a 0 0 w,
      .saContClr .a 256, .faultArrival .a [256], .pendAck .a 8 0 true, .pendAck .a 0 w true, .faultForce .a 256,
      .severityWrite .a 32 0, .severityWrite .a 0 w, .fieldRegisterWrite .a 0 w 0, .fieldRegisterWrite .a 0 0 w, .fieldRegisterRead .a 0 w,
      .nguasFrameReceipt .a true true 0 0 [256], .nguasFrameReceipt .a true true 0 0 (List.replicate 267 0),
      .canFrameReceived .a 536870912 0 true false false false false 0 [], .canFrameReceived .a 0 0 true false false false false 0 [256],
      .canFrameReceived .a 0 0 true false false false false 0 (List.replicate 65 0), .canTxRequest .a 65536, .crystalWindow .a 0 w 0,
      .crystalWindow .a 0 0 w, .hfoCheck .a 0 w, .dpRead 16777216 1, .dpRead 0 0, .dpWrite 16777216 [0], .dpWrite 0 [],
      .telemetrySend .a [0], .mdSensorSample 0 0 1024 true, .parityError .a 256 0]
     terms.all (fun i => ! i.wellFormed)) = true := by
  decide

theorem test_wf_accepts :
    [Instr.registerWrite .a 0 0x40000100 0xFFFFFFFF, .frameWrite .b 2047, .canTxRequest .c 65535, .hostDieReset .a].all Instr.wellFormed = true := by
  decide

/-- The table gives its rows no bits, so no word spells a command. -/
theorem test_decode_no_bits : decodeTableWord 32 0xFFFFFFFF = none := rfl


end Sys2Proof.Tests
end

-- ==== Memories of a lane ====
section
/-! Each operation of a lane keeps its two memories in canonical form: one lemma for each, in the order of the model, built as the
operation is. -/

namespace Sys2Proof.Machine

/-- Both memories of a lane are in canonical form: shared SRAM with the TCMs and the Squirrel store, and the NOR. -/
def Lane.MemWf (L : Lane) : Prop := L.mem.wf ramDefault ∧ L.nor.wf norDefault

/-- A fold keeps what each of its steps keeps. -/
theorem foldl_keeps {α β : Type} (P : α → Prop) {g : α → β → α} (hg : ∀ a b, P a → P (g a b)) {xs : List β} {a : α} (h : P a) :
    P (xs.foldl g a) := by
  induction xs generalizing a with
  | nil => exact h
  | cons x r ih => exact ih (hg a x h)

/-- A lane with the memories of another is in form where that one is. -/
theorem Lane.MemWf.update {L K : Lane} (e : K = { K with mem := L.mem, nor := L.nor }) (h : L.MemWf) : K.MemWf := by
  rw [e]
  exact h

/-- A choice keeps what both its branches keep. -/
theorem ite_keeps {α : Type} (P : α → Prop) {c : Prop} [Decidable c] {a b : α} (ha : P a) (hb : P b) : P (if c then a else b) := by
  split
  · exact ha
  · exact hb

theorem Lane.MemWf.ite {c : Prop} [Decidable c] {L K : Lane} (h : L.MemWf) (hK : K.MemWf) : (if c then L else K).MemWf :=
  ite_keeps _ h hK

/-- Bytes written to the shared SRAM, a TCM or the Squirrel store keep the form. -/
theorem Lane.MemWf.setBytes_mem {L : Lane} {a : ℕ} {bs : List Byte} (h : L.MemWf) :
    Lane.MemWf { L with mem := L.mem.setBytes ramDefault a bs } := ⟨Memory.setBytes_wf _ _ _ _ h.1, h.2⟩

/-- Bytes written to the NOR keep the form. -/
theorem Lane.MemWf.setBytes_nor {L : Lane} {a : ℕ} {bs : List Byte} (h : L.MemWf) :
    Lane.MemWf { L with nor := L.nor.setBytes norDefault a bs } := ⟨h.1, Memory.setBytes_wf _ _ _ _ h.2⟩

theorem Lane.MemWf.iff {L : Lane} {b : Bool} {g : Lane → Lane} (hg : ∀ K : Lane, K.MemWf → (g K).MemWf) (h : L.MemWf) :
    (L.iff b g).MemWf := .ite (hg L h) h

theorem Lane.MemWf.foldl {β : Type} {g : Lane → β → Lane} {xs : List β} {L : Lane} (hg : ∀ K x, K.MemWf → (g K x).MemWf)
    (h : L.MemWf) : (xs.foldl g L).MemWf := foldl_keeps Lane.MemWf hg h

theorem Lane.MemWf.forN {L : Lane} {n : ℕ} {g : ℕ → Lane → Lane} (hg : ∀ i K, K.MemWf → (g i K).MemWf) (h : L.MemWf) :
    (L.forN n g).MemWf := .foldl (fun K i => hg i K) h

theorem Lane.MemWf.atIndex {L : Lane} {n : ℕ} {addr : ℕ → ℕ} {a : ℕ} {g : ℕ → Lane → Lane} (hg : ∀ i K, K.MemWf → (g i K).MemWf)
    (h : L.MemWf) : (L.atIndex n addr a g).MemWf := by
  unfold Lane.atIndex
  split
  · exact hg _ _ h
  · exact h

theorem Lane.MemWf.wr {L : Lane} {f : Fld} {v : ℕ} (h : L.MemWf) : (L.wr f v).MemWf := h

theorem Lane.MemWf.wrI {L : Lane} {f : Fld} {v : ℤ} (h : L.MemWf) : (L.wrI f v).MemWf := .wr h

theorem Lane.MemWf.set {L : Lane} {f : Fld} (h : L.MemWf) : (L.set f).MemWf := .wr h

theorem Lane.MemWf.clr {L : Lane} {f : Fld} (h : L.MemWf) : (L.clr f).MemWf := .wr h

theorem Lane.MemWf.put {L : Lane} {f : Fld} {b : Bool} (h : L.MemWf) : (L.put f b).MemWf := .wr h

theorem Lane.MemWf.putBit {L : Lane} {f : Fld} {k : ℕ} {b : Bool} (h : L.MemWf) : (L.putBit f k b).MemWf := .wr h

theorem Lane.MemWf.add {L : Lane} {f : Fld} {n : ℕ} (h : L.MemWf) : (L.add f n).MemWf := .wr h

theorem Lane.MemWf.inc {L : Lane} {f : Fld} (h : L.MemWf) : (L.inc f).MemWf := .add h

theorem Lane.MemWf.sat {L : Lane} {f : Fld} {v : ℕ} (h : L.MemWf) : (L.sat f v).MemWf := .wr h

theorem Lane.MemWf.fresh_lane {L : Lane} {w : ℕ} (h : L.MemWf) : (L.fresh w).2.MemWf := h

theorem Lane.MemWf.wrFree {L : Lane} {f : Fld} (h : L.MemWf) : (L.wrFree f).MemWf := .wr (.fresh_lane h)

theorem Lane.MemWf.setMem {L : Lane} {a n v : ℕ} (h : L.MemWf) : (L.setMem a n v).MemWf := .setBytes_mem h

theorem Lane.MemWf.raise {L : Lane} {src : ℕ} (h : L.MemWf) : (L.raise src).MemWf := h

theorem Lane.MemWf.wakePair {L : Lane} {p : ℕ} (h : L.MemWf) : (L.wakePair p).MemWf :=
  .ite h (.iff (fun _ hJ => .wr (.wr hJ)) (.iff (fun _ hK => .set hK) (.putBit h)))

theorem Lane.MemWf.eventTo {L : Lane} {p ev : ℕ} (h : L.MemWf) : (L.eventTo p ev).MemWf :=
  .ite h (.iff (fun _ hK => .wakePair hK) (.putBit h))

theorem Lane.MemWf.level {L : Lane} {ev mask : ℕ} {on : Bool} (h : L.MemWf) : (L.level ev mask on).MemWf :=
  .forN (fun _ _ hK => .ite (.eventTo hK) (.putBit hK)) h

theorem Lane.MemWf.event {L : Lane} {ev : ℕ} (h : L.MemWf) : (L.event ev).MemWf := .forN (fun _ _ hK => .eventTo hK) h

theorem Lane.MemWf.busError {L : Lane} {p : ℕ} (h : L.MemWf) : (L.busError p).MemWf := .eventTo h

theorem Lane.MemWf.sendMbx {L : Lane} {m : MbxUp} (h : L.MemWf) : (L.sendMbx m).MemWf := .ite h (.inc h)

theorem Lane.MemWf.pump {L : Lane} (h : L.MemWf) : L.pump.MemWf := .wr (.wr h)

theorem Lane.MemWf.toField {L : Lane} {i : DownItem} (h : L.MemWf) : (L.toField i).MemWf := .ite (.pump h) h

theorem Lane.MemWf.takeDown {L : Lane} (h : L.MemWf) : L.takeDown.MemWf := h

theorem Lane.MemWf.pumpUp {L : Lane} (h : L.MemWf) : L.pumpUp.MemWf := .wr (.wr h)

theorem Lane.MemWf.toHost {L : Lane} {i : UpItem} (h : L.MemWf) : (L.toHost i).MemWf := .ite (.pumpUp h) h

theorem Lane.MemWf.takeUp {L : Lane} (h : L.MemWf) : L.takeUp.MemWf := .wr h

theorem Lane.MemWf.fieldCredit {L : Lane} (h : L.MemWf) : L.fieldCredit.MemWf := .pumpUp (.wr (.wr h))

theorem Lane.MemWf.fieldEvent {L : Lane} {kind axis index cause : ℕ} (h : L.MemWf) : (L.fieldEvent kind axis index cause).MemWf := .toHost h

theorem Lane.MemWf.sendFault {L : Lane} {m : FieldMsg} (h : L.MemWf) : (L.sendFault m).MemWf := .ite h (.toHost h)

theorem Lane.MemWf.syncBacklog {L : Lane} (h : L.MemWf) : L.syncBacklog.MemWf := .sat (.sat h)

theorem Lane.MemWf.fieldCount {L : Lane} {src : ℕ} (h : L.MemWf) : (L.fieldCount src).MemWf :=
  .syncBacklog (.sendFault (.update rfl (.wr h)))

theorem Lane.MemWf.setFelt {L : Lane} {p : ℕ} {ms : List FeltMsg} (h : L.MemWf) : (L.setFelt p ms).MemWf := .ite h h

theorem Lane.MemWf.setFeltWait {L : Lane} {p : ℕ} {ms : List FeltMsg} (h : L.MemWf) : (L.setFeltWait p ms).MemWf := .ite h h

theorem Lane.MemWf.pumpFelt {L : Lane} {p : ℕ} (h : L.MemWf) : (L.pumpFelt p).MemWf := .wr (.wr (.setFeltWait (.setFelt h)))

theorem Lane.MemWf.sendFelt {L : Lane} {p : ℕ} {m : FeltMsg} (h : L.MemWf) : (L.sendFelt p m).MemWf := .ite (.pumpFelt (.setFeltWait h)) h

theorem Lane.MemWf.sendFeltAll {L : Lane} {m : FeltMsg} (h : L.MemWf) : (L.sendFeltAll m).MemWf := .sendFelt (.sendFelt h)

theorem Lane.MemWf.updateLine {L : Lane} (h : L.MemWf) : L.updateLine.MemWf := .wr h

theorem Lane.MemWf.syncReady {L : Lane} (h : L.MemWf) : L.syncReady.MemWf := .put (.put h)

theorem Lane.MemWf.updateFails {L : Lane} {code : Option ℕ} (h : L.MemWf) : (L.updateFails code).MemWf := by
  have hK : (((({ L with update := [] }.wr MBX_STATUS.UPD_STATE 5).inc MBX_CNT.UPD_FAIL).event 30).raise 0x51).MemWf :=
    .raise (.event (.inc (.wr h)))
  unfold Lane.updateFails
  cases code with
  | none => exact .ite h (.ite hK (.sendMbx (.fresh_lane hK)))
  | some c => exact .ite h (.ite (.wr hK) (.sendMbx (.wr hK)))

theorem Lane.MemWf.setState {L : Lane} {st : ℕ} (h : L.MemWf) : (L.setState st).MemWf := by
  unfold Lane.setState
  exact .iff (fun _ hJ => .updateFails hJ) (.updateLine (.syncReady (.wr (.wr (.wr h)))))

theorem Lane.MemWf.newChallenge {L : Lane} (h : L.MemWf) : L.newChallenge.MemWf := .forN (fun _ _ hK => .wrFree hK) h

theorem Lane.MemWf.hostReset {L : Lane} (h : L.MemWf) : L.hostReset.MemWf :=
  .set (.wr (.newChallenge (.iff (fun _ hJ => .wr (.wr hJ)) (.iff (fun _ hJ => .clr (.clr (.clr hJ))) (.iff (fun _ hJ => .wr (.wr hJ))
    (.forN (fun _ _ hJ => .iff (fun _ hJ' => .wr hJ') hJ) (.clr (.wr (.wr (.wr (.foldl (fun _ _ hJ => .ite (.inc hJ) (.add hJ))
    h)))))))))))

theorem Lane.MemWf.fieldReset {L : Lane} (h : L.MemWf) : L.fieldReset.MemWf := .wr h

theorem Lane.MemWf.portStart {L : Lane} {k : ℕ} (h : L.MemWf) : (L.portStart k).MemWf := .wr h

theorem Lane.MemWf.fieldPortStart {L : Lane} {k : ℕ} (h : L.MemWf) : (L.fieldPortStart k).MemWf := .wr h

theorem Lane.MemWf.fieldRestart {L : Lane} (h : L.MemWf) : L.fieldRestart.MemWf := .forN (fun _ _ hK => .fieldPortStart hK) (.fieldReset h)

theorem Lane.MemWf.wrAt {L : Lane} {f : Fld} {v t : ℕ} (h : L.MemWf) : (L.wrAt f v t).MemWf := .wr h

theorem Lane.MemWf.commitGroup {L : Lane} {g t : ℕ} (h : L.MemWf) : (L.commitGroup g t).MemWf := .ite (.wr h) (.wr (.wr (.set h)))

theorem Lane.MemWf.useCommit {L : Lane} {g b : ℕ} (h : L.MemWf) : (L.useCommit g b).MemWf := .ite (.wr h) (.clr h)

theorem Lane.MemWf.putRise {L : Lane} {k v t : ℕ} (h : L.MemWf) : (L.putRise k v t).MemWf := .wrAt (.wrAt h)

theorem Lane.MemWf.putFall {L : Lane} {k v t : ℕ} (h : L.MemWf) : (L.putFall k v t).MemWf := .wrAt (.wrAt h)

theorem Lane.MemWf.markOff {L : Lane} {g : ℕ} (h : L.MemWf) : (L.markOff g).MemWf := .ite (.wr h) h

theorem Lane.MemWf.syncOverride {L : Lane} {g : ℕ} (h : L.MemWf) : (L.syncOverride g).MemWf :=
  .ite h (.foldl (fun _ _ hJ => .put (.put hJ)) (.ite (.set (.wr h)) (.markOff (.foldl (fun _ _ hJ => .clr hJ) (.wr h)))))

theorem Lane.MemWf.syncOverrides {L : Lane} (h : L.MemWf) : L.syncOverrides.MemWf := .forN (fun _ _ hK => .syncOverride hK) h

theorem Lane.MemWf.requestSto {L : Lane} {c : ℕ} (h : L.MemWf) : (L.requestSto c).MemWf :=
  .foldl (fun _ _ hJ => .ite (.syncOverride (.wr (.clr (.markOff (.set hJ))))) (.clr (.markOff (.set hJ)))) (.putBit (.clr (.putBit (.inc
    h))))

theorem Lane.MemWf.checkE5 {L : Lane} (h : L.MemWf) : L.checkE5.MemWf := .ite (.setState (.set h)) h

theorem Lane.MemWf.checkCluster {L : Lane} {c : ℕ} (h : L.MemWf) : (L.checkCluster c).MemWf := .ite (.checkE5 (.requestSto h)) (.checkE5 h)

theorem Lane.MemWf.settleStopping {L : Lane} (h : L.MemWf) : L.settleStopping.MemWf :=
  .forN (fun _ _ hK => .iff (fun _ hJ => .checkCluster (.clr hJ)) hK) h

theorem Lane.MemWf.releaseSto {L : Lane} {c : ℕ} (h : L.MemWf) : (L.releaseSto c).MemWf := .ite h (.wr (.putBit h))

theorem Lane.MemWf.fieldRaise {L : Lane} {src : ℕ} (h : L.MemWf) : (L.fieldRaise src).MemWf :=
  .ite (.settleStopping (.syncOverrides (.set (.set (.fieldCount h))))) (.fieldCount h)

theorem Lane.MemWf.startDt {L : Lane} {p side : ℕ} (h : L.MemWf) : (L.startDt p side).MemWf := .clr (.wr h)

theorem Lane.MemWf.judgeInterval_lane {L : Lane} {k c : ℕ} (h : L.MemWf) : (L.judgeInterval k c).2.MemWf := by
  unfold Lane.judgeInterval
  exact ite_keeps (fun p : Bool × Lane => p.2.MemWf) (.ite h (.clr (.wr (.set h)))) (ite_keeps (fun p : Bool × Lane => p.2.MemWf) (.wr
    (.set (.fieldRaise (.inc h)))) (ite_keeps (fun p : Bool × Lane => p.2.MemWf) (.sat (.fieldRaise (.inc h))) (.fieldRaise (.inc h))))

theorem Lane.MemWf.judge_lane {L : Lane} {k : ℕ} {c : Option ℕ} (h : L.MemWf) : (L.judge k c).2.MemWf := by
  unfold Lane.judge
  split
  · exact h
  · exact .judgeInterval_lane h

theorem Lane.MemWf.setRef {L : Lane} {k : ℕ} {b : Bool} {c : Option ℕ} (h : L.MemWf) : (L.setRef k b c).MemWf :=
  .ite h (.ite (.ite (.clr (.put h)) (.ite (.set (.judge_lane (.put h))) (.ite (.judge_lane (.put h)) (.startDt (.markOff (.clr
    (.judge_lane (.put h)))))))) (.ite (.ite (.set (.judge_lane (.put h))) (.set (.judge_lane (.put h)))) (.ite (.clr (.put h)) (.ite (.put
    h) (.markOff (.clr (.put h)))))))

theorem Lane.MemWf.movedOff {L : Lane} {k : ℕ} (h : L.MemWf) : (L.movedOff k).MemWf :=
  .ite h (.ite (.clr (.clr h)) (.ite (.ite (.startDt (.markOff (.clr (.clr (.clr h))))) h) (.ite h (.markOff (.clr (.clr (.clr h)))))))

theorem Lane.MemWf.compareActs {L : Lane} {k : ℕ} {rise : Bool} (h : L.MemWf) : (L.compareActs k rise).MemWf :=
  .ite h (.ite (.ite (.setRef (.setRef h)) h) (.ite (.ite (.setRef h) h) (.ite (.setRef h) h)))

theorem Lane.MemWf.neverCodes {L : Lane} {k : ℕ} (h : L.MemWf) : (L.neverCodes k).MemWf :=
  .ite h (.ite (.setRef (.clr h)) (.ite (.setRef (.clr h)) h))

theorem Lane.MemWf.changeCompl {L : Lane} {p : ℕ} {on : Bool} (h : L.MemWf) : (L.changeCompl p on).MemWf :=
  .ite (.markOff (.put (.put (.foldl (fun _ _ hJ => .clr hJ) h)))) (.ite (.markOff (.clr (.foldl (fun _ _ hJ => .clr hJ) h))) (.startDt
    (.markOff (.clr (.foldl (fun _ _ hJ => .clr hJ) h)))))

theorem Lane.MemWf.beyond {L : Lane} {g pos : ℕ} (h : L.MemWf) : (L.beyond g pos).MemWf := .ite (.fieldRaise (.inc (.set h))) h

theorem Lane.MemWf.freeGroup {L : Lane} {g : ℕ} (h : L.MemWf) : (L.freeGroup g).MemWf := .ite (.clr h) h

theorem Lane.MemWf.positionOf_lane {L : Lane} {n : ℕ} (h : L.MemWf) : (L.positionOf n).2.MemWf := by
  unfold Lane.positionOf
  exact ite_keeps (fun p : ℤ × Lane => p.2.MemWf) (h.fresh_lane (w := 32)) h

theorem Lane.MemWf.clearLoops {L : Lane} {n : ℕ} (h : L.MemWf) : (L.clearLoops n).MemWf :=
  .foldl (fun _ _ hJ => .clr hJ) (.foldl (fun _ _ hJ => .clr hJ) h)

theorem Lane.MemWf.swapBank {L : Lane} {n b : ℕ} (h : L.MemWf) : (L.swapBank n b).MemWf := .ite (.clr h) (.inc (.set (.wr (.clr h))))

theorem Lane.MemWf.settleBank {L : Lane} {n : ℕ} (h : L.MemWf) : (L.settleBank n).MemWf := .ite (.swapBank h) h

theorem Lane.MemWf.writeNever {L : Lane} {n : ℕ} (h : L.MemWf) : (L.writeNever n).MemWf :=
  .commitGroup (.foldl (fun _ _ hJ => .putRise hJ) h)

theorem Lane.MemWf.endRun {L : Lane} {n : ℕ} (h : L.MemWf) : (L.endRun n).MemWf :=
  .settleBank (.clearLoops (.wr (.putBit (.clr (.clr (.wr (.clr (.clr h))))))))

theorem Lane.MemWf.keepSpeed {L : Lane} {n : ℕ} (h : L.MemWf) : (L.keepSpeed n).MemWf := by
  unfold Lane.keepSpeed
  split
  · exact .wr h
  · exact .wr h
  · exact h

theorem Lane.MemWf.syncHeld {L : Lane} {n : ℕ} (h : L.MemWf) : (L.syncHeld n).MemWf := .put h

theorem Lane.MemWf.stopAxis {L : Lane} {n : ℕ} (h : L.MemWf) : (L.stopAxis n).MemWf :=
  .ite h (.ite (.checkCluster (.syncOverride (.writeNever (.wr (.endRun (.keepSpeed h)))))) (.set (.syncOverride (.writeNever (.wr (.endRun
    (.keepSpeed h)))))))

theorem Lane.MemWf.enterSafe {L : Lane} {n cause : ℕ} (h : L.MemWf) : (L.enterSafe n cause).MemWf :=
  .ite h (.checkCluster (.fieldEvent (.syncOverride (.clr (.syncHeld (.clr (.clr (.clr (.set (.endRun (.wr (.wr (.keepSpeed h)))))))))))))

theorem Lane.MemWf.loadFoxCtl {L : Lane} {n : ℕ} (h : L.MemWf) : (L.loadFoxCtl n).MemWf := .wr h

theorem Lane.MemWf.syncRun {L : Lane} {n : ℕ} (h : L.MemWf) : (L.syncRun n).MemWf :=
  .ite (.releaseSto (.syncOverride (.wrI (.wrI (.positionOf_lane (.wr (.wr (.foldl (fun _ _ hJ => .clr hJ) (.loadFoxCtl (.clr (.set
    h))))))))))) (.ite (.stopAxis h) h)

theorem Lane.MemWf.writeEnable {L : Lane} {n : ℕ} {on : Bool} (h : L.MemWf) : (L.writeEnable n on).MemWf :=
  .ite h (.ite (.syncHeld (.enterSafe (.clr h))) (.ite (.syncHeld (.putBit (.set h))) (.ite (.syncHeld (.enterSafe (.putBit (.putBit (.set
    h))))) (.syncHeld (.syncRun (.syncOverride (.iff (fun _ hJ => .set hJ) (.clr (.set (.ite (.wr (.wr (.putBit (.set h)))) (.putBit (.set
    h))))))))))))

theorem Lane.MemWf.setGatePerm {L : Lane} {mask : ℕ} (h : L.MemWf) : (L.setGatePerm mask).MemWf :=
  .forN (fun _ _ hK => .syncHeld (.syncRun hK)) (.wr h)

theorem Lane.MemWf.allSafe {L : Lane} {cause : ℕ} (h : L.MemWf) : (L.allSafe cause).MemWf := .forN (fun _ _ hK => .enterSafe hK) h

theorem Lane.MemWf.syncActive {L : Lane} {c : ℕ} (h : L.MemWf) : (L.syncActive c).MemWf := .ite h (.put (.clr (.clr (.put h))))

theorem Lane.MemWf.setSaDrive {L : Lane} {on : Bool} (h : L.MemWf) : (L.setSaDrive on).MemWf :=
  .forN (fun _ _ hK => .syncActive hK) (.put h)

theorem Lane.MemWf.fieldExit {L : Lane} {cause : ℕ} (h : L.MemWf) : (L.fieldExit cause).MemWf :=
  .ite (.checkE5 h) (.checkE5 (.checkCluster (.checkCluster (.forN (fun _ _ hJ => .set hJ) (.allSafe (.syncOverrides (.setSaDrive (.wr
    (.set h)))))))))

theorem Lane.MemWf.store {L : Lane} {f : Fld} {v : ℕ} (h : L.MemWf) : (L.store f v).MemWf := .wr h

theorem Lane.MemWf.readEffect {L : Lane} {a : ℕ} (h : L.MemWf) : (L.readEffect a).MemWf := by
  unfold Lane.readEffect
  split
  · exact .wr h
  · exact h

theorem Lane.MemWf.putWord {L : Lane} {a data : ℕ} (h : L.MemWf) : (L.putWord a data).MemWf := .foldl (fun _ _ hK => .store hK) h

theorem Lane.MemWf.storeSlot_lane {a data : ℕ} {loader : Bool} {K : Lane × ℕ} {x : Row × Fld} (h : K.1.MemWf) :
    (Lane.storeSlot a data loader K x).1.MemWf := .store h

theorem Lane.MemWf.storeWord_lane {L : Lane} {a data : ℕ} {loader : Bool} (h : L.MemWf) : (L.storeWord a data loader).1.MemWf :=
  foldl_keeps (fun K : Lane × ℕ => K.1.MemWf) (fun _ _ hK => .storeSlot_lane hK) h

theorem Lane.MemWf.onesAct {L : Lane} {a data : ℕ} (h : L.MemWf) : (L.onesAct a data).MemWf := by
  unfold Lane.onesAct
  refine .foldl (fun _ _ hK => ?_) h
  dsimp only
  split
  · exact .wr hK
  · exact .wr hK
  · exact hK

theorem Lane.MemWf.writeWord {L : Lane} {a data : ℕ} {loader : Bool} (h : L.MemWf) : (L.writeWord a data loader).MemWf :=
  .onesAct (.storeWord_lane h)

theorem Lane.MemWf.retSave {L : Lane} {regions : List ℕ} (h : L.MemWf) : (L.retSave regions).MemWf :=
  .set (.wr (.foldl (fun _ _ hK => .setMem hK) h))

theorem Lane.MemWf.retCount {L : Lane} (h : L.MemWf) : L.retCount.MemWf := .add h

theorem Lane.MemWf.retRestore {L : Lane} {regions : List ℕ} (h : L.MemWf) : (L.retRestore regions).MemWf :=
  .ite (.foldl (fun _ _ hK => .putWord hK) h) (.set h)

theorem Lane.MemWf.pumpPorts {L : Lane} (h : L.MemWf) : L.pumpPorts.MemWf := .pumpFelt (.pumpFelt (.pump h))

theorem Lane.MemWf.resumeDozed {L : Lane} (h : L.MemWf) : L.resumeDozed.MemWf := .event (.set (.wr h))

theorem Lane.MemWf.netOff {L : Lane} (h : L.MemWf) : L.netOff.MemWf := .wr h

theorem Lane.MemWf.netOn {L : Lane} (h : L.MemWf) : L.netOn.MemWf := .iff (fun _ hK => .portStart (.retRestore (.wr hK))) h

theorem Lane.MemWf.restartStopped {L : Lane} (h : L.MemWf) : L.restartStopped.MemWf :=
  .ite (.fieldRestart (.hostReset (.wr (.wr (.wr (.resumeDozed (.iff (fun _ hJ => .set (.clr hJ)) (.netOn (.wr (.wr (.clr (.wr (.wr
    h))))))))))))) (.pumpPorts (.resumeDozed (.iff (fun _ hJ => .set (.clr hJ)) (.netOn (.wr (.wr (.clr (.wr (.wr h)))))))))

theorem Lane.MemWf.abortEntry {L : Lane} {ap src : ℕ} (h : L.MemWf) : (L.abortEntry ap src).MemWf := .restartStopped (.wr (.wr (.inc h)))

theorem Lane.MemWf.refuseEntry {L : Lane} {id reason stage : ℕ} (h : L.MemWf) : (L.refuseEntry id reason stage).MemWf :=
  .raise (.pumpPorts (.wr (.wr (.wr (.wr (.wr (.inc h)))))))

theorem Lane.MemWf.lateRefuse {L : Lane} {id reason : ℕ} (h : L.MemWf) : (L.lateRefuse id reason).MemWf :=
  .raise (.restartStopped (.wr (.wr (.wr (.wr (.inc h))))))

theorem Lane.MemWf.abortForExit {L : Lane} (h : L.MemWf) : L.abortForExit.MemWf := .ite (.abortEntry h) h

theorem Lane.MemWf.latchWake {L : Lane} {w : ℕ} (h : L.MemWf) : (L.latchWake w).MemWf :=
  .ite (.abortEntry (.event (.wr (.putBit h)))) (.event (.wr (.putBit h)))

theorem Lane.MemWf.setRole {L : Lane} {r : ℕ} (h : L.MemWf) : (L.setRole r).MemWf := .ite h (.event (.wr h))

theorem Lane.MemWf.unpowered {L : Lane} (h : L.MemWf) : L.unpowered.MemWf := .ite h (.setRole h)

theorem Lane.MemWf.setHolder {L : Lane} {hd : ℕ} (h : L.MemWf) : (L.setHolder hd).MemWf := .ite h (.event (.wr h))

theorem Lane.MemWf.syncEligible {L : Lane} (h : L.MemWf) : L.syncEligible.MemWf := .put h

theorem Lane.MemWf.driveSa {L : Lane} (h : L.MemWf) : L.driveSa.MemWf := .toField h

theorem Lane.MemWf.undrive {L : Lane} (h : L.MemWf) : L.undrive.MemWf := .ite (.driveSa (.clr h)) h

theorem Lane.MemWf.refreshSa {L : Lane} (h : L.MemWf) : L.refreshSa.MemWf := .ite (.driveSa h) h

theorem Lane.MemWf.takeSeq {L : Lane} {seq : ℕ} (h : L.MemWf) : (L.takeSeq seq).MemWf := .wr (.wr (.wr h))

theorem Lane.MemWf.chooseSuccessor {L : Lane} (h : L.MemWf) : L.chooseSuccessor.MemWf :=
  .ite (.ite (.wr h) (.raise (.set (.set (.wr h))))) (.clr (.wr h))

theorem Lane.MemWf.followSuccessor {L : Lane} (h : L.MemWf) : L.followSuccessor.MemWf := .ite (.chooseSuccessor h) h

theorem Lane.MemWf.releaseLease {L : Lane} {successor : ℕ} (h : L.MemWf) : (L.releaseLease successor).MemWf := by
  unfold Lane.releaseLease
  exact .put (.wr (.setHolder (.setRole (.sendFeltAll (.takeSeq (.undrive h))))))

theorem Lane.MemWf.endClaim {L : Lane} (h : L.MemWf) : L.endClaim.MemWf := .ite h (.iff (fun _ hK => .setHolder hK) (.clr (.setRole h)))

theorem Lane.MemWf.releaseAtExit {L : Lane} {cause : ℕ} (h : L.MemWf) : (L.releaseAtExit cause).MemWf :=
  .syncEligible (.ite (.ite (.wr (.setRole (.undrive h))) (.releaseLease h)) (.endClaim h))

theorem Lane.MemWf.bar {L : Lane} (h : L.MemWf) : L.bar.MemWf := .syncEligible (.setRole (.ite (.releaseLease h) (.endClaim h)))

theorem Lane.MemWf.storeSnap {L : Lane} {m : Snapshot} (h : L.MemWf) : (L.storeSnap m).MemWf :=
  .wr (.set ⟨Memory.setNum_wf _ _ _ _ _ (Memory.setBytes_wf _ _ _ _ h.1), h.2⟩)

theorem Lane.MemWf.writeExt {L : Lane} {faults : ℕ} (h : L.MemWf) : (L.writeExt faults).MemWf :=
  .forN (fun _ _ hK => .ite (.toField hK) hK) h

theorem Lane.MemWf.snapStale {L : Lane} (h : L.MemWf) : L.snapStale.MemWf := .raise (.set (.wr h))

theorem Lane.MemWf.restoreCopy {L : Lane} {hd : ℕ} (h : L.MemWf) : (L.restoreCopy hd).MemWf := .wr (.wr (.wr h))

theorem Lane.MemWf.restoreAtPower {L : Lane} (h : L.MemWf) : L.restoreAtPower.MemWf := by
  unfold Lane.restoreAtPower
  split
  · exact .restoreCopy h
  · exact h

theorem Lane.MemWf.restoreSnap {L : Lane} (h : L.MemWf) : L.restoreSnap.MemWf := by
  unfold Lane.restoreSnap
  split
  · exact .ite (.writeExt (.restoreCopy h)) (.snapStale (.writeExt (.restoreCopy h)))
  · exact .wr (.snapStale h)

theorem Lane.MemWf.takeDrive {L : Lane} (h : L.MemWf) : L.takeDrive.MemWf := by
  unfold Lane.takeDrive
  exact .followSuccessor (.driveSa (.set (.wr (.clr (.clr (.restoreSnap (.setHolder (.setRole (.wr (.iff (fun _ hJ => .raise hJ) (.inc
    (.sat (.sat h)))))))))))))

theorem Lane.MemWf.claim {L : Lane} {silent : Bool} (h : L.MemWf) : (L.claim silent).MemWf := by
  unfold Lane.claim
  exact .followSuccessor (.sendFeltAll (.setHolder (.setRole (.clr (.set (.wr (.wr (.put (.wr (.wr h))))))))))

theorem Lane.MemWf.stepDown {L : Lane} {seq : ℕ} {conflict : Bool} (h : L.MemWf) : (L.stepDown seq conflict).MemWf :=
  .ite (.raise (.set (.set (.wr (.clr (.takeSeq (.setRole (.undrive h)))))))) (.set (.wr (.clr (.takeSeq (.setRole (.undrive h))))))

theorem Lane.MemWf.wakeSa {L : Lane} (h : L.MemWf) : L.wakeSa.MemWf := .ite h (.latchWake (.set h))

theorem Lane.MemWf.heedRenewal {L : Lane} {src seq : ℕ} {conflict : Bool} (h : L.MemWf) : (L.heedRenewal src seq conflict).MemWf :=
  .set (.set (.setHolder (.ite (.stepDown h) (.takeSeq h))))

theorem Lane.MemWf.renewalFrom {L : Lane} {src seq successor : ℕ} (h : L.MemWf) : (L.renewalFrom src seq successor).MemWf :=
  .ite (.wr (.heedRenewal h)) (.ite (.wr (.heedRenewal h)) h)

theorem Lane.MemWf.syncSched {L : Lane} (h : L.MemWf) : L.syncSched.MemWf := by
  unfold Lane.syncSched
  refine .forN (fun _ _ hJ => ?_) (.forN (fun _ _ hJ => .wr hJ) (.wr h))
  dsimp only
  split
  · exact .clr (.clr (.put (.iff (fun _ hJ' => .raise hJ') (.wr hJ))))
  · exact .wr (.set (.put (.iff (fun _ hJ' => .raise hJ') (.wr hJ))))

theorem Lane.MemWf.setSched {L : Lane} {s : Sched} (h : L.MemWf) : (L.setSched s).MemWf := .syncSched h

theorem Lane.MemWf.flowHome {L : Lane} {n : ℕ} (h : L.MemWf) : (L.flowHome n).MemWf := .ite (.wr h) h

theorem Lane.MemWf.judgeReady {L : Lane} {n : ℕ} (h : L.MemWf) : (L.judgeReady n).MemWf :=
  .ite h (.ite (.raise (.set (.clr (.clr h)))) (.setSched (.flowHome (.wr (.clr (.wr h))))))

theorem Lane.MemWf.addToken {L : Lane} {n : ℕ} (h : L.MemWf) : (L.addToken n).MemWf := .judgeReady (.add h)

theorem Lane.MemWf.trigger {L : Lane} {n : ℕ} (h : L.MemWf) : (L.trigger n).MemWf := .judgeReady (.wr (.set h))

theorem Lane.MemWf.triggerAll {L : Lane} {kind : ℕ} {cond : ℕ → Bool} (h : L.MemWf) : (L.triggerAll kind cond).MemWf :=
  .ite (.forN (fun _ _ hK => .iff (fun _ hJ => .trigger hJ) hK) h) h

theorem Lane.MemWf.returnTarget {L : Lane} {t : ℕ} {execToo : Bool} (h : L.MemWf) : (L.returnTarget t execToo).MemWf := .setSched (.add h)

theorem Lane.MemWf.rebindFrom {L : Lane} {t : ℕ} (h : L.MemWf) : (L.rebindFrom t).MemWf := by
  unfold Lane.rebindFrom
  refine .ite h (.forN (fun _ _ hK => .ite hK ?_) h)
  split
  · exact hK
  · exact .inc (.wr hK)

theorem Lane.MemWf.checkCapacity {L : Lane} (h : L.MemWf) : L.checkCapacity.MemWf := .ite (.raise (.wr h)) (.wr h)

theorem Lane.MemWf.pairLeaves {L : Lane} {p : ℕ} (h : L.MemWf) : (L.pairLeaves p).MemWf :=
  .checkCapacity (.iff (fun _ hJ => .rebindFrom hJ) (.rebindFrom (.iff (fun _ hJ => .returnTarget hJ) (.returnTarget h))))

theorem Lane.MemWf.restartPair {L : Lane} {p : ℕ} (h : L.MemWf) : (L.restartPair p).MemWf :=
  .pairLeaves (.foldl (fun _ _ hJ => .clr hJ) (.wr h))

theorem Lane.MemWf.startAtVec {L : Lane} {p : ℕ} (h : L.MemWf) : (L.startAtVec p).MemWf := .wr (.wr h)

theorem Lane.MemWf.restartWithdrawn {L : Lane} {p : ℕ} (h : L.MemWf) : (L.restartWithdrawn p).MemWf :=
  .ite (.startAtVec (.wr (.wr h))) (.restartPair (.wr h))

theorem Lane.MemWf.schedStop {L : Lane} (h : L.MemWf) : L.schedStop.MemWf := .forN (fun _ _ hK => .returnTarget hK) h

theorem Lane.MemWf.syncLog {L : Lane} (h : L.MemWf) : L.syncLog.MemWf := by
  unfold Lane.syncLog
  split
  · exact .clr (.clr (.clr (.clr (.clr h))))
  · exact .wr (.wr (.wr (.wr (.wr (.wr h)))))

theorem Lane.MemWf.logFault {L : Lane} {e : LogEntry} (h : L.MemWf) : (L.logFault e).MemWf :=
  .iff (fun _ hJ => .sendMbx hJ) (.ite (.syncLog h) (.inc h))

theorem Lane.MemWf.syncPend {L : Lane} (h : L.MemWf) : L.syncPend.MemWf := .put h

theorem Lane.MemWf.bgrEvent {L : Lane} (h : L.MemWf) : L.bgrEvent.MemWf := .level h

theorem Lane.MemWf.writeFirst {L : Lane} {a : Arrival} {forced observed : Bool} {at' : ℕ × ℕ} (h : L.MemWf) :
    (L.writeFirst a forced observed at').MemWf :=
  .set (.iff (fun _ hJ => .wr hJ) (.wr (.wr (.put (.put (.put (.wr (.wr h))))))))

theorem Lane.MemWf.laterFault {L : Lane} {sev : ℕ} (h : L.MemWf) : (L.laterFault sev).MemWf := .wr (.inc (.set h))

theorem Lane.MemWf.exitRecord {L : Lane} {k : ℕ} (h : L.MemWf) : (L.exitRecord k).MemWf := .ite (.writeFirst h) (.writeFirst h)

theorem Lane.MemWf.latchE0 {L : Lane} {cause : ℕ} (h : L.MemWf) : (L.latchE0 cause).MemWf :=
  .ite h (.abortForExit (.fieldExit (.wr (.forN (fun _ _ hJ => .clr hJ) (.schedStop (.releaseAtExit (.inc (.wr (.ite (.iff (fun _ hJ =>
    .set hJ) (.wr (.set h))) (.iff (fun _ hJ => .exitRecord hJ) (.wr (.set h))))))))))))

theorem Lane.MemWf.gate {L : Lane} {src : ℕ} {forcedAlone : Bool} {since : ℕ} (h : L.MemWf) : (L.gate src forcedAlone since).MemWf :=
  .ite (.set (.sat h)) (.latchE0 (.sat h))

theorem Lane.MemWf.pend {L : Lane} {a : Arrival} {forced observed : Bool} (h : L.MemWf) : (L.pend a forced observed).MemWf :=
  .put (.put (.wr (.wr (.wr (.clr (.wr (.putBit h)))))))

theorem Lane.MemWf.pendReal {L : Lane} {k : ℕ} (h : L.MemWf) : (L.pendReal k).MemWf := .set (.clr (.clr h))

theorem Lane.MemWf.react {L : Lane} {a : Arrival} {forced observed : Bool} (h : L.MemWf) : (L.react a forced observed).MemWf := by
  unfold Lane.react
  extract_lets sev K₁ K₂ K₃ K₄ K₅
  have h₃ : K₃.MemWf := .iff (fun _ hJ => .set hJ) (.iff (fun _ hJ => .logFault hJ) (.ite (.inc h) (.add h)))
  have h₅ : K₅.MemWf := .bgrEvent (.syncPend (.ite (.iff (fun _ hJ => .pendReal hJ) h₃) (.iff (fun _ hJ => .pend hJ) h₃)))
  exact .ite (.gate (.fresh_lane h₅)) h₅

theorem Lane.MemWf.collect {L : Lane} {arrs : List Arrival} (h : L.MemWf) : (L.collect arrs).MemWf := by
  unfold Lane.collect
  refine .foldl (fun _ _ hJ => .react hJ) ?_
  split
  · exact .add h
  · exact .foldl (fun _ _ hJ => .laterFault hJ) (.ite (.wr (.writeFirst (.add h))) (.iff (fun _ hJ => .set hJ) (.add h)))

theorem Lane.MemWf.exitOn {L : Lane} {src : ℕ} (h : L.MemWf) : (L.exitOn src).MemWf := .latchE0 (.collect h)

theorem Lane.MemWf.syncGuarantee {L : Lane} (h : L.MemWf) : L.syncGuarantee.MemWf := .put (.iff (fun _ hJ => .set hJ) (.put h))

theorem Lane.MemWf.syncRecommended {L : Lane} (h : L.MemWf) : L.syncRecommended.MemWf := .syncGuarantee (.put h)

theorem Lane.MemWf.startSs1 {L : Lane} (h : L.MemWf) : L.startSs1.MemWf :=
  .ite h (.raise (.iff (fun _ hJ => .toField hJ) (.iff (fun _ hJ => .toField hJ) (.set (.wr (.clr (.forN (fun _ _ hJ => .clr (.wr hJ)) (.wr
    (.wr (.set h))))))))))

theorem Lane.MemWf.watchToken {L : Lane} (h : L.MemWf) : L.watchToken.MemWf := .iff (fun _ hK => .set hK) h

theorem Lane.MemWf.evalStill {L : Lane} (h : L.MemWf) : L.evalStill.MemWf :=
  .ite (.iff (fun _ hK => .wr (.set hK)) h) (.watchToken (.updateFails (.clr (.clr h))))

theorem Lane.MemWf.requestStop {L : Lane} {cause : ℕ} (h : L.MemWf) : (L.requestStop cause).MemWf :=
  .ite (.wr (.wr (.startSs1 h))) (.ite (.wr (.wr (.updateLine (.set h)))) h)

theorem Lane.MemWf.sto {L : Lane} (h : L.MemWf) : L.sto.MemWf := .updateLine (.set h)

theorem Lane.MemWf.proposeTorqueOff {L : Lane} {cause : ℕ} (h : L.MemWf) : (L.proposeTorqueOff cause).MemWf := .ite h (.wr (.wr h))

theorem Lane.MemWf.stateForMode {L : Lane} {was : ℕ} (h : L.MemWf) : (L.stateForMode was).MemWf :=
  .ite (.set (.ite (.setState h) h)) (.ite (.ite (.setState (.forN (fun _ _ hJ => .iff (fun _ hJ' => .put hJ') hJ) h)) (.forN (fun _ _ hJ
    => .iff (fun _ hJ' => .put hJ') hJ) h)) h)

theorem Lane.MemWf.abandonDirect {L : Lane} (h : L.MemWf) : L.abandonDirect.MemWf :=
  .ite h (.ite (.updateLine (.clr (.wr h))) (.iff (fun _ hJ => .restartWithdrawn hJ) (.putBit (.updateLine (.clr (.wr h))))))

theorem Lane.MemWf.endLifecycleService {L : Lane} (h : L.MemWf) : L.endLifecycleService.MemWf :=
  .ite (.syncGuarantee (.abandonDirect (.inc (.clr (.clr (.wr h)))))) h

theorem Lane.MemWf.serviceSealReset {L : Lane} (h : L.MemWf) : L.serviceSealReset.MemWf := .ite (.fieldRestart (.hostReset h)) h

theorem Lane.MemWf.checkSealChg {L : Lane} (h : L.MemWf) : L.checkSealChg.MemWf := .ite (.raise (.set h)) h

theorem Lane.MemWf.syncTarget {L : Lane} (h : L.MemWf) : L.syncTarget.MemWf := .iff (fun _ hK => .set hK) h

theorem Lane.MemWf.revokeCert {L : Lane} (h : L.MemWf) : L.revokeCert.MemWf :=
  .ite h (.wr (by split; exacts [h, ⟨h.1, Memory.setNum_wf _ _ _ _ _ h.2⟩]))

theorem Lane.MemWf.sendPermission {L : Lane} (h : L.MemWf) : L.sendPermission.MemWf := .ite h (.toField (.put h))

theorem Lane.MemWf.syncCan {L : Lane} (h : L.MemWf) : L.syncCan.MemWf := .ite (.iff (fun _ hK => .wr (.wr (.wr hK))) h) (.clr (.wr h))

theorem Lane.MemWf.zeroAxes {L : Lane} (h : L.MemWf) : L.zeroAxes.MemWf := .ite h (.toField h)

theorem Lane.MemWf.modeActions {L : Lane} {was : ℕ} (h : L.MemWf) : (L.modeActions was).MemWf :=
  .iff (fun _ hJ => .checkSealChg (.abandonDirect hJ)) (.iff (fun _ hJ => .serviceSealReset hJ) (.iff (fun _ hJ => .endLifecycleService hJ)
    (.syncCan (.refreshSa (.syncEligible (.syncReady (.sendPermission (.updateLine (.iff (fun _ hJ => .zeroAxes hJ) (.iff (fun _ hJ =>
    .endClaim hJ) (.iff (fun _ hJ => .revokeCert hJ) (.iff (fun _ hJ => .clr hJ) (.iff (fun _ hJ => .wr hJ) (.iff (fun _ hJ => .clr (.clr
    hJ)) (.iff (fun _ hJ => .startSs1 hJ) (.iff (fun _ hJ => .updateFails hJ) (.stateForMode h)))))))))))))))))

theorem Lane.MemWf.setMode {L : Lane} {m cause lane : ℕ} (h : L.MemWf) : (L.setMode m cause lane).MemWf :=
  .ite h (.watchToken (.modeActions (.syncTarget (.clr (.wr (.wr (.wr (.wr (.wr h)))))))))

theorem Lane.MemWf.takeFieldMsg {L : Lane} {m : FieldMsg} (h : L.MemWf) : (L.takeFieldMsg m).MemWf :=
  .ite (.collect h) (.ite (.toField (.wr h)) (.collect (.toField (.wr h))))

theorem Lane.MemWf.storeSeverity {L : Lane} {src v : ℕ} (h : L.MemWf) : (L.storeSeverity src v).MemWf :=
  .ite h (.iff (fun _ hK => .toField hK) (.wr h))

theorem Lane.MemWf.writeOv12 {L : Lane} {k ov1 ov2 : ℕ} (h : L.MemWf) : (L.writeOv12 k ov1 ov2).MemWf := .wr (.wr h)

theorem Lane.MemWf.writeOv3 {L : Lane} {k ov3 hyst : ℕ} (h : L.MemWf) : (L.writeOv3 k ov3 hyst).MemWf := .wr (.wr h)

theorem Lane.MemWf.writeCh {L : Lane} {k on full : ℕ} (h : L.MemWf) : (L.writeCh k on full).MemWf := .wr (.wr h)

theorem Lane.MemWf.ov3Axes {L : Lane} {k : ℕ} (h : L.MemWf) : (L.ov3Axes k).MemWf :=
  .forN (fun _ _ hK => .iff (fun _ hJ => .enterSafe (.putBit hJ)) hK) h

theorem Lane.MemWf.evalOv {L : Lane} {k i : ℕ} (h : L.MemWf) : (L.evalOv k i).MemWf :=
  .ite (.ite (.iff (fun _ hJ => .clr hJ) (.put (.clr h))) (.ite (.ov3Axes (.inc (.fieldRaise (.set (.put (.clr h)))))) (.iff (fun _ hJ =>
    .clr hJ) (.fieldRaise (.set (.put (.clr h))))))) (.wr h)

theorem Lane.MemWf.syncRegen {L : Lane} {k : ℕ} (h : L.MemWf) : (L.syncRegen k).MemWf :=
  .ite (.wr (.wr h)) (.ite (.clr (.clr h)) (.wr (.wr h)))

theorem Lane.MemWf.syncLoss {L : Lane} (h : L.MemWf) : L.syncLoss.MemWf := .forN (fun _ _ hK => .put hK) h

theorem Lane.MemWf.addEnergy {L : Lane} {k : ℕ} (h : L.MemWf) : (L.addEnergy k).MemWf := .sat (.sat (.add (.add h)))

theorem Lane.MemWf.energyReset {L : Lane} {k : ℕ} (h : L.MemWf) : (L.energyReset k).MemWf := .wr (.clr (.clr (.clr (.clr h))))

theorem Lane.MemWf.writeRailEn {L : Lane} {k : ℕ} {on : Bool} (h : L.MemWf) : (L.writeRailEn k on).MemWf :=
  .ite (.put h) (.syncLoss (.syncRegen (.foldl (fun _ _ hJ => .clr hJ) (.put h))))

theorem Lane.MemWf.chopperEdges {L : Lane} {c b : ℕ} {mid : Bool} (h : L.MemWf) : (L.chopperEdges c b mid).MemWf :=
  .ite h (.ite (.wr (.wr (.wr (.wr (.putFall (.putRise h)))))) (.commitGroup (.wr (.wr (.wr (.putFall (.putRise h)))))))

theorem Lane.MemWf.chopFault {L : Lane} {c : ℕ} {stuckOn : Bool} (h : L.MemWf) : (L.chopFault c stuckOn).MemWf :=
  .syncLoss (.ite (.fieldEvent (.set (.ite (.fieldRaise (.set (.set (.set h)))) (.fieldRaise (.set (.set (.set h))))))) (.ite (.fieldRaise
    (.set (.set (.set h)))) (.fieldRaise (.set (.set (.set h))))))

theorem Lane.MemWf.chopperPeriod {L : Lane} {c : ℕ} (h : L.MemWf) : (L.chopperPeriod c).MemWf :=
  .ite (.put (.wr (.wr (.clr (.clr (.clr (.clr (.clr (.clr h))))))))) (.put (.wr (.wr (.clr (.clr (.clr (.clr (.iff (fun _ hJ => .chopFault
    (.clr hJ)) (.iff (fun _ hJ => .chopFault (.clr hJ)) (.wr (.wr (.sat h))))))))))))

theorem Lane.MemWf.takePeriod {L : Lane} {g b : ℕ} (h : L.MemWf) : (L.takePeriod g b).MemWf :=
  .ite (.clr h) (.ite (.clr (.wr h)) (.ite h (.fieldRaise (.inc (.set (.set h))))))

theorem Lane.MemWf.moveShadows {L : Lane} {g b : ℕ} {mid : Bool} (h : L.MemWf) : (L.moveShadows g b mid).MemWf :=
  .ite (.foldl (fun _ _ hJ => .wr hJ) h) (.foldl (fun _ _ hJ => .ite (.wr (.wr hJ)) (.changeCompl (.wr (.wr hJ)))) (.wr (.foldl (fun _ _ hJ
    => .wr hJ) (.takePeriod (.foldl (fun _ _ hJ => .wr hJ) h)))))

theorem Lane.MemWf.takeCommit {L : Lane} {g b : ℕ} {mid : Bool} (h : L.MemWf) : (L.takeCommit g b mid).MemWf :=
  .ite (.checkCluster (.clr (.freeGroup (.foldl (fun _ _ hJ => .put (.put hJ)) (.clr (.useCommit (.moveShadows h))))))) (.freeGroup (.foldl
    (fun _ _ hJ => .put (.put hJ)) (.clr (.useCommit (.moveShadows h)))))

theorem Lane.MemWf.align {L : Lane} {g : ℕ} (h : L.MemWf) : (L.align g).MemWf :=
  .ite (.wr (.clr h)) (.ite (.ite (.fieldRaise (.clr (.wr (.iff (fun _ hJ => .set hJ) (.put (.wrI h)))))) (.inc (.wr (.iff (fun _ hJ =>
    .set hJ) (.put (.wrI h)))))) (.clr (.wr (.iff (fun _ hJ => .set hJ) (.put (.wrI h))))))

theorem Lane.MemWf.judgeCompares {L : Lane} {g : ℕ} (h : L.MemWf) : (L.judgeCompares g).MemWf :=
  .foldl (fun _ _ hJ => .neverCodes hJ) (.foldl (fun _ _ hJ => .beyond (.beyond hJ)) h)

theorem Lane.MemWf.judgeMoved {L old : Lane} {g : ℕ} (h : L.MemWf) : (L.judgeMoved old g).MemWf :=
  .foldl (fun _ _ hJ => .neverCodes hJ) (.foldl (fun _ _ hJ => .ite hJ (.beyond hJ)) h)

theorem Lane.MemWf.transfer {L : Lane} {g : ℕ} {mid : Bool} (h : L.MemWf) : (L.transfer g mid).MemWf :=
  .ite h (.ite (.iff (fun _ hJ => .judgeMoved hJ) (.iff (fun _ hJ => .takeCommit hJ) (.iff (fun _
    hJ => .chopperEdges hJ) h))) (.iff (fun _ hJ => .chopperPeriod hJ) (.judgeCompares (.align (.wr (.clr (.iff (fun _ hJ => .takeCommit
    hJ) (.iff (fun _ hJ => .chopperEdges hJ) h))))))))

theorem Lane.MemWf.writeRun {L : Lane} {g : ℕ} {on : Bool} (h : L.MemWf) : (L.writeRun g on).MemWf :=
  .ite h (.ite (.checkCluster (.clr (.syncOverride (.ite (.set (.set (.clr (.clr (.wr (.clr (.put (.put h)))))))) (.put (.put h))))))
    (.syncOverride (.ite (.set (.set (.clr (.clr (.wr (.clr (.put (.put h)))))))) (.put (.put h)))))

theorem Lane.MemWf.resumePwm {L : Lane} (h : L.MemWf) : L.resumePwm.MemWf :=
  .ite h (.fieldRaise (.forN (fun _ _ hK => .iff (fun _ hJ => .set hJ) hK) (.clr h)))

theorem Lane.MemWf.startFailed {L : Lane} {n : ℕ} (h : L.MemWf) : (L.startFailed n).MemWf := .enterSafe (.fieldRaise h)

theorem Lane.MemWf.enterHall {L : Lane} {n theta : ℕ} (h : L.MemWf) : (L.enterHall n theta).MemWf :=
  .syncOverride (.clr (.wr (.wr (.set (.set (.wr h))))))

theorem Lane.MemWf.showTrack {L : Lane} {n theta : ℕ} {omega : ℤ} (h : L.MemWf) : (L.showTrack n theta omega).MemWf :=
  .syncOverride (.wr (.clr (.wr (.clr (.wrI (.wr (.wr (.set (.set (.wr h))))))))))

theorem Lane.MemWf.presetFlux {L : Lane} {n theta : ℕ} (h : L.MemWf) : (L.presetFlux n theta).MemWf := .wrI (.wrI h)

theorem Lane.MemWf.enterTrack {L : Lane} {n theta : ℕ} {omega : ℤ} (h : L.MemWf) : (L.enterTrack n theta omega).MemWf :=
  .clr (.presetFlux (.showTrack h))

theorem Lane.MemWf.presetLoops {L : Lane} {n : ℕ} {omega : ℤ} (h : L.MemWf) : (L.presetLoops n omega).MemWf :=
  .clr (.wrI (.positionOf_lane (.clr (.clr (.wrI (.wrI (.wrI (.clr h))))))))

theorem Lane.MemWf.enterCentre {L : Lane} {n : ℕ} (h : L.MemWf) : (L.enterCentre n).MemWf :=
  .presetLoops (.enterHall (.iff (fun _ hK => .clr hK) h))

theorem Lane.MemWf.enterAcquire {L : Lane} {n st : ℕ} (h : L.MemWf) : (L.enterAcquire n st).MemWf :=
  .syncOverride (.putBit (.foldl (fun _ _ hJ => .clr hJ) (.wr h)))

theorem Lane.MemWf.enterRest {L : Lane} {n : ℕ} (h : L.MemWf) : (L.enterRest n).MemWf := by
  unfold Lane.enterRest
  exact .syncOverride (.clr (.wr (.wr (.wr (.wr (.inc (.inc (.wr h))))))))

theorem Lane.MemWf.restFailed {L : Lane} {n : ℕ} (h : L.MemWf) : (L.restFailed n).MemWf := .ite (.enterRest h) (.startFailed (.set h))

theorem Lane.MemWf.idleStep {L : Lane} {n : ℕ} (h : L.MemWf) : (L.idleStep n).MemWf :=
  .ite h (.ite (.ite (.enterCentre h) (.startFailed h)) (.ite (.enterRest h) (.enterAcquire h)))

theorem Lane.MemWf.acquireStep_lane {L : Lane} {n : ℕ} {e : ℤ × ℤ} {quiet : Bool} (h : L.MemWf) :
    (L.acquireStep n e quiet).2.2.2.MemWf :=
  .wr (.inc (.wr (.wr (.wrI (.wr h)))))

theorem Lane.MemWf.locked {L : Lane} {n ang : ℕ} {omega : ℤ} (h : L.MemWf) : (L.locked n ang omega).MemWf := .presetLoops (.enterTrack h)

theorem Lane.MemWf.acquireSample {L : Lane} {n : ℕ} {e : ℤ × ℤ} {quiet : Bool} (h : L.MemWf) : (L.acquireSample n e quiet).MemWf :=
  .ite (.locked (.acquireStep_lane h)) (.ite (.ite (.enterCentre (.acquireStep_lane h)) (.ite (.enterRest (.acquireStep_lane h))
    (.startFailed (.acquireStep_lane h)))) (.ite (.startFailed (.acquireStep_lane h)) (.acquireStep_lane h)))

theorem Lane.MemWf.reacqSample {L : Lane} {n : ℕ} {e : ℤ × ℤ} {quiet : Bool} (h : L.MemWf) : (L.reacqSample n e quiet).MemWf :=
  .ite (.inc (.locked (.acquireStep_lane h))) (.acquireStep_lane h)

theorem Lane.MemWf.safeSample {L : Lane} {n : ℕ} {e : ℤ × ℤ} (h : L.MemWf) : (L.safeSample n e).MemWf :=
  .ite h (.ite (.ite (.syncOverride (.wr (.acquireStep_lane h))) (.acquireStep_lane h)) (.ite (.checkCluster (.syncOverride (.wr h))) h))

theorem Lane.MemWf.rotorLost {L : Lane} {n : ℕ} {omega u : ℤ} (h : L.MemWf) : (L.rotorLost n omega u).MemWf :=
  .ite (.enterSafe (.fieldRaise (.wr (.wr (.wr (.wrI (.wr (.wr (.inc h))))))))) (.ite (.inc (.enterHall (.fieldRaise (.wr (.wr (.wr (.wrI
    (.wr (.wr (.inc h)))))))))) (.ite (.enterAcquire (.fieldRaise (.wr (.wr (.wr (.wrI (.wr (.wr (.inc h))))))))) (.enterSafe (.fieldRaise
    (.wr (.wr (.wr (.wrI (.wr (.wr (.inc h)))))))))))

theorem Lane.MemWf.observe_lane {L : Lane} {n theta : ℕ} {ia ib ic al be id iq : ℤ} (h : L.MemWf) :
    (L.observe n theta ia ib ic al be id iq).2.2.MemWf :=
  .wrI (.wrI (.wrI h))

theorem Lane.MemWf.pllStep {L : Lane} {n theta : ℕ} {err : ℤ} (h : L.MemWf) : (L.pllStep n theta err).MemWf := .wr (.wr (.wrI h))

theorem Lane.MemWf.trackCheck {L : Lane} {n : ℕ} {r omega u : ℤ} (h : L.MemWf) : (L.trackCheck n r omega u).MemWf :=
  .ite (.rotorLost (.wr (.wr h))) (.ite (.enterHall (.wr (.wr h))) (.wr (.wr (.wr h))))

theorem Lane.MemWf.hallCheck {L : Lane} {n : ℕ} {r : ℤ} (h : L.MemWf) : (L.hallCheck n r).MemWf :=
  .ite (.showTrack (.wr (.wr (.wrI h)))) (.wr (.wr (.wrI h)))

theorem Lane.MemWf.weaken {L : Lane} {n : ℕ} (h : L.MemWf) : (L.weaken n).MemWf :=
  .ite (.clr (.clr h)) (.iff (fun _ hJ => .fieldRaise hJ) (.put (.put (.wrI h))))

theorem Lane.MemWf.judgeKe {L : Lane} {n : ℕ} {rho : ℤ} (h : L.MemWf) : (L.judgeKe n rho).MemWf :=
  .ite (.ite (.enterSafe (.fieldRaise (.set (.iff (fun _ hJ => .fieldRaise (.set hJ)) (.set (.wrI h)))))) (.fieldRaise (.set (.iff (fun _
    hJ => .fieldRaise (.set hJ)) (.set (.wrI h)))))) (.iff (fun _ hJ => .fieldRaise (.set hJ)) (.set (.wrI h)))

theorem Lane.MemWf.missKe {L : Lane} {n : ℕ} (h : L.MemWf) : (L.missKe n).MemWf := .ite h (.ite (.clr (.clr (.clr h))) (.inc h))

theorem Lane.MemWf.checkKe {L : Lane} {n : ℕ} {id iq mq : ℤ} (h : L.MemWf) : (L.checkKe n id iq mq).MemWf :=
  .ite h (.ite (.ite (.clr (.wr (.wrI h))) (.judgeKe (.clr (.clr (.clr (.wr (.wrI h))))))) (.missKe h))

theorem Lane.MemWf.flags {L : Lane} {n mask : ℕ} (h : L.MemWf) : (L.flags n mask).MemWf :=
  .forN (fun _ _ hK => .iff (fun _ hJ => .fieldRaise (.putBit hJ)) hK) h

theorem Lane.MemWf.winShort {L : Lane} {n : ℕ} (h : L.MemWf) : (L.winShort n).MemWf := .fieldRaise (.flags (.inc h))

theorem Lane.MemWf.writePhase {L : Lane} {n x : ℕ} {d : ℤ} {mid : Bool} {t : ℕ} (h : L.MemWf) : (L.writePhase n x d mid t).MemWf := by
  unfold Lane.writePhase
  extract_lets k update p pf both compl dt win e f judged fresh s delta K₁ K₂ K₃ rise fall K₄ K₅ oddRise oddFall cut K₆
  have h₃ : K₃.MemWf := .iff (fun _ hJ => .winShort hJ) (.iff (fun _ hJ => .winShort hJ) (.iff (fun _ hJ => .wr hJ) h))
  have h₄ : K₄.MemWf := .ite (.putRise h₃) h₃
  have h₅ : K₅.MemWf := .ite (.putFall h₄) h₄
  have h₆ : K₆.MemWf := .iff (fun _ hJ => .putRise hJ) (.flags h₅)
  exact .ite h₅ (.ite (.putFall h₆) h₆)

theorem Lane.MemWf.latchEdges {L : Lane} {n : ℕ} {mid : Bool} {delay : ℕ} {d : ℤ × ℤ × ℤ} (h : L.MemWf) :
    (L.latchEdges n mid delay d).MemWf :=
  .ite (.fieldRaise (.inc (.commitGroup (.writePhase (.writePhase (.writePhase h)))))) (.commitGroup (.writePhase (.writePhase (.writePhase
    h))))

theorem Lane.MemWf.applyVector {L : Lane} {n phi : ℕ} {v : ℤ} (h : L.MemWf) : (L.applyVector n phi v).MemWf :=
  .commitGroup (.writePhase (.writePhase (.writePhase (.writePhase (.writePhase (.writePhase (.wrI (.wrI (.wrI h)))))))))

theorem Lane.MemWf.applySetpoint {L : Lane} {n : ℕ} {m : Setpoint} (h : L.MemWf) : (L.applySetpoint n m).MemWf := by
  unfold Lane.applySetpoint
  extract_lets K₁ K₂ K₃ K₄ K₅ K₆
  have h₃ : K₃.MemWf := .clr (.set (.wr (.wr (.wrI (.wrI (.wrI h))))))
  have h₄ : K₄.MemWf := by
    unfold K₄
    split
    · exact h₃
    · exact .wr h₃
  have h₅ : K₅.MemWf := by
    unfold K₅
    split
    · exact h₄
    · exact .wr h₄
  exact .ite h₅ (.swapBank (.iff (fun _ hJ => .set hJ) h₅))

theorem Lane.MemWf.applyDue {L : Lane} {n t : ℕ} (h : L.MemWf) : (L.applyDue n t).MemWf :=
  .update rfl (.foldl (fun _ _ hJ => .applySetpoint hJ) h)

theorem Lane.MemWf.syncInput {L : Lane} {n : ℕ} (h : L.MemWf) : (L.syncInput n).MemWf := .put h

theorem Lane.MemWf.calender {L : Lane} {n : ℕ} {target : ℤ} (h : L.MemWf) : (L.calender n target).MemWf := .flags (.put (.wrI (.wrI h)))

theorem Lane.MemWf.positionLoop {L : Lane} {n : ℕ} {sp : ℤ} (h : L.MemWf) : (L.positionLoop n sp).MemWf :=
  .flags (.wrI (.wrI (.positionOf_lane h)))

theorem Lane.MemWf.countLoops {L : Lane} {n : ℕ} (h : L.MemWf) : (L.countLoops n).MemWf :=
  .ite (.inc h) (.ite (.inc (.clr h)) (.clr (.clr h)))

theorem Lane.MemWf.outerLoops {L : Lane} {n : ℕ} {sp : ℤ} (h : L.MemWf) : (L.outerLoops n sp).MemWf :=
  .ite h (.ite (.positionLoop (.flags (.wrI (.wrI (.calender (.ite (.wrI h) h)))))) (.flags (.wrI (.wrI (.calender (.ite (.wrI h) h))))))

theorem Lane.MemWf.voltages_lane {L : Lane} {n : ℕ} {id iq : ℤ} (h : L.MemWf) : (L.voltages n id iq).2.2.MemWf := .flags (.wrI (.wrI h))

theorem Lane.MemWf.modulate_lane {L : Lane} {n : ℕ} {vd vq : ℤ} (h : L.MemWf) : (L.modulate n vd vq).2.2.MemWf :=
  .flags (.wrI (.wrI (.put (.put (.put (.wr (.wr (.wrI h))))))))

theorem Lane.MemWf.stage5 {L : Lane} {n : ℕ} {sp acc : ℤ} (h : L.MemWf) : (L.stage5 n sp acc).MemWf :=
  .iff (fun _ hJ => .fieldRaise (.set hJ)) (.putBit (.flags (.putBit (.wr (.put (.wrI (.wrI (.weaken h))))))))

theorem Lane.MemWf.runSample {L : Lane} {n : ℕ} {mid : Bool} {delay i0 i1 : ℕ} {u : ℤ} (h : L.MemWf) :
    (L.runSample n mid delay i0 i1 u).MemWf := by
  unfold Lane.runSample
  extract_lets hall omega theta K₁ ph p id iq K₂ ob K₃ v m sp K₄ K₅ K₆ ab d K₇ K₈ K₉ K₁₀ K₁₁
  have h₃ : K₃.MemWf := .observe_lane (.flags (.wrI (.wrI (.iff (fun _ hJ => .wr (.wrI hJ)) h))))
  have h₄ : K₄.MemWf := .put (.wrI (.modulate_lane (.voltages_lane h₃)))
  have h₆ : K₆.MemWf := .stage5 (.ite h₄ (.wrI h₄))
  have h₁₀ : K₁₀.MemWf := .latchEdges (.wrI (.wrI (.wrI (.wrI (.wrI (.wrI (.flags (.wrI (.wrI h₆)))))))))
  have h₁₁ : K₁₁.MemWf := .checkKe (.outerLoops h₁₀)
  exact .ite (.rotorLost (.missKe h)) (.ite h₁₁ (.ite (.hallCheck h₁₁) (.trackCheck (.pllStep h₁₁))))

theorem Lane.MemWf.moveZero {L : Lane} {n c : ℕ} (h : L.MemWf) : (L.moveZero n c).MemWf :=
  .ite (.fieldRaise (.clr (.wrI h))) (.clr (.wrI h))

theorem Lane.MemWf.trackZero {L : Lane} {n i0 i1 : ℕ} (h : L.MemWf) : (L.trackZero n i0 i1).MemWf :=
  .ite h (.ite (.moveZero (.moveZero (.clr (.add (.add (.inc h)))))) (.inc (.add (.add (.inc h)))))

theorem Lane.MemWf.restCurrents {L : Lane} {n : ℕ} {ia ib ic : ℤ} (h : L.MemWf) : (L.restCurrents n ia ib ic).MemWf :=
  .ite (.wrI (.wrI (.wrI h))) (.clr (.clr (.clr (.wrI (.wrI (.wrI h))))))

theorem Lane.MemWf.axisFound {L : Lane} {n : ℕ} (h : L.MemWf) : (L.axisFound n).MemWf := .ite (.restFailed h) (.wr h)

theorem Lane.MemWf.polarity {L : Lane} {n : ℕ} (h : L.MemWf) : (L.polarity n).MemWf :=
  .ite (.restFailed h) (.presetLoops (.presetFlux (.showTrack (.sat (.wr h)))))

theorem Lane.MemWf.endPulse {L : Lane} {n k : ℕ} {cur : ℤ} {len : ℕ} (h : L.MemWf) : (L.endPulse n k cur len).MemWf :=
  .ite (.restFailed h) (.ite (.wrI (.applyVector (.wr (.wr (.set h))))) (.wrI (.applyVector (.wr (.wr (.set h))))))

theorem Lane.MemWf.endReturn {L : Lane} {n k : ℕ} (h : L.MemWf) : (L.endReturn n k).MemWf :=
  .ite (.axisFound (.syncOverride (.wr (.clr (.wr h))))) (.ite (.polarity (.syncOverride (.wr (.clr (.wr h))))) (.syncOverride (.wr (.clr
    (.wr h)))))

theorem Lane.MemWf.requestBank {L : Lane} {n b : ℕ} (h : L.MemWf) : (L.requestBank n b).MemWf := .ite (.wr (.set h)) (.swapBank h)

theorem Lane.MemWf.writeCoef {L : Lane} {n b k v : ℕ} (h : L.MemWf) : (L.writeCoef n b k v).MemWf := by
  unfold Lane.writeCoef
  refine .ite (.inc h) ?_
  split
  · exact h
  · exact .wr h

theorem Lane.MemWf.writeMap {L : Lane} {n q e : ℕ} {upper : Bool} {v : ℕ} (h : L.MemWf) : (L.writeMap n q e upper v).MemWf :=
  .ite (.inc h) (.ite (.wr h) (.wr h))

theorem Lane.MemWf.markInputs {L : Lane} (h : L.MemWf) : L.markInputs.MemWf := .forN (fun _ _ hK => .syncInput hK) h

theorem Lane.MemWf.pinFails {L : Lane} {k : ℕ} (h : L.MemWf) : (L.pinFails k).MemWf :=
  .ite (.clr h) (.fieldRaise (.markInputs (.clr (.set (.clr h)))))

theorem Lane.MemWf.pinPasses {L : Lane} {k : ℕ} (h : L.MemWf) : (L.pinPasses k).MemWf :=
  .ite (.wr h) (.ite (.markInputs (.clr (.iff (fun _ hJ => .set hJ) (.wr h)))) (.iff (fun _ hJ => .set hJ) (.wr h)))

theorem Lane.MemWf.pushPin {L : Lane} {k t : ℕ} {level : Bool} (h : L.MemWf) : (L.pushPin k t level).MemWf :=
  .put (.wr (.foldl (fun _ _ hJ => .wr hJ) h))

theorem Lane.MemWf.bgStore {L : Lane} {input code : ℕ} (h : L.MemWf) : (L.bgStore input code).MemWf :=
  .ite h (.ite (.wr h) (.ite (.add (.add (.add (.wr h)))) (.ite h (.wrI h))))

theorem Lane.MemWf.clearHist {L : Lane} {n : ℕ} (h : L.MemWf) : (L.clearHist n).MemWf := .clr h

theorem Lane.MemWf.pushHist {L : Lane} {n d : ℕ} (h : L.MemWf) : (L.pushHist n d).MemWf := .wr (.wr (.foldl (fun _ _ hJ => .wr hJ) h))

theorem Lane.MemWf.standstill {L : Lane} {n : ℕ} (h : L.MemWf) : (L.standstill n).MemWf := .clearHist (.wr (.wr (.wr h)))

theorem Lane.MemWf.evalSpeedAt {L : Lane} {n t : ℕ} (h : L.MemWf) : (L.evalSpeedAt n t).MemWf :=
  .ite h (.ite (.standstill h) (.ite (.wr h) (.ite (.wr (.wrI h)) (.wr (.wrI h)))))

theorem Lane.MemWf.evalSpeed {L : Lane} {n : ℕ} (h : L.MemWf) : (L.evalSpeed n).MemWf := .evalSpeedAt h

theorem Lane.MemWf.speedEdge {L : Lane} {n t dir : ℕ} (h : L.MemWf) : (L.speedEdge n t dir).MemWf :=
  .wr (.wr (.ite (.clearHist (.wr h)) (.ite (.inc (.clearHist (.wr h))) (.wr (.pushHist h)))))

theorem Lane.MemWf.fire {L : Lane} {n k : ℕ} (h : L.MemWf) : (L.fire n k).MemWf :=
  .ite (.ite (.wr (.clr (.iff (fun _ hJ => .fieldEvent hJ) (.wr (.set h))))) (.iff (fun _ hJ => .fieldEvent hJ) (.wr (.set h)))) (.clr
    (.iff (fun _ hJ => .fieldEvent hJ) (.wr (.set h))))

theorem Lane.MemWf.compares {L : Lane} {n dir : ℕ} (h : L.MemWf) : (L.compares n dir).MemWf :=
  .forN (fun _ _ hK => .iff (fun _ hJ => .fire hJ) hK) h

theorem Lane.MemWf.satAt {L : Lane} {f : Fld} (h : L.MemWf) : (L.satAt f).MemWf := .ite h (.fieldRaise (.set h))

theorem Lane.MemWf.refuseEdge {L : Lane} {n : ℕ} {f : Fld} (h : L.MemWf) : (L.refuseEdge n f).MemWf := .fieldRaise (.set (.inc h))

theorem Lane.MemWf.countEdge {L : Lane} {n dir : ℕ} (h : L.MemWf) : (L.countEdge n dir).MemWf :=
  .ite (.ite (.wr h) (.ite (.ite (.satAt (.wr h)) (.refuseEdge h)) (.compares (.wr h)))) (.ite (.wr h) (.ite (.ite (.satAt (.wr h))
    (.refuseEdge h)) (.compares (.wr h))))

theorem Lane.MemWf.correctAngle {L : Lane} {n t sec dir : ℕ} (h : L.MemWf) : (L.correctAngle n t sec dir).MemWf :=
  .ite h (.ite (.ite (.fieldRaise (.set (.wr (.wr h)))) (.inc (.wr h))) (.clr (.wr h)))

theorem Lane.MemWf.saveLatch {L : Lane} {n : ℕ} (h : L.MemWf) : (L.saveLatch n).MemWf := .putBit (.wr (.wr (.wr (.wr h))))

theorem Lane.MemWf.guardLatch {L : Lane} {n t : ℕ} (h : L.MemWf) : (L.guardLatch n t).MemWf := .iff (fun _ hJ => .saveLatch hJ) h

theorem Lane.MemWf.resaveLatch {L : Lane} {n t : ℕ} (h : L.MemWf) : (L.resaveLatch n t).MemWf := .iff (fun _ hJ => .saveLatch hJ) h

theorem Lane.MemWf.acceptEdge {L : Lane} {n t sec dir : ℕ} (h : L.MemWf) : (L.acceptEdge n t sec dir).MemWf :=
  .resaveLatch (.correctAngle (.evalSpeed (.countEdge (.wr (.speedEdge (.wr (.wr (.wr (.guardLatch h)))))))))

theorem Lane.MemWf.skipSector {L : Lane} {n t sec : ℕ} (h : L.MemWf) : (L.skipSector n t sec).MemWf :=
  .resaveLatch (.fieldRaise (.wr (.wr (.wr (.clearHist (.wr (.wr (.set (.inc (.guardLatch h))))))))))

theorem Lane.MemWf.takeSector {L : Lane} {n sec : ℕ} (h : L.MemWf) : (L.takeSector n sec).MemWf := .wr (.guardLatch h)

theorem Lane.MemWf.presetPos {L : Lane} {n v : ℕ} (h : L.MemWf) : (L.presetPos n v).MemWf :=
  .foldl (fun _ _ hK => .clr hK) (.wrI (.guardLatch h))

theorem Lane.MemWf.writeSoft {L : Lane} {n : ℕ} {upper : Bool} {v : ℕ} (h : L.MemWf) : (L.writeSoft n upper v).MemWf :=
  .forN (fun _ _ hJ => .wrI hJ) (.ite (.ite (.set (.add (.wrI (.wrI (.guardLatch h))))) (.wrI (.guardLatch h))) (.ite (.set (.add (.wrI
    (.wrI (.guardLatch h))))) (.wrI (.guardLatch h))))

theorem Lane.MemWf.arm {L : Lane} {n k v : ℕ} (h : L.MemWf) : (L.arm n k v).MemWf :=
  .ite (.fieldRaise (.set (.wr (.put (.set (.wrI h)))))) (.wr (.put (.set (.wrI h))))

theorem Lane.MemWf.writeFbiEn {L : Lane} {n : ℕ} {on : Bool} (h : L.MemWf) : (L.writeFbiEn n on).MemWf :=
  .ite h (.ite (.standstill (.clr (.takeSector (.set h)))) (.takeSector (.clr h)))

theorem Lane.MemWf.missLatch {L : Lane} (h : L.MemWf) : L.missLatch.MemWf := .fieldRaise (.inc h)

theorem Lane.MemWf.startLatch {L : Lane} {t cause : ℕ} (h : L.MemWf) : (L.startLatch t cause).MemWf :=
  .ite (.missLatch h) (.clr (.wr (.wr (.set h))))

theorem Lane.MemWf.decodeLine {L : Lane} {v : ℕ} (h : L.MemWf) : (L.decodeLine v).MemWf :=
  .ite h (.ite (.checkE5 (.wr (.requestSto (.requestSto (.settleStopping (.syncOverrides (.wr h))))))) (.settleStopping (.syncOverrides
    (.wr h))))

theorem Lane.MemWf.tripCluster {L : Lane} {c : ℕ} (h : L.MemWf) : (L.tripCluster c).MemWf :=
  .ite (.putBit h) (.checkE5 (.requestSto (.putBit h)))

theorem Lane.MemWf.syncTestDue {L : Lane} (h : L.MemWf) : L.syncTestDue.MemWf := .put h

theorem Lane.MemWf.takeSeal {L : Lane} {r : ℕ} (h : L.MemWf) : (L.takeSeal r).MemWf := .checkSealChg (.toField (.inc (.wr h)))

theorem Lane.MemWf.trimRate {L : Lane} {df dl : ℤ} (h : L.MemWf) : (L.trimRate df dl).MemWf :=
  .ite (.fieldRaise (.wr (.wrI h))) (.wr (.wrI h))

theorem Lane.MemWf.dropSync {L : Lane} (h : L.MemWf) : L.dropSync.MemWf := .forN (fun _ _ hK => .clr hK) (.clr (.clr h))

theorem Lane.MemWf.postWrite {L : Lane} {pair addr data : ℕ} (h : L.MemWf) : (L.postWrite pair addr data).MemWf :=
  .ite (.busError h) (.toField h)

theorem Lane.MemWf.syncEvq {L : Lane} (h : L.MemWf) : L.syncEvq.MemWf := .level (.wr (.wr (.wr (.wr (.wr h)))))

theorem Lane.MemWf.ownContReq {L : Lane} {c : ℕ} (h : L.MemWf) : (L.ownContReq c).MemWf :=
  .ite h (.ite (.refreshSa (.wr h)) (.sendFeltAll (.wr h)))

theorem Lane.MemWf.couCredit {L : Lane} (h : L.MemWf) : L.couCredit.MemWf := .pump (.wr (.wr h))

theorem Lane.MemWf.feltCredit {L : Lane} {p : ℕ} (h : L.MemWf) : (L.feltCredit p).MemWf := .pumpFelt (.wr (.wr h))

theorem Lane.MemWf.endReads {L : Lane} (h : L.MemWf) : L.endReads.MemWf := .forN (fun _ _ hK => .iff (fun _ hJ => .busError (.clr hJ)) hK) h

theorem Lane.MemWf.couchStart {L : Lane} (h : L.MemWf) : L.couchStart.MemWf := by
  unfold Lane.couchStart
  extract_lets e K₁ K₂ K₃ K₄ K₅ K₆ K₇ K₈ K₉ K₁₀ K₁₁
  have h₂ : K₂.MemWf := .add (.add (.add h))
  have h₅ : K₅.MemWf := .forN (fun _ _ hJ => .clr hJ) (.wr (.wr (.wr (.wr (.wr (.wr (.endReads (.update rfl h₂))))))))
  have h₉ : K₉.MemWf := .wr (.dropSync (.wr (.set (.set (.wr (.wr (.wr (.inc (.set h₅)))))))))
  have h₁₀ : K₁₀.MemWf := .ite (.clr (.forN (fun _ _ hJ => .clr hJ) h₉)) h₉
  exact .forN (fun _ _ hJ => .iff (fun _ hJ' => .sendFault hJ') hJ) (.ite (.clr h₁₀) (.set h₁₀))

theorem Lane.MemWf.feltStart {L : Lane} {p e stale : ℕ} (h : L.MemWf) : (L.feltStart p e stale).MemWf := by
  unfold Lane.feltStart
  exact .iff (fun _ hJ => .sendFelt hJ) (.iff (fun _ hJ => .raise hJ) (.inc (.set (.wr (.wr (.wr (.setFeltWait (.setFelt (.add (.add
    h))))))))))

theorem Lane.MemWf.mbxStart {L : Lane} (h : L.MemWf) : L.mbxStart.MemWf :=
  .ite h (.sendMbx (.event (.set (.wr (.update rfl (.add (.iff (fun _ hJ => .raise (.updateFails hJ)) h)))))))

theorem Lane.MemWf.dropPortRead {L : Lane} {p : ℕ} (h : L.MemWf) : (L.dropPortRead p).MemWf := .ite h (.busError (.inc (.set (.clr h))))

theorem Lane.MemWf.fabricRestart {L : Lane} {k : ℕ} (h : L.MemWf) : (L.fabricRestart k).MemWf :=
  .ite (.exitOn (.dropPortRead (.portStart h))) (.fieldRaise (.fieldPortStart h))

theorem Lane.MemWf.latchG {L : Lane} (h : L.MemWf) : L.latchG.MemWf := .ite h (.forN (fun _ _ hK => .set hK) (.inc (.set h)))

theorem Lane.MemWf.releaseG {L : Lane} (h : L.MemWf) : L.releaseG.MemWf := .ite h (.ite (.clr h) (.inc h))

theorem Lane.MemWf.fieldRegionsOff {L : Lane} (h : L.MemWf) : L.fieldRegionsOff.MemWf :=
  .ite h (.wr (.clr (.put (.set (.wr (.wr (.wr (.fieldReset (.inc (.latchG h))))))))))

theorem Lane.MemWf.pushInstant {L : Lane} {t : ℕ} (h : L.MemWf) : (L.pushInstant t).MemWf := .ite (.wr (.wr h)) h

theorem Lane.MemWf.control {L : Lane} {c : Control} (h : L.MemWf) : (L.control c).MemWf := by
  unfold Lane.control
  split
  · exact .setGatePerm h
  · exact .releaseG h
  · exact .setSaDrive (.wr (.wr h))
  · exact .iff (fun _ hK => .set hK) (.wr h)
  · exact .pushInstant h
  · exact .iff (fun _ hK => .wr hK) h
  · exact .sendFault h
  · exact .wr h
  · exact .fieldRegionsOff h
  · exact .forN (fun _ _ hK => .iff (fun _ hJ => .writeEnable hJ) hK) h

theorem Lane.MemWf.takeStopMsg {L : Lane} {m : Option ℕ} (h : L.MemWf) : (L.takeStopMsg m).MemWf := by
  unfold Lane.takeStopMsg
  split
  · exact .requestStop h
  · exact .set (.wr h)

theorem Lane.MemWf.prepare {L : Lane} (h : L.MemWf) : L.prepare.MemWf :=
  .ite (.abortEntry (.clr (.clr (.clr (.wr h))))) (.clr (.clr (.clr (.wr h))))

theorem Lane.MemWf.startEntry {L : Lane} (h : L.MemWf) : L.startEntry.MemWf := .ite h (.ite (.prepare (.wr h)) (.refuseEntry (.wr h)))

theorem Lane.MemWf.leftService {L K : Lane} {p : ℕ} (hK : K.MemWf) : (L.leftService p K).MemWf := .ite hK (.startEntry hK)

theorem Lane.MemWf.fencePair {L : Lane} {p : ℕ} (h : L.MemWf) : (L.fencePair p).MemWf := .leftService (.pairLeaves (.clr (.set (.wr h))))

theorem Lane.MemWf.selfTestFails {L : Lane} {unit : ℕ} {slice : Bool} (h : L.MemWf) : (L.selfTestFails unit slice).MemWf :=
  .ite (.exitOn (.wr (.set h))) (.wr (.set h))

theorem Lane.MemWf.failLane {L : Lane} (h : L.MemWf) : L.failLane.MemWf := .syncEligible (.undrive (.setState h))

theorem Lane.MemWf.countWindow {L : Lane} {p : ℕ} (h : L.MemWf) : (L.countWindow p).MemWf := .wr (.wr (.wr (.wr (.wr h))))

theorem Lane.MemWf.recordFault {L : Lane} {p kind group rails stage : ℕ} (h : L.MemWf) :
    (L.recordFault p kind group rails stage).MemWf :=
  .countWindow (.iff (fun _ hJ => .wr hJ) (.wr (.wr (.inc (.wr h)))))

theorem Lane.MemWf.takeFault {L : Lane} {p : ℕ} {main : Bool} {f : CycleFault} (h : L.MemWf) : (L.takeFault p main f).MemWf :=
  .ite (.fencePair (.iff (fun _ hJ => .raise hJ) (.ite (.exitOn (.recordFault h)) (.raise (.recordFault h))))) (.ite (.iff (fun _ hJ =>
    .raise hJ) (.ite (.exitOn (.recordFault h)) (.raise (.recordFault h)))) (.ite (.set (.iff (fun _ hJ => .raise hJ) (.ite (.exitOn
    (.recordFault h)) (.raise (.recordFault h))))) (.restartPair (.iff (fun _ hJ => .raise hJ) (.ite (.exitOn (.recordFault h)) (.raise
    (.recordFault h)))))))

theorem Lane.MemWf.splitFault {L : Lane} {t : ℕ} (h : L.MemWf) : (L.splitFault t).MemWf := .rebindFrom (.returnTarget h)

theorem Lane.MemWf.markParity {L : Lane} {p par : ℕ} (h : L.MemWf) : (L.markParity p par).MemWf := .ite h (.wr (.wr h))

theorem Lane.MemWf.giveUp {L : Lane} {p : ℕ} (h : L.MemWf) : (L.giveUp p).MemWf := .raise (.fencePair h)

theorem Lane.MemWf.resyncFrame {L : Lane} {p : ℕ} (h : L.MemWf) : (L.resyncFrame p).MemWf :=
  .ite h (.ite (.checkCapacity (.inc (.clr (.wr (.put (.wr (.wr (.set h)))))))) (.ite (.raise (.fencePair (.put (.wr (.wr (.set h))))))
    (.put (.wr (.wr (.set h))))))

theorem Lane.MemWf.takeNext {L : Lane} {t : ℕ} (h : L.MemWf) : (L.takeNext t).MemWf := by
  unfold Lane.takeNext
  split
  · exact h
  · exact .clr (.clr (.put (.wr (.wr (.setSched h)))))

theorem Lane.MemWf.protoErr {L : Lane} {t : ℕ} (h : L.MemWf) : (L.protoErr t).MemWf := .raise (.inc h)

theorem Lane.MemWf.deadlineMiss {L : Lane} {n : ℕ} (h : L.MemWf) : (L.deadlineMiss n).MemWf :=
  .ite (.raise (.raise (.wr (.inc h)))) (.raise (.wr (.inc h)))

theorem Lane.MemWf.tryWithdrawn {L : Lane} {p : ℕ} (h : L.MemWf) : (L.tryWithdrawn p).MemWf :=
  .ite (.leftService (.iff (fun _ hJ => .wr hJ) (.checkCapacity (.wr (.putBit h))))) h

theorem Lane.MemWf.observeOp {L : Lane} {t : ℕ} {o : OpInst} (h : L.MemWf) : (L.observeOp t o).MemWf := .add (.sat (.add (.add h)))

theorem Lane.MemWf.overBudget {L : Lane} {o : OpInst} (h : L.MemWf) : (L.overBudget o).MemWf :=
  .iff (fun _ hJ => .raise hJ) (.iff (fun _ hJ => .raise (.set hJ)) h)

theorem Lane.MemWf.complete {L : Lane} {t : ℕ} {o : OpInst} (h : L.MemWf) : (L.complete t o).MemWf :=
  .tryWithdrawn (.ite (.overBudget (.observeOp (.inc (.setSched h)))) (.foldl (fun _ _ hJ => .addToken hJ) (.ite (.overBudget (.observeOp
    (.inc (.setSched h)))) (.ite (.deadlineMiss (.overBudget (.observeOp (.inc (.setSched h))))) (.clr (.overBudget (.observeOp (.inc
    (.setSched h)))))))))

theorem Lane.MemWf.markOp {L : Lane} {n : ℕ} {g : OpInst → OpInst} (h : L.MemWf) : (L.markOp n g).MemWf := h

theorem Lane.MemWf.refuseWithdrawal {L : Lane} (h : L.MemWf) : L.refuseWithdrawal.MemWf := .raise (.inc (.set h))

theorem Lane.MemWf.requestWithdrawal {L : Lane} {p : ℕ} (h : L.MemWf) : (L.requestWithdrawal p).MemWf :=
  .ite h (.ite (.refuseWithdrawal h) (.tryWithdrawn (.iff (fun _ hJ => .rebindFrom hJ) (.rebindFrom (.iff (fun _ hJ => .returnTarget hJ)
    (.returnTarget (.putBit (.iff (fun _ hJ => .refuseEntry hJ) h))))))))

theorem Lane.MemWf.obsFrame {L : Lane} (h : L.MemWf) : L.obsFrame.MemWf :=
  .ite (.wr h) (.wr (.clr (.forN (fun _ _ hK => .clr (.sat hK)) (.forN (fun _ _ hK => .clr (.clr (.clr (.sat (.wr hK))))) h))))

theorem Lane.MemWf.claimFrom {L : Lane} {src seq : ℕ} (h : L.MemWf) : (L.claimFrom src seq).MemWf :=
  .ite (.ite (.heedRenewal h) h) (.ite (.heedRenewal h) (.ite (.setHolder h) h))

theorem Lane.MemWf.releaseFrom {L : Lane} {seq successor : ℕ} (h : L.MemWf) : (L.releaseFrom seq successor).MemWf :=
  .ite h (.ite (.wr (.wr h)) (.ite (.iff (fun _ hJ => .claim hJ) (.takeSeq h)) (.ite (.iff (fun _ hJ => .claim hJ) (.wakeSa (.put (.wr
    (.setHolder (.takeSeq h)))))) (.put (.wr (.setHolder (.takeSeq h)))))))

theorem Lane.MemWf.startHandover {L : Lane} {target : ℕ} (h : L.MemWf) : (L.startHandover target).MemWf := .ite h (.wr (.wr (.setRole h)))

theorem Lane.MemWf.plannedStart {L : Lane} (h : L.MemWf) : L.plannedStart.MemWf :=
  .ite (.clr (.clr h)) (.ite (.startHandover (.clr h)) (.ite (.startHandover (.chooseSuccessor (.inc (.clr h)))) (.clr h)))

theorem Lane.MemWf.pushSnapshots {L : Lane} {mask : ℕ} (h : L.MemWf) : (L.pushSnapshots mask).MemWf :=
  .foldl (fun _ _ hK => .iff (fun _ hJ => .sendFelt hJ) hK) h

theorem Lane.MemWf.resetSa {L : Lane} (h : L.MemWf) : L.resetSa.MemWf := .foldl (fun _ _ hK => .wr hK) h

theorem Lane.MemWf.takeFrame {L : Lane} (h : L.MemWf) : L.takeFrame.MemWf := .ite h (.wr (.wr (.clr (.wr h))))

theorem Lane.MemWf.takeRejoin {L : Lane} (h : L.MemWf) : L.takeRejoin.MemWf :=
  .ite (.wr h) (.setMode (.wr (.iff (fun _ hJ => .setState hJ) (.wr h))))

theorem Lane.MemWf.leaseFrame {L : Lane} (h : L.MemWf) : L.leaseFrame.MemWf :=
  .syncEligible (.iff (fun _ hJ => .iff (fun _ hJ' => .refreshSa hJ') (.clr hJ)) (.iff (fun _ hJ => .wr hJ) (.ite (.releaseLease (.inc h))
    (.plannedStart h))))

theorem Lane.MemWf.renew {L : Lane} (h : L.MemWf) : L.renew.MemWf := .takeSeq (.chooseSuccessor h)

theorem Lane.MemWf.sendHandover {L : Lane} (h : L.MemWf) : L.sendHandover.MemWf := .ite h (.clr (.wr (.pushSnapshots (.sendFelt h))))

theorem Lane.MemWf.sendFrame {L : Lane} {timeout : Bool} (h : L.MemWf) : (L.sendFrame timeout).MemWf := by
  unfold Lane.sendFrame
  extract_lets late renewal K₁ accept K₂ m K₃
  have h₂ : K₂.MemWf := .iff (fun _ hJ => .clr hJ) (.clr (.iff (fun _ hJ => .renew hJ) h))
  have h₃ : K₃.MemWf := .sendFeltAll (.wr (.put (.set h₂)))
  clear_value K₃
  exact .ite h (.sendHandover (.update rfl h₃))

theorem Lane.MemWf.sawExits {L : Lane} {s n : ℕ} (h : L.MemWf) : (L.sawExits s n).MemWf := .wr (.add h)

theorem Lane.MemWf.takeFrameMsg {L : Lane} {src : ℕ} {m : FrameMsg} (h : L.MemWf) : (L.takeFrameMsg src m).MemWf := by
  unfold Lane.takeFrameMsg
  extract_lets K₀ K₁ K₂ K₃ K₄ K₅
  have h₀ : K₀.MemWf := .wr h
  have h₃ : K₃.MemWf := .iff (fun _ hJ => .renewalFrom hJ) (.followSuccessor (.putBit (.sawExits (.update rfl h₀))))
  have h₅ : K₅.MemWf := .iff (fun _ hJ => .set (.wr hJ)) (.iff (fun _ hJ => .wr hJ) h₃)
  refine .ite h₀ (.syncEligible ?_)
  split
  · exact .iff (fun _ hJ => .writeExt hJ) h₅
  · exact h₅

theorem Lane.MemWf.frameDelay {L : Lane} {p d : ℕ} (h : L.MemWf) : (L.frameDelay p d).MemWf := .wr h

theorem Lane.MemWf.countIn {L : Lane} {own : Bool} {s : ℕ} {m : Option FrameMsg} (h : L.MemWf) : (L.countIn own s m).MemWf := by
  unfold Lane.countIn
  split
  · exact .clr h
  · exact .ite (.clr (.clr h)) (.ite (.clr h) (.iff (fun _ hJ => .set hJ) (.inc h)))

theorem Lane.MemWf.countLate {L : Lane} {s : ℕ} {onTime : Bool} (h : L.MemWf) : (L.countLate s onTime).MemWf :=
  .ite (.clr (.clr h)) (.ite (.iff (fun _ hJ => .putBit hJ) (.inc (.clr h))) (.ite (.raise (.putBit (.iff (fun _ hJ => .raise hJ) (.inc
    (.clr (.inc h)))))) (.iff (fun _ hJ => .raise hJ) (.inc (.clr (.inc h))))))

theorem Lane.MemWf.slowExit {L : Lane} (h : L.MemWf) : L.slowExit.MemWf := .ite (.exitOn (.ite (.inc h) (.clr h))) (.ite (.inc h) (.clr h))

theorem Lane.MemWf.thermal {L : Lane} {n irms : ℕ} (h : L.MemWf) : (L.thermal n irms).MemWf :=
  .ite (.set (.sat (.sat h))) (.ite (.clr (.sat (.sat h))) (.sat (.sat h)))

theorem Lane.MemWf.proposeStop {L : Lane} (h : L.MemWf) : L.proposeStop.MemWf := .ite (.wr (.wr h)) h

theorem Lane.MemWf.disagreement {L : Lane} {m n : ℕ} {bad : Bool} (h : L.MemWf) : (L.disagreement m n bad).MemWf := by
  unfold Lane.disagreement
  extract_lets K₁ K₂ K₃ lim
  have h₁ : K₁.MemWf := .ite (.inc h) (.clr h)
  have h₂ : K₂.MemWf := .ite (.inc h₁) (.clr h₁)
  have h₃ : K₃.MemWf := .ite (.inc h₂) (.clr h₂)
  exact .ite (.exitOn (.clr (.set h₃))) (.ite (.proposeStop (.raise (.clr h₃))) h₃)

theorem Lane.MemWf.agree {L : Lane} {ms : Msgs} {present m : ℕ} (h : L.MemWf) : (L.agree ms present m).MemWf :=
  .ite h (.disagreement (.iff (fun _ hJ => .set hJ) (.wr (.wr (.wrI (.wrI h))))))

theorem Lane.MemWf.countBand {L : Lane} {s : ℕ} {m : Option FrameMsg} (h : L.MemWf) : (L.countBand s m).MemWf := by
  unfold Lane.countBand
  split
  · exact .clr h
  · exact .ite (.inc h) (.clr h)

theorem Lane.MemWf.sendChannel {L : Lane} {ms : Msgs} {present m : ℕ} (h : L.MemWf) : (L.sendChannel ms present m).MemWf :=
  .ite h (.forN (fun _ _ hJ => .ite hJ (.toField hJ)) (.iff (fun _ hJ => .clr hJ) h))

theorem Lane.MemWf.bankSplits {L : Lane} {ms : Msgs} {present : ℕ} (h : L.MemWf) : (L.bankSplits ms present).MemWf :=
  .forN (fun _ _ hK => .iff (fun _ hJ => .set hJ) hK) h

theorem Lane.MemWf.sendChannels {L : Lane} {ms : Msgs} {present : ℕ} (h : L.MemWf) : (L.sendChannels ms present).MemWf :=
  .ite (.bankSplits h) (.forN (fun _ _ hK => .sendChannel hK) (.bankSplits h))

theorem Lane.MemWf.envelopes {L : Lane} (h : L.MemWf) : L.envelopes.MemWf :=
  .ite (.iff (fun _ hK => .sat hK) h) (.ite (.sto (.proposeTorqueOff (.raise (.set (.forN (fun _ _ hJ => .ite (.inc hJ) (.clr hJ)) (.ite
    (.inc (.iff (fun _ hK => .sat hK) h)) (.clr (.iff (fun _ hK => .sat hK) h)))))))) (.forN (fun _ _ hJ => .ite (.inc hJ) (.clr hJ)) (.ite
    (.inc (.iff (fun _ hK => .sat hK) h)) (.clr (.iff (fun _ hK => .sat hK) h)))))

theorem Lane.MemWf.standstillNow {L : Lane} (h : L.MemWf) : L.standstillNow.MemWf :=
  .ite (.evalStill h) (.iff (fun _ hJ => .sto (.proposeTorqueOff hJ)) (.watchToken (.put (.ite h (.wr (.set h))))))

theorem Lane.MemWf.sealFrame {L : Lane} {ms : Msgs} {present : ℕ} (h : L.MemWf) : (L.sealFrame ms present).MemWf :=
  .foldl (fun _ _ hK => .ite (.wr hK) (.ite (.raise (.set (.ite (.inc (.wr hK)) (.clr (.wr hK))))) (.ite (.inc (.wr hK)) (.clr (.wr hK)))))
    h

theorem Lane.MemWf.refuseStart {L : Lane} (h : L.MemWf) : L.refuseStart.MemWf := .clr (.wr (.set h))

theorem Lane.MemWf.startRequest_lane {L : Lane} {pm : List (ℕ × FrameMsg)} {operate : Bool} (h : L.MemWf) :
    (L.startRequest pm operate).1.MemWf := by
  unfold Lane.startRequest
  exact ite_keeps (fun p : Lane × List Decision => p.1.MemWf) (.refuseStart h) (ite_keeps (fun p : Lane × List Decision => p.1.MemWf) (.clr
    h) (.set h))

theorem Lane.MemWf.permissive_lane {L : Lane} {pm : List (ℕ × FrameMsg)} (h : L.MemWf) : (L.permissive pm).1.MemWf := by
  unfold Lane.permissive
  exact ite_keeps (fun p : Lane × List Decision => p.1.MemWf) (.startRequest_lane (.iff (fun _ hJ => .clr hJ) (.iff (fun _ hJ => .set hJ)
    h))) (ite_keeps (fun p : Lane × List Decision => p.1.MemWf) (.startRequest_lane (.iff (fun _ hJ => .clr hJ) (.iff (fun _ hJ => .set hJ)
    h))) (.clr (.iff (fun _ hJ => .clr hJ) (.iff (fun _ hJ => .set hJ) h))))

theorem Lane.MemWf.enact {L : Lane} {pm : List (ℕ × FrameMsg)} {d : Decision} (h : L.MemWf) : (L.enact pm d).MemWf :=
  .ite (.wr (.wr h)) (.setMode (.iff (fun _ hJ => .iff (fun _ hJ' => .setState hJ') (.foldl (fun _ _ hJ' => .wr hJ') hJ)) (.iff (fun _ hJ
    => .set hJ) h)))

theorem Lane.MemWf.adopt {L : Lane} {ms : Msgs} (h : L.MemWf) : (L.adopt ms).MemWf := by
  unfold Lane.adopt
  dsimp only
  split
  · split
    · exact .setMode h
    · exact h
  · exact .ite (.setMode h) h

theorem Lane.MemWf.countLost {L : Lane} {ms : Msgs} {present : ℕ} (h : L.MemWf) : (L.countLost ms present).MemWf := .wr (.wr (.wr h))

theorem Lane.MemWf.syncKeyHeld {L : Lane} (h : L.MemWf) : L.syncKeyHeld.MemWf := .put h

theorem Lane.MemWf.pruneProposal {L : Lane} {was : ℕ} (h : L.MemWf) : (L.pruneProposal was).MemWf := .ite h (.wr h)

theorem Lane.MemWf.decideMode {L : Lane} {ms : Msgs} {present : ℕ} {own : ℕ × ℕ} (h : L.MemWf) : (L.decideMode ms present own).MemWf := by
  unfold Lane.decideMode
  refine .syncKeyHeld (.pruneProposal (.countLost (.ite (.adopt h) ?_)))
  dsimp only
  split
  · exact .permissive_lane h
  · exact .enact (.permissive_lane h)

theorem Lane.MemWf.standbyClaim {L : Lane} {ms : Msgs} {present : ℕ} (h : L.MemWf) : (L.standbyClaim ms present).MemWf := by
  unfold Lane.standbyClaim
  refine .ite h ?_
  split
  · exact h
  · exact .ite (.claim (.wakeSa (.set (.wr h)))) (.set (.wr h))

theorem Lane.MemWf.handoverFrame {L : Lane} (h : L.MemWf) : L.handoverFrame.MemWf :=
  .ite h (.ite (.wr h) (.raise (.set (.setRole (.wr h)))))

theorem Lane.MemWf.saPowerFrame {L : Lane} (h : L.MemWf) : L.saPowerFrame.MemWf :=
  .clr (.ite (.clr h) (.ite (.ite (.clr h) (.inc h)) (.iff (fun _ hJ => .wakeSa hJ) (.clr h))))

theorem Lane.MemWf.closeLease {L : Lane} {ms : Msgs} {present : ℕ} (h : L.MemWf) : (L.closeLease ms present).MemWf :=
  .syncEligible (.saPowerFrame (.standbyClaim (.handoverFrame (.wr (.followSuccessor (.foldl (fun _ _ hJ => .ite hJ (.putBit hJ)) h))))))

theorem Lane.MemWf.writeTarget {L : Lane} {t : ℕ} (h : L.MemWf) : (L.writeTarget t).MemWf := .syncTarget (.clr (.wr (.wr h)))

theorem Lane.MemWf.stopTarget {L : Lane} (h : L.MemWf) : L.stopTarget.MemWf := .sendFeltAll (.requestStop (.writeTarget h))

theorem Lane.MemWf.wakeDormant {L : Lane} (h : L.MemWf) : L.wakeDormant.MemWf := .wr (.wr (.wr (.wr (.wr (.wr (.hostReset h))))))

theorem Lane.MemWf.privilegedWake {L : Lane} {w : ℕ} (h : L.MemWf) : (L.privilegedWake w).MemWf := by
  unfold Lane.privilegedWake
  exact .ite (.ite (.latchWake h) (.wakeDormant (.latchWake h))) (.ite (.set (.latchWake h)) (.ite (.wr (.wr (.wr (.hostReset (.latchWake
    h))))) (.latchWake h)))

theorem Lane.MemWf.syncTimeValid {L : Lane} (h : L.MemWf) : L.syncTimeValid.MemWf := .put h

theorem Lane.MemWf.setNode {L : Lane} {n : ℕ} (h : L.MemWf) : (L.setNode n).MemWf :=
  .syncTimeValid (.iff (fun _ hJ => .clr (.clr hJ)) (.clr (.clr (.wr h))))

theorem Lane.MemWf.nodeListen {L : Lane} (h : L.MemWf) : L.nodeListen.MemWf := .iff (fun _ hK => .setNode hK) (.set h)

theorem Lane.MemWf.replayNguasWake {L : Lane} (h : L.MemWf) : L.replayNguasWake.MemWf := .ite h (.clr (.wr (.set h)))

theorem Lane.MemWf.takeVehicle {L : Lane} {payload : List ℕ} (h : L.MemWf) : (L.takeVehicle payload).MemWf :=
  .evalStill (.iff (fun _ hJ => .requestStop hJ) (.set (.wr h)))

theorem Lane.MemWf.storePayload {L : Lane} {e : Slot} {hd : Header} {channel : ℕ} {payload : List ℕ} (h : L.MemWf) :
    (L.storePayload e hd channel payload).MemWf := .wr (.set (.wr (.setBytes_mem h)))

theorem Lane.MemWf.takeStatus {L : Lane} {src : ℕ} {hd : Header} {payload : List ℕ} (h : L.MemWf) :
    (L.takeStatus src hd payload).MemWf :=
  .ite (.renewalFrom h) h

theorem Lane.MemWf.coldHears {L : Lane} {hd : Header} (h : L.MemWf) : (L.coldHears hd).MemWf :=
  .ite h (.ite (.setNode h) (.ite (.setNode h) h))

theorem Lane.MemWf.listenTo {L : Lane} {hd : Header} {payload : List ℕ} (h : L.MemWf) : (L.listenTo hd payload).MemWf :=
  .ite h (.wr (.wr (.wr (.wr h))))

theorem Lane.MemWf.takeCopy {L : Lane} {n : ℕ} {e : Slot} {hd : Header} {channel src : ℕ} {start : ℤ} {payload : List ℕ} (h : L.MemWf) :
    (L.takeCopy n e hd channel src start payload).MemWf := by
  unfold Lane.takeCopy
  dsimp only
  split
  · exact .iff (fun _ hK => .raise (.set hK)) h
  · exact .coldHears (.iff (fun _ hJ => .takeStatus hJ) (.iff (fun _ hJ => .takeVehicle hJ) (.iff (fun _ hJ => .storePayload hJ) h)))

theorem Lane.MemWf.rejectCopy {L : Lane} {f : Fld} (h : L.MemWf) : (L.rejectCopy f).MemWf := .raise (.inc h)

theorem Lane.MemWf.sendSlot {L : Lane} {n : ℕ} {e : Slot} {x y : Bool} (h : L.MemWf) : (L.sendSlot n e x y).MemWf := h

theorem Lane.MemWf.collide {L : Lane} (h : L.MemWf) : L.collide.MemWf := .ite (.raise (.inc (.set (.setNode h)))) h

theorem Lane.MemWf.guardianBlocks {L : Lane} (h : L.MemWf) : L.guardianBlocks.MemWf := .raise (.inc (.set (.setNode h)))

theorem Lane.MemWf.integrate {L : Lane} (h : L.MemWf) : L.integrate.MemWf :=
  .setNode (.ite (.wrI (.clr (.wr (.wr (.wr h))))) (.clr (.wr (.wrI (.set (.clr (.wr (.wr (.wr h)))))))))

theorem Lane.MemWf.correctClock_lane {L : Lane} (h : L.MemWf) : L.correctClock.1.MemWf :=
  .wrI (.iff (fun _ hJ => .raise hJ) (.wrI (.wrI (.wr h))))

theorem Lane.MemWf.loseSync {L : Lane} (h : L.MemWf) : L.loseSync.MemWf := .raise (.set (.setNode h))

theorem Lane.MemWf.syncMembers {L : Lane} (h : L.MemWf) : L.syncMembers.MemWf := .wr h

theorem Lane.MemWf.checkChannel {L : Lane} {ch : ℕ} {ok : Fld} (h : L.MemWf) : (L.checkChannel ch ok).MemWf :=
  .ite (.clr (.set h)) (.ite (.raise (.clr (.inc h))) (.inc h))

theorem Lane.MemWf.checkChannels {L : Lane} (h : L.MemWf) : L.checkChannels.MemWf :=
  .ite (.exitOn (.checkChannel (.checkChannel h))) (.checkChannel (.checkChannel h))

theorem Lane.MemWf.modeSplit {L : Lane} (h : L.MemWf) : L.modeSplit.MemWf := .raise (.set h)

theorem Lane.MemWf.switchMode {L : Lane} (h : L.MemWf) : L.switchMode.MemWf := by
  unfold Lane.switchMode
  dsimp only
  split
  · exact .iff (fun _ hJ => .modeSplit hJ) (.iff (fun _ hJ => .clr hJ) (.wr (.clr h)))
  · refine .ite (.modeSplit (.clr h)) ?_
    split
    · exact .wr (.set h)
    · exact h

theorem Lane.MemWf.stepNode {L : Lane} {lost : Bool} (h : L.MemWf) : (L.stepNode lost).MemWf :=
  .ite (.ite (.inc h) (.ite (.setNode (.inc h)) (.setNode (.inc h)))) (.ite (.loseSync h) (.ite (.ite (.setNode (.syncTimeValid (.wr h)))
    (.syncTimeValid (.wr h))) (.syncTimeValid h)))

theorem Lane.MemWf.copyBuffer {L : Lane} {b : ℕ} {stored : Bool} (h : L.MemWf) : (L.copyBuffer b stored).MemWf := by
  unfold Lane.copyBuffer
  exact .ite (.setBytes_mem h) (.iff (fun _ hJ => .wr (.wr hJ)) (.clr (.put (.setBytes_mem h))))

theorem Lane.MemWf.canEvent {L : Lane} (h : L.MemWf) : L.canEvent.MemWf := .level h

theorem Lane.MemWf.putCanData {L : Lane} {e n : ℕ} {data : List ℕ} (h : L.MemWf) : (L.putCanData e n data).MemWf :=
  .forN (fun _ _ hK => .wr hK) h

/-- Dropping a range of the NOR, as an erase does, keeps its form. -/
theorem eraseNor_wf {m : Memory} {d : Byte} {lo n : ℕ} (h : m.wf d) : Memory.wf (eraseNor m lo n) d := Memory.filter_wf _ _ _ h

theorem Lane.MemWf.takeOffer {L : Lane} {hdr : List Byte} (h : L.MemWf) : (L.takeOffer hdr).MemWf :=
  .ite h (.ite (.event (.wr ⟨h.1, eraseNor_wf (eraseNor_wf h.2)⟩)) (.sendMbx h))

theorem Lane.MemWf.takeChunk {L : Lane} {bs : List Byte} (h : L.MemWf) : (L.takeChunk bs).MemWf :=
  .ite (.wr (.setBytes_nor h)) (.event (.wr (.wr (.setBytes_nor h))))

theorem Lane.MemWf.syncBusy {L : Lane} {c : ClkRegs} (h : L.MemWf) : (L.syncBusy c).MemWf := .put h

theorem Lane.MemWf.startSwitch {L : Lane} {c : ClkRegs} {d src : ℕ} {native : Bool} (h : L.MemWf) :
    (L.startSwitch c d src native).MemWf :=
  .syncBusy (.wr (.put (.wr (.set h))))

theorem Lane.MemWf.requestSwitch {L : Lane} {c : ClkRegs} {d src : ℕ} {native : Bool} (h : L.MemWf) :
    (L.requestSwitch c d src native).MemWf :=
  .ite (.wr h) (.ite h (.clr (.startSwitch h)))

theorem Lane.MemWf.switchAll {L : Lane} {c : ClkRegs} {n src : ℕ} {native : Bool} (h : L.MemWf) : (L.switchAll c n src native).MemWf :=
  .forN (fun _ _ hK => .requestSwitch hK) h

theorem Lane.MemWf.endSwitch {L : Lane} {c : ClkRegs} {d time : ℕ} (h : L.MemWf) : (L.endSwitch c d time).MemWf :=
  .ite (.syncBusy (.iff (fun _ hJ => .sat hJ) (.clr (.clr h)))) (.requestSwitch (.clr (.syncBusy (.iff (fun _ hJ => .sat hJ) (.clr (.clr
    h))))))

theorem Lane.MemWf.onNewSource {L : Lane} {c : ClkRegs} {d time : ℕ} (h : L.MemWf) : (L.onNewSource c d time).MemWf :=
  .ite (.wr (.inc (.wr h))) (.endSwitch (.inc (.wr h)))

theorem Lane.MemWf.hostClockless {L : Lane} (h : L.MemWf) : L.hostClockless.MemWf := .fieldExit (.fieldRaise (.syncOverrides (.wr h)))

theorem Lane.MemWf.clkNme {L : Lane} (h : L.MemWf) : L.clkNme.MemWf := .forN (fun _ _ hK => .wakePair (.putBit hK)) h

theorem Lane.MemWf.hostCrystalFails {L : Lane} (h : L.MemWf) : L.hostCrystalFails.MemWf :=
  .ite h (.ite (.hostClockless (.wr (.wr (.set (.wr (.clkNme (.raise (.set (.onNewSource (.requestSwitch (.wr (.clr (.inc (.set
    h)))))))))))))) (.wr (.wr (.set (.wr (.clkNme (.raise (.set (.onNewSource (.requestSwitch (.wr (.clr (.inc (.set h))))))))))))))

theorem Lane.MemWf.fieldCrystalFails {L : Lane} (h : L.MemWf) : L.fieldCrystalFails.MemWf :=
  .ite h (.ite (.set (.set (.onNewSource (.requestSwitch (.wr (.clr (.inc (.set h)))))))) (.fieldRaise (.set (.onNewSource (.requestSwitch
    (.wr (.clr (.inc (.set h)))))))))

theorem Lane.MemWf.hostRootFails {L : Lane} (h : L.MemWf) : L.hostRootFails.MemWf := .clr (.exitOn (.switchAll (.inc (.set h))))

theorem Lane.MemWf.fieldRootFails {L : Lane} (h : L.MemWf) : L.fieldRootFails.MemWf := .clr (.fieldRaise (.switchAll (.inc (.set h))))

theorem Lane.MemWf.hostWindow {L : Lane} {x r : ℕ} (h : L.MemWf) : (L.hostWindow x r).MemWf :=
  .iff (fun _ hJ => .hostRootFails hJ) (.iff (fun _ hJ => .hostCrystalFails hJ) (.wr (.put (.sat h))))

theorem Lane.MemWf.fieldWindow {L : Lane} {x r : ℕ} (h : L.MemWf) : (L.fieldWindow x r).MemWf :=
  .iff (fun _ hJ => .fieldRootFails hJ) (.iff (fun _ hJ => .fieldCrystalFails hJ) (.wr (.put (.sat h))))

theorem Lane.MemWf.withdrawCrystal {L : Lane} (h : L.MemWf) : L.withdrawCrystal.MemWf := .ite (.wr (.clr (.clr (.clr (.clr h))))) h

theorem Lane.MemWf.hostHfoFails {L : Lane} (h : L.MemWf) : L.hostHfoFails.MemWf :=
  .ite h (.ite (.hostClockless (.withdrawCrystal (.set (.wr (.set h))))) (.exitOn (.withdrawCrystal (.set (.wr (.set h))))))

theorem Lane.MemWf.fieldHfoFails {L : Lane} (h : L.MemWf) : L.fieldHfoFails.MemWf :=
  .ite h (.ite (.set (.iff (fun _ hJ => .clr (.clr hJ)) (.set h))) (.fieldRaise (.iff (fun _ hJ => .clr (.clr hJ)) (.set h))))

theorem Lane.MemWf.commitEntry {L : Lane} (h : L.MemWf) : L.commitEntry.MemWf :=
  .ite (.inc (.wr (.wr (.wr h)))) (.ite (.toField (.netOff (.iff (fun _ hJ => .unpowered (.wr (.set hJ))) (.retSave (.retCount (.wr h))))))
    (.wr (.set (.netOff (.iff (fun _ hJ => .unpowered (.wr (.set hJ))) (.retSave (.retCount (.wr h))))))))

theorem Lane.MemWf.blocksAnswered {L : Lane} (h : L.MemWf) : L.blocksAnswered.MemWf := .ite h (.ite (.abortEntry h) (.commitEntry h))

theorem Lane.MemWf.deepClocks {L : Lane} (h : L.MemWf) : L.deepClocks.MemWf :=
  .clr (.forN (fun _ _ hK => .iff (fun _ hJ => .inc (.wr hJ)) hK) h)

theorem Lane.MemWf.deepRelock {L : Lane} (h : L.MemWf) : L.deepRelock.MemWf :=
  .wr (.wr (.wr (.forN (fun _ _ hK => .iff (fun _ hJ => .requestSwitch hJ) hK) h)))

theorem Lane.MemWf.hostSupplyBad {L : Lane} {k : ℕ} (h : L.MemWf) : (L.hostSupplyBad k).MemWf :=
  .ite h (.exitOn (.syncRecommended (.putBit h)))

theorem Lane.MemWf.fieldSupplyBad {L : Lane} {k : ℕ} (h : L.MemWf) : (L.fieldSupplyBad k).MemWf :=
  .ite h (.syncRecommended (.fieldRaise (.iff (fun _ hK => .latchG hK) (.putBit h))))

theorem Lane.MemWf.tooHot {L : Lane} {exits : Bool} (h : L.MemWf) : (L.tooHot exits).MemWf :=
  .iff (fun _ hK => .latchE0 hK) (.syncRecommended (.set h))

theorem Lane.MemWf.syncDebug {L : Lane} (h : L.MemWf) : L.syncDebug.MemWf := .put h

theorem Lane.MemWf.lifeCycleTo {L : Lane} {target : ℕ} (h : L.MemWf) : (L.lifeCycleTo target).MemWf :=
  .ite (.endLifecycleService (.raise h)) (.ite (.inc (.set (.raise h))) (.syncGuarantee (.syncDebug (.iff (fun _ hJ => .wrFree (.wr (.wr
    hJ))) (.inc (.wr (.raise h)))))))

theorem Lane.MemWf.aimSlice {L : Lane} {p : ℕ} (h : L.MemWf) : (L.aimSlice p).MemWf := .wr (.wr h)

theorem Lane.MemWf.syncCover {L : Lane} (h : L.MemWf) : L.syncCover.MemWf := .wr h

theorem Lane.MemWf.coverTime {L : Lane} {p : ℕ} (h : L.MemWf) : (L.coverTime p).MemWf := .ite (.raise (.set (.add h))) (.add h)

theorem Lane.MemWf.segmentPassed {L : Lane} {p : ℕ} (h : L.MemWf) : (L.segmentPassed p).MemWf :=
  .ite (.wr (.inc h)) (.clr (.clr (.clr (.inc h))))

theorem Lane.MemWf.writeCert {L : Lane} {c : ℕ} (h : L.MemWf) : (L.writeCert c).MemWf :=
  ⟨h.1, Memory.setBytes_wf _ _ _ _ (Memory.filter_wf _ _ _ h.2)⟩

theorem Lane.MemWf.directStart {L : Lane} {test unit : ℕ} (h : L.MemWf) : (L.directStart test unit).MemWf :=
  .ite (.raise (.inc h)) (.ite (.requestWithdrawal (.wr (.wr h))) (.iff (fun _ hJ => .updateLine (.set hJ)) (.wr (.wr h))))

theorem Lane.MemWf.squirrelBad {L : Lane} {part : ℕ} (h : L.MemWf) : (L.squirrelBad part).MemWf :=
  .ite (.iff (fun _ hK => .clr hK) h) (.clr h)

theorem Lane.MemWf.fieldParity {L : Lane} {src part : ℕ} (h : L.MemWf) : (L.fieldParity src part).MemWf :=
  .ite (.allSafe (.fieldRaise h)) (.ite (.enterSafe (.fieldRaise h)) (.ite (.settleStopping (.syncOverrides (.set (.fieldRaise h)))) (.ite
    (.set (.fieldRaise h)) (.ite (.set (.fieldRaise h)) (.ite (.checkE5 (.requestSto (.requestSto (.set (.fieldRaise h))))) (.fieldRaise
    h))))))

theorem Lane.MemWf.hostParity {L : Lane} {src part : ℕ} (h : L.MemWf) : (L.hostParity src part).MemWf :=
  .ite (.latchE0 (.react (.set h))) (.ite (.bar (.raise h)) (.ite (.raise (.syncCan (.set h))) (.ite (.raise (.updateFails (.clr (.set
    h)))) (.ite (.raise (.fencePair h)) (.ite (.raise (.squirrelBad h)) (.ite (.raise h) (.exitOn h)))))))

theorem Lane.MemWf.refuseHost {L : Lane} {g : ℕ} (h : L.MemWf) : (L.refuseHost g).MemWf := .inc h

theorem Lane.MemWf.writeCle {L : Lane} {a data : ℕ} (h : L.MemWf) : (L.writeCle a data).MemWf :=
  .iff (fun _ hJ => .writeMap hJ) (.iff (fun _ hJ => .writeCoef hJ) (.atIndex (fun _ _ hJ => .ite hJ (.requestBank hJ)) (.atIndex (fun _ _
    hJ => .ite hJ (.syncOverride (.loadFoxCtl hJ))) (.atIndex (fun _ _ hJ => .writeEnable (.syncInput (.put hJ))) h))))

theorem Lane.MemWf.writeShadow {L : Lane} {f : Fld} {a data least : ℕ} (h : L.MemWf) : (L.writeShadow f a data least).MemWf := .wrAt h

theorem Lane.MemWf.writePwm {L : Lane} {a data : ℕ} (h : L.MemWf) : (L.writePwm a data).MemWf :=
  .atIndex (fun _ _ hJ => .clr hJ) (.atIndex (fun _ _ hJ => .put hJ) (.atIndex (fun _ _ hJ => .ite (.refuseHost hJ) (.putFall hJ))
    (.atIndex (fun _ _ hJ => .ite (.refuseHost hJ) (.putRise hJ)) (.atIndex (fun _ _ hJ => .ite (.refuseHost hJ) (.ite (.wrAt (.wrAt hJ))
    (.wrAt hJ))) (.atIndex (fun _ _ hJ => .ite hJ (.commitGroup hJ)) (.atIndex (fun _ _ hJ => .writeShadow hJ) (.atIndex (fun _ _ hJ =>
    .writeShadow hJ) (.atIndex (fun _ _ hJ => .writeRun hJ) h))))))))

theorem Lane.MemWf.writeFbi {L : Lane} {a data : ℕ} (h : L.MemWf) : (L.writeFbi a data).MemWf :=
  .atIndex (fun _ _ hJ => .arm hJ) (.atIndex (fun _ _ hJ => .writeSoft hJ) (.atIndex (fun _ _ hJ => .writeSoft hJ) (.atIndex (fun _ _ hJ =>
    .presetPos hJ) (.atIndex (fun _ _ hJ => .ite hJ (.wr hJ)) (.atIndex (fun _ _ hJ => .writeFbiEn hJ) h)))))

theorem Lane.MemWf.writeDcl {L : Lane} {a data : ℕ} (h : L.MemWf) : (L.writeDcl a data).MemWf :=
  .iff (fun _ hJ => .syncLoss hJ) (.atIndex (fun _ _ hJ => .syncLoss hJ) (.atIndex (fun _ _ hJ => .syncLoss (.syncActive hJ)) (.atIndex
    (fun _ _ hJ => .writeCh hJ) (.atIndex (fun _ _ hJ => .writeOv3 hJ) (.atIndex (fun _ _ hJ => .writeOv12 hJ) (.atIndex (fun _ _ hJ =>
    .iff (fun _ hJ' => .energyReset hJ') (.writeRailEn hJ)) h))))))

theorem Lane.MemWf.disableRegions {L : Lane} (h : L.MemWf) : L.disableRegions.MemWf :=
  .iff (fun _ hJ => .checkE5 (.set hJ)) (.fieldRegionsOff (.ite h (.latchE0 (.allSafe h))))

theorem Lane.MemWf.writeFck {L : Lane} {a : ℕ} {was : Bool} (h : L.MemWf) : (L.writeFck a was).MemWf :=
  .ite h (.ite (.resumePwm h) (.set h))

theorem Lane.MemWf.writeFps {L : Lane} {a data : ℕ} (h : L.MemWf) : (L.writeFps a data).MemWf := .iff (fun _ hK => .disableRegions hK) h

theorem Lane.MemWf.writeFbg {L : Lane} {a data : ℕ} (h : L.MemWf) : (L.writeFbg a data).MemWf :=
  .atIndex (fun _ _ hJ => .forN (fun _ _ hJ' => .iff (fun _ hJ' => .wr hJ') hJ') hJ) h

theorem Lane.MemWf.fieldWrite {L : Lane} {a data : ℕ} (h : L.MemWf) : (L.fieldWrite a data).MemWf :=
  .writeFps (.writeDcl (.writeFbi (.writePwm (.writeCle (.writeFbg (.writeFck (.writeWord h)))))))

theorem Lane.MemWf.crcAccept {L : Lane} {a data : ℕ} (h : L.MemWf) : (L.crcAccept a data).MemWf := .iff (fun _ hK => .wr hK) (.wr h)

theorem Lane.MemWf.writeMem {L : Lane} {pair a data : ℕ} (h : L.MemWf) : (L.writeMem pair a data).MemWf :=
  .ite (.setMem h) (.ite (.inc h) (.ite h (.setMem h)))

theorem Lane.MemWf.forceWord {L : Lane} {k mask : ℕ} (h : L.MemWf) : (L.forceWord k mask).MemWf :=
  .ite (.inc h) (.ite (.foldl (fun _ _ hJ => .toField hJ) h) (.collect (.update rfl (.foldl (fun _ _ hJ => .toField hJ) h))))

theorem Lane.MemWf.requestTarget {L : Lane} {v : ℕ} (h : L.MemWf) : (L.requestTarget v).MemWf := .ite (.stopTarget h) (.writeTarget h)

theorem Lane.MemWf.shadowWord {L : Lane} {t data : ℕ} (h : L.MemWf) : (L.shadowWord t data).MemWf := by
  unfold Lane.shadowWord
  split
  · exact .ite h (.setSched (.fresh_lane h))
  · exact h

theorem Lane.MemWf.sendTmo {L : Lane} {old : ℕ} (h : L.MemWf) : (L.sendTmo old).MemWf := .ite h (.toField h)

theorem Lane.MemWf.syncDebugLog {L : Lane} (h : L.MemWf) : L.syncDebugLog.MemWf := .wr h

theorem Lane.MemWf.debugRegister {L : Lane} {p reg value : ℕ} (h : L.MemWf) : (L.debugRegister p reg value).MemWf :=
  .ite (.raise (.set (.inc h))) (.wr (.syncDebugLog h))

theorem Lane.MemWf.aonOn {L : Lane} (h : L.MemWf) : L.aonOn.MemWf :=
  have hK : (L.wr CFG_MODE_STATUS.LANE_STATE stBoot).hostReset.MemWf := .hostReset (.wr h)
  .syncRecommended (.wrFree (.wr ⟨Memory.filter_wf _ _ _ h.1, hK.2⟩))

theorem Lane.MemWf.fieldAonOn {L : Lane} (h : L.MemWf) : L.fieldAonOn.MemWf := .syncRecommended (.wr (.update rfl (.fieldReset h)))

theorem Lane.MemWf.wakeFail {L : Lane} (h : L.MemWf) : L.wakeFail.MemWf :=
  .ite h (.ite (.failLane h) (.clr (.clr (.clr (.clr (.setState (.inc (.inc h))))))))

theorem Lane.MemWf.startStep {L : Lane} {m : ℕ} (h : L.MemWf) : (L.startStep m).MemWf := .ite (.setMode h) h

theorem Lane.MemWf.wakeStepped {L : Lane} (h : L.MemWf) : L.wakeStepped.MemWf :=
  .ite h (.ite (.failLane (.sat h)) (.wr (.wr (.wr (.startStep (.sat h))))))

theorem Lane.MemWf.calBad {L : Lane} (h : L.MemWf) : L.calBad.MemWf := .set (.raise h)

theorem Lane.MemWf.syncMemOk {L : Lane} (h : L.MemWf) : L.syncMemOk.MemWf := .put h

theorem Lane.MemWf.trimAdc {L : Lane} {ok : Bool} (h : L.MemWf) : (L.trimAdc ok).MemWf :=
  .forN (fun _ _ hJ => .ite (.set hJ) (.wrFree hJ)) (.forN (fun _ _ hJ => .wrFree (.wrFree hJ)) (.forN (fun _ _ hJ => .wr (.wr hJ)) (.forN
    (fun _ _ hK => .wrFree (.wrFree hK)) h)))

theorem Lane.MemWf.initMemory {L : Lane} (h : L.MemWf) : L.initMemory.MemWf := ⟨Memory.filter_wf _ _ _ h.1, h.2⟩

theorem Lane.MemWf.wakeStep {L : Lane} {step : ℕ} {ok : Bool} {value : ℕ} (h : L.MemWf) : (L.wakeStep step ok value).MemWf := by
  unfold Lane.wakeStep
  dsimp only
  split
  · exact .ite (.syncMemOk (.putBit (.initMemory h))) (.wakeFail h)
  · exact .ite (.syncMemOk (.putBit h)) (.wakeFail h)
  · exact .iff (fun _ hK => .calBad hK) (.putBit (.put (.trimAdc h)))
  · exact .iff (fun _ hK => .calBad hK) (.putBit (.put h))
  · exact .iff (fun _ hK => .calBad hK) (.putBit (.wr h))
  · exact .ite (.syncGuarantee (.syncDebug (.putBit (.set h)))) (.failLane (.raise h))

theorem Lane.MemWf.rejectSlot {L : Lane} {code : ℕ} (h : L.MemWf) : (L.rejectSlot code).MemWf :=
  .ite (.failLane (.raise (.wr (.clr (.wr (.raise h)))))) (.clr (.wr (.wr (.set (.clr (.wr (.raise h)))))))

theorem Lane.MemWf.norFails {L : Lane} (h : L.MemWf) : L.norFails.MemWf := .ite h (.ite (.rejectSlot (.raise h)) (.set h))

theorem Lane.MemWf.headerRead {L : Lane} (h : L.MemWf) : L.headerRead.MemWf := .ite (.rejectSlot h) (.ite (.rejectSlot h) (.clr (.wr h)))

theorem Lane.MemWf.slotVerified {L : Lane} (h : L.MemWf) : L.slotVerified.MemWf :=
  .wr (.syncGuarantee (.set (.wr (.wr (.wr (.put (.wr (.wr h))))))))

theorem Lane.MemWf.sectionRead {L : Lane} (h : L.MemWf) : L.sectionRead.MemWf := .ite (.rejectSlot h) (.ite (.wr h) (.slotVerified h))

theorem Lane.MemWf.noteClamps {L : Lane} {n a : ℕ} (h : L.MemWf) : (L.noteClamps n a).MemWf := .ite h (.add (.iff (fun _ hK => .wr hK) h))

theorem Lane.MemWf.listRetained {L : Lane} {a : ℕ} (h : L.MemWf) : (L.listRetained a).MemWf := .ite h (.wr (.setMem h))

theorem Lane.MemWf.loadField {L : Lane} {a data : ℕ} (h : L.MemWf) : (L.loadField a data).MemWf := .toField (.wr h)

theorem Lane.MemWf.copyIn {L : Lane} {g : Image} {e : Section} {dst room : ℕ} (h : L.MemWf) : (L.copyIn g e dst room).MemWf :=
  .setBytes_mem h

theorem Lane.MemWf.copySection {L : Lane} {g : Image} {e : Section} (h : L.MemWf) : (L.copySection g e).MemWf :=
  .ite (.forN (fun _ _ hK => .iff (fun _ hJ => .copyIn hJ) hK) h) (.ite (.ite (.copyIn h) h) (.ite (.copyIn h) (.copyIn h)))

theorem Lane.MemWf.legalGraph {L : Lane} (h : L.MemWf) : L.legalGraph.MemWf :=
  .forN (fun _ _ hK => .iff (fun _ hJ => .noteClamps hJ) (.setBytes_mem hK)) h

theorem Lane.MemWf.reclampField {L : Lane} {r : Row} {f : Fld} (h : L.MemWf) : (reclampField r L f).MemWf :=
  .ite h (.inc (.noteClamps (.store h)))

theorem Lane.MemWf.reclamp {L : Lane} (h : L.MemWf) : L.reclamp.MemWf := .foldl (fun _ _ hK => .foldl (fun _ _ hL => .reclampField hL) hK) h

theorem Lane.MemWf.putSlot {L : Lane} {m n : ℕ} {e : Slot} (h : L.MemWf) : (L.putSlot m n e).MemWf := .setBytes_mem h

theorem Lane.MemWf.markSlot_lane {m : ℕ} {K : Lane × Option Slot} {x : ℕ × Slot} (h : K.1.MemWf) : (Lane.markSlot m K x).1.MemWf := by
  unfold Lane.markSlot
  exact ite_keeps (fun p : Lane × Option Slot => p.1.MemWf) (.inc (.putSlot h)) h

theorem Lane.MemWf.legalMode {L : Lane} {m : ℕ} (h : L.MemWf) : (L.legalMode m).MemWf := by
  rw [Lane.legalMode]
  -- with the number of rounds a variable nothing evaluates them
  generalize (1024 : ℕ) = rounds
  exact foldl_keeps (fun J : Lane × Option Slot => J.1.MemWf) (fun _ _ hJ => .markSlot_lane hJ)
    (Lane.MemWf.forN (fun _ _ hJ => .ite hJ (.noteClamps (.putSlot hJ))) h)

theorem Lane.MemWf.finalPass {L : Lane} (h : L.MemWf) : L.finalPass.MemWf := by
  unfold Lane.finalPass
  exact .nodeListen (.retSave (.forN (fun _ _ hJ => .wr hJ) (.iff (fun _ hJ => .wr hJ) (.forN (fun _ _ hJ => .legalMode hJ) (.reclamp
    h)))))

theorem Lane.MemWf.sendMap {L : Lane} {g : Image} {e : Section} (h : L.MemWf) : (L.sendMap g e).MemWf :=
  .foldl (fun _ _ hK => .ite (.loadField hK) (.inc hK)) h

theorem Lane.MemWf.configured {L : Lane} (h : L.MemWf) : L.configured.MemWf :=
  .wr (.wr (.startStep (.iff (fun _ hJ => .wr hJ) (.wr (.iff (fun _ hJ => .sendMbx hJ) (.sat (.sendFeltAll (.toField (.set (.putBit (.iff
    (fun _ hJ => .set hJ) (.set (.forN (fun _ _ hJ => .wr hJ) h)))))))))))))

theorem Lane.MemWf.crcDiffers {L : Lane} (h : L.MemWf) : L.crcDiffers.MemWf :=
  .ite (.failLane (.raise h)) (.wr (.toField (.set (.raise h))))

theorem Lane.MemWf.fieldCrc {L : Lane} {crc : ℕ} (h : L.MemWf) : (L.fieldCrc crc).MemWf :=
  .ite (.ite (.configured (.wr h)) (.crcDiffers (.wr h))) (.ite (.selfTestFails (.wr h)) (.wr h))

theorem Lane.MemWf.readStep {L : Lane} (h : L.MemWf) : L.readStep.MemWf := by
  unfold Lane.readStep
  split
  · exact .toHost (.readEffect (.takeDown h))
  · exact .toHost (.takeDown h)
  · exact .ite (.inc (.clr (.takeUp h))) (.ite (.takeUp h) (.ite (.busError (.wr (.clr (.takeUp h)))) (.wr (.wr (.clr (.takeUp h))))))
  · exact .fieldCrc (.takeUp h)
  · exact h

theorem Lane.MemWf.judgeRecord {L : Lane} {src : ℕ} {r : DigestRecord} (h : L.MemWf) : (L.judgeRecord src r).MemWf :=
  .ite (.iff (fun _ hJ => .clr hJ) (.iff (fun _ hJ => .sendFelt hJ) (.putBit (.putBit (.putBit h))))) (.clr (.clr (.iff (fun _ hJ => .set
    hJ) (.raise (.iff (fun _ hJ => .sendFelt hJ) (.putBit (.putBit (.putBit h))))))))

theorem Lane.MemWf.judgeCert {L : Lane} (h : L.MemWf) : L.judgeCert.MemWf := by
  unfold Lane.judgeCert
  refine .ite h (.iff (fun _ hJ => .raise hJ) ?_)
  split
  · exact .sat (.put (.wr h))
  · exact .put (.wr h)

theorem Lane.MemWf.testPassed {L : Lane} (h : L.MemWf) : L.testPassed.MemWf :=
  .syncCan (.syncEligible (.sendPermission (.updateLine (.startStep (.setState (.wr (.forN (fun _ _ hJ => .iff (fun _ hJ' => .wr (.wr (.wr
    (.wr hJ')))) hJ) (.sat (.iff (fun _ hJ => .inc hJ) h)))))))))

theorem Lane.MemWf.testFails {L : Lane} (h : L.MemWf) : L.testFails.MemWf := .failLane (.raise (.wr h))

theorem Lane.MemWf.tickLfo {L : Lane} (h : L.MemWf) : L.tickLfo.MemWf := .ite (.wr h) (.wr (.clr h))

theorem Lane.MemWf.tickSlew {L : Lane} (h : L.MemWf) : L.tickSlew.MemWf :=
  .ite h (.ite (.syncTimeValid (.wrI (.wr h))) (.syncTimeValid (.wrI (.wr h))))

theorem Lane.MemWf.tickHost {L : Lane} (h : L.MemWf) : L.tickHost.MemWf := .ite (.tickSlew (.wr (.wr h))) h

theorem Lane.MemWf.tickField {L : Lane} (h : L.MemWf) : L.tickField.MemWf := .ite h (.wr h)

theorem Lane.MemWf.tick {L : Lane} (h : L.MemWf) : L.tick.MemWf := .tickLfo (.wr (.tickField (.tickHost h)))

end Sys2Proof.Machine
end

-- ==== Memories of the management die ====
section
/-! Each operation of the management die keeps its two memories in canonical form. -/

namespace Sys2Proof.Machine

/-- Both memories of the management die are in canonical form: window 4 and the staging area. -/
def Md.MemWf (M : Md) : Prop := M.win.wf ramDefault ∧ M.stage.wf norDefault

/-- A die with the memories of another is in form where that one is. -/
theorem Md.MemWf.update {M N : Md} (e : N = { N with win := M.win, stage := M.stage }) (h : M.MemWf) : N.MemWf := by
  rw [e]
  exact h

theorem Md.MemWf.ite {c : Prop} [Decidable c] {M N : Md} (h : M.MemWf) (hN : N.MemWf) : (if c then M else N).MemWf := ite_keeps _ h hN

theorem Md.MemWf.iff {M : Md} {b : Bool} {g : Md → Md} (hg : ∀ K : Md, K.MemWf → (g K).MemWf) (h : M.MemWf) : (M.iff b g).MemWf :=
  .ite (hg M h) h

theorem Md.MemWf.foldl {β : Type} {g : Md → β → Md} {xs : List β} {M : Md} (hg : ∀ K x, K.MemWf → (g K x).MemWf) (h : M.MemWf) :
    (xs.foldl g M).MemWf := foldl_keeps Md.MemWf hg h

/-- A memory without a listed byte is in form. -/
theorem Memory.nil_wf (d : Byte) : Memory.wf [] d := ⟨List.Pairwise.nil, fun _ hc => absurd hc List.not_mem_nil⟩

theorem Md.MemWf.clear_stage {M : Md} (h : M.MemWf) : Md.MemWf { M with stage := [] } := ⟨h.1, Memory.nil_wf _⟩

theorem Md.MemWf.clear_win {M : Md} (h : M.MemWf) : Md.MemWf { M with win := [] } := ⟨Memory.nil_wf _, h.2⟩

theorem Md.MemWf.setBytes_stage {M : Md} {a : ℕ} {bs : List Byte} (h : M.MemWf) :
    Md.MemWf { M with stage := M.stage.setBytes norDefault a bs } := ⟨h.1, Memory.setBytes_wf _ _ _ _ h.2⟩

theorem Md.MemWf.setBytes_win {M : Md} {a : ℕ} {bs : List Byte} (h : M.MemWf) :
    Md.MemWf { M with win := M.win.setBytes ramDefault a bs } := ⟨Memory.setBytes_wf _ _ _ _ h.1, h.2⟩

theorem Md.MemWf.setByte_win {M : Md} {a : ℕ} {b : Byte} (h : M.MemWf) :
    Md.MemWf { M with win := M.win.setByte ramDefault a b } := ⟨Memory.setByte_wf _ _ _ _ h.1, h.2⟩

theorem Md.MemWf.wr {M : Md} {f : Fld} {v : ℕ} (h : M.MemWf) : (M.wr f v).MemWf := h

theorem Md.MemWf.add {M : Md} {f : Fld} {n : ℕ} (h : M.MemWf) : (M.add f n).MemWf := .wr h

theorem Md.MemWf.inc {M : Md} {f : Fld} (h : M.MemWf) : (M.inc f).MemWf := .add h

theorem Md.MemWf.fresh_md {M : Md} {w : ℕ} (h : M.MemWf) : (M.fresh w).2.MemWf := h

theorem Md.MemWf.syncLog {M : Md} (h : M.MemWf) : M.syncLog.MemWf := .wr h

theorem Md.MemWf.dropOldest {M : Md} {n : ℕ} (h : M.MemWf) : (M.dropOldest n).MemWf := .syncLog (.wr (.add h))

theorem Md.MemWf.log {M : Md} {r : LogRecord} (h : M.MemWf) : (M.log r).MemWf := .ite h (.inc (.inc h))

theorem Md.MemWf.ownLog {M : Md} {type : ℕ} (h : M.MemWf) : (M.ownLog type).MemWf := .log (.fresh_md h)

theorem Md.MemWf.program {M : Md} (h : M.MemWf) : M.program.MemWf := by
  unfold Md.program
  split
  · exact h
  · exact .ite (.syncLog (.wr (.wr (.update rfl (.iff (fun _ hK => .dropOldest hK) h))))) (.log (.wr (.syncLog (.wr (.wr (.update rfl (.iff
      (fun _ hK => .dropOldest hK) h)))))))

theorem Md.MemWf.setLaneUpd {M : Md} {n v : ℕ} (h : M.MemWf) : (M.setLaneUpd n v).MemWf := .wr h

theorem Md.MemWf.serveNext {M : Md} (h : M.MemWf) : M.serveNext.MemWf := by
  unfold Md.serveNext
  refine .ite h ?_
  split
  · exact .update rfl (.wr (.setLaneUpd h))
  · exact .wr h

theorem Md.MemWf.endTransfer {M : Md} {n v : ℕ} {code : Option ℕ} (h : M.MemWf) : (M.endTransfer n v code).MemWf := by
  unfold Md.endTransfer
  refine .ite h (.serveNext ?_)
  split
  · exact .wr (.setLaneUpd h)
  · exact .setLaneUpd h

theorem Md.MemWf.linkStart {M : Md} {n : ℕ} (h : M.MemWf) : (M.linkStart n).MemWf := by
  unfold Md.linkStart
  exact .endTransfer (.update rfl (.wr (.wr h)))

theorem Md.MemWf.writeWord {M : Md} {a data : ℕ} (h : M.MemWf) : (M.writeWord a data).MemWf := .foldl (fun _ _ hK => .ite hK (.wr hK)) h

theorem Md.MemWf.seqError {M : Md} (h : M.MemWf) : M.seqError.MemWf := .inc h

theorem Md.MemWf.stageOpen {M : Md} (h : M.MemWf) : M.stageOpen.MemWf := by
  unfold Md.stageOpen
  exact .ite (.seqError h) (.ite h (.clear_stage (.wr (.wr (.wr (.wr (.wr (.dropOldest h))))))))

theorem Md.MemWf.stageClose {M : Md} (h : M.MemWf) : M.stageClose.MemWf := .ite (.seqError h) (.ite (.wr h) h)

theorem Md.MemWf.stageDiscard {M : Md} (h : M.MemWf) : M.stageDiscard.MemWf := by
  unfold Md.stageDiscard
  exact .ite (.seqError h) (.ite h (.clear_stage (.wr (.wr (.wr (.wr h))))))

theorem Md.MemWf.updateStart {M : Md} {v : Variant} (h : M.MemWf) : (M.updateStart v).MemWf :=
  .ite h (.ite (.serveNext (.foldl (fun _ _ hK => .ite hK (.ite (.setLaneUpd hK) (.wr (.setLaneUpd hK)))) h)) (.foldl (fun _ _ hK => .ite
    hK (.ite (.setLaneUpd hK) (.wr (.setLaneUpd hK)))) h))

theorem Md.MemWf.logAck {M : Md} (h : M.MemWf) : M.logAck.MemWf := .syncLog (.wr h)

theorem Md.MemWf.attest {M : Md} (h : M.MemWf) : M.attest.MemWf := .wr (.wr h)

theorem Md.MemWf.certWrite {M : Md} (h : M.MemWf) : M.certWrite.MemWf := .ite (.update rfl (.wr h)) h

theorem Md.MemWf.command {M : Md} {v : Variant} {c : ℕ} (h : M.MemWf) : (M.command v c).MemWf :=
  .ite (.stageOpen h) (.ite (.stageClose h) (.ite (.stageDiscard h) (.ite (.updateStart h) (.ite (.logAck h) (.ite (.attest h) (.ite
    (.certWrite h) h))))))

theorem Md.MemWf.freeBytes_md {M : Md} {n : ℕ} (h : M.MemWf) : (M.freeBytes n).2.MemWf := h

theorem Md.MemWf.portWrite {M : Md} {v : Variant} {w o : ℕ} {data : List Byte} (h : M.MemWf) : (M.portWrite v w o data).MemWf :=
  .ite (.foldl (fun _ _ hK => .ite (.command hK) (.writeWord hK)) h)
    (.ite (.ite h (.ite (.seqError h) (.wr (.wr (.setBytes_stage h)))))
      (.ite (.foldl (fun _ _ hK => .ite (.setByte_win hK) hK) h) (.ite (.inc h) h)))

theorem Md.MemWf.crossing {M : Md} {k : ℕ} {above : Bool} (h : M.MemWf) : (M.crossing k above).MemWf := .ite h (.ownLog (.wr h))

theorem Md.MemWf.save {M : Md} (h : M.MemWf) : M.save.MemWf := h

theorem Md.MemWf.restart {M : Md} (h : M.MemWf) : M.restart.MemWf := by
  unfold Md.restart
  exact .syncLog (.wr (.wr (.iff (fun _ hK => .wr hK) (.foldl (fun _ _ hK => .ite (.setLaneUpd hK) hK) (.update rfl (.clear_win h))))))

theorem Md.MemWf.tick {M : Md} {phys : ℕ} (h : M.MemWf) : (M.tick phys).MemWf := .ite (.wr h) h

end Sys2Proof.Machine
end

-- ==== The reach of a command ====
section
/-! Each command answers a next state that differs from the one before within the reach of the command, and keeps every memory in
canonical form. -/

namespace Sys2Proof.Machine

/-- `t` stands after a command to `s` that reaches the lanes `ls`, and the management die where `md`: the queue, physical time and the
variant are those of `s`, only what is reached has changed, and each memory is in canonical form where it was. -/
structure State.Within (s t : State) (ls : List LaneId) (md : Bool) : Prop where
  pending : t.pending = s.pending
  phys : t.phys = s.phys
  variant : t.variant = s.variant
  strap : ∀ m, (t.lane m).strap = (s.lane m).strap
  unfitted : ∀ m, s.variant.fitted m = false → t.lane m = s.lane m
  outside : s.wired → ∀ m, m ∉ ls → t.lane m = s.lane m
  outsideMd : md = false → t.md = s.md
  laneWf : ∀ m, (s.lane m).MemWf → (t.lane m).MemWf
  mdWf : s.md.MemWf → t.md.MemWf

/-- A command's outcome is a next state within its reach. -/
def Completes (o : Out) (s : State) (ls : List LaneId) (md : Bool) : Prop := ∃ t, o = .next t ∧ s.Within t ls md

namespace State.Within

variable {s t u : State} {ls : List LaneId} {md : Bool}

theorem refl (s : State) (ls : List LaneId) (md : Bool) : s.Within s ls md :=
  ⟨rfl, rfl, rfl, fun _ => rfl, fun _ _ => rfl, fun _ _ _ => rfl, fun _ => rfl, fun _ h => h, fun h => h⟩

/-- A wired identity stays. -/
theorem wired (h : s.Within t ls md) (hs : s.wired) : t.wired := fun m => by rw [h.strap, hs m, h.variant]

theorem trans (h : s.Within t ls md) (h' : t.Within u ls md) : s.Within u ls md where
  pending := h'.pending.trans h.pending
  phys := h'.phys.trans h.phys
  variant := h'.variant.trans h.variant
  strap m := (h'.strap m).trans (h.strap m)
  unfitted m hm := (h'.unfitted m (h.variant ▸ hm)).trans (h.unfitted m hm)
  outside hs m hm := (h'.outside (h.wired hs) m hm).trans (h.outside hs m hm)
  outsideMd hmd := (h'.outsideMd hmd).trans (h.outsideMd hmd)
  laneWf m hm := h'.laneWf m (h.laneWf m hm)
  mdWf hM := h'.mdWf (h.mdWf hM)

/-- A larger reach holds what a smaller one holds. -/
theorem mono {ls' : List LaneId} {md' : Bool} (h : s.Within t ls md) (hls : s.wired → ls ⊆ ls') (hmd : md = true → md' = true) :
    s.Within t ls' md' :=
  { h with
    outside := fun hs m hm => h.outside hs m fun hml => hm (hls hs hml)
    outsideMd := fun hf => h.outsideMd (by cases md <;> simp_all) }

theorem ite {c : Prop} [Decidable c] (ht : s.Within t ls md) (hu : s.Within u ls md) : s.Within (if c then t else u) ls md :=
  ite_keeps (fun v => s.Within v ls md) ht hu

/-- A lane of the package replaced by one whose memories are in form. -/
theorem setLane {l : LaneId} {L : Lane} (hfit : s.variant.fitted l = true) (hL : (s.lane l).MemWf → L.MemWf) :
    s.Within (s.setLane l L) [l] false where
  pending := s.setLane_pending l L
  phys := s.setLane_phys l L
  variant := s.setLane_variant l L
  strap m := s.strap_setLane l m L
  unfitted m hm := s.lane_setLane_ne l m L fun e => by simp [e, hfit] at hm
  outside _ m hm := s.lane_setLane_ne l m L (by simpa using hm)
  outsideMd _ := s.setLane_md l L
  laneWf m hm := by
    by_cases e : m = l
    · subst e
      rw [s.lane_setLane_same]
      exact hL hm
    · rwa [s.lane_setLane_ne l m L e]
  mdWf hM := by rwa [s.setLane_md l L]

/-- A command to one lane. -/
theorem onLane_at {l : LaneId} {g : Lane → Lane} (hg : (s.lane l).MemWf → (g (s.lane l)).MemWf) : s.Within (s.onLane l g) [l] false := by
  cases hfit : s.variant.fitted l
  · rw [s.onLane_unfitted l g hfit]
    exact refl ..
  · unfold State.onLane
    rw [if_pos hfit]
    exact setLane hfit hg

theorem onLane {l : LaneId} {g : Lane → Lane} (hg : ∀ L : Lane, L.MemWf → (g L).MemWf) : s.Within (s.onLane l g) [l] false :=
  onLane_at (hg _)

/-- A command to the management die. -/
theorem onMd {g : Md → Md} (hg : ∀ M : Md, M.MemWf → (g M).MemWf) : s.Within (s.onMd g) [] true where
  pending := rfl
  phys := rfl
  variant := rfl
  strap m := by rw [s.onMd_lane]
  unfitted m _ := s.onMd_lane g m
  outside _ m _ := s.onMd_lane g m
  outsideMd h := absurd h (by decide)
  laneWf m hm := by rwa [s.onMd_lane]
  mdWf hM := hg _ hM

/-- A Felt message of a sibling: the lane that receives it changes, and the queue of the lane that has sent it. -/
theorem recvFelt {β : Type} {l src : LaneId} {pick : FeltMsg → Option β} {g : β → Lane → Lane}
    (hg : ∀ m (L : Lane), L.MemWf → (g m L).MemWf) : s.Within (s.recvFelt l src pick g) [l, src] false := by
  unfold State.recvFelt
  split
  · exact refl ..
  · rename_i hfit
    simp only [not_or, not_not] at hfit
    obtain ⟨-, -, hsrc⟩ := hfit
    dsimp only
    split
    · exact refl ..
    · refine trans ((setLane hsrc fun hS => .setFelt hS).mono ?_ ?_) ((onLane (hg _)).mono ?_ ?_) <;> simp

/-- A mailbox message: the management die takes it off the lane's mailbox. -/
theorem recvMbx {β : Type} {l : LaneId} {pick : MbxUp → Option β} {g : β → Md → Md} (hg : ∀ x (M : Md), M.MemWf → (g x M).MemWf) :
    s.Within (s.recvMbx l pick g) [l] true := by
  unfold State.recvMbx
  refine ite (refl ..) ?_
  split
  · exact refl ..
  · split
    · exact refl ..
    · refine trans ((onLane fun L hL => .update rfl hL).mono ?_ ?_) ((onMd (hg _)).mono ?_ ?_) <;> simp

end State.Within

/-- A command's outcome is the state itself, or one that a chain of such changes leads to. -/
theorem State.Within.completes {s t : State} {ls : List LaneId} {md : Bool} (h : s.Within t ls md) : Completes (.next t) s ls md :=
  ⟨t, rfl, h⟩

theorem Completes.onLane {s : State} {l : LaneId} {g : Lane → Lane} (hg : ∀ L : Lane, L.MemWf → (g L).MemWf) :
    Completes (.next (s.onLane l g)) s [l] false := (State.Within.onLane hg).completes

theorem Completes.onMd {s : State} {g : Md → Md} (hg : ∀ M : Md, M.MemWf → (g M).MemWf) : Completes (.next (s.onMd g)) s [] true :=
  (State.Within.onMd hg).completes

theorem execFaultArrival_within (l : LaneId) (more : List ℕ) (s : State) : Completes (execFaultArrival l more s) s [l] false :=
  .onLane fun _ hL => .collect hL

theorem execFieldFaultMessage_within (l : LaneId) (s : State) : Completes (execFieldFaultMessage l s) s [l] false := by
  refine .onLane fun _ hL => ?_
  split
  · exact .takeFieldMsg hL
  · exact .takeFieldMsg (.takeUp hL)
  · exact hL

theorem execFaultAcknowledge_within (l : LaneId) (s : State) : Completes (execFaultAcknowledge l s) s [l] false := by
  refine .onLane fun _ hL => ?_
  split
  · exact .syncBacklog (.update rfl (.wr (.takeDown hL)))
  · exact hL

theorem execPendAck_within (l : LaneId) (k mask : ℕ) (same : Bool) (s : State) : Completes (execPendAck l k mask same s) s [l] false :=
  .onLane fun _ hL => .ite (.collect (.update rfl (.bgrEvent (.syncPend (.wr hL))))) (.bgrEvent (.syncPend (.wr hL)))

theorem execReactionTimerExpiry_within (l : LaneId) (s : State) : Completes (execReactionTimerExpiry l s) s [l] false := by
  refine .onLane fun _ hL => .ite hL ?_
  split
  · exact hL
  · exact .gate (.iff (fun _ hJ => .set hJ) (.set hL))

theorem execFirstFaultClear_within (l : LaneId) (same : Bool) (s : State) : Completes (execFirstFaultClear l same s) s [l] false :=
  .onLane fun _ hL => .ite hL (.ite (.collect hL) (.foldl (fun _ _ hK => .clr hK) hL))

theorem execFaultForce_within (l : LaneId) (src : ℕ) (s : State) : Completes (execFaultForce l src s) s [l] false :=
  .onLane fun _ hL => .ite (.inc hL) (.ite hL (.ite (.toField hL) (.collect hL)))

theorem execLogPop_within (l : LaneId) (s : State) : Completes (execLogPop l s) s [l] false := .onLane fun _ hL => .syncLog hL

theorem execSeverityWrite_within (l : LaneId) (k data : ℕ) (s : State) : Completes (execSeverityWrite l k data s) s [l] false :=
  .onLane fun _ hL => .ite (.forN (fun _ _ hK => .storeSeverity hK) hL) (.inc hL)

theorem execThresholdWrite_within (l : LaneId) (rail : Fin 4) (which : Fin 3) (data : ℕ) (s : State) :
    Completes (execThresholdWrite l rail which data s) s [l] false := by
  refine .onLane fun _ hL => ?_
  split
  · exact .writeOv12 hL
  · exact .writeOv3 hL
  · exact .writeCh hL

theorem execRailConversion_within (l : LaneId) (rail : Fin 4) (code : ℕ) (s : State) : Completes (execRailConversion l rail code s) s [l] false := by
  refine .onLane fun L hL => .ite hL ?_
  extract_lets k K₀ clip K₁ K₂ K₃
  have h₁ : K₁.MemWf := .put (.wr (.wrAt hL))
  have h₃ : K₃.MemWf := .evalOv (.evalOv (.evalOv (.ite (.ite h₁ (.fieldRaise (.set (.set h₁)))) (.clr h₁))))
  exact .ite h₁ (.addEnergy (.syncLoss (.syncRegen h₃)))

theorem execEnergyCheck_within (l : LaneId) (rail : Fin 4) (s : State) : Completes (execEnergyCheck l rail s) s [l] false :=
  .onLane fun _ hL => .ite hL (.ite (.wrI hL) (.fieldRaise (.set (.wrI hL))))

theorem execEreset_within (l : LaneId) (rail : Fin 4) (s : State) : Completes (execEreset l rail s) s [l] false :=
  .onLane fun _ hL => .energyReset hL

theorem execRailEnable_within (l : LaneId) (rail : Fin 4) (on : Bool) (s : State) : Completes (execRailEnable l rail on s) s [l] false :=
  .onLane fun _ hL => .writeRailEn hL

theorem execDeadTimeExpiry_within (l : LaneId) (pair : Fin 26) (s : State) : Completes (execDeadTimeExpiry l pair s) s [l] false :=
  .onLane fun _ hL => .ite (.clr hL) (.ite hL (.ite (.startDt (.set hL)) (.ite (.startDt (.set hL)) hL)))

theorem execCommit_within (l : LaneId) (g : Fin 12) (s : State) : Completes (execCommit l g s) s [l] false :=
  .onLane fun _ hL => .commitGroup hL

theorem execCompareEvent_within (l : LaneId) (out : Fin 52) (kind : Fin 3) (s : State) :
    Completes (execCompareEvent l out kind s) s [l] false := by
  refine .onLane fun _ hL => .ite hL ?_
  split
  · exact .compareActs hL
  · exact .compareActs hL
  · exact .movedOff hL

theorem execTransferPoint_within (l : LaneId) (g : Fin 12) (mid : Bool) (s : State) :
    Completes (execTransferPoint l g mid s) s [l] false :=
  .onLane fun _ hL => .transfer hL

theorem execGroupRun_within (l : LaneId) (g : Fin 12) (on : Bool) (s : State) : Completes (execGroupRun l g on s) s [l] false :=
  .onLane fun _ hL => .writeRun hL

theorem execPadReadbackFault_within (l : LaneId) (out : Fin 52) (s : State) : Completes (execPadReadbackFault l out s) s [l] false :=
  .onLane fun _ hL => .ite (.enterSafe (.fieldRaise hL)) (.syncOverride (.set (.fieldRaise hL)))

theorem execPwmClockResume_within (l : LaneId) (s : State) : Completes (execPwmClockResume l s) s [l] false :=
  .onLane fun _ hL => .resumePwm hL

theorem execResumeDeadline_within (l : LaneId) (ax : Fin 8) (s : State) : Completes (execResumeDeadline l ax s) s [l] false :=
  .onLane fun _ hL => .ite (.enterSafe (.fieldRaise (.set hL))) hL

theorem execCurrentSample_within (l : LaneId) (ax : Fin 8) (mid : Bool) (delay i0 i1 va vb vc : ℕ) (s : State) :
    Completes (execCurrentSample l ax mid delay i0 i1 va vb vc s) s [l] false := by
  refine .onLane fun L hL => .ite hL ?_
  extract_lets c0 c1 K₀ K₁ u K₂ K₃ e ph z quiet st K
  have h₂ : K₂.MemWf := .wrI (.trackZero (.wr (.wr (.wr (.wr (.wr hL))))))
  have hK : K.MemWf := .iff (fun _ hJ => .restCurrents (.missKe hJ)) (.ite (.countLoops (.settleBank (.applyDue h₂))) h₂)
  clear_value K st
  split
  · exact .idleStep hK
  · exact .acquireSample hK
  · exact .runSample hK
  · exact .runSample hK
  · exact .reacqSample hK
  · exact .safeSample hK
  · exact hK

theorem execTestPulseStart_within (l : LaneId) (ax : Fin 8) (decayed : Bool) (s : State) :
    Completes (execTestPulseStart l ax decayed s) s [l] false :=
  .onLane fun _ hL => .ite hL (.ite (.restFailed hL) (.applyVector (.syncOverride (.wr hL))))

theorem execTestPulseEnd_within (l : LaneId) (ax : Fin 8) (current : ℤ) (length : ℕ) (s : State) :
    Completes (execTestPulseEnd l ax current length s) s [l] false :=
  .onLane fun _ hL => .ite hL (.ite (.endPulse hL) (.ite hL (.endReturn hL)))

theorem execBankSwapRequest_within (l : LaneId) (ax : Fin 8) (target : Fin 2) (s : State) :
    Completes (execBankSwapRequest l ax target s) s [l] false :=
  .onLane fun _ hL => .requestBank hL

theorem execCoefficientWrite_within (l : LaneId) (ax : Fin 8) (bank : Fin 2) (k : Fin 64) (value : ℕ) (s : State) :
    Completes (execCoefficientWrite l ax bank k value s) s [l] false :=
  .onLane fun _ hL => .writeCoef hL

theorem execMapWrite_within (l : LaneId) (ax : Fin 8) (q : Fin 2) (i j : Fin 32) (upper : Bool) (value : ℕ) (s : State) :
    Completes (execMapWrite l ax q i j upper value s) s [l] false :=
  .onLane fun _ hL => .writeMap hL

theorem execAinConversion_within (l : LaneId) (k : Fin 4) (mv : ℕ) (s : State) : Completes (execAinConversion l k mv s) s [l] false := by
  refine .onLane fun L hL => .ite hL ?_
  extract_lets at_ K₀ sum x db inBand K₁ bad K₂ K₃
  have h₁ : K₁.MemWf := .wrI (.wr (.wr hL))
  have h₂ : K₂.MemWf := .ite (.clr (.wr h₁)) (.clr (.wr h₁))
  have h₃ : K₃.MemWf := .iff (fun _ hJ => .set hJ) h₂
  exact .ite (.ite (.fieldRaise (.markInputs (.clr (.set h₂)))) h₂) (.ite (.markInputs (.clr h₃)) h₃)

theorem execPinEdge_within (l : LaneId) (k : Fin 4) (rising : Bool) (s : State) : Completes (execPinEdge l k rising s) s [l] false := by
  refine .onLane fun L hL => ?_
  extract_lets n t mode per high have_ dirUp K K₁ _ _ K₂
  have hK : K.MemWf := .pushPin hL
  have h₁ : K₁.MemWf := .wr (.wr hK)
  exact .ite (.wr hK) (.ite (.ite (.pinFails (.wrI h₁)) (.pinPasses (.wrI h₁))) (.ite h₁ (.ite (.ite (.pinFails (.wrI h₁))
    (.pinPasses (.wrI h₁))) (.pinPasses (.wrI h₁)))))

theorem execPinTimeout_within (l : LaneId) (k : Fin 4) (s : State) : Completes (execPinTimeout l k s) s [l] false :=
  .onLane fun _ hL => .ite (.pinFails hL) hL

theorem execSetpointMessage_within (l : LaneId) (s : State) : Completes (execSetpointMessage l s) s [l] false := by
  refine .onLane fun _ hL => ?_
  split
  · exact .update rfl (.forN (fun _ _ hJ => .iff (fun _ hJ' => .inc hJ') hJ) (.takeDown hL))
  · exact hL

theorem execSetpointApply_within (l : LaneId) (ax : Fin 8) (s : State) : Completes (execSetpointApply l ax s) s [l] false :=
  .onLane fun _ hL => .ite hL (.settleBank (.applyDue hL))

theorem execSpTimeout_within (l : LaneId) (ax : Fin 8) (s : State) : Completes (execSpTimeout l ax s) s [l] false :=
  .onLane fun _ hL => .ite (.fieldRaise (.set hL)) hL

theorem execAxisEnable_within (l : LaneId) (ax : Fin 8) (on : Bool) (s : State) : Completes (execAxisEnable l ax on s) s [l] false :=
  .onLane fun _ hL => .writeEnable hL

theorem execIsolationSettleExpiry_within (l : LaneId) (ax : Fin 8) (s : State) :
    Completes (execIsolationSettleExpiry l ax s) s [l] false :=
  .onLane fun _ hL => .ite (.ite hL (.checkCluster (.syncOverride (.wr (.set hL))))) (.clr hL)

theorem execBackgroundConversion_within (l : LaneId) (input : Fin 28) (code : ℕ) (outcome : Fin 3) (s : State) :
    Completes (execBackgroundConversion l input code outcome s) s [l] false := by
  refine .onLane fun _ hL => .ite hL ?_
  split
  · exact hL
  · dsimp only
    split
    · exact .bgStore (.wr hL)
    · exact .bgStore (.inc (.wr hL))
    · exact .fieldRaise (.inc (.wr hL))

theorem execReferenceCheck_within (l : LaneId) (cluster : Fin 2) (ok : Bool) (s : State) :
    Completes (execReferenceCheck l cluster ok s) s [l] false :=
  .onLane fun _ hL => .ite (.set hL) (.ite (.foldl (fun _ _ hJ => .enterSafe hJ) (.fieldRaise (.clr hL))) (.latchE0 (.allSafe (.foldl (fun
    _ _ hJ => .enterSafe hJ) (.fieldRaise (.clr hL))))))

theorem execHallEdge_within (l : LaneId) (ax : Fin 8) (wires : Fin 8 × Fin 8) (late : Fin 5) (s : State) :
    Completes (execHallEdge l ax wires late s) s [l] false := by
  refine .onLane fun _ hL => .ite (.wr (.wr hL)) ?_
  split
  · exact .takeSector (.wr (.wr hL))
  · exact .ite (.takeSector (.wr (.wr hL))) (.ite (.acceptEdge (.wr (.wr hL))) (.ite (.acceptEdge (.wr (.wr hL))) (.skipSector (.wr (.wr
      hL)))))

theorem execHallWireFault_within (l : LaneId) (ax : Fin 8) (wire : Fin 3) (s : State) :
    Completes (execHallWireFault l ax wire s) s [l] false :=
  .onLane fun _ hL => .fieldRaise (.set (.inc (.putBit (.putBit hL))))

theorem execHallIllegalCode_within (l : LaneId) (ax : Fin 8) (s : State) : Completes (execHallIllegalCode l ax s) s [l] false :=
  .onLane fun _ hL => .ite hL (.fieldRaise (.set (.inc (.wr hL))))

theorem execHallSpeedEval_within (l : LaneId) (ax : Fin 8) (s : State) : Completes (execHallSpeedEval l ax s) s [l] false :=
  .onLane fun _ hL => .evalSpeed (.guardLatch hL)

theorem execHallStandstill_within (l : LaneId) (ax : Fin 8) (s : State) : Completes (execHallStandstill l ax s) s [l] false :=
  .onLane fun _ hL => .standstill (.guardLatch hL)

theorem execPosSet_within (l : LaneId) (ax : Fin 8) (value : ℕ) (s : State) : Completes (execPosSet l ax value s) s [l] false :=
  .onLane fun _ hL => .presetPos hL

theorem execSoftLimitWrite_within (l : LaneId) (ax : Fin 8) (upper : Bool) (value : ℕ) (s : State) :
    Completes (execSoftLimitWrite l ax upper value s) s [l] false :=
  .onLane fun _ hL => .writeSoft hL

theorem execCompareArm_within (l : LaneId) (ax : Fin 8) (k : Fin 4) (value : ℕ) (s : State) :
    Completes (execCompareArm l ax k value s) s [l] false :=
  .onLane fun _ hL => .arm hL

theorem execFbiEnable_within (l : LaneId) (ax code : Fin 8) (s : State) : Completes (execFbiEnable l ax code s) s [l] false :=
  .onLane fun _ hL => .ite hL (.writeFbiEn (.wr hL))

theorem execLatchInstant_within (l : LaneId) (s : State) : Completes (execLatchInstant l s) s [l] false :=
  .onLane fun _ hL => .ite hL (.ite (.startLatch (.wr (.foldl (fun _ _ hJ => .wr hJ) hL))) (.wr (.foldl (fun _ _ hJ => .wr hJ) hL)))

theorem execLatchInput_within (l : LaneId) (s : State) : Completes (execLatchInput l s) s [l] false :=
  .onLane fun _ hL => .ite (.startLatch hL) hL

theorem execLatchCaptureComplete_within (l : LaneId) (s : State) : Completes (execLatchCaptureComplete l s) s [l] false :=
  .onLane fun _ hL => .ite hL (.ite (.missLatch (.clr (.clr hL))) (.fieldEvent (.clr (.clr (.wr (.wr (.set (.forN (fun _ _ hJ => .wr (.wr
    (.wr (.wr (.wr (.wr (.wr (.ite hJ (.saveLatch hJ))))))))) hL))))))))

theorem execSsRequest_within (l : LaneId) (s : State) : Completes (execSsRequest l s) s [l] false :=
  .onLane fun _ hL => .ite hL (.requestStop (.set hL))

theorem execSsReqRelease_within (l : LaneId) (s : State) : Completes (execSsReqRelease l s) s [l] false := .onLane fun _ hL => .clr hL

theorem execSs1TmaxExpiry_within (l : LaneId) (s : State) : Completes (execSs1TmaxExpiry l s) s [l] false :=
  .onLane fun _ hL => .ite (.sto (.proposeTorqueOff (.raise (.set hL)))) hL

theorem execVehTimeout_within (l : LaneId) (s : State) : Completes (execVehTimeout l s) s [l] false :=
  .onLane fun _ hL => .evalStill (.raise (.set (.clr hL)))

theorem execStopLineState_within (l : LaneId) (s : State) : Completes (execStopLineState l s) s [l] false :=
  .onLane fun _ hL => .decodeLine hL

theorem execStopLineFault_within (l : LaneId) (s : State) : Completes (execStopLineFault l s) s [l] false :=
  .onLane fun _ hL => .fieldExit (.fieldRaise (.syncOverrides (.wr hL)))

theorem execStoReadbackFault_within (l : LaneId) (cluster : Fin 2) (s : State) :
    Completes (execStoReadbackFault l cluster s) s [l] false :=
  .onLane fun _ hL => .tripCluster (.fieldRaise (.set hL))

theorem execFreezeTrip_within (l : LaneId) (s : State) : Completes (execFreezeTrip l s) s [l] false :=
  .onLane fun _ hL => .ite (.tripCluster (.tripCluster (.fieldRaise (.inc (.set hL))))) hL

theorem execStoTest_within (l : LaneId) (cluster : Fin 2) (passed : Bool) (s : State) :
    Completes (execStoTest l cluster passed s) s [l] false :=
  .onLane fun _ hL => .ite hL (.ite (.syncTestDue (.putBit (.wr (.inc (.putBit hL))))) (.tripCluster (.fieldRaise (.set (.putBit hL)))))

theorem execTestMaxExpiry_within (l : LaneId) (s : State) : Completes (execTestMaxExpiry l s) s [l] false :=
  .onLane fun _ hL => .syncTestDue (.iff (fun _ hK => .putBit hK) (.iff (fun _ hK => .putBit hK) hL))

theorem execSealSample_within (l : LaneId) (contacts : Fin 8) (s : State) : Completes (execSealSample l contacts s) s [l] false :=
  .onLane fun _ hL => .ite (.takeSeal (.wr (.wr hL))) (.wr (.wr hL))

theorem execSealLoopSample_within (l : LaneId) (agrees : Bool) (s : State) : Completes (execSealLoopSample l agrees s) s [l] false :=
  .onLane fun _ hL => .ite (.clr hL) (.ite (.set (.clr hL)) (.ite (.wr hL) (.iff (fun _ hJ => .raise (.set hJ)) (.clr (.wr hL)))))

theorem execSyncSend_within (l : LaneId) (s : State) : Completes (execSyncSend l s) s [l] false :=
  .onLane fun _ hL => .ite (.wr (.set hL)) hL

theorem execSyncReceipt_within (l : LaneId) (quarter : Fin 4) (s : State) : Completes (execSyncReceipt l quarter s) s [l] false :=
  .onLane fun _ hL => .ite (.clr hL) (.toHost (.ite (.wrAt (.wr (.wrAt (.wrAt (.wrAt (.wrAt (.iff (fun _ hJ => .fieldRaise hJ) (.clr
    hL)))))))) (.trimRate (.wrAt (.wr (.wrAt (.wrAt (.wrAt (.wrAt (.iff (fun _ hJ => .fieldRaise hJ) (.clr hL)))))))))))

theorem execSyncLoss_within (l : LaneId) (s : State) : Completes (execSyncLoss l s) s [l] false := .onLane fun _ hL => .dropSync hL

theorem execStatusItem_within (l : LaneId) (s : State) : Completes (execStatusItem l s) s [l] false := by
  refine .onLane fun _ hL => ?_
  split
  · exact .evalStill (.put (.put (.forN (fun _ _ hJ => .iff (fun _ hJ' => .putBit hJ') (.wr hJ)) (.takeUp hL))))
  · exact hL

theorem execFieldRegisterWrite_within (l : LaneId) (pair : Fin 4) (addr data : ℕ) (s : State) :
    Completes (execFieldRegisterWrite l pair addr data s) s [l] false :=
  .onLane fun _ hL => .ite (.postWrite hL) hL

theorem execFieldRegisterRead_within (l : LaneId) (pair : Fin 4) (addr : ℕ) (s : State) :
    Completes (execFieldRegisterRead l pair addr s) s [l] false :=
  .onLane fun _ hL => .ite hL (.ite (.busError hL) (.toField (.wr (.set hL))))

theorem execReadTimeout_within (l : LaneId) (pair : Fin 4) (s : State) : Completes (execReadTimeout l pair s) s [l] false :=
  .onLane fun _ hL => .ite (.raise (.busError (.clr hL))) hL

theorem execEventItem_within (l : LaneId) (s : State) : Completes (execEventItem l s) s [l] false := by
  refine .onLane fun _ hL => ?_
  split
  · exact .triggerAll (.iff (fun _ hJ => .ownContReq hJ) (.iff (fun _ hJ => .putBit hJ) (.ite (.syncEvq (.update rfl (.takeUp hL))) (.inc
      (.takeUp hL)))))
  · exact hL

theorem execEvqRead_within (l : LaneId) (pair : Fin 4) (s : State) : Completes (execEvqRead l pair s) s [l] false :=
  .onLane fun _ hL => .ite hL (.wr (.syncEvq hL))

theorem execLinkTimeout_within (l : LaneId) (link : Fin 15) (s : State) : Completes (execLinkTimeout l link s) s [l] false := by
  refine .onLane fun _ hL => ?_
  split
  · exact .ite (.exitOn (.clr hL)) hL
  · exact .ite (.fieldExit (.inc (.clr (.clr hL)))) hL
  · exact .ite (.raise (.clr hL)) hL
  · exact .ite (.raise (.clr hL)) hL
  · exact .ite (.raise (.event (.updateFails (.clr hL)))) hL
  · exact .fabricRestart hL

theorem execControlMessage_within (l : LaneId) (s : State) : Completes (execControlMessage l s) s [l] false := by
  refine .onLane fun _ hL => ?_
  split
  · exact .control (.takeDown hL)
  · exact hL

theorem execCrcRestart_within (l : LaneId) (s : State) : Completes (execCrcRestart l s) s [l] false := by
  refine .onLane fun _ hL => ?_
  split
  · exact .wr (.takeDown hL)
  · exact hL

theorem execLockstepFault_within (l : LaneId) (pair : Fin 4) (rail0 rail1 par0 par1 : ℕ) (s : State) :
    Completes (execLockstepFault l pair rail0 rail1 par0 par1 s) s [l] false :=
  .onLane fun _ hL => .ite hL (.ite (.iff (fun _ hK => .splitFault hK) (.iff (fun _ hK => .splitFault hK) hL)) (.ite hL (.ite
    (.selfTestFails hL) (.foldl (fun _ _ hK => .takeFault hK) (.markParity hL)))))

theorem execComparatorTestDone_within (l : LaneId) (pair : Fin 4) (ok : Bool) (s : State) :
    Completes (execComparatorTestDone l pair ok s) s [l] false :=
  .onLane fun _ hL => .ite hL (.ite (.iff (fun _ hK => .startAtVec (.set hK)) (.set hL)) (.ite (.fencePair (.raise (.clr hL))) (.failLane
    (.wr (.raise (.clr hL))))))

theorem execCheckpointCommit_within (l : LaneId) (pair : Fin 4) (s : State) : Completes (execCheckpointCommit l pair s) s [l] false :=
  .onLane fun _ hL => .ite hL (.wr (.set (.put hL)))

theorem execRestored_within (l : LaneId) (pair : Fin 4) (s : State) : Completes (execRestored l pair s) s [l] false :=
  .onLane fun _ hL => .ite hL (.ite (.giveUp hL) (.clr (.clr (.wr hL))))

theorem execGiveUp_within (l : LaneId) (pair : Fin 4) (s : State) : Completes (execGiveUp l pair s) s [l] false :=
  .onLane fun _ hL => .ite hL (.giveUp hL)

theorem execShadowResult_within (l : LaneId) (target : Fin 4) (ch : Fin 16) (result : ℕ) (s : State) :
    Completes (execShadowResult l target ch result s) s [l] false := by
  refine .onLane fun _ hL => .ite hL ?_
  split
  · exact .ite (.setSched hL) hL
  · exact hL

theorem execSchPost_within (l : LaneId) (op : Fin 4096) (s : State) : Completes (execSchPost l op s) s [l] false :=
  .onLane fun _ hL => .ite (.trigger hL) hL

theorem execDispatch_within (l : LaneId) (s : State) : Completes (execDispatch l s) s [l] false := by
  refine .onLane fun _ hL => .ite hL ?_
  split
  · exact hL
  · exact .ite (.takeNext (.wakePair (.setSched hL))) (.wakePair (.setSched hL))

theorem execNextRead_within (l : LaneId) (target : Fin 5) (s : State) : Completes (execNextRead l target s) s [l] false :=
  .onLane fun _ hL => .ite hL (.ite (.protoErr hL) (.ite (.set hL) (.takeNext hL)))

theorem execNextWaitExpiry_within (l : LaneId) (target : Fin 5) (s : State) : Completes (execNextWaitExpiry l target s) s [l] false :=
  .onLane fun _ hL => .ite hL (.clr (.clr (.clr (.set (.clr hL)))))

theorem execDoneWrite_within (l : LaneId) (target : Fin 5) (index : Fin 4096) (s : State) :
    Completes (execDoneWrite l target index s) s [l] false := by
  refine .onLane fun _ hL => .ite hL ?_
  split
  · exact .ite (.complete hL) (.protoErr hL)
  · exact .protoErr hL

theorem execBudgetExpiry_within (l : LaneId) (target : Fin 5) (s : State) : Completes (execBudgetExpiry l target s) s [l] false := by
  refine .onLane fun _ hL => ?_
  split
  · exact .ite hL (.raise (.set (.setSched hL)))
  · exact hL

theorem execHangExpiry_within (l : LaneId) (target : Fin 5) (s : State) : Completes (execHangExpiry l target s) s [l] false := by
  refine .onLane fun _ hL => ?_
  split
  · exact .ite hL (.raise (.setSched hL))
  · exact hL

theorem execDeadlineExpiry_within (l : LaneId) (op : Fin 4096) (s : State) : Completes (execDeadlineExpiry l op s) s [l] false := by
  refine .onLane fun _ hL => ?_
  split
  · exact .ite hL (.deadlineMiss (.markOp hL))
  · exact hL

theorem execNoTargetTimeout_within (l : LaneId) (op : Fin 4096) (s : State) : Completes (execNoTargetTimeout l op s) s [l] false := by
  refine .onLane fun _ hL => ?_
  split
  · exact .ite hL (.raise (.markOp hL))
  · exact hL

theorem execWithdrawalRequest_within (l : LaneId) (pair : Fin 4) (s : State) : Completes (execWithdrawalRequest l pair s) s [l] false :=
  .onLane fun _ hL => .requestWithdrawal hL

theorem execWithdrawalTimeout_within (l : LaneId) (pair : Fin 4) (s : State) : Completes (execWithdrawalTimeout l pair s) s [l] false :=
  .onLane fun _ hL => .ite (.refuseWithdrawal (.putBit hL)) hL

theorem execLeaseExpiry_within (l : LaneId) (s : State) : Completes (execLeaseExpiry l s) s [l] false :=
  .onLane fun _ hL => .ite hL (.syncEligible (.wr (.setRole (.raise (.inc (.set (.undrive hL)))))))

theorem execClaimTimeout_within (l : LaneId) (s : State) : Completes (execClaimTimeout l s) s [l] false :=
  .onLane fun _ hL => .ite (.claim (.wakeSa hL)) hL

theorem execGuardExpiry_within (l : LaneId) (s : State) : Completes (execGuardExpiry l s) s [l] false :=
  .onLane fun _ hL => .ite hL (.ite (.endClaim hL) (.ite (.syncEligible (.takeDrive hL)) (.set hL)))

theorem execHandoverRequest_within (l : LaneId) (s : State) : Completes (execHandoverRequest l s) s [l] false :=
  .onLane fun _ hL => .startHandover hL

theorem execSwapIntervalExpiry_within (l : LaneId) (s : State) : Completes (execSwapIntervalExpiry l s) s [l] false :=
  .onLane fun _ hL => .ite hL (.ite (.set (.wr hL)) (.startHandover (.chooseSuccessor (.wr hL))))

theorem execHoldoffExpiry_within (l : LaneId) (s : State) : Completes (execHoldoffExpiry l s) s [l] false :=
  .onLane fun _ hL => .ite (.set hL) hL

theorem execSnapshotPush_within (l : LaneId) (s : State) : Completes (execSnapshotPush l s) s [l] false :=
  .onLane fun _ hL => .ite hL (.wr (.pushSnapshots hL))

theorem execSaReadbackFault_within (l : LaneId) (_m : Fin 8) (s : State) : Completes (execSaReadbackFault l _m s) s [l] false :=
  .onLane fun _ hL => .ite hL (.bar (.raise (.set hL)))

theorem execSaContClr_within (l : LaneId) (mask : ℕ) (s : State) : Completes (execSaContClr l mask s) s [l] false :=
  .onLane fun _ hL => .ite hL (.refreshSa (.wr hL))

theorem execSdHoldExpiry_within (l : LaneId) (s : State) : Completes (execSdHoldExpiry l s) s [l] false :=
  .onLane fun _ hL => .ite (.syncEligible (.releaseLease (.wr hL))) hL

theorem execSaPowerUp_within (l : LaneId) (s : State) : Completes (execSaPowerUp l s) s [l] false := by
  refine .onLane fun L hL => .ite hL ?_
  extract_lets K₀ ok K₁ K₂ K
  have hK : K.MemWf := .iff (fun _ hJ => .setRole hJ) (.portStart (.restoreAtPower (.wr (.wr (.wr (.retRestore (.resetSa (.wr (.clr hL)))))))))
  exact .ite (.exitOn hK) (.ite (.syncEligible (.takeDrive hK)) hK)

theorem execSaPowerDown_within (l : LaneId) (s : State) : Completes (execSaPowerDown l s) s [l] false :=
  .onLane fun _ hL => .ite hL (.setRole (.wr (.retSave (.retCount hL))))

theorem execFrameStart_within (l : LaneId) (s : State) : Completes (execFrameStart l s) s [l] false := by
  refine .onLane fun L hL => .ite hL ?_
  extract_lets K₀ K₁ K₂ K₃ sched K₄
  have h₃ : K₃.MemWf := .set (.clr (.clr (.wr (.wr (.takeFrame (.forN (fun _ _ hJ => .resyncFrame hJ) hL))))))
  clear_value K₃
  have h₄ : K₄.MemWf := .update rfl h₃
  clear_value K₄
  exact .triggerAll (.triggerAll (.event (.obsFrame (.leaseFrame (.takeRejoin (.forN (fun _ _ hJ => .wr hJ) h₄))))))

theorem execFrameWrite_within (l : LaneId) (value : ℕ) (s : State) : Completes (execFrameWrite l value s) s [l] false :=
  .onLane fun _ hL => .wr hL

theorem execAgreementReady_within (l : LaneId) (s : State) : Completes (execAgreementReady l s) s [l] false :=
  .onLane fun _ hL => .ite (.sendFrame (.set hL)) hL

theorem execReadyTimeout_within (l : LaneId) (s : State) : Completes (execReadyTimeout l s) s [l] false :=
  .onLane fun _ hL => .ite (.sendFrame hL) hL

theorem execWindowClose_within (l : LaneId) (irms : List ℕ) (s : State) : Completes (execWindowClose l irms s) s [l] false := by
  refine .onLane fun L hL => .ite hL ?_
  extract_lets ms onTime K₀ split K₁ K₂ present K₃ K₄ K₅ K₆ K₇ own K₈ K₉ K₁₀ K₁₁
  have h₂ : K₂.MemWf := .foldl (fun _ _ hJ => .countIn hJ) (.iff (fun _ hJ => .raise (.set hJ)) (.foldl (fun _ _ hJ => .wr hJ) hL))
  clear_value K₂
  have h₅ : K₅.MemWf := .slowExit (.foldl (fun _ _ hJ => .countLate hJ) (.forN (fun _ _ hJ => .ite (.inc hJ) (.clr hJ)) (.wr (.wr h₂))))
  clear_value K₅
  have h₆ : K₆.MemWf := by
    refine .foldl (fun _ _ hJ => ?_) h₅
    split
    · exact .wr hJ
    · exact hJ
  clear_value K₆
  have h₉ : K₉.MemWf := .foldl (fun _ _ hJ => .countBand hJ) (.forN (fun _ _ hJ => .agree hJ) (.forN (fun _ _ hJ => .thermal hJ) h₆))
  clear_value K₉
  have h₁₀ : K₁₀.MemWf := .sealFrame (.standstillNow (.envelopes (.sendChannels h₉)))
  clear_value K₁₀
  exact .clr (.set (.wr (.closeLease (.decideMode h₁₀))))

theorem execModeReqClear_within (l : LaneId) (s : State) : Completes (execModeReqClear l s) s [l] false :=
  .onLane fun _ hL => .writeTarget hL

theorem execStandbyRequest_within (l : LaneId) (s : State) : Completes (execStandbyRequest l s) s [l] false :=
  .onLane fun _ hL => .writeTarget hL

theorem execOperateRequest_within (l : LaneId) (s : State) : Completes (execOperateRequest l s) s [l] false :=
  .onLane fun _ hL => .writeTarget hL

theorem execStopRequest_within (l : LaneId) (s : State) : Completes (execStopRequest l s) s [l] false := .onLane fun _ hL => .stopTarget hL

theorem execServiceRequest_within (l : LaneId) (s : State) : Completes (execServiceRequest l s) s [l] false :=
  .onLane fun _ hL => .writeTarget hL

theorem execShutdownRequest_within (l : LaneId) (s : State) : Completes (execShutdownRequest l s) s [l] false :=
  .onLane fun _ hL => .writeTarget hL

theorem execLaneWaitExpiry_within (l : LaneId) (s : State) : Completes (execLaneWaitExpiry l s) s [l] false :=
  .onLane fun _ hL => .ite (.refuseStart hL) hL

theorem execKeyoffHoldExpiry_within (l : LaneId) (s : State) : Completes (execKeyoffHoldExpiry l s) s [l] false :=
  .onLane fun _ hL => .ite hL (.set hL)

theorem execKeyOnFall_within (l : LaneId) (s : State) : Completes (execKeyOnFall l s) s [l] false :=
  .onLane fun _ hL => .syncKeyHeld (.clr (.clr hL))

theorem execKeyOnRise_within (l : LaneId) (s : State) : Completes (execKeyOnRise l s) s [l] false :=
  .onLane fun _ hL => .ite hL (.privilegedWake (.syncKeyHeld (.clr (.set hL))))

theorem execLaneExit_within (l : LaneId) (cause : ℕ) (s : State) : Completes (execLaneExit l cause s) s [l] false :=
  .onLane fun _ hL => .ite (.exitOn hL) (.latchE0 hL)

theorem execAutoRejoinReset_within (l : LaneId) (s : State) : Completes (execAutoRejoinReset l s) s [l] false :=
  .onLane fun _ hL => .ite (.hostReset hL) hL

theorem execLaneResetRequest_within (l : LaneId) (s : State) : Completes (execLaneResetRequest l s) s [l] false :=
  .onLane fun _ hL => .ite (.hostReset hL) (.inc hL)

theorem execHostDieReset_within (l : LaneId) (s : State) : Completes (execHostDieReset l s) s [l] false := .onLane fun _ hL => .hostReset hL

theorem execNguasFrameReceipt_within (l : LaneId) (y good : Bool) (start : ℤ) (src : Fin 4) (bytes : List ℕ) (s : State) :
    Completes (execNguasFrameReceipt l y good start src bytes s) s [l] false := by
  refine .onLane fun _ hL => .ite hL (.ite (.ite (.listenTo hL) hL) ?_)
  split
  · exact .raise (.inc hL)
  · exact .ite (.rejectCopy hL) (.ite (.takeCopy hL) (.rejectCopy hL))

theorem execSlotTransmit_within (l : LaneId) (n : Fin 1024) (e : ℤ) (x y collision : Bool) (s : State) :
    Completes (execSlotTransmit l n e x y collision s) s [l] false :=
  .onLane fun _ hL => .ite hL (.ite (.collide hL) (.ite (.guardianBlocks hL) (.iff (fun _ hK => .inc (.set hK)) (.sendSlot hL))))

theorem execColdstartTimerExpiry_within (l : LaneId) (collision : Bool) (s : State) :
    Completes (execColdstartTimerExpiry l collision s) s [l] false := by
  refine .onLane fun _ hL => .ite hL ?_
  split
  · exact hL
  · exact .ite hL (.ite (.collide (.wrI (.clr (.clr (.clr (.wr (.wr (.setNode hL)))))))) (.sendSlot (.wrI (.clr (.clr (.clr (.wr (.wr
      (.setNode hL)))))))))

theorem execCycleEnd_within (l : LaneId) (s : State) : Completes (execCycleEnd l s) s [l] false :=
  .onLane fun _ hL => .ite hL (.ite (.update rfl (.wr (.iff (fun _ hK => .integrate hK) hL))) (.update rfl (.wr (.wr (.stepNode
    (.switchMode (.wr (.syncMembers (.iff (fun _ hJ => .checkChannels hJ) (ite_keeps (fun p : Lane × Bool => p.1.MemWf) hL
    (.correctClock_lane hL)))))))))))

theorem execActionInstant_within (l : LaneId) (s : State) : Completes (execActionInstant l s) s [l] false :=
  .onLane fun _ hL => .ite hL (.triggerAll (.event (.foldl (fun _ _ hK => .copyBuffer hK) hL)))

theorem execActionInstantNotice_within (l : LaneId) (s : State) : Completes (execActionInstantNotice l s) s [l] false :=
  .onLane fun _ hL => .ite hL (.toField hL)

theorem execNgbModeReq_within (l : LaneId) (value : Fin 16) (s : State) : Completes (execNgbModeReq l value s) s [l] false :=
  .onLane fun _ hL => .wr hL

theorem execWakeTx_within (l : LaneId) (s : State) : Completes (execWakeTx l s) s [l] false := .onLane fun _ hL => .set hL

theorem execWakePatternSend_within (l : LaneId) (s : State) : Completes (execWakePatternSend l s) s [l] false :=
  .onLane fun _ hL => .ite (.wr (.clr hL)) hL

theorem execReint_within (l : LaneId) (s : State) : Completes (execReint l s) s [l] false :=
  .onLane fun _ hL => .ite hL (.update rfl (.setNode hL))

theorem execNguasWakeDetect_within (l : LaneId) (ch : Fin 2) (s : State) : Completes (execNguasWakeDetect l ch s) s [l] false :=
  .onLane fun _ hL => .ite (.privilegedWake (.putBit hL)) hL

theorem execCanFrameReceived_within (l : LaneId) (ident age : ℕ) (ext remote fdf brs esi : Bool) (dlc : Fin 16) (data : List ℕ) (s : State)
    :
    Completes (execCanFrameReceived l ident age ext remote fdf brs esi dlc data s) s [l] false := by
  refine .onLane fun _ hL => .ite hL (.ite (.inc (.iff (fun _ hK => .wr hK) (.wr hL))) (.ite (.iff (fun _ hK => .wr hK) (.wr hL)) ?_))
  split
  · exact .inc (.iff (fun _ hK => .wr hK) (.wr hL))
  · exact .ite (.raise (.inc (.set (.iff (fun _ hK => .wr hK) (.wr hL))))) (.canEvent (.wr (.putCanData (.wr (.wr (.put (.put (.put (.wr
      (.put (.wr (.iff (fun _ hK => .wr hK) (.wr hL)))))))))))))

theorem execCanTxRequest_within (l : LaneId) (mask : ℕ) (s : State) : Completes (execCanTxRequest l mask s) s [l] false :=
  .onLane fun _ hL => .wr hL

theorem execCanTxDone_within (l : LaneId) (s : State) : Completes (execCanTxDone l s) s [l] false := by
  refine .onLane fun _ hL => ?_
  split
  · exact hL
  · exact .ite hL (.canEvent (.iff (fun _ hJ => .wr hJ) (.wr (.putBit (.putBit hL)))))

theorem execCanPop_within (l : LaneId) (s : State) : Completes (execCanPop l s) s [l] false :=
  .onLane fun _ hL => .ite hL (.canEvent (.wr (.wr hL)))

theorem execCanError_within (l : LaneId) (tx eight : Bool) (s : State) : Completes (execCanError l tx eight s) s [l] false :=
  .onLane fun _ hL => .ite hL (.ite (.raise (.put (.inc (.set (.wr (.sat hL)))))) (.ite (.raise (.set (.wr (.sat hL)))) (.sat hL)))

theorem execCanRecover_within (l : LaneId) (s : State) : Completes (execCanRecover l s) s [l] false := .onLane fun _ hL => .ite (.set hL) hL

theorem execBusOffRecoveryComplete_within (l : LaneId) (s : State) : Completes (execBusOffRecoveryComplete l s) s [l] false :=
  .onLane fun _ hL => .ite (.clr (.wr (.wr (.wr hL)))) hL

theorem execTelemetrySend_within (l : LaneId) (dieTemps : List ℤ) (s : State) : Completes (execTelemetrySend l dieTemps s) s [l] false :=
  .onLane fun _ hL => .sendMbx (.syncRecommended (.put hL))

theorem execUpdateEraseDone_within (l : LaneId) (s : State) : Completes (execUpdateEraseDone l s) s [l] false :=
  .onLane fun _ hL => .ite hL (.sendMbx (.event (.wr (.wr hL))))

theorem execUpdateChunk_within (l : LaneId) (n : ℕ) (ok : Bool) (s : State) : Completes (execUpdateChunk l n ok s) s [l] false :=
  .onLane fun _ hL => .ite hL (.ite (.updateFails hL) (.takeChunk hL))

theorem execUpdateChunkTimeout_within (l : LaneId) (s : State) : Completes (execUpdateChunkTimeout l s) s [l] false :=
  .onLane fun _ hL => .ite (.updateFails hL) hL

theorem execMbxSend_within (l : LaneId) (ident : Fin 256) (s : State) : Completes (execMbxSend l ident s) s [l] false :=
  .onLane fun _ hL => .sendMbx hL

theorem execRollbackCommit_within (l : LaneId) (s : State) : Completes (execRollbackCommit l s) s [l] false :=
  .onLane fun _ hL => .ite (.wr hL) (.set hL)

theorem execSwitchComplete_within (l : LaneId) (die : Fin 2) (d : Fin 5) (time : ℕ) (s : State) :
    Completes (execSwitchComplete l die d time s) s [l] false :=
  .onLane fun _ hL => .ite (.onNewSource hL) hL

theorem execSwitchTimeout_within (l : LaneId) (die : Fin 2) (d : Fin 5) (time : ℕ) (s : State) :
    Completes (execSwitchTimeout l die d time s) s [l] false :=
  .onLane fun _ hL => .ite hL (.ite (.raise (.inc (.set (.onNewSource hL)))) (.fieldRaise (.iff (fun _ hJ => .set hJ) (.inc (.set
    (.onNewSource hL))))))

theorem execRampStep_within (l : LaneId) (die : Fin 2) (d : Fin 5) (time : ℕ) (s : State) :
    Completes (execRampStep l die d time s) s [l] false :=
  .onLane fun _ hL => .ite hL (.ite (.endSwitch hL) (.wr hL))

theorem execSscPeriodStart_within (l : LaneId) (die : Fin 2) (s : State) : Completes (execSscPeriodStart l die s) s [l] false :=
  .onLane fun _ hL => .ite (.ite hL (.wr (.wr hL))) (.ite hL (.wr (.wr hL)))

theorem execXfHoldExpiry_within (l : LaneId) (s : State) : Completes (execXfHoldExpiry l s) s [l] false :=
  .onLane fun _ hL => .ite (.exitOn (.clr (.clr hL))) hL

theorem execDoze_within (l : LaneId) (pair : Fin 4) (s : State) : Completes (execDoze l pair s) s [l] false :=
  .onLane fun _ hL => .ite hL (.ite hL (.startEntry (.putBit hL)))

theorem execBlockAnswer_within (l : LaneId) (id : Fin 32) (busy : Bool) (s : State) :
    Completes (execBlockAnswer l id busy s) s [l] false :=
  .onLane fun _ hL => .ite hL (.ite (.refuseEntry hL) (.blocksAnswered (.putBit hL)))

theorem execDrainTimeout_within (l : LaneId) (id : Fin 32) (s : State) : Completes (execDrainTimeout l id s) s [l] false :=
  .onLane fun _ hL => .ite hL (.ite (.raise (.refuseEntry hL)) hL)

theorem execFieldOffDone_within (l : LaneId) (inTime : Bool) (s : State) : Completes (execFieldOffDone l inTime s) s [l] false :=
  .onLane fun _ hL => .ite hL (.ite (.lateRefuse hL) (.ite (.abortEntry (.set hL)) (.wr (.wr (.wr (.set hL))))))

theorem execRetentionSaveDone_within (l : LaneId) (ok : Bool) (s : State) : Completes (execRetentionSaveDone l ok s) s [l] false :=
  .onLane fun _ hL => .ite hL (.ite (.lateRefuse hL) (.ite (.abortEntry hL) (.ite (.inc (.deepClocks (.wr (.wr (.wr (.wr hL)))))) (.clr
    (.set (.wr (.retSave hL)))))))

theorem execRegionOffDone_within (l : LaneId) (s : State) : Completes (execRegionOffDone l s) s [l] false :=
  .onLane fun _ hL => .ite hL (.ite (.wakeDormant (.inc (.setState (.setMode (.inc (.wr (.wr (.wr (.wr hL))))))))) (.setState (.setMode
    (.inc (.wr (.wr (.wr (.wr hL))))))))

theorem execPrivilegedWake_within (l : LaneId) (which : Fin 5) (s : State) : Completes (execPrivilegedWake l which s) s [l] false :=
  .onLane fun _ hL => .privilegedWake hL

theorem execRegionPowerUp_within (l : LaneId) (fieldSide : Bool) (s : State) : Completes (execRegionPowerUp l fieldSide s) s [l] false :=
  .onLane fun _ hL => .ite (.ite (.fieldRestart hL) hL) (.ite (.ite (.replayNguasWake (.wr (.clr (.netOn hL)))) hL) (.ite (.wr (.wr (.wr
    hL))) hL))

theorem execGRelease_within (l : LaneId) (s : State) : Completes (execGRelease l s) s [l] false := .onLane fun _ hL => .toField hL

theorem execSupplyOutOfRange_within (l : LaneId) (which : Fin 6) (s : State) : Completes (execSupplyOutOfRange l which s) s [l] false :=
  .onLane fun _ hL => .ite (.hostSupplyBad hL) (.fieldSupplyBad hL)

theorem execSupplyInRange_within (l : LaneId) (which : Fin 6) (s : State) : Completes (execSupplyInRange l which s) s [l] false :=
  .onLane fun _ hL => .ite (.syncRecommended (.putBit hL)) (.syncRecommended (.iff (fun _ hJ => .iff (fun _ hJ' => .forN (fun _ _ hM =>
    .fieldPortStart hM) (.clr hJ')) hJ) (.putBit hL)))

theorem execTokenSubmit_within (l : LaneId) (s : State) : Completes (execTokenSubmit l s) s [l] false :=
  .onLane fun _ hL => .ite hL (.watchToken (.set (.clr hL)))

theorem execTokenVerified_within (l : LaneId) (s : State) : Completes (execTokenVerified l s) s [l] false :=
  .onLane fun _ hL => .ite hL (.newChallenge (.ite (.lifeCycleTo (.wr (.clr hL))) (.raise (.wr (.clr hL)))))

theorem execSlicePeriodExpiry_within (l : LaneId) (s : State) : Completes (execSlicePeriodExpiry l s) s [l] false :=
  .onLane fun _ hL => .ite hL (.ite (.syncCover (.forN (fun _ _ hJ => .coverTime hJ) hL)) (.requestWithdrawal (.aimSlice (.syncCover (.forN
    (fun _ _ hJ => .coverTime hJ) hL)))))

theorem execSliceDone_within (l : LaneId) (ok : Bool) (s : State) : Completes (execSliceDone l ok s) s [l] false :=
  .onLane fun _ hL => .ite hL (.ite (.selfTestFails (.wr hL)) (.syncCover (.restartWithdrawn (.ite (.wr hL) (.aimSlice (.segmentPassed (.wr
    hL)))))))

theorem execShutdownTestDone_within (l : LaneId) (passed : Bool) (unit : Fin 7) (s : State) :
    Completes (execShutdownTestDone l passed unit s) s [l] false :=
  .onLane fun _ hL => .ite hL (.ite (.inc (.writeCert (.wr hL))) (.raise (.wr (.set (.wr hL)))))

theorem execDirectTestStart_within (l : LaneId) (test : Fin 256) (unit : Fin 16) (_segment : Fin 128) (s : State) :
    Completes (execDirectTestStart l test unit _segment s) s [l] false :=
  .onLane fun _ hL => .directStart hL

theorem execDirectTestDone_within (l : LaneId) (ok : Bool) (s : State) : Completes (execDirectTestDone l ok s) s [l] false :=
  .onLane fun _ hL => .ite hL (.ite (.selfTestFails (.iff (fun _ hJ => .toField hJ) (.iff (fun _ hJ => .updateLine (.clr hJ)) (.wr hL))))
    (.ite (.restartWithdrawn (.iff (fun _ hJ => .toField hJ) (.iff (fun _ hJ => .updateLine (.clr hJ)) (.wr hL)))) (.iff (fun _ hJ =>
    .toField hJ) (.iff (fun _ hJ => .updateLine (.clr hJ)) (.wr hL)))))

theorem execBoundaryScanInstruction_within (l : LaneId) (full : Bool) (s : State) :
    Completes (execBoundaryScanInstruction l full s) s [l] false :=
  .onLane fun _ hL => .ite hL (.raise hL)

theorem execScrubSweep_within (l : LaneId) (ms : ℕ) (s : State) : Completes (execScrubSweep l ms s) s [l] false :=
  .onLane fun _ hL => .inc (.sat hL)

theorem execScrubLate_within (l : LaneId) (s : State) : Completes (execScrubLate l s) s [l] false := .onLane fun _ hL => .raise hL

theorem execParityError_within (l : LaneId) (src : ℕ) (part : Fin 16) (s : State) :
    Completes (execParityError l src part s) s [l] false :=
  .onLane fun _ hL => .ite (.fieldParity hL) (.ite (.hostParity hL) hL)

theorem execRegisterWriteItem_within (l : LaneId) (s : State) : Completes (execRegisterWriteItem l s) s [l] false := by
  refine .onLane fun _ hL => ?_
  split
  · exact .fieldWrite (.crcAccept (.takeDown hL))
  · exact hL

theorem execOutOfWindowAccess_within (l : LaneId) (pair : Fin 4) (addr : ℕ) (s : State) :
    Completes (execOutOfWindowAccess l pair addr s) s [l] false :=
  .onLane fun _ hL => .ite hL (.busError hL)

theorem execDebugHaltRequest_within (l : LaneId) (pair : Fin 4) (fieldClocks : Bool) (s : State) :
    Completes (execDebugHaltRequest l pair fieldClocks s) s [l] false :=
  .onLane fun _ hL => .ite (.inc hL) (.ite (.raise hL) (.ite (.set (.set (.putBit hL))) (.putBit hL)))

theorem execDebugResume_within (l : LaneId) (pair : Fin 4) (s : State) : Completes (execDebugResume l pair s) s [l] false :=
  .onLane fun _ hL => .ite (.resumePwm (.clr (.putBit hL))) (.putBit hL)

theorem execDebugStep_within (l : LaneId) (pair : Fin 4) (s : State) : Completes (execDebugStep l pair s) s [l] false :=
  .onLane fun _ hL => .ite (.wr hL) hL

theorem execDebugReplay_within (l : LaneId) (point : Fin 4 × ℕ) (s : State) : Completes (execDebugReplay l point s) s [l] false := by
  refine .onLane fun _ hL => ?_
  split
  · exact hL
  · exact .wr (.inc (.syncDebugLog hL))

theorem execAonPowerOn_within (l : LaneId) (fieldSide : Bool) (s : State) : Completes (execAonPowerOn l fieldSide s) s [l] false :=
  .onLane fun _ hL => .ite (.fieldAonOn hL) (.aonOn hL)

theorem execHostPowerGood_within (l : LaneId) (s : State) : Completes (execHostPowerGood l s) s [l] false :=
  .onLane fun _ hL => .syncRecommended (.wr hL)

theorem execResetRelease_within (l : LaneId) (s : State) : Completes (execResetRelease l s) s [l] false :=
  .onLane fun _ hL => .ite hL (.syncRecommended (.replayNguasWake (.setState (.iff (fun _ hJ => .retRestore hJ) (.forN (fun _ _ hJ => .iff
    (fun _ hJ' => .portStart hJ') hJ) (.wr (.clr (.clr (.clr hL)))))))))

theorem execPllLock_within (l : LaneId) (fieldSide : Bool) (s : State) : Completes (execPllLock l fieldSide s) s [l] false :=
  .onLane fun _ hL => .ite (.ite hL (.wakeStepped (.switchAll (.set hL)))) (.ite hL (.ite (.deepRelock (.set hL)) (.wakeStepped (.iff (fun
    _ hJ => .setState hJ) (.switchAll (.set hL))))))

theorem execPllLockTimeout_within (l : LaneId) (fieldSide : Bool) (s : State) :
    Completes (execPllLockTimeout l fieldSide s) s [l] false :=
  .onLane fun _ hL => .ite hL (.wakeFail hL)

theorem execWakeStepDone_within (l : LaneId) (step : Fin 6) (ok : Bool) (value : ℕ) (s : State) :
    Completes (execWakeStepDone l step ok value s) s [l] false :=
  .onLane fun _ hL => .ite hL (.wakeStepped (.wakeStep hL))

theorem execFieldDieReset_within (l : LaneId) (s : State) : Completes (execFieldDieReset l s) s [l] false :=
  .onLane fun _ hL => .ite hL (.forN (fun _ _ hJ => .iff (fun _ hJ' => .sendFault hJ') hJ) (.clr (.wr (.put (.put (.fieldRestart hL))))))

theorem execNorReadDone_within (l : LaneId) (ok : Bool) (s : State) : Completes (execNorReadDone l ok s) s [l] false :=
  .onLane fun _ hL => .ite (.norFails hL) (.ite (.headerRead (.clr hL)) (.ite (.sectionRead (.clr hL)) hL))

theorem execNorReadTimeout_within (l : LaneId) (s : State) : Completes (execNorReadTimeout l s) s [l] false :=
  .onLane fun _ hL => .norFails hL

theorem execReadResponse_within (l : LaneId) (s : State) : Completes (execReadResponse l s) s [l] false := .onLane fun _ hL => .readStep hL

theorem execTestComplete_within (l : LaneId) (passed : Bool) (s : State) : Completes (execTestComplete l passed s) s [l] false :=
  .onLane fun _ hL => .ite hL (.ite (.testPassed (.judgeCert (.wr hL))) (.testFails (.judgeCert (.wr hL))))

theorem execDpRead_within (addr n : ℕ) (s : State) : Completes (execDpRead addr n s) s [] true :=
  .onMd fun _ hM => .ite hM (.update rfl (.freeBytes_md (.iff (fun _ hK => .wr hK) (.iff (fun _ hK => .inc hK) (.iff (fun _ hK => .inc hK)
    hM)))))

theorem execDpWrite_within (addr : ℕ) (data : List Byte) (s : State) : Completes (execDpWrite addr data s) s [] true :=
  .onMd fun _ hM => .ite hM (.portWrite (.iff (fun _ hK => .inc hK) hM))

theorem execDpStatus_within (s : State) : Completes (execDpStatus s) s [] true := .onMd fun _ hM => .ite hM hM

theorem execDpIdent_within (s : State) : Completes (execDpIdent s) s [] true := .onMd fun _ hM => .ite hM hM

theorem execUnknownOpcode_within (s : State) : Completes (execUnknownOpcode s) s [] true := .onMd fun _ hM => .ite (.inc hM) hM

theorem execStageOpen_within (s : State) : Completes (execStageOpen s) s [] true := .onMd fun _ hM => .ite (.stageOpen hM) hM

theorem execStageClose_within (s : State) : Completes (execStageClose s) s [] true := .onMd fun _ hM => .ite (.stageClose hM) hM

theorem execStageDiscard_within (s : State) : Completes (execStageDiscard s) s [] true := .onMd fun _ hM => .ite (.stageDiscard hM) hM

theorem execUpdateStart_within (s : State) : Completes (execUpdateStart s) s [] true := .onMd fun _ hM => .ite (.updateStart hM) hM

theorem execLogAck_within (s : State) : Completes (execLogAck s) s [] true := .onMd fun _ hM => .ite (.logAck hM) hM

theorem execAttest_within (s : State) : Completes (execAttest s) s [] true := .onMd fun _ hM => .ite (.attest hM) hM

theorem execCertWrite_within (s : State) : Completes (execCertWrite s) s [] true := .onMd fun _ hM => .ite (.certWrite hM) hM

theorem execStagingEraseDone_within (s : State) : Completes (execStagingEraseDone s) s [] true := .onMd fun _ hM => .wr hM

theorem execStagingProgramDone_within (s : State) : Completes (execStagingProgramDone s) s [] true := .onMd fun _ hM => .wr hM

theorem execImageVerifyDone_within (s : State) : Completes (execImageVerifyDone s) s [] true := .onMd fun _ hM => .ite hM (.wr (.wr hM))

theorem execTelemetryStale_within (l : LaneId) (s : State) : Completes (execTelemetryStale l s) s [] true := .onMd fun _ hM => .wr hM

theorem execLogRecordProgrammed_within (ok : Bool) (s : State) : Completes (execLogRecordProgrammed ok s) s [] true :=
  .onMd fun _ hM => .ite hM (.ite (.program hM) (.wr (.inc hM)))

theorem execMdSensorSample_within (t0 t1 : ℤ) (humidity : ℕ) (supplyOk : Bool) (s : State) :
    Completes (execMdSensorSample t0 t1 humidity supplyOk s) s [] true :=
  .onMd fun _ hM => .ite hM (.ite (.crossing (.crossing (.crossing (.wr (.wr (.wr hM)))))) (.ownLog (.wr (.crossing (.crossing (.crossing
    (.wr (.wr (.wr hM)))))))))

theorem execStateBlockSave_within (s : State) : Completes (execStateBlockSave s) s [] true := .onMd fun _ hM => .ite (.save hM) hM

theorem execMdWake_within (s : State) : Completes (execMdWake s) s [] true := .onMd fun _ hM => .ite hM (.restart hM)

/-- The sibling that a Felt port of a lane of its own identity leads to. -/
theorem State.wired.portPeer {s : State} (hs : s.wired) (l : LaneId) {p : ℕ} (hp : p < 2) :
    laneNumbered ((s.lane l).portPeer p) = l.peer p := by
  have hme : (s.lane l).me = l.num := by rw [Lane.me, hs l]
  rw [Lane.portPeer, hme]
  cases l <;> interval_cases p <;> rfl

/-- A lane and the sibling of one of its Felt ports change together. -/
theorem State.Within.portPair {s : State} {l m : LaneId} {p : ℕ} {L : Lane} {g : Lane → Lane} (hfit : s.variant.fitted l = true)
    (hm : m = laneNumbered ((s.lane l).portPeer p)) (hp : p < 2) (hL : (s.lane l).MemWf → L.MemWf) (hg : ∀ M : Lane, M.MemWf → (g M).MemWf) :
    s.Within ((s.setLane l L).onLane m g) [l, l.peer p] false := by
  have both : s.Within ((s.setLane l L).onLane m g) [l, m] false :=
    .trans (.mono (.setLane hfit hL) (by simp) id) (.mono (.onLane hg) (by simp) id)
  exact both.mono (fun hs => by rw [hm, hs.portPeer l hp]; exact List.Subset.refl _) id

theorem State.feltNack_within (l : LaneId) {p : ℕ} (s : State) (hp : p < 2) : s.Within (s.feltNack l p) [l, l.peer p] false := by
  unfold State.feltNack
  extract_lets L m q
  split
  · exact .refl ..
  · rename_i hfit
    simp only [Bool.or_eq_true, Bool.not_eq_true', not_or, Bool.not_eq_false] at hfit
    obtain ⟨⟨⟨hl, -⟩, -⟩, -⟩ := hfit
    exact .portPair hl rfl hp (fun hL => .raise (.inc (.feltCredit (.setFelt hL)))) fun _ hM => .raise (.inc hM)

theorem execCreditReturn_within (l : LaneId) (port : Fin 4) (nack : Bool) (s : State) :
    Completes (execCreditReturn l port nack s) s (if nack && 2 ≤ port.val then [l, l.peer (port.val - 2)] else [l]) false := by
  unfold execCreditReturn
  refine State.Within.completes ?_
  split
  · exact .onLane fun _ hL => .ite hL (.couCredit hL)
  · exact .onLane fun _ hL => .ite hL (.raise (.inc (.couCredit (.fieldRaise hL))))
  · exact .onLane fun _ hL => .ite hL (.fieldCredit (.wr hL))
  · exact .onLane fun _ hL => .ite hL (.raise (.inc (.inc (.fieldCredit hL))))
  · exact .onLane fun _ hL => .ite (.feltCredit hL) hL
  · exact s.feltNack_within l (by decide)
  · exact .onLane fun _ hL => .ite (.feltCredit hL) hL
  · exact s.feltNack_within l (by decide)

theorem State.feltLinkStart_within (l : LaneId) {p : ℕ} (s : State) (hp : p < 2) : s.Within (s.feltLinkStart l p) [l, l.peer p] false := by
  unfold State.feltLinkStart
  extract_lets L m M q e
  split
  · exact .refl ..
  · rename_i hfit
    simp only [Bool.or_eq_true, Bool.not_eq_true', not_or, Bool.not_eq_false] at hfit
    obtain ⟨⟨⟨⟨hl, -⟩, -⟩, -⟩, -⟩ := hfit
    exact .portPair hl rfl hp (fun hL => .feltStart hL) fun _ hM => .feltStart hM

theorem execLinkStart_within (l : LaneId) (link : Fin 15) (s : State) : Completes (execLinkStart l link s) s
    (if link.val = 2 ∨ link.val = 3 then [l, l.peer (link.val - 2)] else [l]) (link.val == 4) := by
  obtain ⟨link, hlink⟩ := link
  unfold execLinkStart
  refine State.Within.completes ?_
  dsimp only
  have couch : s.Within (s.onLane l fun L => if ! L.portsRun || L.on Int.fieldHeld then L else
      L.couchStart.iff (L.rd Int.loadPhase ≠ 0) fun K => K.exitOn 0x47) [l] false :=
    .onLane fun _ hL => .ite hL (.iff (fun _ hK => .exitOn hK) (.couchStart hL))
  match link with
  | 0 => exact couch
  | 1 => exact couch
  | 2 => exact s.feltLinkStart_within l (by decide)
  | 3 => exact s.feltLinkStart_within l (by decide)
  | 4 =>
    exact .ite (.trans (.mono (.onMd fun _ hM => .linkStart hM) (fun _ => List.nil_subset _) id)
      (.mono (.onLane fun _ hL => .mbxStart hL) (fun _ => List.Subset.refl _) fun _ => rfl)) (.refl ..)
  | k + 5 =>
    have hk : ¬ (k + 5 = 2 ∨ k + 5 = 3) := by omega
    rw [if_neg hk, show (k + 5 == 4) = false from rfl]
    exact .onLane fun _ hL => .fabricRestart hL

theorem execStopRequestMessage_within (l src : LaneId) (s : State) : Completes (execStopRequestMessage l src s) s [l, src] false :=
  (State.Within.recvFelt fun _ _ hL => .takeStopMsg hL).completes

theorem execClaimReceipt_within (l src : LaneId) (s : State) : Completes (execClaimReceipt l src s) s [l, src] false :=
  (State.Within.recvFelt fun _ _ hL => .syncEligible (.claimFrom hL)).completes

theorem execReleaseReceipt_within (l src : LaneId) (s : State) : Completes (execReleaseReceipt l src s) s [l, src] false :=
  (State.Within.recvFelt fun _ _ hL => .releaseFrom hL).completes

theorem execHandoverReceipt_within (l src : LaneId) (s : State) : Completes (execHandoverReceipt l src s) s [l, src] false :=
  (State.Within.recvFelt fun _ _ hL => .ite (.wr (.wr (.wakeSa hL))) hL).completes

theorem execSnapshotReceipt_within (l src : LaneId) (s : State) : Completes (execSnapshotReceipt l src s) s [l, src] false :=
  (State.Within.recvFelt fun _ _ hL => .storeSnap hL).completes

theorem execFrameMessageReceipt_within (l src : LaneId) (s : State) : Completes (execFrameMessageReceipt l src s) s [l, src] false :=
  (State.Within.recvFelt fun _ _ hL => .frameDelay (.takeFrameMsg hL)).completes

theorem execDigestRecord_within (l src : LaneId) (s : State) : Completes (execDigestRecord l src s) s [l, src] false :=
  (State.Within.ite (.refl ..) (.recvFelt fun _ _ hL => .judgeRecord hL)).completes

theorem execTelemetryReceipt_within (l : LaneId) (s : State) : Completes (execTelemetryReceipt l s) s [l] true :=
  (State.Within.recvMbx fun _ _ hM => .update rfl (.wr (.update rfl hM))).completes

theorem execLogRecordReceipt_within (l : LaneId) (s : State) : Completes (execLogRecordReceipt l s) s [l] true :=
  (State.Within.recvMbx fun _ _ hM => .log hM).completes

theorem execIdentityRecord_within (l : LaneId) (s : State) : Completes (execIdentityRecord l s) s [l] true :=
  (State.Within.recvMbx fun _ _ hM => .ite (.wr (.update rfl hM))
    (.wr (.wr (.wr (.wr (.fresh_md (.fresh_md (.fresh_md (.wr (.update rfl hM)))))))))).completes

theorem execUpdateReply_within (l : LaneId) (s : State) : Completes (execUpdateReply l s) s [l] true := by
  refine (State.Within.recvMbx fun r M hM => ?_).completes
  split
  · exact hM
  · exact .endTransfer hM

theorem execMdDormantEntry_within (s : State) : Completes (execMdDormantEntry s) s [] true :=
  (State.Within.ite (.onMd fun _ hM => .wr (.save hM)) (.refl ..)).completes

theorem execUpdateOffer_within (l : LaneId) (s : State) : Completes (execUpdateOffer l s) s [l] true := by
  refine (State.Within.ite (.refl ..) ?_).completes
  split
  · exact .refl ..
  · exact .trans (.mono (.onMd fun _ hM => .update rfl hM) (fun _ => List.nil_subset _) id)
      (.mono (.onLane fun _ hL => .takeOffer hL) (fun _ => List.Subset.refl _) fun _ => rfl)

theorem Lane.MemWf.writtenImage {L : Lane} (h : L.MemWf) : L.writtenImage.mem.wf norDefault := Memory.setBytes_wf _ _ _ _ h.2

theorem execUpdateVerifyDone_within (l : LaneId) (s : State) : Completes (execUpdateVerifyDone l s) s [l] false :=
  .onLane fun _ hL => .ite hL (.ite (.updateFails hL) (.sendMbx (.event (.inc (.wr ⟨hL.1, hL.writtenImage⟩)))))

theorem execAttestReportDone_within (s : State) : Completes (execAttestReportDone s) s [] true :=
  .onMd fun _ hM => .ite hM (.setBytes_win (.wr (.wr hM)))

theorem execCrystalWindow_within (l : LaneId) (die : Fin 3) (x r : ℕ) (s : State) :
    Completes (execCrystalWindow l die x r s) s (if die.val = 2 then [] else [l]) (die.val == 2) := by
  refine State.Within.completes ?_
  match die with
  | 0 => exact .onLane fun _ hL => .hostWindow hL
  | 1 => exact .onLane fun _ hL => .fieldWindow hL
  | 2 => exact .onMd fun _ hM => .ite hM (.iff (fun _ hJ => .ownLog hJ) (.iff (fun _ hJ => .ownLog hJ) (.wr hM)))

theorem execXtalEdgeTimeout_within (l : LaneId) (die : Fin 3) (s : State) :
    Completes (execXtalEdgeTimeout l die s) s (if die.val = 2 then [] else [l]) (die.val == 2) := by
  refine State.Within.completes ?_
  match die with
  | 0 => exact .onLane fun _ hL => .hostCrystalFails hL
  | 1 => exact .onLane fun _ hL => .fieldCrystalFails hL
  | 2 => exact .onMd fun _ hM => .ite (.ownLog hM) hM

theorem execRootLockError_within (l : LaneId) (die : Fin 3) (s : State) :
    Completes (execRootLockError l die s) s (if die.val = 2 then [] else [l]) (die.val == 2) := by
  refine State.Within.completes ?_
  match die with
  | 0 => exact .onLane fun _ hL => .ite (.hostRootFails hL) hL
  | 1 => exact .onLane fun _ hL => .ite (.fieldRootFails hL) hL
  | 2 => exact .onMd fun _ hM => .ite (.ownLog hM) hM

theorem execHfoCheck_within (l : LaneId) (die : Fin 3) (count : ℕ) (s : State) :
    Completes (execHfoCheck l die count s) s (if die.val = 2 then [] else [l]) (die.val == 2) := by
  refine State.Within.completes ?_
  match die with
  | 0 => exact .onLane fun _ hL => .iff (fun _ hK => .hostHfoFails hK) (.wr hL)
  | 1 => exact .onLane fun _ hL => .iff (fun _ hK => .fieldHfoFails hK) (.wr hL)
  | 2 => exact .onMd fun _ hM => .iff (fun _ hK => .ownLog hK) (.wr hM)

theorem execTemperatureOutOfRange_within (l : LaneId) (level : Fin 3) (s : State) :
    Completes (execTemperatureOutOfRange l level s) s (if level.val = 2 then [.a, .b, .c] else [l]) false := by
  have hot (t : State) (m : LaneId) : t.Within (t.onLane m fun L => L.tooHot true) [.a, .b, .c] false :=
    .mono (.onLane fun _ hL => .tooHot hL) (fun _ => by cases m <;> decide) id
  refine State.Within.completes ?_
  split
  · have hlevel : level.val ≠ 2 := by omega
    rw [if_neg hlevel]
    exact .onLane fun _ hL => .tooHot hL
  · have hlevel : level.val = 2 := by omega
    rw [if_pos hlevel]
    exact .trans (.trans (hot s .a) (hot _ .b)) (hot _ .c)

/-- What a command's outcome leads to stays within its reach. -/
theorem Completes.ran {o : Out} {s : State} {ls : List LaneId} {md : Bool} (h : Completes o s ls md) : s.Within (ran s o) ls md := by
  obtain ⟨t, rfl, ht⟩ := h
  exact ht

theorem State.Within.atIndex {s : State} {ls : List LaneId} {md : Bool} {n a : ℕ} {addr : ℕ → ℕ} {g : ℕ → State → State}
    (hg : ∀ i, s.Within (g i s) ls md) : s.Within (s.atIndex n addr a g) ls md := by
  unfold State.atIndex
  split
  · exact hg _
  · exact refl ..

theorem State.Within.atBit {s : State} {ls : List LaneId} {md : Bool} {f : Fld} {a data : ℕ} {o : State → Out}
    (ho : Completes (o s) s ls md) : s.Within (s.atBit f a data o) ls md := ite ho.ran (refl ..)

/-- Where a condition holds, a further change within the same reach. -/
theorem State.Within.when {s t : State} {ls : List LaneId} {md : Bool} {c : Prop} [Decidable c] (h : s.Within t ls md) :
    s.Within (if c then t else s) ls md := ite h (refl ..)

/-- A fold of changes within one reach. -/
theorem State.Within.foldl {β : Type} {s : State} {ls : List LaneId} {md : Bool} {g : State → β → State} {xs : List β}
    (hg : ∀ t x, State.Within t (g t x) ls md) : s.Within (xs.foldl g s) ls md :=
  foldl_keeps (fun t => s.Within t ls md) (fun t x h => h.trans (hg t x)) (refl ..)

theorem State.writeAon_within (s : State) (l : LaneId) (a data : ℕ) (loader : Bool) : s.Within (s.writeAon l a data loader) [l] false := by
  unfold State.writeAon
  extract_lets s₁ s₂ s₃ s₄ s₅ s₆ s₇ s₈
  have h₁ : s.Within s₁ [l] false := .atIndex fun k =>
    .ite (.onLane fun _ hL => .forN (fun _ _ hJ => .wr hJ) hL) (execSeverityWrite_within l k data s).ran
  have h₂ : s.Within s₂ [l] false := h₁.trans (.atBit (execFirstFaultClear_within l false s₁))
  have h₃ : s.Within s₃ [l] false := h₂.trans (.atBit (execLogPop_within l s₂))
  have h₄ : s.Within s₄ [l] false := h₃.trans (.atIndex fun _ => .onLane fun _ hL => .forceWord hL)
  have h₅ : s.Within s₅ [l] false := h₄.trans (.atIndex fun k => (execPendAck_within l k data false s₄).ran)
  have h₆ : s.Within s₆ [l] false := h₅.trans (.atBit (execGRelease_within l s₅))
  have h₇ : s.Within s₇ [l] false := h₆.trans (.atBit (.onLane fun _ hL => .directStart hL))
  have h₈ : s.Within s₈ [l] false := h₇.trans (.atBit (execTokenSubmit_within l s₇))
  exact h₈.trans (.atIndex fun _ => .onLane fun _ hL => .ite hL (.wr hL))

theorem State.writeFabric_within (s : State) (l : LaneId) (a data : ℕ) (loader : Bool) : s.Within (s.writeFabric l a data loader) [l] false := by
  unfold State.writeFabric
  extract_lets frame s₁ s₂ s₃ s₄ s₅ s₆ s₇ s₈ s₉ s₁₀ s₁₁
  have h₁ : s.Within s₁ [l] false := .ite (.refl ..) (.ite (.onLane fun _ hL => .wr hL) (execFrameWrite_within l frame s).ran)
  have h₂ : s.Within s₂ [l] false := h₁.trans (.atBit (execAgreementReady_within l s₁))
  have h₃ : s.Within s₃ [l] false := h₂.trans (.atIndex fun p =>
    .trans (.atBit (execRestored_within l (Fin.ofNat 4 p) s₂)) (.atBit (execGiveUp_within l (Fin.ofNat 4 p) _)))
  have h₄ : s.Within s₄ [l] false := h₃.trans (.atIndex fun p => .atBit (execCheckpointCommit_within l (Fin.ofNat 4 p) s₃))
  have h₅ : s.Within s₅ [l] false := h₄.trans (.when (execSchPost_within l _ s₄).ran)
  have h₆ : s.Within s₆ [l] false := h₅.trans (.atIndex fun t => (execDoneWrite_within l (Fin.ofNat 5 t) _ s₅).ran)
  have h₇ : s.Within s₇ [l] false := h₆.trans (.atIndex fun _ => .onLane fun _ hL => .shadowWord hL)
  have h₈ : s.Within s₈ [l] false := h₇.trans (.atBit (execLaneResetRequest_within l s₇))
  have h₉ : s.Within s₉ [l] false := h₈.trans (.when (.onLane fun _ hL => .requestTarget hL))
  have h₁₀ : s.Within s₁₀ [l] false := h₉.trans (.atBit (execRollbackCommit_within l s₉))
  have h₁₁ : s.Within s₁₁ [l] false := h₁₀.trans (.when (.onLane fun _ hL => .updateFails hL))
  exact h₁₁.trans (.when (execMbxSend_within l _ s₁₁).ran)

theorem State.writeNet_within (s : State) (l : LaneId) (a data : ℕ) : s.Within (s.writeNet l a data) [l] false := by
  unfold State.writeNet
  extract_lets s₁ s₂ s₃ s₄ s₅ s₆ s₇ s₈ s₉
  have h₁ : s.Within s₁ [l] false := .when (execNgbModeReq_within l _ s).ran
  have h₂ : s.Within s₂ [l] false := h₁.trans (.atBit (execWakeTx_within l s₁))
  have h₃ : s.Within s₃ [l] false := h₂.trans (.atBit (execReint_within l s₂))
  have h₄ : s.Within s₄ [l] false := h₃.trans (.when (.onLane fun _ hL => .syncCan hL))
  have h₅ : s.Within s₅ [l] false := h₄.trans (.atBit (execCanRecover_within l s₄))
  have h₆ : s.Within s₆ [l] false := h₅.trans (.when (execCanTxRequest_within l data s₅).ran)
  have h₇ : s.Within s₇ [l] false := h₆.trans (.atBit (execCanPop_within l s₆))
  have h₈ : s.Within s₈ [l] false := h₇.trans (.atBit (execHandoverRequest_within l s₇))
  have h₉ : s.Within s₉ [l] false := h₈.trans (.when (execSaContClr_within l _ s₈).ran)
  exact h₉.trans (.when (.onLane fun _ hL => .refreshSa hL))

theorem State.writeHost_within (s : State) (l : LaneId) (a data : ℕ) (loader : Bool) : s.Within (s.writeHost l a data loader) [l] false :=
  have stored : s.Within (s.onLane l fun L => L.writeWord a data loader) [l] false := .onLane fun _ hL => .writeWord hL
  have acted := ((stored.trans (writeAon_within _ l a data loader)).trans (writeFabric_within _ l a data loader)).trans (writeNet_within _ l a data)
  acted.trans (.onLane fun _ hL => .canEvent (.bgrEvent (.sendTmo hL)))

theorem execRegisterWrite_within (l : LaneId) (pair : Fin 4) (addr data : ℕ) (s : State) :
    Completes (execRegisterWrite l pair addr data s) s [l] false :=
  State.Within.completes (.ite (.refl ..) (.ite (.onLane fun _ hL => .busError hL) (.ite (.onLane fun _ hL => .postWrite hL)
    (.ite (.onLane fun _ hL => .writeMem hL) (.ite (.refl ..) (s.writeHost_within l addr _ false))))))

theorem execDebugWrite_within (l : LaneId) (pair : Fin 4) (place : DebugPlace) (value : ℕ) (s : State) :
    Completes (execDebugWrite l pair place value s) s [l] false := by
  unfold execDebugWrite
  extract_lets L
  split
  · exact .onLane fun _ hL => .raise hL
  · split
    · exact .onLane fun _ hL => .debugRegister hL
    · exact execRegisterWrite_within l pair _ value s

theorem State.loadHost_within (s : State) (l : LaneId) (a data : ℕ) : s.Within (s.loadHost l a data) [l] false :=
  (s.writeHost_within l a data true).trans (.onLane fun _ hL => .listRetained (.noteClamps hL))

theorem State.applyList_within (s : State) (l : LaneId) (g : Image) (fieldToo : Bool) (e : Section) :
    s.Within (s.applyList l g fieldToo e) [l] false :=
  .foldl fun t _ => .ite (t.loadHost_within l _ _) (.ite (.onLane fun _ hL => .loadField hL) (.onLane fun _ hL => .inc hL))

theorem State.Within.eachSection {s : State} {l : LaneId} {kind : ℕ} {g : Image → Section → State → State}
    (hg : ∀ i e t, State.Within t (g i e t) [l] false) : s.Within (s.eachSection l kind g) [l] false := .foldl fun t e => hg _ e t

theorem State.loadHostSide_within (s : State) (l : LaneId) : s.Within (s.loadHostSide l) [l] false :=
  have copied := State.Within.foldl (s := s) (xs := [1, 2, 3, 4, 5]) fun t k =>
    .eachSection (s := t) (kind := k) fun g e _ => .onLane (g := fun L => L.copySection g e) fun _ hL => .copySection hL
  (copied.trans (.onLane fun _ hL => .put (.set (.set (.legalGraph hL))))).trans (.eachSection fun g e t => t.applyList_within l g false e)

theorem State.loadFieldSide_within (s : State) (l : LaneId) : s.Within (s.loadFieldSide l) [l] false := by
  unfold State.loadFieldSide
  extract_lets s₁ s₂ s₃ want absent s₄
  have h₁ : s.Within s₁ [l] false := .onLane fun _ hL => .wr hL
  have h₂ : s.Within s₂ [l] false := h₁.trans (.eachSection fun g e t => t.applyList_within l g true e)
  have h₃ : s.Within s₃ [l] false := h₂.trans (.eachSection fun _ _ _ => .onLane fun _ hL => .sendMap hL)
  have h₄ : s.Within s₄ [l] false := h₃.trans (.eachSection fun g e t => .when (t.applyList_within l g true e))
  exact h₄.trans (.onLane fun _ hL =>
    .toField (.foldl (fun _ _ hJ => .ite (.toField hJ) hJ) (.loadField (.iff (fun _ hJ => .set (.set hJ)) (.wr hL)))))

theorem execConfigurationDone_within (l : LaneId) (s : State) : Completes (execConfigurationDone l s) s [l] false :=
  have hosted (c : Bool) : s.Within (if c then s else s.loadHostSide l) [l] false := .ite (.refl ..) (s.loadHostSide_within l)
  State.Within.completes (.ite (.refl ..)
    (((hosted _).trans (State.loadFieldSide_within _ l)).trans (.onLane fun _ hL => .wr (.finalPass hL))))

end Sys2Proof.Machine
end

-- ==== The invariant of every step ====
section
/-! The wired identities and the canonical form of the memories, at reset and through every step; what every command leaves unchanged. -/

namespace Sys2Proof.Machine

/-- Every command answers a next state within its reach. -/
theorem exec_within (c : Instr) (s : State) : Completes (exec c s) s c.reach.1 c.reach.2 := by
  cases c with
  | registerWrite l pair addr data => exact execRegisterWrite_within l pair addr data s
  | outOfWindowAccess l pair addr => exact execOutOfWindowAccess_within l pair addr s
  | hostDieReset l => exact execHostDieReset_within l s
  | fieldDieReset l => exact execFieldDieReset_within l s
  | aonPowerOn l fieldSide => exact execAonPowerOn_within l fieldSide s
  | hostPowerGood l => exact execHostPowerGood_within l s
  | resetRelease l => exact execResetRelease_within l s
  | pllLock l fieldSide => exact execPllLock_within l fieldSide s
  | pllLockTimeout l fieldSide => exact execPllLockTimeout_within l fieldSide s
  | wakeStepDone l step ok value => exact execWakeStepDone_within l step ok value s
  | norReadDone l ok => exact execNorReadDone_within l ok s
  | norReadTimeout l => exact execNorReadTimeout_within l s
  | configurationDone l => exact execConfigurationDone_within l s
  | testComplete l passed => exact execTestComplete_within l passed s
  | modeReqClear l => exact execModeReqClear_within l s
  | standbyRequest l => exact execStandbyRequest_within l s
  | operateRequest l => exact execOperateRequest_within l s
  | stopRequest l => exact execStopRequest_within l s
  | serviceRequest l => exact execServiceRequest_within l s
  | shutdownRequest l => exact execShutdownRequest_within l s
  | frameStart l => exact execFrameStart_within l s
  | frameWrite l value => exact execFrameWrite_within l value s
  | agreementReady l => exact execAgreementReady_within l s
  | readyTimeout l => exact execReadyTimeout_within l s
  | frameMessageReceipt l src => exact execFrameMessageReceipt_within l src s
  | windowClose l irms => exact execWindowClose_within l irms s
  | laneWaitExpiry l => exact execLaneWaitExpiry_within l s
  | keyoffHoldExpiry l => exact execKeyoffHoldExpiry_within l s
  | keyOnFall l => exact execKeyOnFall_within l s
  | keyOnRise l => exact execKeyOnRise_within l s
  | laneExit l cause => exact execLaneExit_within l cause s
  | deadTimeExpiry l pair => exact execDeadTimeExpiry_within l pair s
  | isolationSettleExpiry l ax => exact execIsolationSettleExpiry_within l ax s
  | autoRejoinReset l => exact execAutoRejoinReset_within l s
  | laneResetRequest l => exact execLaneResetRequest_within l s
  | debugHaltRequest l pair fieldClocks => exact execDebugHaltRequest_within l pair fieldClocks s
  | debugStep l pair => exact execDebugStep_within l pair s
  | debugWrite l pair place value => exact execDebugWrite_within l pair place value s
  | debugReplay l point => exact execDebugReplay_within l point s
  | currentSample l ax mid delay i0 i1 va vb vc => exact execCurrentSample_within l ax mid delay i0 i1 va vb vc s
  | bankSwapRequest l ax target => exact execBankSwapRequest_within l ax target s
  | coefficientWrite l ax bank k value => exact execCoefficientWrite_within l ax bank k value s
  | mapWrite l ax q dIdx qIdx upper value => exact execMapWrite_within l ax q dIdx qIdx upper value s
  | ainConversion l k mv => exact execAinConversion_within l k mv s
  | pinEdge l k rising => exact execPinEdge_within l k rising s
  | pinTimeout l k => exact execPinTimeout_within l k s
  | setpointMessage l => exact execSetpointMessage_within l s
  | setpointApply l ax => exact execSetpointApply_within l ax s
  | spTimeout l ax => exact execSpTimeout_within l ax s
  | axisEnable l ax on => exact execAxisEnable_within l ax on s
  | backgroundConversion l input code outcome => exact execBackgroundConversion_within l input code outcome s
  | referenceCheck l cluster ok => exact execReferenceCheck_within l cluster ok s
  | testPulseStart l ax decayed => exact execTestPulseStart_within l ax decayed s
  | testPulseEnd l ax current length => exact execTestPulseEnd_within l ax current length s
  | resumeDeadline l ax => exact execResumeDeadline_within l ax s
  | transferPoint l g mid => exact execTransferPoint_within l g mid s
  | commit l g => exact execCommit_within l g s
  | compareEvent l out kind => exact execCompareEvent_within l out kind s
  | groupRun l g on => exact execGroupRun_within l g on s
  | padReadbackFault l out => exact execPadReadbackFault_within l out s
  | pwmClockResume l => exact execPwmClockResume_within l s
  | hallEdge l ax wires late => exact execHallEdge_within l ax wires late s
  | hallWireFault l ax wire => exact execHallWireFault_within l ax wire s
  | hallIllegalCode l ax => exact execHallIllegalCode_within l ax s
  | hallSpeedEval l ax => exact execHallSpeedEval_within l ax s
  | hallStandstill l ax => exact execHallStandstill_within l ax s
  | posSet l ax value => exact execPosSet_within l ax value s
  | softLimitWrite l ax upper value => exact execSoftLimitWrite_within l ax upper value s
  | compareArm l ax k value => exact execCompareArm_within l ax k value s
  | fbiEnable l ax code => exact execFbiEnable_within l ax code s
  | latchInstant l => exact execLatchInstant_within l s
  | latchInput l => exact execLatchInput_within l s
  | latchCaptureComplete l => exact execLatchCaptureComplete_within l s
  | railConversion l rail code => exact execRailConversion_within l rail code s
  | energyCheck l rail => exact execEnergyCheck_within l rail s
  | ereset l rail => exact execEreset_within l rail s
  | railEnable l rail on => exact execRailEnable_within l rail on s
  | thresholdWrite l rail which data => exact execThresholdWrite_within l rail which data s
  | lockstepFault l pair rail0 rail1 par0 par1 => exact execLockstepFault_within l pair rail0 rail1 par0 par1 s
  | comparatorTestDone l pair ok => exact execComparatorTestDone_within l pair ok s
  | checkpointCommit l pair => exact execCheckpointCommit_within l pair s
  | restored l pair => exact execRestored_within l pair s
  | giveUp l pair => exact execGiveUp_within l pair s
  | shadowResult l target ch result => exact execShadowResult_within l target ch result s
  | leaseExpiry l => exact execLeaseExpiry_within l s
  | claimTimeout l => exact execClaimTimeout_within l s
  | guardExpiry l => exact execGuardExpiry_within l s
  | claimReceipt l src => exact execClaimReceipt_within l src s
  | releaseReceipt l src => exact execReleaseReceipt_within l src s
  | handoverRequest l => exact execHandoverRequest_within l s
  | handoverReceipt l src => exact execHandoverReceipt_within l src s
  | swapIntervalExpiry l => exact execSwapIntervalExpiry_within l s
  | holdoffExpiry l => exact execHoldoffExpiry_within l s
  | snapshotPush l => exact execSnapshotPush_within l s
  | snapshotReceipt l src => exact execSnapshotReceipt_within l src s
  | saReadbackFault l m => exact execSaReadbackFault_within l m s
  | saContClr l mask => exact execSaContClr_within l mask s
  | sdHoldExpiry l => exact execSdHoldExpiry_within l s
  | saPowerUp l => exact execSaPowerUp_within l s
  | saPowerDown l => exact execSaPowerDown_within l s
  | ssRequest l => exact execSsRequest_within l s
  | ss1TmaxExpiry l => exact execSs1TmaxExpiry_within l s
  | vehTimeout l => exact execVehTimeout_within l s
  | stopLineState l => exact execStopLineState_within l s
  | stopLineFault l => exact execStopLineFault_within l s
  | stoReadbackFault l cluster => exact execStoReadbackFault_within l cluster s
  | freezeTrip l => exact execFreezeTrip_within l s
  | stoTest l cluster passed => exact execStoTest_within l cluster passed s
  | testMaxExpiry l => exact execTestMaxExpiry_within l s
  | sealSample l contacts => exact execSealSample_within l contacts s
  | sealLoopSample l agrees => exact execSealLoopSample_within l agrees s
  | faultArrival l more => exact execFaultArrival_within l more s
  | fieldFaultMessage l => exact execFieldFaultMessage_within l s
  | faultAcknowledge l => exact execFaultAcknowledge_within l s
  | pendAck l k mask same => exact execPendAck_within l k mask same s
  | reactionTimerExpiry l => exact execReactionTimerExpiry_within l s
  | firstFaultClear l same => exact execFirstFaultClear_within l same s
  | faultForce l src => exact execFaultForce_within l src s
  | logPop l => exact execLogPop_within l s
  | severityWrite l k data => exact execSeverityWrite_within l k data s
  | syncSend l => exact execSyncSend_within l s
  | syncReceipt l quarter => exact execSyncReceipt_within l quarter s
  | syncLoss l => exact execSyncLoss_within l s
  | fieldRegisterWrite l pair addr data => exact execFieldRegisterWrite_within l pair addr data s
  | fieldRegisterRead l pair addr => exact execFieldRegisterRead_within l pair addr s
  | readResponse l => exact execReadResponse_within l s
  | readTimeout l pair => exact execReadTimeout_within l pair s
  | creditReturn l port nack => exact execCreditReturn_within l port nack s
  | linkTimeout l link => exact execLinkTimeout_within l link s
  | linkStart l link => exact execLinkStart_within l link s
  | crcRestart l => exact execCrcRestart_within l s
  | controlMessage l => exact execControlMessage_within l s
  | statusItem l => exact execStatusItem_within l s
  | eventItem l => exact execEventItem_within l s
  | evqRead l pair => exact execEvqRead_within l pair s
  | stopRequestMessage l src => exact execStopRequestMessage_within l src s
  | digestRecord l src => exact execDigestRecord_within l src s
  | schPost l op => exact execSchPost_within l op s
  | dispatch l => exact execDispatch_within l s
  | nextRead l target => exact execNextRead_within l target s
  | nextWaitExpiry l target => exact execNextWaitExpiry_within l target s
  | doneWrite l target index => exact execDoneWrite_within l target index s
  | budgetExpiry l target => exact execBudgetExpiry_within l target s
  | hangExpiry l target => exact execHangExpiry_within l target s
  | deadlineExpiry l op => exact execDeadlineExpiry_within l op s
  | noTargetTimeout l op => exact execNoTargetTimeout_within l op s
  | withdrawalRequest l pair => exact execWithdrawalRequest_within l pair s
  | withdrawalTimeout l pair => exact execWithdrawalTimeout_within l pair s
  | nguasFrameReceipt l y good start src bytes => exact execNguasFrameReceipt_within l y good start src bytes s
  | slotTransmit l n e x y collision => exact execSlotTransmit_within l n e x y collision s
  | cycleEnd l => exact execCycleEnd_within l s
  | actionInstant l => exact execActionInstant_within l s
  | actionInstantNotice l => exact execActionInstantNotice_within l s
  | coldstartTimerExpiry l collision => exact execColdstartTimerExpiry_within l collision s
  | ngbModeReq l value => exact execNgbModeReq_within l value s
  | wakeTx l => exact execWakeTx_within l s
  | wakePatternSend l => exact execWakePatternSend_within l s
  | reint l => exact execReint_within l s
  | nguasWakeDetect l ch => exact execNguasWakeDetect_within l ch s
  | canFrameReceived l ident age ext remote fdf brs esi dlc data => exact execCanFrameReceived_within l ident age ext remote fdf brs esi dlc data s
  | canTxRequest l mask => exact execCanTxRequest_within l mask s
  | canTxDone l => exact execCanTxDone_within l s
  | canRecover l => exact execCanRecover_within l s
  | canPop l => exact execCanPop_within l s
  | canError l tx eight => exact execCanError_within l tx eight s
  | scrubSweep l ms => exact execScrubSweep_within l ms s
  | scrubLate l => exact execScrubLate_within l s
  | tokenSubmit l => exact execTokenSubmit_within l s
  | tokenVerified l => exact execTokenVerified_within l s
  | slicePeriodExpiry l => exact execSlicePeriodExpiry_within l s
  | sliceDone l ok => exact execSliceDone_within l ok s
  | shutdownTestDone l passed unit => exact execShutdownTestDone_within l passed unit s
  | directTestStart l test unit segment => exact execDirectTestStart_within l test unit segment s
  | directTestDone l ok => exact execDirectTestDone_within l ok s
  | crystalWindow l die x r => exact execCrystalWindow_within l die x r s
  | xtalEdgeTimeout l die => exact execXtalEdgeTimeout_within l die s
  | rootLockError l die => exact execRootLockError_within l die s
  | xfHoldExpiry l => exact execXfHoldExpiry_within l s
  | hfoCheck l die count => exact execHfoCheck_within l die count s
  | switchComplete l die d time => exact execSwitchComplete_within l die d time s
  | switchTimeout l die d time => exact execSwitchTimeout_within l die d time s
  | rampStep l die d time => exact execRampStep_within l die d time s
  | sscPeriodStart l die => exact execSscPeriodStart_within l die s
  | doze l pair => exact execDoze_within l pair s
  | blockAnswer l id busy => exact execBlockAnswer_within l id busy s
  | drainTimeout l id => exact execDrainTimeout_within l id s
  | fieldOffDone l inTime => exact execFieldOffDone_within l inTime s
  | retentionSaveDone l ok => exact execRetentionSaveDone_within l ok s
  | regionOffDone l => exact execRegionOffDone_within l s
  | privilegedWake l which => exact execPrivilegedWake_within l which s
  | regionPowerUp l fieldSide => exact execRegionPowerUp_within l fieldSide s
  | gRelease l => exact execGRelease_within l s
  | supplyOutOfRange l which => exact execSupplyOutOfRange_within l which s
  | dpRead addr n => exact execDpRead_within addr n s
  | dpWrite addr data => exact execDpWrite_within addr data s
  | dpStatus => exact execDpStatus_within s
  | dpIdent => exact execDpIdent_within s
  | unknownOpcode => exact execUnknownOpcode_within s
  | stageOpen => exact execStageOpen_within s
  | stageClose => exact execStageClose_within s
  | stageDiscard => exact execStageDiscard_within s
  | updateStart => exact execUpdateStart_within s
  | logAck => exact execLogAck_within s
  | attest => exact execAttest_within s
  | certWrite => exact execCertWrite_within s
  | stagingEraseDone => exact execStagingEraseDone_within s
  | stagingProgramDone => exact execStagingProgramDone_within s
  | imageVerifyDone => exact execImageVerifyDone_within s
  | attestReportDone => exact execAttestReportDone_within s
  | telemetrySend l dieTemps => exact execTelemetrySend_within l dieTemps s
  | telemetryReceipt l => exact execTelemetryReceipt_within l s
  | telemetryStale l => exact execTelemetryStale_within l s
  | logRecordReceipt l => exact execLogRecordReceipt_within l s
  | logRecordProgrammed ok => exact execLogRecordProgrammed_within ok s
  | mdSensorSample t0 t1 humidity supplyOk => exact execMdSensorSample_within t0 t1 humidity supplyOk s
  | stateBlockSave => exact execStateBlockSave_within s
  | updateOffer l => exact execUpdateOffer_within l s
  | updateEraseDone l => exact execUpdateEraseDone_within l s
  | updateChunk l n ok => exact execUpdateChunk_within l n ok s
  | updateVerifyDone l => exact execUpdateVerifyDone_within l s
  | updateChunkTimeout l => exact execUpdateChunkTimeout_within l s
  | updateReply l => exact execUpdateReply_within l s
  | identityRecord l => exact execIdentityRecord_within l s
  | mbxSend l ident => exact execMbxSend_within l ident s
  | rollbackCommit l => exact execRollbackCommit_within l s
  | mdDormantEntry => exact execMdDormantEntry_within s
  | mdWake => exact execMdWake_within s
  | ssReqRelease l => exact execSsReqRelease_within l s
  | supplyInRange l which => exact execSupplyInRange_within l which s
  | temperatureOutOfRange l level => exact execTemperatureOutOfRange_within l level s
  | parityError l src part => exact execParityError_within l src part s
  | debugResume l pair => exact execDebugResume_within l pair s
  | busOffRecoveryComplete l => exact execBusOffRecoveryComplete_within l s
  | boundaryScanInstruction l full => exact execBoundaryScanInstruction_within l full s
  | registerWriteItem l => exact execRegisterWriteItem_within l s

/-- One nanosecond, once physical time and the management die have counted, reaches every lane. -/
theorem State.tick_within (s : State) : { s with phys := s.phys + 1, md := s.md.tick (s.phys + 1) }.Within s.tick [.a, .b, .c] false :=
  have counted (t : State) (m : LaneId) : t.Within (t.onLane m Lane.tick) [.a, .b, .c] false :=
    .mono (.onLane fun _ hL => .tick hL) (fun _ => by cases m <;> decide) id
  .trans (.trans (counted _ .a) (counted _ .b)) (counted _ .c)

/-- Lanes are the same under another queue, time or management die. -/
theorem State.lane_update (s : State) (M : Md) (phys : ℕ) (pending : List Instr) (m : LaneId) :
    { s with md := M, phys := phys, pending := pending }.lane m = s.lane m := by
  cases m <;> rfl

/-- A change within a reach keeps the wired identity and the canonical form. -/
theorem State.Within.keepsInvariant {s t : State} {ls : List LaneId} {md : Bool} (h : s.Within t ls md) (hw : s.wired) (hm : s.memoriesWf) :
    t.wired ∧ t.memoriesWf :=
  ⟨h.wired hw, fun m => h.laneWf m (hm.1 m), h.mdWf hm.2⟩

theorem step_of_pending_nil {s : State} (h : s.pending = []) : step s = .next s.tick := by rw [step, h]

theorem step_of_pending_cons {s : State} {c : Instr} {r : List Instr} (h : s.pending = c :: r) :
    step s = exec c { s with pending := r } := by rw [step, h]

/-- Settles O4: nothing is listed in the memories of the package at reset. -/
theorem invariantHoldsAtReset : Obligations.InvariantHoldsAtReset := by
  unfold Obligations.InvariantHoldsAtReset
  refine ⟨fun l => ?_, fun l => ?_, Memory.nil_wf _, Memory.nil_wf _⟩
  · cases l <;> rfl
  · cases l <;> exact ⟨Memory.nil_wf _, Memory.nil_wf _⟩

/-- Settles O5: each command and each nanosecond stays within its reach (`exec_within`, `State.tick_within`), which keeps the
identities and the memories of every lane and of the management die. -/
theorem everyStepKeepsTheInvariant : Obligations.EveryStepKeepsTheInvariant := by
  unfold Obligations.EveryStepKeepsTheInvariant
  intro s hw hm
  cases hq : s.pending with
  | nil =>
    have h := s.tick_within
    obtain ⟨hw', hm'⟩ := h.keepsInvariant (fun m => by rw [s.lane_update]; exact hw m)
      ⟨fun m => by rw [s.lane_update]; exact hm.1 m, Md.MemWf.tick hm.2⟩
    exact ⟨s.tick, step_of_pending_nil hq, hw', hm', h.variant⟩
  | cons c r =>
    obtain ⟨t, ht, h⟩ := exec_within c { s with pending := r }
    obtain ⟨hw', hm'⟩ := h.keepsInvariant (fun m => by rw [s.lane_update]; exact hw m)
      ⟨fun m => by rw [s.lane_update]; exact hm.1 m, hm.2⟩
    exact ⟨t, (step_of_pending_cons hq).trans ht, hw', hm', h.variant⟩

/-- Settles O6: each command stays within its reach (`exec_within`), and on a PG930-D lane C is not fitted. -/
theorem commandsStayWithinTheirReach : Obligations.CommandsStayWithinTheirReach := by
  unfold Obligations.CommandsStayWithinTheirReach
  refine ⟨fun c s => ?_, fun s t hd hstep => ?_⟩
  · obtain ⟨t, ht, h⟩ := exec_within c s
    exact ⟨t, ht, h.pending, h.phys, h.variant, h.outside, h.outsideMd⟩
  · have hc : s.variant.fitted .c = false := by rw [hd]; rfl
    cases hq : s.pending with
    | nil =>
      obtain rfl := Host.Outcome.next.inj ((step_of_pending_nil hq).symm.trans hstep)
      exact s.tick_within.unfitted .c hc
    | cons c r =>
      obtain ⟨u, hu, h⟩ := exec_within c { s with pending := r }
      obtain rfl := Host.Outcome.next.inj (hu.symm.trans ((step_of_pending_cons hq).symm.trans hstep))
      exact h.unfitted .c hc

end Sys2Proof.Machine
end

-- ==== Words written to memory ====
section
/-! What REGISTER_WRITE does by the kind of its address, and what an event to a pair changes. -/

namespace Sys2Proof.Machine

/-! ### A number in memory -/

/-- The bytes of a number read as the number, less what they have no room for. -/
theorem numOf_bytesOf (n v : ℕ) : numOf (bytesOf n v) = v % 256 ^ n := by
  unfold numOf bytesOf
  induction n generalizing v with
  | zero => simp [Nat.mod_one]
  | succ n ih =>
    have hstep : (List.range n).map ((fun i => BitVec.ofNat 8 (v / 256 ^ i)) ∘ Nat.succ) =
        (List.range n).map fun i => BitVec.ofNat 8 (v / 256 / 256 ^ i) :=
      List.map_congr_left fun i _ => by simp [Nat.pow_succ', Nat.div_div_eq_div_mul]
    rw [List.range_succ_eq_map, List.map_cons, List.map_map, List.foldr_cons, hstep, ih, Nat.pow_succ', Nat.mod_mul]
    simp

/-- A number written to memory reads back. -/
theorem Memory.num_setNum (m : Memory) (d : Byte) (a n v : ℕ) : (m.setNum d a n v).num d a n = v % 256 ^ n := by
  have hlen : (bytesOf n v).length = n := by simp [bytesOf]
  have hbytes : (m.setNum d a n v).bytes d a n = bytesOf n v :=
    List.ext_getElem (by simp [Memory.bytes, hlen]) fun i hi _ => by
      have hi' : i < (bytesOf n v).length := by simpa [Memory.bytes, hlen] using hi
      simp [Memory.bytes, Memory.setNum, Memory.byte_setBytes_inside _ _ _ _ _ hi']
  rw [Memory.num, hbytes]
  exact numOf_bytesOf n v

/-- Nothing outside a number written to memory changes. -/
theorem Memory.byte_setNum_outside (m : Memory) (d : Byte) (a n v b : ℕ) (h : b < a ∨ a + n ≤ b) :
    (m.setNum d a n v).byte d b = m.byte d b :=
  Memory.byte_setBytes_outside _ m d a b (by simpa [bytesOf] using h)

/-! ### Address ranges -/

theorem sramRange_disjoint {a : ℕ} (h : sramRange a = true) : tcmRange a = false ∧ hostWindow a = false ∧ fieldAddr a = false := by
  simp only [sramRange, tcmRange, hostWindow, fieldAddr, Bool.and_eq_true, Bool.and_eq_false_iff, decide_eq_true_eq, decide_eq_false_iff_not] at *
  omega

theorem tcmRange_disjoint {a : ℕ} (h : tcmRange a = true) : hostWindow a = false ∧ fieldAddr a = false := by
  simp only [tcmRange, hostWindow, fieldAddr, Bool.and_eq_false_iff, decide_eq_true_eq, decide_eq_false_iff_not] at *
  omega

theorem hostWindow_not_fieldAddr {a : ℕ} (h : hostWindow a = true) : fieldAddr a = false := by
  simp only [hostWindow, fieldAddr, Bool.and_eq_true, Bool.and_eq_false_iff, decide_eq_true_eq, decide_eq_false_iff_not] at *
  omega

theorem graphRange_sram {a : ℕ} (h : graphRange a = true) : sramRange a = true ∧ scheduleRange a = false := by
  simp only [graphRange, sramRange, scheduleRange, Bool.and_eq_true, Bool.and_eq_false_iff, decide_eq_true_eq, decide_eq_false_iff_not] at *
  omega

theorem scheduleRange_sram {a : ℕ} (h : scheduleRange a = true) : sramRange a = true ∧ graphRange a = false := by
  simp only [graphRange, sramRange, scheduleRange, Bool.and_eq_true, Bool.and_eq_false_iff, decide_eq_true_eq, decide_eq_false_iff_not] at *
  omega

theorem assigned_of_sramRange {a : ℕ} (h : sramRange a = true) : assigned a = true := by simp [assigned, h]

theorem assigned_of_tcmRange {a : ℕ} (h : tcmRange a = true) : assigned a = true := by simp [assigned, h]

theorem assigned_of_hostWindow {a : ℕ} (h : hostWindow a = true) : assigned a = true := by simp [assigned, h]

/-! ### REGISTER_WRITE by the kind of its address -/

theorem State.onLane_id (s : State) (l : LaneId) : s.onLane l id = s := by
  unfold State.onLane
  split
  · cases l <;> rfl
  · rfl

section
variable {s : State} {l : LaneId} {p : Fin 4} {a d : ℕ}

theorem registerWrite_held (h : (s.lane l).pairHeld p = true) : exec (.registerWrite l p a d) s = .next s := by
  show Host.Outcome.next _ = _
  rw [if_pos h]

theorem registerWrite_unassigned (hp : (s.lane l).pairHeld p = false) (h : assigned a = false) :
    exec (.registerWrite l p a d) s = .next (s.onLane l fun L => L.busError p) := by
  show Host.Outcome.next _ = _
  simp [hp, h]

theorem registerWrite_memory (hp : (s.lane l).pairHeld p = false) (h : assigned a = true) (hf : fieldAddr a = false)
    (hh : hostWindow a = false) : exec (.registerWrite l p a d) s = .next (s.onLane l fun L => L.writeMem p a d) := by
  show Host.Outcome.next _ = _
  simp [hp, h, hf, hh]

theorem registerWrite_misaligned (h : hostWindow a = true) (ha : a % 4 ≠ 0) : exec (.registerWrite l p a d) s = .next s := by
  show Host.Outcome.next _ = _
  simp [assigned_of_hostWindow h, hostWindow_not_fieldAddr h, h, ha]

theorem outOfWindowAccess_assigned (h : assigned a = true ∨ (s.lane l).pairHeld p = true) :
    exec (.outOfWindowAccess l p a) s = .next (s.onLane l id) :=
  congrArg Host.Outcome.next (onLane_congr s l (by rcases h with h | h <;> simp [h]))

theorem outOfWindowAccess_unassigned (hp : (s.lane l).pairHeld p = false) (h : assigned a = false) :
    exec (.outOfWindowAccess l p a) s = .next (s.onLane l fun L => L.busError p) :=
  congrArg Host.Outcome.next (onLane_congr s l (by simp [hp, h]))

end

/-! ### What an event to a pair changes -/

section
variable {L K M : Lane} {fs gs : List Fld}

theorem Lane.onlyFields_mono (h : L.onlyFields K fs) (hs : fs ⊆ gs) : L.onlyFields K gs := by
  obtain ⟨r, rfl, hr⟩ := h
  exact ⟨r, rfl, fun f hf => hr f fun hm => hf (List.map_subset _ hs hm)⟩

theorem Lane.onlyFields_trans (h : L.onlyFields K fs) (h' : K.onlyFields M fs) : L.onlyFields M fs := by
  obtain ⟨r, rfl, hr⟩ := h
  obtain ⟨q, rfl, hq⟩ := h'
  exact ⟨q, rfl, fun f hf => (hq f hf).trans (hr f hf)⟩

/-- A lane that differs in listed fields alone keeps its memories and its identity. -/
theorem Lane.onlyFields_keepsBut (h : L.onlyFields K fs) : L.keepsBut K fs := by
  obtain ⟨r, rfl, hr⟩ := h
  exact ⟨rfl, rfl, rfl, hr⟩

end

theorem testBit_putBit_true (n k : ℕ) : (Sys2Proof.putBit n k true).testBit k = true := by
  simp only [Sys2Proof.putBit, setBit, if_true]
  split
  · assumption
  · rename_i h
    simpa [Nat.add_comm n, Nat.testBit_two_pow_add_eq] using h

/-- A bit set within the width of its field reads as set. -/
theorem Lane.bitOf_putBit_true (L : Lane) {f : Fld} {k : ℕ} (h : k < f.width) : (L.putBit f k true).bitOf f k = true := by
  simp [Lane.bitOf, Nat.testBit_mod_two_pow, h, testBit_putBit_true]

theorem Lane.bitOf_onlyFields {L K : Lane} {fs : List Fld} (h : L.onlyFields K fs) {f : Fld} (hf : f.key ∉ fs.map Fld.key) (k : ℕ) :
    K.bitOf f k = L.bitOf f k := by rw [Lane.bitOf, Lane.bitOf, Lane.onlyFields_rd h f hf]

theorem Int.events_mem {p : ℕ} (hp : p < 4) : Int.events p ∈ eventFields := by
  interval_cases p <;> simp [eventFields]

/-- What a waking pair writes (R420). -/
def wakeFields : List Fld := [PSC_STATUS.DOZED, Int.wakePend, PSC_STATUS.LEVEL_NOW, PSC_STATUS.CORE]

theorem Lane.wakePair_onlyFields (L : Lane) (p : ℕ) : L.onlyFields (L.wakePair p) wakeFields := by
  unfold Lane.wakePair
  split
  · exact L.onlyFields_refl _
  · extract_lets K
    have hK : L.onlyFields K wakeFields := by
      have hdoze : L.onlyFields (L.putBit PSC_STATUS.DOZED p false) wakeFields :=
        Lane.onlyFields_wr (L.onlyFields_refl _) _ _ (by simp [wakeFields])
      exact ite_keeps (fun J => L.onlyFields J wakeFields) (Lane.onlyFields_wr hdoze Int.wakePend 1 (by simp [wakeFields])) hdoze
    exact ite_keeps (fun J => L.onlyFields J wakeFields) (Lane.onlyFields_wr (Lane.onlyFields_wr hK PSC_STATUS.LEVEL_NOW 0
      (by simp [wakeFields])) PSC_STATUS.CORE 0 (by simp [wakeFields])) hK

theorem Lane.eventTo_onlyFields (L : Lane) {p : ℕ} (ev : ℕ) (hp : p < 4) : L.onlyFields (L.eventTo p ev) eventFields := by
  have hput : L.onlyFields (L.putBit (Int.events p) ev true) eventFields :=
    Lane.onlyFields_wr (L.onlyFields_refl _) _ _ (Int.events_mem hp)
  refine ite_keeps (fun J => L.onlyFields J eventFields) (L.onlyFields_refl _) (ite_keeps (fun J => L.onlyFields J eventFields) ?_ hput)
  exact Lane.onlyFields_trans hput (Lane.onlyFields_mono (Lane.wakePair_onlyFields _ p) (by simp [wakeFields, eventFields]))

theorem Int.events_key_not_wakeFields {p : ℕ} (hp : p < 4) : (Int.events p).key ∉ wakeFields.map Fld.key := by
  interval_cases p <;> decide

/-- An event stands at a pair that is neither fenced nor withdrawn. -/
theorem Lane.bitOf_eventTo (L : Lane) {p ev : ℕ} (hp : p < 4) (hev : ev < 32) (hf : L.rd (LSC_PAIR_STATUS.STATE p) ≠ 3)
    (hw : L.rd (LSC_PAIR_STATUS.STATE p) ≠ 5) : (L.eventTo p ev).bitOf (Int.events p) ev = true := by
  have hput : (L.putBit (Int.events p) ev true).bitOf (Int.events p) ev = true := L.bitOf_putBit_true hev
  simp only [Lane.eventTo, hf, hw, decide_false, Bool.or_false, Bool.false_eq_true, if_false]
  refine ite_keeps (fun J : Lane => J.bitOf (Int.events p) ev = true) ?_ hput
  rw [Lane.bitOf_onlyFields (Lane.wakePair_onlyFields _ p) (Int.events_key_not_wakeFields hp)]
  exact hput

theorem Lane.state_ne_fenced_of_not_held {L : Lane} {p : ℕ} (h : L.pairHeld p = false) : L.rd (LSC_PAIR_STATUS.STATE p) ≠ 3 := by
  intro h3
  simp [Lane.pairHeld, h3] at h

/-! ### A word written to memory -/

section
variable {L : Lane} {p a d : ℕ}

theorem Lane.writeMem_tcm (h : tcmRange a = true) : L.writeMem p a d = L.setMem (tcmAddr p a) 4 d := by
  simp [Lane.writeMem, h]

theorem Lane.writeMem_sram (h : sramRange a = true) (hg : ¬ (graphRange a = true ∧ L.on SCH_CFG.LOCK = true))
    (hs : ¬ (scheduleRange a = true ∧ L.on Int.ngbLock = true)) : L.writeMem p a d = L.setMem a 4 d := by
  obtain ⟨ht, -, -⟩ := sramRange_disjoint h
  simp only [Lane.writeMem, ht, Bool.false_eq_true, if_false, Bool.and_eq_true, if_neg hg, if_neg hs]

theorem Lane.writeMem_lockedGraph (h : graphRange a = true) (hl : L.on SCH_CFG.LOCK = true) :
    L.writeMem p a d = L.inc SCH_STATUS.GRAPH_WR_REFUSED := by
  obtain ⟨ht, -, -⟩ := sramRange_disjoint (graphRange_sram h).1
  simp [Lane.writeMem, ht, h, hl]

theorem Lane.writeMem_lockedSchedule (h : scheduleRange a = true) (hl : L.on Int.ngbLock = true) : L.writeMem p a d = L := by
  obtain ⟨hs, hg⟩ := scheduleRange_sram h
  obtain ⟨ht, -, -⟩ := sramRange_disjoint hs
  simp [Lane.writeMem, ht, hg, h, hl]

/-- A word in memory reads back, nothing around it changes, and no register does. -/
theorem Lane.setMem_word (L : Lane) (a d : ℕ) : (L.setMem a 4 d).memWord a 4 = d % 2 ^ 32 ∧
    (∀ b, b < a ∨ a + 4 ≤ b → (L.setMem a 4 d).mem.byte ramDefault b = L.mem.byte ramDefault b) ∧ (L.setMem a 4 d).regs = L.regs :=
  ⟨Memory.num_setNum _ _ _ _ _, fun b hb => Memory.byte_setNum_outside _ _ _ _ _ b hb, rfl⟩

end

/-- Settles O33: the address decides which of the meanings of a write applies, and each has its own lemma above. -/
theorem coreWritesToMemory : Obligations.CoreWritesToMemory := by
  unfold Obligations.CoreWritesToMemory
  refine ⟨?_, ?_, ?_, ?_, ?_, ?_, ?_, ?_⟩
  · rintro s l p a d _ rfl hp ha hg hs
    obtain ⟨-, hh, hf⟩ := sramRange_disjoint ha
    refine completes_of_exec (registerWrite_memory hp (assigned_of_sramRange ha) hf hh) ?_
    rw [Lane.writeMem_sram ha hg hs]
    exact Lane.setMem_word ..
  · rintro s l p a d _ rfl hp ha
    obtain ⟨hh, hf⟩ := tcmRange_disjoint ha
    refine completes_of_exec (registerWrite_memory hp (assigned_of_tcmRange ha) hf hh) ?_
    rw [Lane.writeMem_tcm ha]
    exact Lane.setMem_word ..
  · rintro s l p a d _ rfl hp ha hl
    obtain ⟨hs, -⟩ := graphRange_sram ha
    obtain ⟨-, hh, hf⟩ := sramRange_disjoint hs
    refine completes_of_exec (registerWrite_memory hp (assigned_of_sramRange hs) hf hh) ?_
    rw [Lane.writeMem_lockedGraph ha hl]
    exact ⟨by simp [Nat.mod_eq_of_lt, SCH_STATUS.GRAPH_WR_REFUSED], Lane.onlyFields_wr (Lane.onlyFields_refl _ _) _ _ (by simp)⟩
  · intro s l p a d ha hl
    obtain ⟨hs, -⟩ := scheduleRange_sram ha
    obtain ⟨-, hh, hf⟩ := sramRange_disjoint hs
    cases hp : (s.lane l).pairHeld p
    · rw [registerWrite_memory hp (assigned_of_sramRange hs) hf hh, onLane_congr s l (h := id) (Lane.writeMem_lockedSchedule ha hl)]
    · rw [registerWrite_held hp, s.onLane_id]
  · rintro s l p a d _ rfl hp ha
    exact ⟨_, registerWrite_unassigned hp ha, outOfWindowAccess_unassigned hp ha,
      fun hw => Lane.bitOf_eventTo _ p.isLt (by decide) (Lane.state_ne_fenced_of_not_held hp) hw,
      Lane.onlyFields_keepsBut (Lane.eventTo_onlyFields _ 1 p.isLt)⟩
  · exact fun s l p a ha => outOfWindowAccess_assigned (.inl ha)
  · exact fun s l p a d ha hm => registerWrite_misaligned ha hm
  · exact fun s l p a d hp => ⟨registerWrite_held hp, outOfWindowAccess_assigned (.inr hp)⟩

end Sys2Proof.Machine
end

-- ==== The exit decision ====
section
/-! What the latching of E0 leaves as it is, and the state in which a lane stands exited. -/

namespace Sys2Proof.Machine

/-! ### What an exit leaves once it is latched -/

/-- What decides that a lane stands exited, and what an abort of a power entry asks: the exit decision, the state of the collector, and
the fields of the entry under way. All of them are of the host die's own region. -/
def exitFields : List Fld :=
  [Int.e0, BGR_STATE.STATE, BGR_STATE.ESC_TIMER, PSC_STATUS.STAGE, Int.pscN3, Int.pscN4, Int.pscAsk]

/-- `K` reads as `O` in what decides that a lane stands exited. -/
def Lane.KeepsExit (O K : Lane) : Prop := ∀ f ∈ exitFields, K.rd f = O.rd f

/-- A field of another region than the host die's own has another key. -/
theorem Fld.key_not_exit_of_home {f : Fld} (h : (f.home == .host) = false) : f.key ∉ exitFields.map Fld.key := by
  have hkey : 2 ^ 48 ≤ f.key := by
    have : 1 ≤ f.home.code := by
      cases hf : f.home <;> simp_all [Home.code]
    unfold Fld.key
    omega
  have hlow : ∀ k ∈ exitFields.map Fld.key, k < 2 ^ 48 := by decide
  exact fun hm => absurd (hlow _ hm) (by omega)

/-- The fields at an address of the NET region are none of them. -/
theorem slotsAt_key_of_net {a : ℕ} (ha : retRegion a = some 1) {x : Row × Fld} (hx : x ∈ slotsAt a) :
    x.2.key ∉ exitFields.map Fld.key := by
  have hrange : 0x40080000 ≤ a ∧ a < 0x400A0000 := by
    unfold retRegion at ha
    split_ifs at ha with _ hnet
    · simpa using hnet
    · simp at ha
    · simp at ha
  have hsev : sevSlots a = [] := by
    have h1 : ¬ (0x40000100 ≤ a ∧ a < 0x40000180) := by omega
    have h2 : ¬ (0x60000100 ≤ a ∧ a < 0x60000180) := by omega
    simp only [sevSlots, if_neg h1, if_neg h2]
  have hpos : 8 * x.2.addr + x.2.lsb < 8 * a + 32 ∧ a - 4 ≤ x.2.addr := by
    rw [slotsAt, hsev, List.append_nil] at hx
    obtain ⟨hx, hp⟩ := List.mem_filter.1 hx
    obtain ⟨r, -, hr⟩ := List.mem_flatMap.1 hx
    obtain ⟨c, hc, hat⟩ := List.mem_filterMap.1 hr
    have haddr : x.2.addr = c := by
      unfold Row.at? at hat
      split at hat
      · cases hat
        rfl
      · cases hat
    have hbelow : x.2.pos < 8 * a + 32 := of_decide_eq_true (Bool.and_eq_true_iff.1 hp).1
    unfold Fld.pos at hbelow
    simp only [List.mem_cons, List.not_mem_nil, or_false] at hc
    omega
  have hkey : x.2.home.code * 2 ^ 48 + 0x4007FFFC * 32 ≤ x.2.key ∧ x.2.key < x.2.home.code * 2 ^ 48 + 0x400A0008 * 32 + 64 := by
    unfold Fld.key
    omega
  have hout : ∀ k ∈ exitFields.map Fld.key, k < 0x4007FFFC * 32 ∨ 0x400A0008 * 32 + 64 ≤ k ∧ k < 2 ^ 48 := by decide
  intro hm
  have := hout _ hm
  omega

namespace Lane.KeepsExit

variable {O L K : Lane}

theorem refl (L : Lane) : L.KeepsExit L := fun _ _ => rfl

/-- A write to a field that is none of them. -/
theorem wr {f : Fld} {v : ℕ} (hf : f.key ∉ exitFields.map Fld.key) (h : O.KeepsExit L) : O.KeepsExit (L.wr f v) :=
  fun g hg => (L.rd_wr_ne f g v fun e => hf (e ▸ List.mem_map_of_mem hg)).trans (h g hg)

/-- A write to a field of another region. -/
theorem wrAway {f : Fld} {v : ℕ} (hf : (f.home == .host) = false) (h : O.KeepsExit L) : O.KeepsExit (L.wr f v) :=
  wr (Fld.key_not_exit_of_home hf) h

theorem ite {c : Prop} [Decidable c] (hL : O.KeepsExit L) (hK : O.KeepsExit K) : O.KeepsExit (if c then L else K) :=
  ite_keeps _ hL hK

theorem iff {b : Bool} {g : Lane → Lane} (hg : ∀ K, O.KeepsExit K → O.KeepsExit (g K)) (h : O.KeepsExit L) : O.KeepsExit (L.iff b g) :=
  .ite (hg L h) h

theorem foldl {β : Type} {g : Lane → β → Lane} {xs : List β} (hg : ∀ x ∈ xs, ∀ K, O.KeepsExit K → O.KeepsExit (g K x))
    (h : O.KeepsExit L) :
    O.KeepsExit (xs.foldl g L) := by
  induction xs generalizing L with
  | nil => exact h
  | cons x r ih => exact ih (fun y hy => hg y (List.mem_cons_of_mem _ hy)) (hg x List.mem_cons_self L h)

theorem forN {n : ℕ} {g : ℕ → Lane → Lane} (hg : ∀ i < n, ∀ K, O.KeepsExit K → O.KeepsExit (g i K)) (h : O.KeepsExit L) :
    O.KeepsExit (L.forN n g) := .foldl (fun i hi K hK => hg i (List.mem_range.1 hi) K hK) h

/-! Operations of the host die -/

theorem wakePair {p : ℕ} (h : O.KeepsExit L) : O.KeepsExit (L.wakePair p) :=
  .ite h (.iff (fun _ hJ => .wr (by decide) (.wr (by decide) hJ)) (.iff (fun _ hK => .wr (by decide) hK) (.wr (by decide) h)))

theorem eventTo {p ev : ℕ} (hp : p < 4) (h : O.KeepsExit L) : O.KeepsExit (L.eventTo p ev) :=
  .ite h (.iff (fun _ hK => .wakePair hK)
    (.wr ((by decide : ∀ i < 4, (Int.events i).key ∉ exitFields.map Fld.key) p hp) h))

theorem event {ev : ℕ} (h : O.KeepsExit L) : O.KeepsExit (L.event ev) := .forN (fun _ hp _ hK => .eventTo hp hK) h

theorem raise {src : ℕ} (h : O.KeepsExit L) : O.KeepsExit (L.raise src) := h

theorem sendMbx {m : MbxUp} (h : O.KeepsExit L) : O.KeepsExit (L.sendMbx m) := .ite h (.wr (by decide) h)

theorem pump (h : O.KeepsExit L) : O.KeepsExit L.pump := .wr (by decide) (.wr (by decide) h)

theorem toField {i : DownItem} (h : O.KeepsExit L) : O.KeepsExit (L.toField i) := .ite (.pump h) h

theorem setFelt {p : ℕ} {ms : List FeltMsg} (h : O.KeepsExit L) : O.KeepsExit (L.setFelt p ms) := .ite h h

theorem setFeltWait {p : ℕ} {ms : List FeltMsg} (h : O.KeepsExit L) : O.KeepsExit (L.setFeltWait p ms) := .ite h h

theorem pumpFelt {p : ℕ} (hp : p < 2) (h : O.KeepsExit L) : O.KeepsExit (L.pumpFelt p) :=
  .wr ((by decide : ∀ i < 2, (FLT_P_STATUS.OUTSTANDING i).key ∉ exitFields.map Fld.key) p hp)
    (.wr ((by decide : ∀ i < 2, (FLT_P_STATUS.CREDITS i).key ∉ exitFields.map Fld.key) p hp) (.setFeltWait (.setFelt h)))

theorem pumpPorts (h : O.KeepsExit L) : O.KeepsExit L.pumpPorts := .pumpFelt (by decide) (.pumpFelt (by decide) (.pump h))

theorem sendFelt {p : ℕ} {m : FeltMsg} (hp : p < 2) (h : O.KeepsExit L) : O.KeepsExit (L.sendFelt p m) := .ite (.pumpFelt hp (.setFeltWait h)) h

theorem sendFeltAll {m : FeltMsg} (h : O.KeepsExit L) : O.KeepsExit (L.sendFeltAll m) := .sendFelt (by decide) (.sendFelt (by decide) h)

theorem writeFirst {a : Arrival} {forced observed : Bool} {at' : ℕ × ℕ} (h : O.KeepsExit L) : O.KeepsExit (L.writeFirst a forced observed at') :=
  .wr (by decide) (.iff (fun _ hJ => .wr (by decide) hJ) (.wr (by decide) (.wr (by decide) (.wr (by decide) (.wr (by decide)
    (.wr (by decide) (.wr (by decide) (.wr (by decide) h))))))))

theorem exitRecord {k : ℕ} (h : O.KeepsExit L) : O.KeepsExit (L.exitRecord k) := .ite (.writeFirst h) (.writeFirst h)

theorem syncSched (h : O.KeepsExit L) : O.KeepsExit L.syncSched := by
  have apart : ∀ t < 5, (SCH_T_STATUS.QDEPTH t).key ∉ exitFields.map Fld.key ∧ (SCH_T_STATUS.SLOW t).key ∉ exitFields.map Fld.key ∧
      (SCH_T_STATUS.EXEC t).key ∉ exitFields.map Fld.key ∧ (SCH_T_STATUS.EXEC_IDX t).key ∉ exitFields.map Fld.key := by decide
  have classes : ∀ k < 16, (SCH_CL_STAT.READY k).key ∉ exitFields.map Fld.key := by decide
  unfold Lane.syncSched
  refine .forN (fun t ht _ hJ => ?_) (.forN (fun k hk _ hJ => .wr (classes k hk) hJ) (.wr (by decide) h))
  obtain ⟨hdepth, hslow, hexec, hidx⟩ := apart t ht
  dsimp only
  split
  · exact .wr hidx (.wr hexec (.wr hslow (.iff (fun _ hJ' => .raise hJ') (.wr hdepth hJ))))
  · exact .wr hidx (.wr hexec (.wr hslow (.iff (fun _ hJ' => .raise hJ') (.wr hdepth hJ))))

theorem setSched {sched : Sched} (h : O.KeepsExit L) : O.KeepsExit (L.setSched sched) := .syncSched (L := { L with sched := sched }) h

theorem returnTarget {t : ℕ} {execToo : Bool} (ht : t < 5) (h : O.KeepsExit L) : O.KeepsExit (L.returnTarget t execToo) :=
  .setSched (.wr ((by decide : ∀ i < 5, (SCH_T_CNT.RETURNED i).key ∉ exitFields.map Fld.key) t ht) h)

theorem schedStop (h : O.KeepsExit L) : O.KeepsExit L.schedStop := .forN (fun _ ht _ hK => .returnTarget ht hK) h

/-! Operations of the SA region -/

theorem undrive (h : O.KeepsExit L) : O.KeepsExit L.undrive := .ite (.toField (.wrAway rfl h)) h

theorem setRole {r : ℕ} (h : O.KeepsExit L) : O.KeepsExit (L.setRole r) := .ite h (.event (.wrAway rfl h))

theorem setHolder {n : ℕ} (h : O.KeepsExit L) : O.KeepsExit (L.setHolder n) := .ite h (.event (.wrAway rfl h))

theorem takeSeq {seq : ℕ} (h : O.KeepsExit L) : O.KeepsExit (L.takeSeq seq) := .wrAway rfl (.wrAway rfl (.wrAway rfl h))

theorem releaseLease {successor : ℕ} (h : O.KeepsExit L) : O.KeepsExit (L.releaseLease successor) := by
  unfold Lane.releaseLease
  exact .wrAway rfl (.wrAway rfl (.setHolder (.setRole (.sendFeltAll (.takeSeq (.undrive h))))))

theorem endClaim (h : O.KeepsExit L) : O.KeepsExit L.endClaim := .ite h (.iff (fun _ hK => .setHolder hK) (.wrAway rfl (.setRole h)))

theorem releaseAtExit {cause : ℕ} (h : O.KeepsExit L) : O.KeepsExit (L.releaseAtExit cause) :=
  .wrAway rfl (.ite (.ite (.wrAway rfl (.setRole (.undrive h))) (.releaseLease h)) (.endClaim h))

/-! The state of the lane -/

theorem updateFails {code : Option ℕ} (h : O.KeepsExit L) : O.KeepsExit (L.updateFails code) := by
  have hL : O.KeepsExit { L with update := [] } := h
  unfold Lane.updateFails
  refine .ite h ?_
  extract_lets K₀ K₁ K₂
  have h₁ : O.KeepsExit K₁ := .raise (.event (.wr (by decide) (.wr (by decide) hL)))
  clear_value K₁
  cases code with
  | none => exact .ite h₁ (.sendMbx h₁)
  | some c => exact .ite (.wr (by decide) h₁) (.sendMbx (.wr (by decide) h₁))

theorem setState {st : ℕ} (h : O.KeepsExit L) : O.KeepsExit (L.setState st) := by
  have states : ∀ n, (laneStateOf n).key ∉ exitFields.map Fld.key := fun n =>
    ite_keeps (fun f : Fld => f.key ∉ _) (by decide) (ite_keeps (fun f : Fld => f.key ∉ _) (by decide) (by decide))
  have hme : L.me < 3 := by
    unfold Lane.me
    cases L.strap.id <;> decide
  have hknown := (by decide : ∀ n < 3, (Int.known n).key ∉ exitFields.map Fld.key) L.me hme
  unfold Lane.setState
  exact .iff (fun _ hJ => .updateFails hJ) 
    (.wr (by decide) (.wr (by decide) (.wr (by decide) (.wr hknown (.wr (states _) (.wr (by decide) h))))))

theorem checkE5 (h : O.KeepsExit L) : O.KeepsExit L.checkE5 := .ite (.setState (.wr (by decide) h)) h

/-! Operations of the field die -/

theorem toHost {i : UpItem} (h : O.KeepsExit L) : O.KeepsExit (L.toHost i) := .ite (.wrAway rfl (.wrAway rfl h)) h

theorem syncActive {c : ℕ} (h : O.KeepsExit L) : O.KeepsExit (L.syncActive c) :=
  .ite h (.wrAway rfl (.wrAway rfl (.wrAway rfl (.wrAway rfl h))))

theorem setSaDrive {on : Bool} (h : O.KeepsExit L) : O.KeepsExit (L.setSaDrive on) := .forN (fun _ _ _ hK => .syncActive hK) (.wrAway rfl h)

theorem markOff {g : ℕ} (h : O.KeepsExit L) : O.KeepsExit (L.markOff g) := .ite (.wrAway rfl h) h

theorem syncOverride {g : ℕ} (h : O.KeepsExit L) : O.KeepsExit (L.syncOverride g) :=
  .ite h (.foldl (fun _ _ _ hJ => .wrAway rfl (.wrAway rfl hJ))
    (.ite (.wrAway rfl (.wrAway rfl h)) (.markOff (.foldl (fun _ _ _ hJ => .wrAway rfl hJ) (.wrAway rfl h)))))

theorem syncOverrides (h : O.KeepsExit L) : O.KeepsExit L.syncOverrides := .forN (fun _ _ _ hK => .syncOverride hK) h

theorem keepSpeed {n : ℕ} (h : O.KeepsExit L) : O.KeepsExit (L.keepSpeed n) := by
  unfold Lane.keepSpeed
  split
  · exact .wrAway rfl h
  · exact .wrAway rfl h
  · exact h

theorem swapBank {n b : ℕ} (h : O.KeepsExit L) : O.KeepsExit (L.swapBank n b) :=
  .ite (.wrAway rfl h) (.wrAway rfl (.wrAway rfl (.wrAway rfl (.wrAway rfl h))))

theorem settleBank {n : ℕ} (h : O.KeepsExit L) : O.KeepsExit (L.settleBank n) := .ite (.swapBank h) h

theorem clearLoops {n : ℕ} (h : O.KeepsExit L) : O.KeepsExit (L.clearLoops n) := by
  refine .foldl (fun _ _ _ hJ => .wrAway rfl hJ) (.foldl (fun f hf _ hJ => .wrAway ?_ hJ) h)
  fin_cases hf <;> rfl

theorem endRun {n : ℕ} (h : O.KeepsExit L) : O.KeepsExit (L.endRun n) :=
  .settleBank (.clearLoops (.wrAway rfl (.wrAway rfl (.wrAway rfl (.wrAway rfl (.wrAway rfl (.wrAway rfl (.wrAway rfl h))))))))

theorem requestSto {c : ℕ} (h : O.KeepsExit L) : O.KeepsExit (L.requestSto c) :=
  .foldl (fun _ _ _ hJ => .ite (.syncOverride (.wrAway rfl (.wrAway rfl (.markOff (.wrAway rfl hJ))))) (.wrAway rfl (.markOff (.wrAway rfl hJ))))
    (.wrAway rfl (.wrAway rfl (.wrAway rfl (.wrAway rfl h))))

theorem checkCluster {c : ℕ} (h : O.KeepsExit L) : O.KeepsExit (L.checkCluster c) := .ite (.checkE5 (.requestSto h)) (.checkE5 h)

theorem enterSafe {n cause : ℕ} (h : O.KeepsExit L) : O.KeepsExit (L.enterSafe n cause) :=
  .ite h (.checkCluster (.toHost (.syncOverride (.wrAway rfl (.wrAway rfl (.wrAway rfl (.wrAway rfl (.wrAway rfl (.wrAway rfl (.endRun
    (.wrAway rfl (.wrAway rfl (.keepSpeed h)))))))))))))

theorem allSafe {cause : ℕ} (h : O.KeepsExit L) : O.KeepsExit (L.allSafe cause) := .forN (fun _ _ _ hK => .enterSafe hK) h

theorem fieldExit {cause : ℕ} (h : O.KeepsExit L) : O.KeepsExit (L.fieldExit cause) :=
  .ite (.checkE5 h) (.checkE5 (.checkCluster (.checkCluster (.forN (fun _ _ _ hJ => .wrAway rfl hJ)
    (.allSafe (.syncOverrides (.setSaDrive (.wrAway rfl (.wrAway rfl h)))))))))

/-! The abort of a power entry -/

theorem putWord {a data : ℕ} (ha : retRegion a = some 1) (h : O.KeepsExit L) : O.KeepsExit (L.putWord a data) :=
  .foldl (fun _ hx _ hK => .wr (slotsAt_key_of_net ha hx) hK) h

theorem retRestore (h : O.KeepsExit L) : O.KeepsExit (L.retRestore [1]) := by
  refine .ite (.foldl (fun e he K hK => .putWord ?_ hK) h) (.wr (by decide) h)
  obtain ⟨-, hin⟩ := List.mem_filter.1 he
  split at hin
  · rename_i r hr
    simpa [hr] using hin
  · cases hin

theorem netOn (h : O.KeepsExit L) : O.KeepsExit L.netOn := .iff (fun _ hK => .wr (by decide) (.retRestore (.wr (by decide) hK))) h

theorem resumeDozed (h : O.KeepsExit L) : O.KeepsExit L.resumeDozed := .event (.wr (by decide) (.wr (by decide) h))

end Lane.KeepsExit

/-! ### The exit decision -/

namespace Lane

variable {L K : Lane}

theorem on_eq_rd (L : Lane) (f : Fld) : L.on f = decide (L.rd f ≠ 0) := rfl

/-- Whether the abort of an entry resets the host die: one is under way whose field regions are OFF (R423). -/
def abortResets (L : Lane) : Bool := L.entryOpen && L.on Int.pscN3 && decide (L.rd Int.pscAsk = 3)

theorem canExit_iff : L.canExit = true ↔ L.on Int.held = false ∧ L.abortResets = false := by
  rw [canExit, ← abortResets, Bool.and_eq_true, Bool.not_eq_true', Bool.not_eq_true']

/-- What an abort resets depends on the fields of the entry alone. -/
theorem abortResets_congr (h : ∀ f ∈ [PSC_STATUS.STAGE, Int.pscN3, Int.pscN4, Int.pscAsk], K.rd f = L.rd f) :
    K.abortResets = L.abortResets := by
  simp only [abortResets, entryOpen, on_eq_rd, h PSC_STATUS.STAGE (by simp), h Int.pscN3 (by simp), h Int.pscN4 (by simp),
    h Int.pscAsk (by simp)]

/-- An exit that aborts a power entry whose field regions are not OFF leaves the exit as it is latched. -/
theorem restartStopped_rd {f : Fld} (hf : f ∈ [Int.e0, BGR_STATE.STATE, BGR_STATE.ESC_TIMER])
    (hoff : (L.on Int.pscN3 && decide (L.rd Int.pscAsk = 3)) = false) : L.restartStopped.rd f = L.rd f := by
  have hapart : ∀ g ∈ [Int.e0, BGR_STATE.STATE, BGR_STATE.ESC_TIMER],
      g.key ≠ PSC_STATUS.STAGE.key ∧ g.key ≠ PSC_STATUS.LEVEL_NOW.key ∧ g.key ≠ Int.pscN3.key := by decide
  obtain ⟨hstage, hlevel, hn3⟩ := hapart f hf
  have hmem : f ∈ exitFields := (by decide : [Int.e0, BGR_STATE.STATE, BGR_STATE.ESC_TIMER] ⊆ exitFields) hf
  have hidle : (((L.wr PSC_STATUS.STAGE pscIdle).wr PSC_STATUS.LEVEL_NOW 0).clr Int.pscN3).rd f = L.rd f := by
    rw [Lane.clr_eq, rd_wr_ne _ _ _ _ hn3, rd_wr_ne _ _ _ _ hlevel, rd_wr_ne _ _ _ _ hstage]
  unfold restartStopped
  extract_lets off J M
  have hJ : J.KeepsExit M :=
    .resumeDozed (.iff (fun _ hK => .wr (by decide) (.wr (by decide) hK)) (.netOn (.wr (by decide) (.wr (by decide) (.refl J)))))
  have hnot : off = false := hoff
  rw [if_neg (by simp [hnot]), KeepsExit.pumpPorts hJ f hmem]
  exact hidle

theorem abortForExit_rd {f : Fld} (hf : f ∈ [Int.e0, BGR_STATE.STATE, BGR_STATE.ESC_TIMER])
    (h : L.abortResets = false) : L.abortForExit.rd f = L.rd f := by
  have hmem : f ∈ exitFields := (by decide : [Int.e0, BGR_STATE.STATE, BGR_STATE.ESC_TIMER] ⊆ exitFields) hf
  unfold abortForExit
  split
  · rename_i hopen
    unfold abortEntry
    have hK : L.KeepsExit (((L.inc PSC_CNT.ABORTED).wr PSC_REFUSE.ABORT_AP L.nextAbortPoint).wr PSC_REFUSE.ABORT_SRC 0) :=
      .wr (by decide) (.wr (by decide) (.wr (by decide) (.refl L)))
    rw [restartStopped_rd hf, hK f hmem]
    rw [on_eq_rd, hK Int.pscN3 (by simp [exitFields]), hK Int.pscAsk (by simp [exitFields]), ← on_eq_rd]
    simpa [abortResets, hopen] using h
  · rfl

/-- A lane that may exit and has not: the exit decision is latched, the collector is in FAULT, and ESC_TIMER stays. -/
theorem latchE0_exits (cause : ℕ) (he0 : L.on Int.e0 = false) (hexit : L.canExit = true) :
    (L.latchE0 cause).on Int.e0 = true ∧ (L.latchE0 cause).rd BGR_STATE.STATE = 2 ∧
      (L.latchE0 cause).rd BGR_STATE.ESC_TIMER = L.rd BGR_STATE.ESC_TIMER := by
  obtain ⟨hheld, hresets⟩ := canExit_iff.1 hexit
  unfold latchE0
  rw [if_neg (by simp [he0, hheld])]
  extract_lets K₀ K₁ K₂ K₃
  have h₀ : (L.set Int.e0).KeepsExit K₀ := .wr (by decide) (.refl _)
  have h₁ : (L.set Int.e0).KeepsExit K₁ := .ite (.iff (fun _ hJ => .wr (by decide) hJ) h₀) (.iff (fun _ hJ => .exitRecord hJ) h₀)
  have hexits : (exitsOf K₁.me).key ∉ exitFields.map Fld.key :=
    ite_keeps (fun f : Fld => f.key ∉ _) (by decide) (ite_keeps (fun f : Fld => f.key ∉ _) (by decide) (by decide))
  have hm5 : ∀ p < 4, (Int.m5 p).key ∉ exitFields.map Fld.key := by decide
  have h₃ : (K₁.wr BGR_STATE.STATE 2).KeepsExit ((K₃.wr COU_STATUS.LINE 1).fieldExit cause) :=
    .fieldExit (.wr (by decide) (.forN (fun p hp _ hJ => .wr (hm5 p hp) hJ) (.schedStop (.releaseAtExit (.wr hexits (.refl _))))))
  have latched : ∀ f ∈ exitFields, f.key ≠ BGR_STATE.STATE.key → ((K₃.wr COU_STATUS.LINE 1).fieldExit cause).rd f = (L.set Int.e0).rd f :=
    fun f hf hs => by rw [h₃ f hf, rd_wr_ne _ _ _ _ hs, h₁ f hf]
  generalize (K₃.wr COU_STATUS.LINE 1).fieldExit cause = M at h₃ latched
  have entry : ∀ f ∈ exitFields, f.key ≠ BGR_STATE.STATE.key → f.key ≠ Int.e0.key → M.rd f = L.rd f :=
    fun f hf hs he => by rw [latched f hf hs, set_eq, rd_wr_ne _ _ _ _ he]
  have hno : M.abortResets = false := by
    have hfields : ∀ f ∈ [PSC_STATUS.STAGE, Int.pscN3, Int.pscN4, Int.pscAsk],
        f ∈ exitFields ∧ f.key ≠ BGR_STATE.STATE.key ∧ f.key ≠ Int.e0.key := by decide
    have hsame : M.abortResets = L.abortResets := abortResets_congr fun f hf =>
      have ⟨hmem, hstate, he0'⟩ := hfields f hf
      entry f hmem hstate he0'
    rw [hsame, hresets]
  refine ⟨?_, ?_, ?_⟩
  · rw [on_eq_rd, abortForExit_rd (by simp) hno, latched _ (by simp [exitFields]) (by decide)]
    simp [Int.e0]
  · rw [abortForExit_rd (by simp) hno, h₃ _ (by simp [exitFields])]
    simp [BGR_STATE.STATE]
  · rw [abortForExit_rd (by simp) hno, entry _ (by simp [exitFields]) (by decide) (by decide)]

end Lane

end Sys2Proof.Machine
end

-- ==== The collector ====
section
/-! The events of the collector, one arrival of severity S3, and the commands of PEND, of the reaction timer and of the first-fault record. -/

namespace Sys2Proof.Machine

/-! ### What the collector's event changes -/

theorem Lane.onlyFields_iteKeeps {L K M : Lane} {fs : List Fld} {c : Prop} [Decidable c] (hK : L.onlyFields K fs) (hM : L.onlyFields M fs) :
    L.onlyFields (if c then K else M) fs := ite_keeps (fun J => L.onlyFields J fs) hK hM

theorem Lane.onlyFields_forN {L K : Lane} {fs : List Fld} {n : ℕ} {g : ℕ → Lane → Lane}
    (hg : ∀ i < n, ∀ J : Lane, J.onlyFields (g i J) fs) (h : L.onlyFields K fs) : L.onlyFields (K.forN n g) fs := by
  unfold Lane.forN
  have hr : ∀ i ∈ List.range n, i < n := fun i hi => List.mem_range.1 hi
  generalize List.range n = xs at hr
  induction xs generalizing K with
  | nil => exact h
  | cons i r ih =>
    exact ih (Lane.onlyFields_trans h (hg i (hr i List.mem_cons_self) K)) fun j hj => hr j (List.mem_cons_of_mem _ hj)

theorem Lane.level_onlyFields (L : Lane) (ev mask : ℕ) (on : Bool) : L.onlyFields (L.level ev mask on) eventFields :=
  Lane.onlyFields_forN (fun _ hp J => Lane.onlyFields_iteKeeps (J.eventTo_onlyFields ev hp)
    (Lane.onlyFields_wr (J.onlyFields_refl _) _ _ (Int.events_mem hp))) (L.onlyFields_refl _)

theorem Lane.bgrEvent_onlyFields (L : Lane) : L.onlyFields L.bgrEvent eventFields := L.level_onlyFields _ _ _

/-! ### One arrival of severity S3 -/

/-- Whether a field lies in the PEND and severity registers of the collector. -/
abbrev Fld.InPend (f : Fld) : Prop := 0x400000A0 * 32 ≤ f.key ∧ f.key < 0x40000180 * 32

/-- `K` has the memories of `O`, nothing in the collector's inbox that `O` has not, and the same PEND and severity registers. -/
structure Lane.KeepsPend (O K : Lane) : Prop where
  mem : K.mem = O.mem
  nor : K.nor = O.nor
  inbox : K.inbox = O.inbox
  rd : ∀ f : Fld, f.InPend → K.rd f = O.rd f

namespace Lane.KeepsPend

variable {O L K : Lane}

theorem refl (L : Lane) : L.KeepsPend L := ⟨rfl, rfl, rfl, fun _ _ => rfl⟩

theorem wr {f : Fld} {v : ℕ} (hf : ¬ f.InPend) (h : O.KeepsPend L) : O.KeepsPend (L.wr f v) :=
  ⟨h.mem, h.nor, h.inbox, fun g hg => (L.rd_wr_ne f g v fun e => hf (by unfold Fld.InPend at *; rwa [← e])).trans (h.rd g hg)⟩

theorem ite {c : Prop} [Decidable c] (hL : O.KeepsPend L) (hK : O.KeepsPend K) : O.KeepsPend (if c then L else K) :=
  ite_keeps _ hL hK

theorem iff {b : Bool} {g : Lane → Lane} (hg : ∀ K, O.KeepsPend K → O.KeepsPend (g K)) (h : O.KeepsPend L) : O.KeepsPend (L.iff b g) :=
  .ite (hg L h) h

theorem foldl {β : Type} {g : Lane → β → Lane} {xs : List β} (hg : ∀ K x, O.KeepsPend K → O.KeepsPend (g K x)) (h : O.KeepsPend L) :
    O.KeepsPend (xs.foldl g L) := foldl_keeps _ hg h

/-- What differs in fields outside these registers alone keeps them. -/
theorem onlyFields {fs : List Fld} (h : O.KeepsPend L) (hK : L.onlyFields K fs) (hfs : ∀ f ∈ fs, ¬ f.InPend) : O.KeepsPend K := by
  obtain ⟨r, rfl, hr⟩ := hK
  refine ⟨h.mem, h.nor, h.inbox, fun f hf => (hr f fun hm => ?_).trans (h.rd f hf)⟩
  obtain ⟨g, hg, hk⟩ := List.mem_map.1 hm
  exact hfs g hg (by unfold Fld.InPend at *; rwa [hk])

theorem sendMbx {m : MbxUp} (h : O.KeepsPend L) : O.KeepsPend (L.sendMbx m) :=
  .ite ⟨h.mem, h.nor, h.inbox, h.rd⟩ (.wr (by decide) h)

theorem syncLog (h : O.KeepsPend L) : O.KeepsPend L.syncLog := by
  unfold Lane.syncLog
  split
  · exact .wr (by decide) (.wr (by decide) (.wr (by decide) (.wr (by decide) (.wr (by decide) h))))
  · exact .wr (by decide) (.wr (by decide) (.wr (by decide) (.wr (by decide) (.wr (by decide) (.wr (by decide) h)))))

theorem logFault {e : LogEntry} (h : O.KeepsPend L) : O.KeepsPend (L.logFault e) :=
  .iff (fun _ hJ => .sendMbx hJ) (.ite (.syncLog ⟨h.mem, h.nor, h.inbox, h.rd⟩) (.wr (by decide) h))

theorem writeFirst {a : Arrival} {forced observed : Bool} {at' : ℕ × ℕ} (h : O.KeepsPend L) :
    O.KeepsPend (L.writeFirst a forced observed at') :=
  .wr (by decide) (.iff (fun _ hJ => .wr (by decide) hJ) (.wr (by decide) (.wr (by decide) (.wr (by decide) (.wr (by decide)
    (.wr (by decide) (.wr (by decide) (.wr (by decide) h))))))))

theorem laterFault {sev : ℕ} (h : O.KeepsPend L) : O.KeepsPend (L.laterFault sev) :=
  .wr (by decide) (.wr (by decide) (.wr (by decide) h))

theorem syncPend (h : O.KeepsPend L) : O.KeepsPend L.syncPend := .wr (by decide) h

theorem bgrEvent (h : O.KeepsPend L) : O.KeepsPend L.bgrEvent := h.onlyFields L.bgrEvent_onlyFields (by decide)

theorem severity {src : ℕ} (h : O.KeepsPend L) (hsrc : src < 256) : L.severity src = O.severity src :=
  h.rd _ (by simp only [Fld.InPend, Fld.key, BGR_SEV.SEV, Home.code]; omega)

theorem pending {src : ℕ} (h : O.KeepsPend L) (hsrc : src < 256) : L.pending src = O.pending src := by
  have hrd := h.rd (BGR_PEND.BITS (src / 32)) (by simp only [Fld.InPend, Fld.key, BGR_PEND.BITS, Home.code]; omega)
  rw [Lane.pending, Lane.bitOf, hrd]
  rfl

/-- The rest of what the collector holds for a pending source lies elsewhere. -/
theorem ofPend {src : ℕ} (hsrc : src < 256) : ¬ (Int.pendAt src).InPend ∧ ¬ (Int.pendFired src).InPend ∧ ¬ (Int.pendStamp src).InPend ∧
    ¬ (Int.pendTclk src).InPend ∧ ¬ (Int.pendFtb src).InPend ∧ ¬ (Int.pendForced src).InPend ∧ ¬ (Int.pendMet src).InPend := by
  simp only [Fld.InPend, Fld.key, Int.pendAt, Int.pendFired, Int.pendStamp, Int.pendTclk, Int.pendFtb, Int.pendForced, Int.pendMet, Home.code]
  omega

theorem pendReal {src : ℕ} (hsrc : src < 256) (h : O.KeepsPend L) : O.KeepsPend (L.pendReal src) := by
  obtain ⟨-, hfired, -, -, -, hforced, hmet⟩ := ofPend hsrc
  exact .wr hmet (.wr hfired (.wr hforced h))

end Lane.KeepsPend

namespace Lane

variable {O L : Lane} {src : ℕ}

/-- A source that an S3 arrival marks is pending, and the lane keeps its memories. -/
structure Pends (O K : Lane) (src : ℕ) : Prop where
  pending : K.pending src = true
  inbox : K.inbox = O.inbox
  mem : K.mem = O.mem
  nor : K.nor = O.nor

theorem KeepsPend.pends {K : Lane} (h : L.KeepsPend K) (hsrc : src < 256) (hL : O.Pends L src) : O.Pends K src :=
  ⟨(h.pending hsrc).trans hL.pending, h.inbox.trans hL.inbox, h.mem.trans hL.mem, h.nor.trans hL.nor⟩

theorem pend_pends (hsrc : src < 256) {a : Arrival} (ha : a.src = src) {forced observed : Bool} (h : O.KeepsPend L) :
    O.Pends (L.pend a forced observed) src := by
  subst ha
  obtain ⟨hat, hfired, hstamp, htclk, hftb, hforced, hmet⟩ := KeepsPend.ofPend hsrc
  have hset : O.Pends (L.putBit (BGR_PEND.BITS (a.src / 32)) (a.src % 32) true) a.src :=
    ⟨L.bitOf_putBit_true (Nat.mod_lt _ (by decide)), h.inbox, h.mem, h.nor⟩
  exact KeepsPend.pends (.wr hmet (.wr hforced (.wr hftb (.wr htclk (.wr hstamp (.wr hfired (.wr hat (.refl _)))))))) hsrc hset

/-- The reaction to a real S3 arrival leaves its source pending. -/
theorem react_pends (hsrc : src < 256) (hsev : O.severity src = 3) {forced : Bool} (h : O.KeepsPend L) :
    O.Pends (L.react ⟨src, false, 1, 0⟩ forced true) src := by
  have hL : L.severity src = 3 := (h.severity hsrc).trans hsev
  have hcount : ¬ (BGR_CNT.CNT src).InPend := by
    simp only [Fld.InPend, Fld.key, BGR_CNT.CNT, Home.code]
    omega
  unfold react
  extract_lets sev K₀ K₁ K₂ K₃ K₄
  have hsev3 : sev = 3 := hL
  have h₂ : O.KeepsPend K₂ :=
    .iff (fun _ hJ => .wr (by decide) hJ) (.iff (fun _ hJ => .logFault hJ) (.ite (.wr (by decide) h) (.wr hcount h)))
  have h₃ : O.Pends K₃ src := by
    by_cases hp : K₂.pending src = true
    · have hreal : K₂.KeepsPend K₃ := by
        rw [show K₃ = _ from if_pos hp]
        exact .iff (fun _ hJ => .pendReal hsrc hJ) (.refl _)
      exact hreal.pends hsrc ⟨hp, h₂.inbox, h₂.mem, h₂.nor⟩
    · rw [show K₃ = _ from if_neg hp, hsev3]
      exact pend_pends hsrc rfl h₂
  have h₄ : K₃.KeepsPend K₄ := .bgrEvent (.syncPend (.refl _))
  rw [if_neg (by omega)]
  exact h₄.pends hsrc h₃

/-- A collector cycle with one real S3 arrival leaves its source pending. -/
theorem collect_pends (hsrc : src < 256) (hsev : L.severity src = 3) : L.Pends (L.collect [⟨src, false, 1, 0⟩]) src := by
  unfold collect
  extract_lets forcedSame realSame merged doubles isForced K₀ K₁
  have hmerged : merged = [⟨src, false, 1, 0⟩] := by simp [merged]
  have h₁ : L.KeepsPend K₁ := by
    have h₀ : L.KeepsPend K₀ := .wr (by decide) (.refl L)
    simp only [K₁]
    split
    · exact h₀
    · exact .foldl (fun _ _ hJ => .laterFault hJ) (.ite (.wr (by decide) (.writeFirst h₀)) (.iff (fun _ hJ => .wr (by decide) hJ) h₀))
  rw [hmerged]
  exact react_pends hsrc hsev h₁

end Lane

/-! ### The commands of the reaction timer, PEND and the first-fault record -/

namespace Lane

variable {L : Lane}

theorem lt_of_oldestPending {k : ℕ} (h : L.oldestPending = some k) : k < 256 := by
  have hk := List.mem_of_find?_eq_some h
  exact List.mem_range.1 (List.mem_filter.1 hk).1

/-- Clearing fields of distinct keys leaves each of them 0. -/
theorem rd_foldl_clr {fs : List Fld} (hd : (fs.map Fld.key).Nodup) {f : Fld} (hf : f ∈ fs) : (fs.foldl (fun K f => K.clr f) L).rd f = 0 := by
  have kept : ∀ (gs : List Fld) (K : Lane), f.key ∉ gs.map Fld.key → (gs.foldl (fun K f => K.clr f) K).rd f = K.rd f := by
    intro gs
    induction gs with
    | nil => exact fun _ _ => rfl
    | cons g r ih =>
      intro K hg
      obtain ⟨hne, hr⟩ := List.ne_and_not_mem_of_not_mem_cons hg
      exact (ih _ hr).trans (K.rd_wr_ne g f 0 hne)
  induction fs generalizing L with
  | nil => cases hf
  | cons g r ih =>
    obtain ⟨hg, hr⟩ := List.nodup_cons.1 hd
    rcases List.mem_cons.1 hf with rfl | hf
    · exact (kept r _ hg).trans (by simp)
    · exact ih hr hf

theorem onlyFields_foldl_clr (fs : List Fld) : L.onlyFields (fs.foldl (fun K f => K.clr f) L) fs := by
  have within : ∀ (gs : List Fld) (K : Lane), gs ⊆ fs → L.onlyFields K fs → L.onlyFields (gs.foldl (fun K f => K.clr f) K) fs := by
    intro gs
    induction gs with
    | nil => exact fun _ _ h => h
    | cons g r ih =>
      exact fun K hs h => ih _ (fun _ hx => hs (List.mem_cons_of_mem _ hx)) (Lane.onlyFields_wr h g 0 (hs List.mem_cons_self))
  exact within fs L (List.Subset.refl _) (L.onlyFields_refl fs)

end Lane

/-- The bits of a PEND word that are not written 1 stay. -/
theorem testBit_acknowledged (v mask : ℕ) {i : ℕ} (hi : i < 32) :
    (v &&& (0xFFFFFFFF ^^^ (mask % 2 ^ 32))).testBit i = (v.testBit i && ! mask.testBit i) := by
  rw [show (0xFFFFFFFF : ℕ) = 2 ^ 32 - 1 from rfl, Nat.testBit_and, Nat.testBit_xor, Nat.testBit_two_pow_sub_one, Nat.testBit_mod_two_pow]
  simp [hi]

theorem acknowledged_lt (v mask : ℕ) : v &&& (0xFFFFFFFF ^^^ (mask % 2 ^ 32)) < 2 ^ 32 :=
  Nat.and_lt_two_pow _ (Nat.xor_lt_two_pow (by decide) (Nat.mod_lt _ (by decide)))

/-- A lane whose PEND bits of word `k` written 1 are acknowledged (R295). -/
def acknowledged (k mask : ℕ) (L : Lane) : Lane :=
  (L.wr (BGR_PEND.BITS (k % 8)) (L.rd (BGR_PEND.BITS (k % 8)) &&& (0xFFFFFFFF ^^^ (mask % 2 ^ 32)))).syncPend.bgrEvent

namespace Lane

variable {L : Lane}

/-- PEND_ACK without an arrival: the bits written 1 are cleared, and what follows them is PEND_ANY and the events of the pairs. -/
theorem acknowledge_keepsBut {w v : ℕ} (hw : w < 8) (hv : v < 2 ^ 32) :
    ((L.wr (BGR_PEND.BITS w) v).syncPend.bgrEvent).rd (BGR_PEND.BITS w) = v ∧
      L.keepsBut (L.wr (BGR_PEND.BITS w) v).syncPend.bgrEvent ([BGR_PEND.BITS w, BGR_STATE.PEND_ANY] ++ eventFields) := by
  have hapart := (by decide : ∀ w < 8, (BGR_PEND.BITS w).key ∉ eventFields.map Fld.key ∧ (BGR_PEND.BITS w).key ≠ BGR_STATE.PEND_ANY.key) w hw
  obtain ⟨hevents, hany⟩ := hapart
  have hbits : L.onlyFields (L.wr (BGR_PEND.BITS w) v).syncPend ([BGR_PEND.BITS w, BGR_STATE.PEND_ANY] ++ eventFields) :=
    onlyFields_wr (onlyFields_wr (L.onlyFields_refl _) _ v (by simp)) BGR_STATE.PEND_ANY _ (by simp)
  refine ⟨?_, onlyFields_keepsBut (onlyFields_trans hbits (onlyFields_mono (bgrEvent_onlyFields _) (List.subset_append_right _ _)))⟩
  rw [onlyFields_rd (bgrEvent_onlyFields _) _ hevents, syncPend, put_eq, rd_wr_ne _ _ _ _ hany, rd_wr_same]
  exact Nat.mod_eq_of_lt hv

theorem acknowledge_inbox (w v : ℕ) : ((L.wr (BGR_PEND.BITS w) v).syncPend.bgrEvent).inbox = L.inbox := by
  obtain ⟨r, hr, -⟩ := bgrEvent_onlyFields (L.wr (BGR_PEND.BITS w) v).syncPend
  rw [hr]
  rfl

/-- PEND_ACK changes no severity. -/
theorem acknowledge_severity {w v src : ℕ} (hw : w < 8) (hv : v < 2 ^ 32) (hsrc : src < 256) :
    ((L.wr (BGR_PEND.BITS w) v).syncPend.bgrEvent).severity src = L.severity src := by
  obtain ⟨-, -, -, -, hrd⟩ := acknowledge_keepsBut (L := L) hw hv
  refine hrd _ fun hm => ?_
  have hsev : 0x40000100 * 32 ≤ (BGR_SEV.SEV src (sourceSeverity src)).key ∧ (BGR_SEV.SEV src (sourceSeverity src)).key < 0x40000180 * 32 := by
    simp only [Fld.key, BGR_SEV.SEV, Home.code]
    omega
  have hothers : ∀ w < 8, ∀ n ∈ ([BGR_PEND.BITS w, BGR_STATE.PEND_ANY] ++ eventFields).map Fld.key,
      n < 0x40000100 * 32 ∨ 0x40000180 * 32 ≤ n := by decide
  have := hothers w hw _ hm
  omega

/-- The fields of an S3 fault that an expiry marks as fired, told apart from those it asks about. -/
theorem pendFired_apart {k : ℕ} (hk : k < 256) : (Int.pendForced k).key ≠ (Int.pendFired k).key ∧ Int.e0.key ≠ (Int.pendFired k).key ∧
    Int.held.key ≠ (Int.pendFired k).key ∧ (Int.pendFired k).key ∉ exitFields.map Fld.key := by
  have hrange : 0xf0001830 * 32 ≤ (Int.pendFired k).key ∧ (Int.pendFired k).key < 0xf0001c30 * 32 := by
    simp only [Fld.key, Int.pendFired, Home.code]
    omega
  have hforced : (Int.pendForced k).key < 0xf0001830 * 32 := by
    simp only [Fld.key, Int.pendForced, Home.code]
    omega
  have hexit : ∀ n ∈ exitFields.map Fld.key, n < 0xf0001830 * 32 ∨ 0xf0001c30 * 32 ≤ n := by decide
  have he0 : 0xf0001c30 * 32 ≤ Int.e0.key := by decide
  have hheld : 0xf0001c30 * 32 ≤ Int.held.key := by decide
  refine ⟨by omega, by omega, by omega, fun hm => ?_⟩
  have := hexit _ hm
  omega

/-- The lane at the E0 gate after the expiry of a real fault: marked, with ESC_TIMER and ESC_TIME written. -/
def expired (L : Lane) (k since : ℕ) : Lane := ((L.set (Int.pendFired k)).set BGR_STATE.ESC_TIMER).sat BGR_ESC.ESC_TIME since

theorem expired_rd {k : ℕ} (hk : k < 256) (since : ℕ) {f : Fld} (hf : f ∈ exitFields) (hne : f.key ≠ BGR_STATE.ESC_TIMER.key) :
    (L.expired k since).rd f = L.rd f := by
  obtain ⟨-, -, -, hfired⟩ := pendFired_apart hk
  have hmarked : L.KeepsExit (L.set (Int.pendFired k)) := .wr hfired (.refl L)
  have htimed : ((L.set (Int.pendFired k)).set BGR_STATE.ESC_TIMER).KeepsExit (L.expired k since) := .wr (by decide) (.refl _)
  rw [htimed f hf, set_eq, rd_wr_ne _ _ _ _ hne, hmarked f hf]

theorem expired_escTimer (k since : ℕ) : (L.expired k since).on BGR_STATE.ESC_TIMER = true := by
  rw [expired, sat_eq, on_wr_ne _ _ _ _ (by decide), set_eq, on_wr_same]
  decide

theorem expired_canExit {k : ℕ} (hk : k < 256) (since : ℕ) (hexit : L.canExit = true) : (L.expired k since).canExit = true := by
  obtain ⟨-, -, hfired, -⟩ := pendFired_apart hk
  obtain ⟨hheld, hresets⟩ := canExit_iff.1 hexit
  have hfields : ∀ f ∈ [PSC_STATUS.STAGE, Int.pscN3, Int.pscN4, Int.pscAsk], f ∈ exitFields ∧ f.key ≠ BGR_STATE.ESC_TIMER.key := by decide
  have hresets' : (L.expired k since).abortResets = L.abortResets := abortResets_congr fun f hf =>
    have ⟨hmem, hne⟩ := hfields f hf
    expired_rd hk since hmem hne
  refine canExit_iff.2 ⟨?_, hresets'.trans hresets⟩
  rw [expired, sat_eq, on_wr_ne _ _ _ _ (by decide), set_eq, on_wr_ne _ _ _ _ (by decide), set_eq, on_wr_ne _ _ _ _ hfired]
  exact hheld

/-- The gate latches E0 for a real fault. -/
theorem gate_real_exits {k : ℕ} (hk : k < 256) (since : ℕ) (he0 : L.on Int.e0 = false) (hexit : L.canExit = true) :
    let K := ((L.set (Int.pendFired k)).set BGR_STATE.ESC_TIMER).gate k false since
    K.on Int.e0 = true ∧ K.rd BGR_STATE.STATE = 2 ∧ K.on BGR_STATE.ESC_TIMER = true := by
  have he0' : (L.expired k since).on Int.e0 = false := by
    rw [on_eq_rd, expired_rd hk since (by simp [exitFields]) (by decide)]
    exact he0
  obtain ⟨hlatched, hstate, hesc⟩ := latchE0_exits k he0' (expired_canExit hk since hexit)
  have htimer : ((L.expired k since).latchE0 k).on BGR_STATE.ESC_TIMER = true := by
    rw [on_eq_rd, hesc]
    exact expired_escTimer k since
  exact ⟨hlatched, hstate, htimer⟩

/-- The gate stops an injected fault. -/
theorem gate_injected_onlyFields (k since : ℕ) : L.onlyFields ((L.set (Int.pendFired k)).gate k true since)
    [Int.pendFired k, BGR_ESC.ESC_TIME, BGR_STATE.DRY] :=
  onlyFields_wr (onlyFields_wr (onlyFields_wr (L.onlyFields_refl _) _ _ (by simp)) _ _ (by simp)) _ _ (by simp)

/-- How long the PEND bit of a fault has been held at its expiry, in units of 10 ns (R295). -/
def expiryAge (L : Lane) (k : ℕ) : ℕ := ((L.set (Int.pendFired k)).now - (L.set (Int.pendFired k)).rd (Int.pendAt k)) / 10

end Lane

section
variable {s : State} {l : LaneId} {k : ℕ}

theorem reactionTimerExpiry_real (hst : (s.lane l).rd BGR_STATE.STATE ≠ 2) (hk : (s.lane l).oldestPending = some k)
    (hreal : (s.lane l).on (Int.pendForced k) = false) : exec (.reactionTimerExpiry l) s = .next (s.onLane l fun L =>
      ((L.set (Int.pendFired k)).set BGR_STATE.ESC_TIMER).gate k false (L.expiryAge k)) := by
  obtain ⟨hforced, -, -, -⟩ := Lane.pendFired_apart (Lane.lt_of_oldestPending hk)
  have hon : ((s.lane l).set (Int.pendFired k)).on (Int.pendForced k) = false := (Lane.on_wr_ne _ _ _ _ hforced).trans hreal
  exact congrArg Host.Outcome.next (onLane_congr s l (by simp only [hst, hk, hon, if_false]; rfl))

theorem reactionTimerExpiry_injected (hst : (s.lane l).rd BGR_STATE.STATE ≠ 2) (hk : (s.lane l).oldestPending = some k)
    (hinjected : (s.lane l).on (Int.pendForced k) = true) : exec (.reactionTimerExpiry l) s = .next (s.onLane l fun L =>
      (L.set (Int.pendFired k)).gate k true (L.expiryAge k)) := by
  obtain ⟨hforced, -, -, -⟩ := Lane.pendFired_apart (Lane.lt_of_oldestPending hk)
  have hon : ((s.lane l).set (Int.pendFired k)).on (Int.pendForced k) = true := (Lane.on_wr_ne _ _ _ _ hforced).trans hinjected
  exact congrArg Host.Outcome.next (onLane_congr s l (by simp only [hst, hk, hon, if_false]; rfl))

end

/-- The fields that FIRST_FAULT_CLEAR empties: the record, and the state of the collector (R293). -/
def firstFaultFields : List Fld :=
  [BGR_FIRST.ID, BGR_FIRST.SEV, BGR_FIRST.FORCED, BGR_FIRST.OBSERVED, BGR_FIRST.ORIGIN, BGR_FIRST.TCLK, BGR_FIRST.VALID, BGR_FIRST.OVERFLOW,
    BGR_FIRST.LATER_MAX, BGR_FIRST.LATER_CNT, BGR_FIRST_T.T, BGR_FIRST_FTB.FTB, BGR_STATE.STATE]

/-- Settles O24: what each command of the collector writes, the exit of E0 by `Lane.latchE0_exits`. -/
theorem pendingFaultsAndReactionTimer : Obligations.PendingFaultsAndReactionTimer := by
  unfold Obligations.PendingFaultsAndReactionTimer
  refine ⟨?_, ?_, ?_, ?_, ?_, ?_, ?_, ?_⟩
  · rintro s l k mask L rfl
    have hw : k % 8 < 8 := Nat.mod_lt _ (by decide)
    have hv := acknowledged_lt ((s.lane l).rd (BGR_PEND.BITS (k % 8))) mask
    refine completes_of_exec (g := acknowledged k mask) rfl ?_
    obtain ⟨hbits, hkeeps⟩ := Lane.acknowledge_keepsBut (L := s.lane l) hw hv
    refine ⟨fun i hi => ?_, hkeeps⟩
    rw [Lane.bitOf, acknowledged, hbits, testBit_acknowledged _ _ hi]
    rfl
  · rintro s l k mask src L rfl hin hsrc hsev
    have hw : k % 8 < 8 := Nat.mod_lt _ (by decide)
    have hv := acknowledged_lt ((s.lane l).rd (BGR_PEND.BITS (k % 8))) mask
    refine completes_of_exec (g := fun L => { acknowledged k mask L with inbox := [] }.collect (acknowledged k mask L).inbox) rfl ?_
    have hinbox : (acknowledged k mask (s.lane l)).inbox = [⟨src, false, 1, 0⟩] := (Lane.acknowledge_inbox _ _).trans hin
    obtain ⟨-, hmem, hnor, -, -⟩ := Lane.acknowledge_keepsBut (L := s.lane l) hw hv
    have h := Lane.collect_pends (L := { acknowledged k mask (s.lane l) with inbox := [] }) hsrc
      ((Lane.acknowledge_severity hw hv hsrc).trans hsev)
    rw [hinbox]
    exact ⟨h.pending, h.inbox, h.mem.trans hmem, h.nor.trans hnor⟩
  · rintro s l (h | h)
    · exact congrArg Host.Outcome.next (onLane_congr s l (by simp [h]))
    · exact congrArg Host.Outcome.next (onLane_congr s l (by simp [h]))
  · rintro s l k L rfl hst hk hreal he0 hexit
    exact completes_of_exec (reactionTimerExpiry_real hst hk hreal) (Lane.gate_real_exits (Lane.lt_of_oldestPending hk) _ he0 hexit)
  · rintro s l k L rfl hst hk hinjected
    obtain ⟨-, he0, -, -⟩ := Lane.pendFired_apart (Lane.lt_of_oldestPending hk)
    have he0' : Int.e0.key ∉ [Int.pendFired k, BGR_ESC.ESC_TIME, BGR_STATE.DRY].map Fld.key := by
      rw [List.map_cons, List.mem_cons, not_or]
      exact ⟨he0, by decide⟩
    have hwithin := Lane.gate_injected_onlyFields (L := s.lane l) k ((s.lane l).expiryAge k)
    exact completes_of_exec (reactionTimerExpiry_injected hst hk hinjected)
      ⟨by simp [Lane.gate, BGR_STATE.DRY], Lane.onlyFields_rd hwithin _ he0', hwithin⟩
  · rintro s l same L rfl hst hsame
    refine completes_of_exec (g := fun L => firstFaultFields.foldl (fun K f => K.clr f) L) (congrArg Host.Outcome.next (onLane_congr s l ?_)) ?_
    · rcases hsame with h | h <;> simp [h, hst, firstFaultFields]
    · exact ⟨Lane.rd_foldl_clr (by decide) (by decide), by rw [Lane.on_eq_rd, Lane.rd_foldl_clr (by decide) (by decide)]; rfl,
        Lane.rd_foldl_clr (by decide) (by decide), Lane.onlyFields_foldl_clr _⟩
  · intro s l hst hin
    exact congrArg Host.Outcome.next (onLane_congr s l (by simp [hst, hin]))
  · intro s l same hst
    exact congrArg Host.Outcome.next (onLane_congr s l (by simp [hst]))

end Sys2Proof.Machine
end

-- ==== Refuted statements ====
section
/-! The statements of the model's scope that fail, each with a package that the model runs to an outcome against the statement. -/

namespace Sys2Proof.Machine

/-- A command to a fitted lane whose outcome is one lane in place of its own shows that lane, all but its wired identity. -/
theorem lane_of_next_onLane {t s : State} {l : LaneId} {K : Lane} (hfit : s.variant.fitted l = true)
    (h : (.next t : Out) = .next (s.onLane l fun _ => K)) : t.lane l = { K with strap := (s.lane l).strap } := by
  rw [Host.Outcome.next.inj h, State.lane_onLane_same _ _ _ hfit]

/-- The package at reset with CAN_EVT (event 26) of pair 0 standing in lane A although its condition does not hold. -/
def State.eventRaised : State := { State.reset with a := { State.reset.a with regs := State.reset.a.regs.wr (Int.events 0) (2 ^ 26) } }

/-- The package at reset, but for a host die of lane A that runs, at lane time 0, with a slew of 5 ns under way. -/
def State.slewing : State := { State.reset with a := (State.reset.a.wr Int.held 0).wr Int.ngbSlew 5 }

/-- The package at reset, but for a live Couch in lane A and the prepare stage of an entry to level 2, in which its ports are closed. -/
def State.portsClosed : State :=
  { State.reset with a := ((State.reset.a.wr COU_STATUS.LINK 1).wr PSC_STATUS.STAGE 1).wr Int.pscAsk 2 }

/-- Refutes O2: the slew takes a step in the nanosecond that brings the die's clock to 1 where it brings lane time to 1 as well
(assumption 63 puts the step at a multiple of 1,000 ns off by 1 ns), so lane time goes from 0 to 2, not to 1. -/
theorem not_idleStepPassesOneNanosecond : ¬ Obligations.IdleStepPassesOneNanosecond := by
  unfold Obligations.IdleStepPassesOneNanosecond
  intro h
  obtain ⟨t, ht, -, -, -, -, hclocks⟩ := h State.slewing rfl
  obtain ⟨-, -, -, -, -, hbetween, -⟩ := hclocks .a _ _ rfl rfl rfl
  obtain rfl : State.slewing.tick = t := Host.Outcome.next.inj ht
  exact absurd (hbetween (by decide) (by decide) (by decide) (by decide)) (by decide)

/-- Refutes O7: every write to a host block window, one to an address without a register too, brings the events to
their conditions, so it lowers a CAN_EVT whose condition does not hold. -/
theorem not_unassignedAddressesReadZeroOrEndInABusError : ¬ Obligations.UnassignedAddressesReadZeroOrEndInABusError := by
  unfold Obligations.UnassignedAddressesReadZeroOrEndInABusError
  rintro ⟨-, -, hwrite, -⟩
  have hsame := Host.Outcome.next.inj (hwrite State.eventRaised .a 0 0x400EFFFC 0 (by decide) (by decide +kernel))
  have hevents := congrArg (fun t : State => t.a.rd (Int.events 0)) hsame
  exact absurd hevents (by decide +kernel)

/-- Refutes O34: a write to the demand register of channel 0 brings the events to their conditions, so it lowers a CAN_EVT whose
condition does not hold, and that is a field beside the demand. -/
theorem not_registerWriteItemsAndClamps : ¬ Obligations.RegisterWriteItemsAndClamps := by
  unfold Obligations.RegisterWriteItemsAndClamps
  rintro ⟨-, -, -, hdemand, -⟩
  obtain ⟨K, hK, -, r, rfl, hrest⟩ := hdemand State.eventRaised .a 0 0 _ rfl (by decide)
  have hlane := congrArg (fun L : Lane => L.rd (Int.events 0)) (lane_of_next_onLane (s := State.eventRaised) rfl hK)
  exact absurd (hlane.trans (hrest (Int.events 0) (by decide))) (by decide +kernel)

/-- Refutes O28: with a credit and a live Couch the item still waits in the queue while the prepare stage of a power entry holds the
port closed (R422). -/
theorem not_fieldAccessesArePostedOrStall : ¬ Obligations.FieldAccessesArePostedOrStall := by
  unfold Obligations.FieldAccessesArePostedOrStall
  rintro ⟨hposted, -⟩
  obtain ⟨K, hK, hdown, -⟩ := hposted State.portsClosed .a 0 0x60000000 5 _ rfl (by decide) (by decide) (by decide) (by decide) (by decide)
    (by decide)
  have hlane := congrArg Lane.down (lane_of_next_onLane (s := State.portsClosed) rfl hK)
  exact absurd (hlane.trans hdown) (by decide)

end Sys2Proof.Machine
end

-- ==== The reset values ====
section
/-! What a lane holds at reset. -/

namespace Sys2Proof.Machine

/-- Settles O3: at reset a lane lists no register field, so each reads as its reset value. -/
theorem resetLeavesTheResetValues : Obligations.ResetLeavesTheResetValues := by
  unfold Obligations.ResetLeavesTheResetValues
  have hrd : ∀ (l : LaneId) (f : Fld), (State.reset.lane l).rd f = f.reset := by
    intro l f
    cases l <;> rfl
  refine ⟨rfl, rfl, rfl, hrd, ?_⟩
  rintro l _ rfl
  refine ⟨hrd l _, hrd l _, hrd l _, hrd l _, hrd l _, hrd l _, hrd l _, ?_, fun k _ => hrd l _, ?_⟩
  · rw [Lane.on_eq_rd, hrd]
    rfl
  · cases l <;> exact ⟨by decide, by decide, rfl, rfl, rfl⟩

end Sys2Proof.Machine
end

-- ==== What a lane keeps ====
section
/-! Fields of a region that is reset, and what an operation keeps of a lane: the frame messages it has heard and a list of its fields. -/

namespace Sys2Proof.Machine

/-! ### Fields of a region that is reset -/

theorem mapGet_filter {α : Type} (m : List (ℕ × α)) (p : ℕ → Bool) (k : ℕ) :
    mapGet (m.filter fun e => p e.1) k = if p k then mapGet m k else none := by
  induction m with
  | nil => simp [mapGet]
  | cons e r ih =>
    obtain ⟨a, v⟩ := e
    by_cases hk : a = k
    · subst hk
      cases hp : p a <;> simp_all [mapGet]
    · cases hp : p a <;> simp_all [mapGet]

/-- A field of the region that is reset reads as its reset value. -/
theorem Store.rd_resetHome_same (s : Store) {h : Home} {f : Fld} (hf : f.key / 2 ^ 48 = h.code) : (s.resetHome h).rd f = f.reset := by
  rw [Store.rd, Store.resetHome, mapGet_filter s fun k => decide (k / 2 ^ 48 ≠ h.code), if_neg (by simpa using hf)]
  rfl

/-- A field of another region keeps its value. -/
theorem Store.rd_resetHome_ne (s : Store) {h : Home} {f : Fld} (hf : f.key / 2 ^ 48 ≠ h.code) : (s.resetHome h).rd f = s.rd f := by
  rw [Store.rd, Store.resetHome, mapGet_filter s fun k => decide (k / 2 ^ 48 ≠ h.code), if_pos (by simpa using hf)]
  rfl

/-! ### What a lane keeps -/

/-- `K` has the frame messages that `O` has heard and reads as `O` in the fields `fs`. -/
structure Lane.Keeps (fs : List Fld) (O K : Lane) : Prop where
  heard : K.heard = O.heard
  rd : ∀ f ∈ fs, K.rd f = O.rd f

namespace Lane.Keeps

variable {fs : List Fld} {O L K : Lane}

theorem refl (L : Lane) : L.Keeps fs L := ⟨rfl, fun _ _ => rfl⟩

theorem trans (h : O.Keeps fs L) (h' : L.Keeps fs K) : O.Keeps fs K :=
  ⟨h'.heard.trans h.heard, fun f hf => (h'.rd f hf).trans (h.rd f hf)⟩

/-- A write to a field that is none of them. -/
theorem wr {f : Fld} {v : ℕ} (hf : f.key ∉ fs.map Fld.key) (h : O.Keeps fs L) : O.Keeps fs (L.wr f v) :=
  ⟨h.heard, fun g hg => (L.rd_wr_ne f g v fun e => hf (e ▸ List.mem_map_of_mem hg)).trans (h.rd g hg)⟩

theorem ite {c : Prop} [Decidable c] (hL : O.Keeps fs L) (hK : O.Keeps fs K) : O.Keeps fs (if c then L else K) :=
  ite_keeps _ hL hK

theorem iff {b : Bool} {g : Lane → Lane} (hg : ∀ K, O.Keeps fs K → O.Keeps fs (g K)) (h : O.Keeps fs L) : O.Keeps fs (L.iff b g) :=
  .ite (hg L h) h

theorem foldl {β : Type} {g : Lane → β → Lane} {xs : List β} (hg : ∀ x ∈ xs, ∀ K, O.Keeps fs K → O.Keeps fs (g K x))
    (h : O.Keeps fs L) : O.Keeps fs (xs.foldl g L) := by
  induction xs generalizing L with
  | nil => exact h
  | cons x r ih => exact ih (fun y hy => hg y (List.mem_cons_of_mem _ hy)) (hg x List.mem_cons_self L h)

theorem forN {n : ℕ} {g : ℕ → Lane → Lane} (hg : ∀ i < n, ∀ K, O.Keeps fs K → O.Keeps fs (g i K)) (h : O.Keeps fs L) :
    O.Keeps fs (L.forN n g) := .foldl (fun i hi K hK => hg i (List.mem_range.1 hi) K hK) h

end Lane.Keeps

end Sys2Proof.Machine
end

-- ==== The abort of a power entry that resets the host die ====
section
/-! An abort of a power entry whose field regions are OFF resets both dies, and the device mode with them. -/

namespace Sys2Proof.Machine

/-- The device mode and the one before it (R58). -/
def modeFields : List Fld := [CFG_MODE_STATUS.DEVICE_MODE, CFG_MODE_STATUS.PREV_MODE]

theorem modeFields_host : ∀ f ∈ modeFields, f.key / 2 ^ 48 = Home.host.code := by decide

/-- A field of another region than the host die's own is not one of them. -/
theorem key_notMem_modeFields {f : Fld} (h : 2 ^ 48 ≤ f.key) : f.key ∉ modeFields.map Fld.key := by
  have hlow : ∀ k ∈ modeFields.map Fld.key, k < 2 ^ 48 := by decide
  exact fun hm => absurd (hlow _ hm) (by omega)

namespace Lane

variable {L : Lane}

/-- After a host die reset the device mode is WAKE and no mode is shown as the one before it (R26, R58). -/
theorem hostReset_modeFields {f : Fld} (hf : f ∈ modeFields) : L.hostReset.rd f = f.reset := by
  have hregion := modeFields_host f hf
  have hcleared : (((L.regs.resetHome .host).resetHome .net).resetHome .sa).rd f = f.reset := by
    rw [Store.rd_resetHome_ne _ (by rw [hregion]; decide), Store.rd_resetHome_ne _ (by rw [hregion]; decide),
      Store.rd_resetHome_same _ hregion]
  have hcount : ∀ src, (BGR_CNT.CNT src).key ∉ modeFields.map Fld.key := fun src =>
    key_notMem_modeFields (by simp only [Fld.key, BGR_CNT.CNT, Home.code]; omega)
  have hstate : ∀ n, (laneStateOf n).key ∉ modeFields.map Fld.key := fun n =>
    ite_keeps (fun f : Fld => f.key ∉ _) (by decide) (ite_keeps (fun f : Fld => f.key ∉ _) (by decide) (by decide))
  have hpair : ∀ p < 4, (LSC_PAIR_STATUS.STATE p).key ∉ modeFields.map Fld.key := by decide
  have hchal : ∀ k < 4, (LCS_CHAL.CHAL k).key ∉ modeFields.map Fld.key := by decide
  unfold hostReset
  extract_lets lost first time lc K₀ K₁ K₂ K₃ K₄ K₅ K₆
  have h₁ : K₀.Keeps modeFields K₁ := .foldl (fun a _ _ hJ => .ite (.wr (by decide) hJ) (.wr (hcount a.src) hJ)) (.refl K₀)
  have h₆ : K₀.Keeps modeFields K₆ :=
    .iff (fun _ hJ => .wr (hstate _) (.wr (by decide) hJ)) (.iff (fun _ hJ => .wr (by decide) (.wr (by decide) (.wr (by decide) hJ)))
      (.iff (fun _ hJ => .wr (by decide) (.wr (by decide) hJ)) (.forN (fun p hp _ hJ => .iff (fun _ hJ => .wr (hpair p hp) hJ) hJ)
        (.wr (by decide) (.wr (by decide) (.wr (by decide) (.wr (by decide) h₁)))))))
  have hfinal : K₀.Keeps modeFields ((K₆.newChallenge.wr PSC_SUPPLY.OK (L.rd PSC_SUPPLY.OK)).set Int.held) :=
    .wr (by decide) (.wr (by decide) (.forN (fun k hk K hK => .wr (L := (K.fresh _).2) (hchal k hk) ⟨hK.heard, hK.rd⟩) h₆))
  exact (hfinal.rd f hf).trans hcleared

/-- A field die reset changes no field of the host die. -/
theorem fieldRestart_modeFields {f : Fld} (hf : f ∈ modeFields) : L.fieldRestart.rd f = L.rd f := by
  have hregion := modeFields_host f hf
  have hport : ∀ k < 3, (FPS_PORT.EPOCH k).key ∉ modeFields.map Fld.key := by decide
  have hkeeps : L.fieldReset.Keeps modeFields L.fieldRestart := .forN (fun k hk _ hK => .wr (hport k hk) hK) (.refl _)
  have hok : f.key ≠ FPS_STATUS.OK.key := (by decide : ∀ g ∈ modeFields, g.key ≠ FPS_STATUS.OK.key) f hf
  rw [hkeeps.rd f hf, fieldReset, rd_wr_ne _ _ _ _ hok]
  exact Store.rd_resetHome_ne _ (by rw [hregion]; decide)

/-- The abort of an entry whose field regions are OFF ends in a reset of both dies (R423). -/
theorem restartStopped_resets (hn3 : L.on Int.pscN3 = true) (hask : L.rd Int.pscAsk = 3) :
    ∃ J : Lane, L.restartStopped = J.hostReset.fieldRestart := by
  unfold restartStopped
  extract_lets off K₀ K₁
  exact ⟨_, if_pos (by simp [off, hn3, hask])⟩

/-- A privileged wake that aborts such an entry resets both dies (R423, R426). -/
theorem latchWake_resets (w : ℕ) (h : L.abortResets = true) : ∃ J : Lane, L.latchWake w = J.hostReset.fieldRestart := by
  unfold latchWake
  extract_lets K
  have hK : L.KeepsExit K := .event (.wr (by decide) (.wr (by decide) (.refl L)))
  have hresets : K.abortResets = true := (abortResets_congr fun f hf => hK f (by revert f; decide)).trans h
  simp only [abortResets, Bool.and_eq_true, decide_eq_true_eq] at hresets
  obtain ⟨⟨hopen, hn3⟩, hask⟩ := hresets
  generalize K.nextAbortPoint = ap
  have hmark : K.KeepsExit (((K.inc PSC_CNT.ABORTED).wr PSC_REFUSE.ABORT_AP ap).wr PSC_REFUSE.ABORT_SRC (2 ^ w)) :=
    .wr (by decide) (.wr (by decide) (.wr (by decide) (.refl K)))
  rw [if_pos hopen, abortEntry]
  refine restartStopped_resets ?_ ((hmark Int.pscAsk (by decide)).trans hask)
  rw [on_eq_rd, hmark Int.pscN3 (by decide), ← on_eq_rd, hn3]

/-- A wake by KEY_ON that aborts such an entry does not show SHUTDOWN as the mode before it: the reset by the abort has set the device mode
to WAKE before the wake asks for SHUTDOWN. -/
theorem privilegedWake_prevMode (h : L.abortResets = true) : (L.privilegedWake 0).rd CFG_MODE_STATUS.PREV_MODE ≠ mShutdown := by
  obtain ⟨J, hJ⟩ := L.latchWake_resets 0 h
  have hmode : (L.latchWake 0).mode = mWake := by
    rw [mode, hJ, fieldRestart_modeFields (by decide), hostReset_modeFields (by decide)]
    rfl
  have hprev : (L.latchWake 0).rd CFG_MODE_STATUS.PREV_MODE = 0 := by
    rw [hJ, fieldRestart_modeFields (by decide), hostReset_modeFields (by decide)]
    rfl
  unfold privilegedWake
  extract_lets K K₁
  split_ifs with hasleep hdebug hlevel hshutdown
  · exact absurd hdebug (by decide)
  · rw [wakeDormant, rd_wr_ne _ _ _ _ (by decide), rd_wr_ne _ _ _ _ (by decide), rd_wr_same]
    decide
  · rw [set_eq, rd_wr_ne _ _ _ _ (by decide), hprev]
    decide
  · obtain ⟨hmode', -, -⟩ := hshutdown
    rw [hmode] at hmode'
    exact absurd hmode' (by decide)
  · rw [hprev]
    decide

end Lane

/-- The package at reset, but for lane A in SHUTDOWN with its host die released, and in its entry to level 3 the field regions OFF (N3) and
the retention list being saved (R421). -/
def State.fieldRegionsOff : State :=
  { State.reset with a := ((((((((State.reset.a.wr Int.held 0).wr CFG_MODE_STATUS.DEVICE_MODE mShutdown).wr CFG_MODE_STATUS.LANE_STATE stReady).wr
      PSC_STATUS.STAGE pscSave).wr Int.pscAsk 3).wr Int.pscN3 1).wr PSC_STATUS.CORE 2).wr PSC_STATUS.FABRIC 2) }

/-- Refutes O38: in SHUTDOWN, before N4 of an entry to level 3 whose field regions are OFF, KEY_ON_RISE first aborts the entry, which resets
both dies (R423) and leaves the device mode at WAKE; the wake then finds no SHUTDOWN to leave, and PREV_MODE stays 0. -/
theorem not_keysAndResetsOfALane : ¬ Obligations.KeysAndResetsOfALane := by
  unfold Obligations.KeysAndResetsOfALane
  rintro ⟨-, -, -, -, -, hshutdown, -⟩
  obtain ⟨K, hK, hprev, -⟩ := hshutdown State.fieldRegionsOff .a _ rfl (by decide) (by decide) (by decide) (by decide) (by decide)
  have hlane := congrArg (fun L : Lane => L.rd CFG_MODE_STATUS.PREV_MODE) (lane_of_next_onLane (s := State.fieldRegionsOff) rfl hK)
  exact Lane.privilegedWake_prevMode (L := ((State.fieldRegionsOff.a.set Int.keyOn).clr Int.keyOffHeld).syncKeyHeld) (by decide)
    (hlane.trans hprev)

end Sys2Proof.Machine
end

-- ==== Statements refuted by a field beyond its width ====
section
/-! Two statements that a lane refutes whose field holds more than its bits. -/

namespace Sys2Proof.Machine

/-- The package at reset, but for lane A, whose collector is in LATCHED with one S1 fault on its way to it, and whose field store lists 8 for
LATER_MAX, a value that its three bits do not hold and no write stores. -/
def State.laterMaxOverfull : State :=
  { State.reset with a := { State.reset.a with
      regs := [(BGR_STATE.STATE.key, 1), (BGR_FIRST.LATER_MAX.key, 8)], inbox := [⟨0x0C, false, 1, 0⟩] } }

/-- Refutes O23: the statement takes the lane as it is, with no bound on what its fields hold. From 8 in LATER_MAX the larger of 8 and the
severity is written, of which three bits remain: LATER_MAX becomes 0, below the severity of the arrival. -/
theorem not_faultArrivalsAndInjectedFaults : ¬ Obligations.FaultArrivalsAndInjectedFaults := by
  unfold Obligations.FaultArrivalsAndInjectedFaults
  rintro ⟨⟨-, -, hlater, -⟩, -⟩
  obtain ⟨K, hK, -, -, -, -, hmax, -⟩ := hlater State.laterMaxOverfull .a 0x0C _ rfl rfl (by decide) (by decide) (by decide)
  have hlane := congrArg (fun L : Lane => L.rd BGR_FIRST.LATER_MAX) (lane_of_next_onLane (s := State.laterMaxOverfull) rfl hK)
  have hsev : 1 ≤ State.laterMaxOverfull.a.severity 0x0C := by decide
  exact absurd (hlane.trans_ge (hsev.trans hmax)) (by decide)

/-- The package at reset, but for lane A, whose field regions are OFF and whose field store lists 8 for FPS_STATUS.OK, a value that its three
bits do not hold and no write stores. -/
def State.supplyOkOverfull : State :=
  { State.reset with a := { State.reset.a with
      regs := [(FPS_STATUS.CLE.key, 3), (FPS_STATUS.PWM.key, 3), (FPS_STATUS.ANALOG.key, 3), (FPS_STATUS.OK.key, 8)] } }

/-- Refutes O56: the statement takes the lane as it is, with no bound on what its fields hold. The field die reset of REGION_POWER_UP writes
FPS_STATUS.OK again as it was read (R434), of which three bits remain: from 8 it becomes 0. -/
theorem not_wakesSuppliesAndTemperature : ¬ Obligations.WakesSuppliesAndTemperature := by
  unfold Obligations.WakesSuppliesAndTemperature
  rintro ⟨-, hregion, -⟩
  obtain ⟨hfield, -⟩ := hregion State.supplyOkOverfull .a _ rfl
  obtain ⟨K, hK, -, -, -, hok, -⟩ := hfield (by decide) (by decide)
  have hlane := congrArg (fun L : Lane => L.rd FPS_STATUS.OK) (lane_of_next_onLane (s := State.supplyOkOverfull) rfl hK)
  exact absurd (hlane.trans hok) (by decide)

end Sys2Proof.Machine
end

-- ==== The agreement frame ====
section
/-! What the operations of a lane leave of the agreement frame, and the start of a frame (R230, R231). -/

namespace Sys2Proof.Machine

/-- What a frame of the agreement is counted and timed by (R230, R231), and the device mode it starts in. All of them are of the host die's
own region. -/
def frameFields : List Fld :=
  [CFG_MODE_STATUS.DEVICE_MODE, Int.laneTime, LSC_AGR_FRAMENO.FRAMENO, LSC_AGR_CFG.READY, Int.frameOpen, Int.readyDone, Int.frameAt]

theorem frameFields_key_lt : ∀ k ∈ frameFields.map Fld.key, k < 2 ^ 48 := by decide

/-- The fields at an address of the NET region lie in the window of that region. -/
theorem slotsAt_net_key {a : ℕ} (ha : retRegion a = some 1) {x : Row × Fld} (hx : x ∈ slotsAt a) :
    x.2.home.code * 2 ^ 48 + 0x4007FFFC * 32 ≤ x.2.key ∧ x.2.key < x.2.home.code * 2 ^ 48 + 0x400A0008 * 32 + 64 := by
  have hrange : 0x40080000 ≤ a ∧ a < 0x400A0000 := by
    unfold retRegion at ha
    split_ifs at ha with _ hnet
    · simpa using hnet
    · simp at ha
    · simp at ha
  have hsev : sevSlots a = [] := by
    rw [sevSlots, if_neg (by omega), if_neg (by omega)]
  rw [slotsAt, hsev, List.append_nil, List.mem_filter, List.mem_flatMap] at hx
  obtain ⟨⟨r, -, hr⟩, hpos⟩ := hx
  obtain ⟨c, hc, hat⟩ := List.mem_filterMap.1 hr
  have haddr : x.2.addr = c := by
    rw [Row.at?, Option.ite_none_right_eq_some] at hat
    rw [← Option.some.inj hat.2]
  have hbelow : x.2.pos < 8 * a + 32 := of_decide_eq_true (Bool.and_eq_true_iff.1 hpos).1
  simp only [List.mem_cons, List.not_mem_nil, or_false] at hc
  unfold Fld.pos at hbelow
  unfold Fld.key
  omega


namespace Lane.Keeps

variable {O L : Lane}

/-- A write to a field of another region. -/
theorem wrAway {f : Fld} {v : ℕ} (hf : (f.home == .host) = false) (h : O.Keeps frameFields L) : O.Keeps frameFields (L.wr f v) := by
  have hhome : 1 ≤ f.home.code := by
    cases hc : f.home <;> simp_all [Home.code]
  have hkey : 2 ^ 48 ≤ f.key := by
    unfold Fld.key
    omega
  exact .wr (fun hm => absurd (frameFields_key_lt _ hm) (by omega)) h

/-! Events, reports and messages -/

theorem wakePair {p : ℕ} (h : O.Keeps frameFields L) : O.Keeps frameFields (L.wakePair p) :=
  .ite h (.iff (fun _ hJ => .wr (by decide) (.wr (by decide) hJ)) (.iff (fun _ hK => .wr (by decide) hK) (.wr (by decide) h)))

theorem eventTo {p ev : ℕ} (hp : p < 4) (h : O.Keeps frameFields L) : O.Keeps frameFields (L.eventTo p ev) :=
  .ite h (.iff (fun _ hK => .wakePair hK) (.wr ((by decide : ∀ i < 4, (Int.events i).key ∉ frameFields.map Fld.key) p hp) h))

theorem event {ev : ℕ} (h : O.Keeps frameFields L) : O.Keeps frameFields (L.event ev) := .forN (fun _ hp _ hK => .eventTo hp hK) h

theorem raise {src : ℕ} (h : O.Keeps frameFields L) : O.Keeps frameFields (L.raise src) := ⟨h.heard, h.rd⟩

theorem sendMbx {m : MbxUp} (h : O.Keeps frameFields L) : O.Keeps frameFields (L.sendMbx m) := .ite ⟨h.heard, h.rd⟩ (.wr (by decide) h)

theorem pump (h : O.Keeps frameFields L) : O.Keeps frameFields L.pump :=
  .wr (by decide) (.wr (by decide) ⟨h.heard, h.rd⟩)

theorem toField {i : DownItem} (h : O.Keeps frameFields L) : O.Keeps frameFields (L.toField i) := .ite (.pump ⟨h.heard, h.rd⟩) h

theorem setFelt {p : ℕ} {ms : List FeltMsg} (h : O.Keeps frameFields L) : O.Keeps frameFields (L.setFelt p ms) :=
  .ite ⟨h.heard, h.rd⟩ ⟨h.heard, h.rd⟩

theorem setFeltWait {p : ℕ} {ms : List FeltMsg} (h : O.Keeps frameFields L) : O.Keeps frameFields (L.setFeltWait p ms) :=
  .ite ⟨h.heard, h.rd⟩ ⟨h.heard, h.rd⟩

theorem pumpFelt {p : ℕ} (hp : p < 2) (h : O.Keeps frameFields L) : O.Keeps frameFields (L.pumpFelt p) :=
  .wr ((by decide : ∀ i < 2, (FLT_P_STATUS.OUTSTANDING i).key ∉ frameFields.map Fld.key) p hp)
    (.wr ((by decide : ∀ i < 2, (FLT_P_STATUS.CREDITS i).key ∉ frameFields.map Fld.key) p hp) (.setFeltWait (.setFelt h)))

theorem sendFelt {p : ℕ} {m : FeltMsg} (hp : p < 2) (h : O.Keeps frameFields L) : O.Keeps frameFields (L.sendFelt p m) :=
  .ite (.pumpFelt hp (.setFeltWait h)) h

theorem sendFeltAll {m : FeltMsg} (h : O.Keeps frameFields L) : O.Keeps frameFields (L.sendFeltAll m) :=
  .sendFelt (by decide) (.sendFelt (by decide) h)

/-! The scheduler -/

theorem syncSched (h : O.Keeps frameFields L) : O.Keeps frameFields L.syncSched := by
  have apart : ∀ t < 5, (SCH_T_STATUS.QDEPTH t).key ∉ frameFields.map Fld.key ∧ (SCH_T_STATUS.SLOW t).key ∉ frameFields.map Fld.key ∧
      (SCH_T_STATUS.EXEC t).key ∉ frameFields.map Fld.key ∧ (SCH_T_STATUS.EXEC_IDX t).key ∉ frameFields.map Fld.key := by decide
  have classes : ∀ k < 16, (SCH_CL_STAT.READY k).key ∉ frameFields.map Fld.key := by decide
  unfold Lane.syncSched
  refine .forN (fun t ht _ hJ => ?_) (.forN (fun k hk _ hJ => .wr (classes k hk) hJ) (.wr (by decide) h))
  obtain ⟨hdepth, hslow, hexec, hidx⟩ := apart t ht
  dsimp only
  split
  · exact .wr hidx (.wr hexec (.wr hslow (.iff (fun _ hJ' => .raise hJ') (.wr hdepth hJ))))
  · exact .wr hidx (.wr hexec (.wr hslow (.iff (fun _ hJ' => .raise hJ') (.wr hdepth hJ))))

theorem setSched {sched : Sched} (h : O.Keeps frameFields L) : O.Keeps frameFields (L.setSched sched) :=
  .syncSched (L := { L with sched := sched }) ⟨h.heard, h.rd⟩

theorem returnTarget {t : ℕ} {execToo : Bool} (ht : t < 5) (h : O.Keeps frameFields L) : O.Keeps frameFields (L.returnTarget t execToo) :=
  .setSched (.wr ((by decide : ∀ i < 5, (SCH_T_CNT.RETURNED i).key ∉ frameFields.map Fld.key) t ht) h)

end Lane.Keeps

/-- The quantities of the 4,096 operations lie apart from the agreement frame. -/
theorem opFields_apart {n : ℕ} (hn : n < 4096) :
    (Int.opTokens n).key ∉ frameFields.map Fld.key ∧ (Int.opFlag n).key ∉ frameFields.map Fld.key ∧
      (Int.opTrigAt n).key ∉ frameFields.map Fld.key ∧ (Int.opInst n).key ∉ frameFields.map Fld.key := by
  have hout : ∀ k ∈ frameFields.map Fld.key, k < 0xf0003380 * 32 ∨ 0xf0017380 * 32 ≤ k := by decide
  have between : ∀ k, 0xf0003380 * 32 ≤ k → k < 0xf0017380 * 32 → k ∉ frameFields.map Fld.key := fun k _ _ hm => by
    have := hout k hm
    omega
  simp only [Fld.key, Int.opTokens, Int.opFlag, Int.opTrigAt, Int.opInst, Home.code]
  exact ⟨between _ (by omega) (by omega), between _ (by omega) (by omega), between _ (by omega) (by omega), between _ (by omega) (by omega)⟩

theorem Lane.opFlow_lt (L : Lane) (n : ℕ) : L.opFlow n < 256 := by
  unfold Lane.opFlow slice
  omega

/-- The registers of the 256 flows lie apart from the agreement frame. -/
theorem flowFields_apart {f : ℕ} (hf : f < 256) :
    (SCH_FLOW.BOUND f).key ∉ frameFields.map Fld.key ∧ (SCH_FLOW.REBOUND f).key ∉ frameFields.map Fld.key := by
  have hout : ∀ k ∈ frameFields.map Fld.key, k < 0x40040800 * 32 ∨ 0x40040C08 * 32 ≤ k := by decide
  have between : ∀ k, 0x40040800 * 32 ≤ k → k < 0x40040C08 * 32 → k ∉ frameFields.map Fld.key := fun k _ _ hm => by
    have := hout k hm
    omega
  simp only [Fld.key, SCH_FLOW.BOUND, SCH_FLOW.REBOUND, Home.code]
  exact ⟨between _ (by omega) (by omega), between _ (by omega) (by omega)⟩

namespace Lane.Keeps

variable {O L : Lane}

theorem flowHome {n : ℕ} (h : O.Keeps frameFields L) : O.Keeps frameFields (L.flowHome n) :=
  .ite (.wr (flowFields_apart (L.opFlow_lt n)).1 h) h

theorem judgeReady {n : ℕ} (hn : n < 4096) (h : O.Keeps frameFields L) : O.Keeps frameFields (L.judgeReady n) := by
  obtain ⟨htokens, hflag, -, hinst⟩ := opFields_apart hn
  exact .ite h (.ite (.raise (.wr (by decide) (.wr hflag (.wr htokens h)))) (.setSched (.flowHome (.wr hinst (.wr hflag (.wr htokens h))))))

theorem trigger {n : ℕ} (hn : n < 4096) (h : O.Keeps frameFields L) : O.Keeps frameFields (L.trigger n) := by
  obtain ⟨-, hflag, htrig, -⟩ := opFields_apart hn
  exact .judgeReady hn (.wr htrig (.wr hflag h))

theorem triggerAll {kind : ℕ} {cond : ℕ → Bool} (h : O.Keeps frameFields L) : O.Keeps frameFields (L.triggerAll kind cond) :=
  .ite (.forN (fun _ hn _ hK => .iff (fun _ hJ => .trigger hn hJ) hK) h) h

theorem rebindFrom {t : ℕ} (h : O.Keeps frameFields L) : O.Keeps frameFields (L.rebindFrom t) := by
  unfold Lane.rebindFrom
  refine .ite h (.forN (fun n _ K hK => .ite hK ?_) h)
  split
  · exact hK
  · obtain ⟨hbound, hrebound⟩ := flowFields_apart (K.opFlow_lt n)
    exact .wr hrebound (.wr hbound hK)

theorem checkCapacity (h : O.Keeps frameFields L) : O.Keeps frameFields L.checkCapacity := .ite (.raise (.wr (by decide) h)) (.wr (by decide) h)

theorem pairLeaves {p : ℕ} (hp : p < 4) (h : O.Keeps frameFields L) : O.Keeps frameFields (L.pairLeaves p) :=
  .checkCapacity (.iff (fun _ hK => .rebindFrom hK) (.rebindFrom (.iff (fun _ hK => .returnTarget (by decide) hK) (.returnTarget (by omega) h))))

theorem obsFrame (h : O.Keeps frameFields L) : O.Keeps frameFields L.obsFrame := by
  have targets : ∀ t < 5, (SCH_T_OBS.LOAD t).key ∉ frameFields.map Fld.key ∧ (SCH_T_OBS.WAIT_MEAN t).key ∉ frameFields.map Fld.key ∧
      (Int.obsExec t).key ∉ frameFields.map Fld.key ∧ (Int.obsWait t).key ∉ frameFields.map Fld.key ∧
      (Int.obsN t).key ∉ frameFields.map Fld.key := by decide
  have classes : ∀ k < 16, (SCH_CL_STAT.WAIT_MAX k).key ∉ frameFields.map Fld.key ∧ (Int.obsMax k).key ∉ frameFields.map Fld.key := by decide
  refine .ite (.wr (by decide) h) (.wr (by decide) (.wr (by decide) (.forN (fun k hk _ hK => ?_) (.forN (fun t ht _ hK => ?_) h))))
  · obtain ⟨hwait, hmax⟩ := classes k hk
    exact .wr hmax (.wr hwait hK)
  · obtain ⟨hload, hmean, hexec, hwait, hn⟩ := targets t ht
    exact .wr hn (.wr hwait (.wr hexec (.wr hmean (.wr hload hK))))

/-! The entry to a power level, which a pair that is fenced may start -/

theorem putWord {a data : ℕ} (ha : retRegion a = some 1) (h : O.Keeps frameFields L) : O.Keeps frameFields (L.putWord a data) := by
  have hout : ∀ k ∈ frameFields.map Fld.key, k < 0x4007FFFC * 32 ∨ 0x400A0008 * 32 + 64 ≤ k := by decide
  refine .foldl (fun x hx _ hK => .wr (fun hm => ?_) hK) h
  have hkey := slotsAt_net_key ha hx
  have hlow := frameFields_key_lt _ hm
  have := hout _ hm
  omega

theorem retRestore (h : O.Keeps frameFields L) : O.Keeps frameFields (L.retRestore [1]) := by
  refine .ite (.foldl (fun e he K hK => .putWord ?_ hK) h) (.wrAway rfl h)
  obtain ⟨-, hin⟩ := List.mem_filter.1 he
  split at hin
  · rename_i r hr
    simpa [hr] using hin
  · cases hin

theorem netOn (h : O.Keeps frameFields L) : O.Keeps frameFields L.netOn := .iff (fun _ hK => .wrAway rfl (.retRestore (.wr (by decide) hK))) h

theorem resumeDozed (h : O.Keeps frameFields L) : O.Keeps frameFields L.resumeDozed := .event (.wr (by decide) (.wr (by decide) h))

theorem pumpPorts (h : O.Keeps frameFields L) : O.Keeps frameFields L.pumpPorts := .pumpFelt (by decide) (.pumpFelt (by decide) (.pump h))

/-- Blocks that restart before the field regions went OFF (R423). -/
theorem restartStopped (hn3 : L.on Int.pscN3 = false) (h : O.Keeps frameFields L) : O.Keeps frameFields L.restartStopped := by
  unfold Lane.restartStopped
  extract_lets off J M
  have hM : O.Keeps frameFields M := .resumeDozed (.iff (fun _ hK => .wrAway rfl (.wr (by decide) hK)) (.netOn (.wr (by decide) (.wr (by decide)
    (.wr (by decide) (.wr (by decide) (.wr (by decide) h)))))))
  rw [if_neg (by simp [off, hn3])]
  exact .pumpPorts hM

theorem abortEntry {ap src : ℕ} (hn3 : L.on Int.pscN3 = false) (h : O.Keeps frameFields L) : O.Keeps frameFields (L.abortEntry ap src) := by
  refine .restartStopped ?_ (.wr (by decide) (.wr (by decide) (.wr (by decide) h)))
  rw [on_wr_ne _ _ _ _ (by decide), on_wr_ne _ _ _ _ (by decide), inc_eq, on_wr_ne _ _ _ _ (by decide), hn3]

theorem refuseEntry {id reason stage : ℕ} (h : O.Keeps frameFields L) : O.Keeps frameFields (L.refuseEntry id reason stage) :=
  .raise (.pumpPorts (.wr (by decide) (.wr (by decide) (.wr (by decide) (.wr (by decide) (.wr (by decide) (.wr (by decide) h)))))))

theorem prepare (h : O.Keeps frameFields L) : O.Keeps frameFields L.prepare := by
  have hK : O.Keeps frameFields ((((L.wr PSC_STATUS.STAGE pscPrepare).clr Int.pscAnswered).clr Int.wakePend).clr Int.pscN3) :=
    .wr (by decide) (.wr (by decide) (.wr (by decide) (.wr (by decide) h)))
  exact .ite (.abortEntry (by simp) hK) hK

theorem startEntry (h : O.Keeps frameFields L) : O.Keeps frameFields L.startEntry :=
  .ite h (.ite (.prepare (.wr (by decide) h)) (.refuseEntry (.wr (by decide) h)))

theorem fencePair {p : ℕ} (hp : p < 4) (h : O.Keeps frameFields L) : O.Keeps frameFields (L.fencePair p) := by
  have apart : ∀ p < 4, (LSC_PAIR_STATUS.STATE p).key ∉ frameFields.map Fld.key ∧ (Int.m5 p).key ∉ frameFields.map Fld.key := by decide
  obtain ⟨hstate, hm5⟩ := apart p hp
  have hleft : O.Keeps frameFields ((((L.wr (LSC_PAIR_STATUS.STATE p) 3).set (Int.fenced p)).clr (Int.m5 p)).pairLeaves p) :=
    .pairLeaves hp (.wr hm5 (.wrAway rfl (.wr hstate h)))
  exact .ite hleft (.startEntry hleft)

theorem resyncFrame {p : ℕ} (hp : p < 4) (h : O.Keeps frameFields L) : O.Keeps frameFields (L.resyncFrame p) := by
  have apart : ∀ p < 4, (Int.rsOpen p).key ∉ frameFields.map Fld.key ∧ (Int.rsFrames p).key ∉ frameFields.map Fld.key ∧
      (Int.rsRun p).key ∉ frameFields.map Fld.key ∧ (Int.rsWhole p).key ∉ frameFields.map Fld.key ∧
      (LSC_PAIR_STATUS.STATE p).key ∉ frameFields.map Fld.key ∧ (Int.m5 p).key ∉ frameFields.map Fld.key := by decide
  obtain ⟨hopen, hframes, hrun, hwhole, hstate, hm5⟩ := apart p hp
  unfold Lane.resyncFrame
  extract_lets st run frames K
  have hK : O.Keeps frameFields K := .wr hwhole (.wr hrun (.wr hframes (.wr hopen h)))
  exact .ite h (.ite (.checkCapacity (.wrAway rfl (.wr hm5 (.wr hstate hK)))) (.ite (.raise (.fencePair hp hK)) hK))

/-! The lease -/

theorem setRole {r : ℕ} (h : O.Keeps frameFields L) : O.Keeps frameFields (L.setRole r) := .ite h (.event (.wrAway rfl h))

theorem setHolder {n : ℕ} (h : O.Keeps frameFields L) : O.Keeps frameFields (L.setHolder n) := .ite h (.event (.wrAway rfl h))

theorem driveSa (h : O.Keeps frameFields L) : O.Keeps frameFields L.driveSa := .toField h

theorem undrive (h : O.Keeps frameFields L) : O.Keeps frameFields L.undrive := .ite (.driveSa (.wrAway rfl h)) h

theorem refreshSa (h : O.Keeps frameFields L) : O.Keeps frameFields L.refreshSa := .ite (.driveSa h) h

theorem syncEligible (h : O.Keeps frameFields L) : O.Keeps frameFields L.syncEligible := .wrAway rfl h

theorem takeSeq {seq : ℕ} (h : O.Keeps frameFields L) : O.Keeps frameFields (L.takeSeq seq) := .wrAway rfl (.wrAway rfl (.wrAway rfl h))

theorem releaseLease {successor : ℕ} (h : O.Keeps frameFields L) : O.Keeps frameFields (L.releaseLease successor) := by
  unfold Lane.releaseLease
  exact .wrAway rfl (.wrAway rfl (.setHolder (.setRole (.sendFeltAll (.takeSeq (.undrive h))))))

theorem endClaim (h : O.Keeps frameFields L) : O.Keeps frameFields L.endClaim :=
  .ite h (.iff (fun _ hK => .setHolder hK) (.wrAway rfl (.setRole h)))

theorem chooseSuccessor (h : O.Keeps frameFields L) : O.Keeps frameFields L.chooseSuccessor :=
  .ite (.ite (.wrAway rfl h) (.raise (.wrAway rfl (.wrAway rfl (.wrAway rfl h))))) (.wrAway rfl (.wrAway rfl h))

theorem startHandover {target : ℕ} (h : O.Keeps frameFields L) : O.Keeps frameFields (L.startHandover target) :=
  .ite h (.wrAway rfl (.wrAway rfl (.setRole h)))

theorem plannedStart (h : O.Keeps frameFields L) : O.Keeps frameFields L.plannedStart :=
  .ite (.wrAway rfl (.wrAway rfl h)) (.ite (.startHandover (.wrAway rfl h))
    (.ite (.startHandover (.chooseSuccessor (.wrAway rfl (.wrAway rfl h)))) (.wrAway rfl h)))

theorem leaseFrame (h : O.Keeps frameFields L) : O.Keeps frameFields L.leaseFrame :=
  .syncEligible (.iff (fun _ hJ => .iff (fun _ hJ => .refreshSa hJ) (.wr (by decide) hJ))
    (.iff (fun _ hJ => .wrAway rfl hJ) (.ite (.releaseLease (.wrAway rfl h)) (.plannedStart h))))

/-! The state of the lane and the device mode -/

theorem updateFails {code : Option ℕ} (h : O.Keeps frameFields L) : O.Keeps frameFields (L.updateFails code) := by
  unfold Lane.updateFails
  refine .ite h ?_
  extract_lets K₀ K₁ K₂
  have h₁ : O.Keeps frameFields K₁ := .raise (.event (.wr (by decide) (.wr (by decide) ⟨h.heard, h.rd⟩)))
  clear_value K₁
  cases code with
  | none => exact .ite h₁ (.sendMbx ⟨h₁.heard, h₁.rd⟩)
  | some c => exact .ite (.wr (by decide) h₁) (.sendMbx (.wr (by decide) h₁))

theorem updateLine (h : O.Keeps frameFields L) : O.Keeps frameFields L.updateLine := .wr (by decide) h

theorem syncReady (h : O.Keeps frameFields L) : O.Keeps frameFields L.syncReady := .wr (by decide) (.wr (by decide) h)

theorem setState {st : ℕ} (h : O.Keeps frameFields L) : O.Keeps frameFields (L.setState st) := by
  have states : ∀ n, (laneStateOf n).key ∉ frameFields.map Fld.key := fun n =>
    ite_keeps (fun f : Fld => f.key ∉ _) (by decide) (ite_keeps (fun f : Fld => f.key ∉ _) (by decide) (by decide))
  have hme : L.me < 3 := by
    unfold Lane.me
    cases L.strap.id <;> decide
  have hknown := (by decide : ∀ n < 3, (Int.known n).key ∉ frameFields.map Fld.key) L.me hme
  unfold Lane.setState
  exact .iff (fun _ hJ => .updateFails hJ) (.updateLine (.syncReady (.wr hknown (.wr (states _) (.wr (by decide) h)))))

theorem startSs1 (h : O.Keeps frameFields L) : O.Keeps frameFields L.startSs1 := by
  have axes : ∀ n < 8, (Int.w0 n).key ∉ frameFields.map Fld.key ∧ (Int.envRun n).key ∉ frameFields.map Fld.key := by decide
  exact .ite h (.raise (.iff (fun _ hJ => .toField hJ) (.iff (fun _ hJ => .toField hJ) (.wr (by decide) (.wr (by decide) (.wr (by decide)
    (.forN (fun n hn _ hJ => .wr (axes n hn).2 (.wr (axes n hn).1 hJ)) (.wr (by decide) (.wr (by decide) (.wr (by decide) h))))))))))

theorem stateForMode {was : ℕ} (h : O.Keeps frameFields L) : O.Keeps frameFields (L.stateForMode was) := by
  have admitted : ∀ s < 3, (Int.admitted s).key ∉ frameFields.map Fld.key := by decide
  have hadmit : ∀ g : ℕ → Lane → Bool, ∀ v : ℕ → Lane → Bool, O.Keeps frameFields
      (L.forN 3 fun s J => J.iff (g s J) fun J => J.put (Int.admitted s) (v s J)) :=
    fun g v => .forN (fun s hs _ hJ => .iff (fun _ hJ' => .wr (admitted s hs) hJ') hJ) h
  exact .ite (.wr (by decide) (.ite (.setState h) h)) (.ite (.ite (.setState (hadmit _ _)) (hadmit _ _)) h)

theorem revokeCert (h : O.Keeps frameFields L) : O.Keeps frameFields L.revokeCert := by
  unfold Lane.revokeCert
  refine .ite h (.wr (by decide) ?_)
  split
  · exact h
  · exact ⟨h.heard, h.rd⟩

theorem zeroAxes (h : O.Keeps frameFields L) : O.Keeps frameFields L.zeroAxes := .ite h (.toField h)

theorem sendPermission (h : O.Keeps frameFields L) : O.Keeps frameFields L.sendPermission := .ite h (.toField (.wr (by decide) h))

theorem syncCan (h : O.Keeps frameFields L) : O.Keeps frameFields L.syncCan :=
  .ite (.iff (fun _ hK => .wr (by decide) (.wr (by decide) (.wr (by decide) hK))) h) (.wr (by decide) (.wr (by decide) h))

theorem watchToken (h : O.Keeps frameFields L) : O.Keeps frameFields L.watchToken := .iff (fun _ hK => .wr (by decide) hK) h

theorem syncTarget (h : O.Keeps frameFields L) : O.Keeps frameFields L.syncTarget := .iff (fun _ hK => .wr (by decide) hK) h

/-- The actions of a transition that does not leave SERVICE. -/
theorem modeActions {was : ℕ} (hwas : was ≠ mService) (h : O.Keeps frameFields L) : O.Keeps frameFields (L.modeActions was) := by
  have hnot : decide (was = mService) = false := decide_eq_false hwas
  unfold Lane.modeActions
  simp only [hnot, Bool.false_and, iff_false]
  exact .syncCan (.refreshSa (.syncEligible (.syncReady (.sendPermission (.updateLine (.iff (fun _ hJ => .zeroAxes hJ)
    (.iff (fun _ hJ => .endClaim hJ) (.iff (fun _ hJ => .revokeCert hJ) (.iff (fun _ hJ => .wr (by decide) hJ)
    (.iff (fun _ hJ => .wrAway rfl hJ) (.iff (fun _ hJ => .wr (by decide) (.wr (by decide) hJ)) (.iff (fun _ hJ => .startSs1 hJ)
    (.iff (fun _ hJ => .updateFails hJ) (.stateForMode h))))))))))))))

end Lane.Keeps

namespace Lane.Keeps

variable {fs gs : List Fld} {O L K : Lane}

theorem mono (hs : gs ⊆ fs) (h : O.Keeps fs K) : O.Keeps gs K := ⟨h.heard, fun f hf => h.rd f (hs hf)⟩

theorem takeFrame (h : O.Keeps frameFields L) : O.Keeps frameFields L.takeFrame :=
  .ite h (.wrAway rfl (.wr (by decide) (.wr (by decide) (.wr (by decide) h))))

/-- A transition out of another mode than SERVICE, which may reset the dies, leaves the frame as it is. -/
theorem setMode {m cause lane : ℕ} (hmode : L.mode ≠ mService) : L.Keeps frameFields.tail (L.setMode m cause lane) := by
  unfold Lane.setMode
  extract_lets was K₀ K₁
  have hrecord : L.Keeps frameFields.tail K₁ :=
    .wr (by decide) (.wr (by decide) (.wr (by decide) (.wr (by decide) (.wr (by decide) (.wr (by decide) (.refl L))))))
  have hactions : K₁.Keeps frameFields ((K₁.syncTarget.modeActions was).watchToken) := .watchToken (.modeActions hmode (.syncTarget (.refl K₁)))
  exact .ite (.refl L) (hrecord.trans (hactions.mono (List.tail_subset _)))

theorem takeRejoin : L.Keeps frameFields.tail L.takeRejoin := by
  unfold Lane.takeRejoin
  extract_lets s K₀ K₁
  have h₀ : L.Keeps frameFields K₀ := .wr (by decide) (.refl L)
  split_ifs with hnone
  · exact h₀.mono (List.tail_subset _)
  · simp only [not_or, not_le, Bool.not_eq_true, Bool.not_eq_false] at hnone
    obtain ⟨hs, hoperating, -⟩ := hnone
    have hknown := (by decide : ∀ n < 3, (Int.known n).key ∉ frameFields.map Fld.key) s hs
    have h₁ : L.Keeps frameFields K₁ := .wr hknown (.iff (fun _ hJ => .setState hJ) h₀)
    have hmode : K₁.mode ≠ mService := by
      intro hservice
      have hsame : K₁.mode = L.mode := h₁.rd _ (by decide)
      rw [← hsame, hservice] at hoperating
      exact absurd hoperating (by decide)
    exact (h₁.mono (List.tail_subset _)).trans (setMode hmode)

end Lane.Keeps

/-! ### The start of a frame -/

namespace Lane

variable {L : Lane}

/-- What a lane of lane time `t` and frame count `n` shows at the start of its next frame (R230, R231). -/
structure FrameStarted (K : Lane) (t n : ℕ) : Prop where
  isOpen : K.rd Int.frameOpen = 1
  ready : K.rd LSC_AGR_CFG.READY = 0
  count : K.rd LSC_AGR_FRAMENO.FRAMENO = (n + 1) % 2 ^ 32
  heard : K.heard = [none, none, none]
  done : K.rd Int.readyDone = 0
  start : K.rd Int.frameAt = t % 2 ^ Int.frameAt.width

/-- The lane with the registers of an exchange window that opens at the instant `t` (R230, R231). -/
def windowOpened (L : Lane) (t : ℕ) : Lane :=
  let K := L.wr Int.frameAt t
  (((K.wr LSC_AGR_FRAMENO.FRAMENO (K.rd LSC_AGR_FRAMENO.FRAMENO + 1)).clr LSC_AGR_CFG.READY).clr Int.readyDone).set Int.frameOpen

/-- A lane with these registers that has forgotten the messages heard. -/
theorem frameStarted_of_regs {K : Lane} {t : ℕ} (hheard : K.heard = [none, none, none]) (hregs : K.regs = (L.windowOpened t).regs) :
    K.FrameStarted t (L.rd LSC_AGR_FRAMENO.FRAMENO) := by
  have hrd : ∀ f, K.rd f = (L.windowOpened t).rd f := fun f => congrArg (fun r : Store => r.rd f) hregs
  have hopen : (L.windowOpened t).rd Int.frameOpen = 1 := rd_wr_same ..
  have hdone : (L.windowOpened t).rd Int.readyDone = 0 := by
    simp only [windowOpened, set_eq, clr_eq]
    rw [rd_wr_ne _ _ _ _ (by decide), rd_wr_same]
    rfl
  have hready : (L.windowOpened t).rd LSC_AGR_CFG.READY = 0 := by
    simp only [windowOpened, set_eq, clr_eq]
    rw [rd_wr_ne _ _ _ _ (by decide), rd_wr_ne _ _ _ _ (by decide), rd_wr_same]
    rfl
  have hcount : (L.windowOpened t).rd LSC_AGR_FRAMENO.FRAMENO = (L.rd LSC_AGR_FRAMENO.FRAMENO + 1) % 2 ^ 32 := by
    simp only [windowOpened, set_eq, clr_eq]
    rw [rd_wr_ne _ _ _ _ (by decide), rd_wr_ne _ _ _ _ (by decide), rd_wr_ne _ _ _ _ (by decide), rd_wr_same, rd_wr_ne _ _ _ _ (by decide)]
    rfl
  have hstart : (L.windowOpened t).rd Int.frameAt = t % 2 ^ Int.frameAt.width := by
    simp only [windowOpened, set_eq, clr_eq]
    rw [rd_wr_ne _ _ _ _ (by decide), rd_wr_ne _ _ _ _ (by decide), rd_wr_ne _ _ _ _ (by decide), rd_wr_ne _ _ _ _ (by decide), rd_wr_same]
  exact ⟨(hrd _).trans hopen, (hrd _).trans hready, (hrd _).trans hcount, hheard, (hrd _).trans hdone, (hrd _).trans hstart⟩

/-- What the frame does once its window is open leaves that as it is. -/
theorem FrameStarted.keeps {K : Lane} {t n : ℕ} (h : L.FrameStarted t n) (hK : L.Keeps frameFields.tail K) : K.FrameStarted t n where
  isOpen := (hK.rd _ (by decide)).trans h.isOpen
  ready := (hK.rd _ (by decide)).trans h.ready
  count := (hK.rd _ (by decide)).trans h.count
  heard := hK.heard.trans h.heard
  done := (hK.rd _ (by decide)).trans h.done
  start := (hK.rd _ (by decide)).trans h.start

end Lane

section
variable {s : State} {l : LaneId}

theorem frameStart_starts (hrun : (s.lane l).framesRun = true) (hat : (s.lane l).now % (1000 * (s.lane l).rd LSC_AGR_CFG.FRAME) = 0) :
    ∃ K, exec (.frameStart l) s = .next (s.onLane l fun _ => K) ∧
      K.FrameStarted (s.lane l).now ((s.lane l).rd LSC_AGR_FRAMENO.FRAMENO) := by
  have channels : ∀ m < 16, (Int.chSnap m).key ∉ frameFields.map Fld.key := by decide
  refine completes_of_exec (P := fun K => K.FrameStarted _ _) rfl ?_
  generalize s.lane l = L at hrun hat
  rw [if_neg (by simp [hrun, Lane.atFrame, hat])]
  extract_lets K₀ K₁ K₂ J sched K₃ K₄ K₅
  have hjudged : L.Keeps frameFields K₀ := .forN (fun _ hp _ hJ => .resyncFrame hp hJ) (.refl L)
  clear_value K₀
  have hframe : L.Keeps frameFields K₀.takeFrame := .takeFrame hjudged
  have hopened : K₃.FrameStarted K₀.now (K₀.takeFrame.rd LSC_AGR_FRAMENO.FRAMENO) := Lane.frameStarted_of_regs rfl rfl
  have hnow : K₀.now = L.now := hjudged.rd Int.laneTime (by decide)
  rw [hnow, hframe.rd _ (by decide)] at hopened
  clear_value K₃
  have hchannels : K₃.Keeps frameFields K₄ := .forN (fun m hm _ hJ => .wr (channels m hm) hJ) (.refl K₃)
  have hlater : K₄.takeRejoin.Keeps frameFields ((K₅.triggerAll 1 fun _ => true).triggerAll 3 fun n =>
      decide (K₅.rd LSC_AGR_FRAMENO.FRAMENO % K₅.opPeriod n = 0)) := .triggerAll (.triggerAll (.event (.obsFrame (.leaseFrame (.refl _)))))
  exact hopened.keeps ((hchannels.mono (List.tail_subset _)).trans (Lane.Keeps.takeRejoin.trans (hlater.mono (List.tail_subset _))))

theorem frameStart_skips (h : (s.lane l).framesRun = false ∨ (s.lane l).now % (1000 * (s.lane l).rd LSC_AGR_CFG.FRAME) ≠ 0) :
    exec (.frameStart l) s = .next (s.onLane l id) :=
  congrArg Host.Outcome.next (onLane_congr s l (if_pos (by simpa [Lane.atFrame] using h)))

end

end Sys2Proof.Machine
end

-- ==== The frame message ====
section
/-! What the sending of a frame message changes, and what leaves with it (R231, R249, R262, R310). -/

namespace Sys2Proof.Machine

namespace Lane

variable {L K M : Lane} {fs : List Fld}

theorem keepsBut_refl (L : Lane) (fs : List Fld) : L.keepsBut L fs := ⟨rfl, rfl, rfl, fun _ _ => rfl⟩

theorem keepsBut_trans (h : L.keepsBut K fs) (h' : K.keepsBut M fs) : L.keepsBut M fs := by
  obtain ⟨hmem, hnor, hstrap, hrd⟩ := h
  obtain ⟨hmem', hnor', hstrap', hrd'⟩ := h'
  exact ⟨hmem'.trans hmem, hnor'.trans hnor, hstrap'.trans hstrap, fun f hf => (hrd' f hf).trans (hrd f hf)⟩

theorem keepsBut_rd (h : L.keepsBut K fs) {f : Fld} (hf : f.key ∉ fs.map Fld.key) : K.rd f = L.rd f := by
  obtain ⟨-, -, -, hrd⟩ := h
  exact hrd f hf

/-- What a port has sent and what waits on it for a credit. -/
def messages (L : Lane) (p : ℕ) : List FeltMsg := L.felt p ++ L.feltWait p

/-- What F1 writes beside the frame message: the renewal of the lease, a handover, and the credits of both ports (R249, R262, R306). -/
def messageFields : List Fld :=
  [LSE_STATUS.SUCCESSOR, Int.noSuccSpell, LSE_FLAGS.NO_SUCC, Int.watchSeq, LSE_STATUS.SEQ, Int.leaseTr, LSE_CTL.RENEW, Int.acceptNext,
    Int.hoPhase, Int.hoFrames, Int.frameSentAt] ++ feltFields

/-- `K` is `O` but for those fields, with the same frame message sent and every message of `O` still on its port. -/
structure SendsOn (O K : Lane) : Prop where
  keeps : O.keepsBut K messageFields
  sent : K.sent = O.sent
  messages : ∀ p < 2, ∀ x ∈ O.messages p, x ∈ K.messages p

namespace SendsOn

variable {O : Lane}

theorem refl (L : Lane) : L.SendsOn L := ⟨L.keepsBut_refl _, rfl, fun _ _ _ hx => hx⟩

theorem trans (h : O.SendsOn L) (h' : L.SendsOn K) : O.SendsOn K :=
  ⟨keepsBut_trans h.keeps h'.keeps, h'.sent.trans h.sent, fun p hp x hx => h'.messages p hp x (h.messages p hp x hx)⟩

theorem wr {f : Fld} {v : ℕ} (hf : f ∈ messageFields) (h : O.SendsOn L) : O.SendsOn (L.wr f v) :=
  h.trans ⟨onlyFields_keepsBut (onlyFields_wr (L.onlyFields_refl _) f v hf), rfl, fun _ _ _ hx => hx⟩

theorem ite {c : Prop} [Decidable c] (hL : O.SendsOn L) (hK : O.SendsOn K) : O.SendsOn (if c then L else K) := ite_keeps _ hL hK

theorem iff {b : Bool} {g : Lane → Lane} (hg : ∀ K, O.SendsOn K → O.SendsOn (g K)) (h : O.SendsOn L) : O.SendsOn (L.iff b g) :=
  .ite (hg L h) h

theorem raise {src : ℕ} (h : O.SendsOn L) : O.SendsOn (L.raise src) :=
  h.trans ⟨⟨rfl, rfl, rfl, fun _ _ => rfl⟩, rfl, fun _ _ _ hx => hx⟩

theorem chooseSuccessor (h : O.SendsOn L) : O.SendsOn L.chooseSuccessor :=
  .ite (.ite (.wr (by decide) h) (.raise (.wr (by decide) (.wr (by decide) (.wr (by decide) h))))) (.wr (by decide) (.wr (by decide) h))

theorem takeSeq {seq : ℕ} (h : O.SendsOn L) : O.SendsOn (L.takeSeq seq) := .wr (by decide) (.wr (by decide) (.wr (by decide) h))

theorem renew (h : O.SendsOn L) : O.SendsOn L.renew := .takeSeq (.chooseSuccessor h)

end SendsOn

theorem credits_mem {p : ℕ} (hp : p < 2) : FLT_P_STATUS.CREDITS p ∈ messageFields ∧ FLT_P_STATUS.OUTSTANDING p ∈ messageFields :=
  (by decide : ∀ p < 2, FLT_P_STATUS.CREDITS p ∈ messageFields ∧ FLT_P_STATUS.OUTSTANDING p ∈ messageFields) p hp

/-- Waiting messages of a port that are sent stay on it. -/
theorem messages_pumpFelt {p q : ℕ} (hp : p < 2) (hq : q < 2) : (L.pumpFelt p).messages q = L.messages q := by
  interval_cases p <;> interval_cases q <;> simp [pumpFelt, messages, setFelt, setFeltWait, felt, feltWait]

theorem pumpFelt_sends {p : ℕ} (hp : p < 2) : L.SendsOn (L.pumpFelt p) := by
  obtain ⟨hcredits, houtstanding⟩ := credits_mem hp
  have hports : ∀ ms ws : List FeltMsg, L.keepsBut ((L.setFelt p ms).setFeltWait p ws) messageFields ∧
      ((L.setFelt p ms).setFeltWait p ws).sent = L.sent := by
    interval_cases p <;> exact fun _ _ => ⟨⟨rfl, rfl, rfl, fun _ _ => rfl⟩, rfl⟩
  have hwrites : ∀ (K : Lane) (v w : ℕ), K.SendsOn ((K.wr (FLT_P_STATUS.CREDITS p) v).wr (FLT_P_STATUS.OUTSTANDING p) w) :=
    fun K _ _ => .wr houtstanding (.wr hcredits (.refl K))
  refine ⟨keepsBut_trans (hports _ _).1 (hwrites _ _ _).keeps, (hwrites _ _ _).sent.trans (hports _ _).2, fun q hq x hx => ?_⟩
  rw [messages_pumpFelt hp hq]
  exact hx

/-- The waiting messages of a port with a new one among them, by class (R310). -/
theorem messages_insert {p : ℕ} (hp : p < 2) {m : FeltMsg} {a b : FeltMsg → Bool} (hab : ∀ x, a x = true ∨ b x = true) :
    L.SendsOn (L.setFeltWait p ((L.feltWait p).filter a ++ m :: (L.feltWait p).filter b)) ∧
      m ∈ (L.setFeltWait p ((L.feltWait p).filter a ++ m :: (L.feltWait p).filter b)).messages p := by
  have hstays : ∀ (w : List FeltMsg), ∀ x ∈ w, x ∈ w.filter a ++ m :: w.filter b := by
    intro w x hx
    rcases hab x with h | h
    · exact List.mem_append_left _ (List.mem_filter.2 ⟨hx, h⟩)
    · exact List.mem_append_right _ (List.mem_cons_of_mem _ (List.mem_filter.2 ⟨hx, h⟩))
  have hnew : ∀ (w : List FeltMsg), m ∈ w.filter a ++ m :: w.filter b := fun w => by simp
  have hport : ∀ {w v : List FeltMsg}, (∀ x ∈ w, x ∈ v) → ∀ f : List FeltMsg, ∀ x ∈ f ++ w, x ∈ f ++ v := fun h f x hx =>
    (List.mem_append.1 hx).elim (List.mem_append_left _) fun hw => List.mem_append_right _ (h x hw)
  interval_cases p
  · refine ⟨⟨⟨rfl, rfl, rfl, fun _ _ => rfl⟩, rfl, fun q hq => ?_⟩, List.mem_append_right _ (hnew L.feltWait0)⟩
    interval_cases q
    · exact hport (hstays L.feltWait0) L.felt0
    · exact fun _ hx => hx
  · refine ⟨⟨⟨rfl, rfl, rfl, fun _ _ => rfl⟩, rfl, fun q hq => ?_⟩, List.mem_append_right _ (hnew L.feltWait1)⟩
    interval_cases q
    · exact fun _ hx => hx
    · exact hport (hstays L.feltWait1) L.felt1

theorem sendFelt_sends {p : ℕ} (hp : p < 2) (m : FeltMsg) : L.SendsOn (L.sendFelt p m) ∧
    (L.on (FLT_P_STATUS.LINK p) = true → m ∈ (L.sendFelt p m).messages p) := by
  unfold sendFelt
  split_ifs with hlink
  · obtain ⟨hinsert, hnew⟩ := messages_insert (L := L) hp (m := m) (a := fun x => decide (x.priority ≤ m.priority))
      (b := fun x => decide (m.priority < x.priority)) fun x => by simpa using le_or_gt x.priority m.priority
    refine ⟨hinsert.trans (pumpFelt_sends hp), fun _ => ?_⟩
    rw [messages_pumpFelt hp hp]
    exact hnew
  · exact ⟨.refl L, fun h => absurd h hlink⟩

theorem link_apart {p : ℕ} (hp : p < 2) : (FLT_P_STATUS.LINK p).key ∉ messageFields.map Fld.key :=
  (by decide : ∀ p < 2, (FLT_P_STATUS.LINK p).key ∉ messageFields.map Fld.key) p hp

theorem SendsOn.on {O : Lane} (h : O.SendsOn L) {f : Fld} (hf : f.key ∉ messageFields.map Fld.key) : L.on f = O.on f := by
  rw [on_eq_rd, on_eq_rd, keepsBut_rd h.keeps hf]

/-- A message sent to both siblings is on each live port. -/
theorem sendFeltAll_sends (m : FeltMsg) : L.SendsOn (L.sendFeltAll m) ∧
    ∀ p < 2, L.on (FLT_P_STATUS.LINK p) = true → m ∈ (L.sendFeltAll m).messages p := by
  obtain ⟨h₀, hm₀⟩ := sendFelt_sends (L := L) (by decide : 0 < 2) m
  obtain ⟨h₁, hm₁⟩ := sendFelt_sends (L := L.sendFelt 0 m) (by decide : 1 < 2) m
  refine ⟨h₀.trans h₁, fun p hp hlink => ?_⟩
  interval_cases p
  · exact h₁.messages 0 hp m (hm₀ hlink)
  · exact hm₁ ((h₀.on (link_apart hp)).trans hlink)

theorem portTo_lt (L : Lane) (n : ℕ) : L.portTo n < 2 := ite_keeps (· < 2) (by decide) (by decide)

theorem pushSnapshots_sends (mask : ℕ) : L.SendsOn (L.pushSnapshots mask) :=
  foldl_keeps (L.SendsOn ·) (fun _ n hK => .iff (fun J hJ => hJ.trans (sendFelt_sends (J.portTo_lt n) _).1) hK) (.refl L)

/-- A planned handover that goes out behind the frame message (R262). -/
theorem sendHandover_sends : L.SendsOn L.sendHandover :=
  .ite (.refl L) (.wr (by decide) (.wr (by decide) ((sendFelt_sends (L.portTo_lt _) _).1.trans (pushSnapshots_sends _))))

end Lane

/-- What the sending of the frame message shows (R29, R43, R231); `late` says that it carries LATE, `r` what READY shows. -/
structure Lane.FrameSent (L K : Lane) (late : Bool) (r : ℕ) : Prop where
  mem : K.mem = L.mem
  nor : K.nor = L.nor
  ready : K.rd LSC_AGR_CFG.READY = r
  done : K.on Int.readyDone = true
  selfLate : K.on LSC_AGR_STATUS.SELF_LATE = late
  message : ∃ m, K.sent = some m ∧ m.late = late ∧
    m.demands = (if late then [] else (List.range 16).map fun k => L.rdI (LSC_CH_DEMAND.DEMAND k)) ∧
    ∀ p < 2, L.on (FLT_P_STATUS.LINK p) = true → .frame m ∈ K.felt p ++ K.feltWait p

namespace Lane

variable {L K O : Lane}

theorem demands_congr (h : ∀ k < 16, L.rd (LSC_CH_DEMAND.DEMAND k) = O.rd (LSC_CH_DEMAND.DEMAND k)) :
    ((List.range 16).map fun k => L.rdI (LSC_CH_DEMAND.DEMAND k)) = (List.range 16).map fun k => O.rdI (LSC_CH_DEMAND.DEMAND k) :=
  List.map_congr_left fun k hk => congrArg (toInt _) (h k (List.mem_range.1 hk))

/-- A lane that reads alike where the frame message is concerned sends it alike. -/
theorem FrameSent.congr {late : Bool} {r : ℕ} (h : L.FrameSent K late r) (hmem : L.mem = O.mem) (hnor : L.nor = O.nor)
    (hlink : ∀ p < 2, L.on (FLT_P_STATUS.LINK p) = O.on (FLT_P_STATUS.LINK p))
    (hdemand : ∀ k < 16, L.rd (LSC_CH_DEMAND.DEMAND k) = O.rd (LSC_CH_DEMAND.DEMAND k)) : O.FrameSent K late r := by
  obtain ⟨m, hsent, hlate, hdemands, hports⟩ := h.message
  rw [demands_congr hdemand] at hdemands
  exact ⟨h.mem.trans hmem, h.nor.trans hnor, h.ready, h.done, h.selfLate, m, hsent, hlate, hdemands,
    fun p hp hon => hports p hp ((hlink p hp).trans hon)⟩

/-- A frame message that leaves a lane at F1. -/
theorem postFrame_sent {late : Bool} {t : ℕ} {m : FrameMsg} (hlate : m.late = late)
    (hdemands : m.demands = if late then [] else (List.range 16).map fun k => L.rdI (LSC_CH_DEMAND.DEMAND k)) :
    L.FrameSent ({ (((L.set Int.readyDone).put LSC_AGR_STATUS.SELF_LATE late).wr Int.frameSentAt t).sendFeltAll (.frame m) with
      sent := some m }.sendHandover) late (L.rd LSC_AGR_CFG.READY) := by
  generalize hJ : (L.set Int.readyDone).put LSC_AGR_STATUS.SELF_LATE late = J
  have htimed : J.SendsOn (J.wr Int.frameSentAt t) := .wr (by decide) (.refl J)
  obtain ⟨hall, hposted⟩ := sendFeltAll_sends (L := J.wr Int.frameSentAt t) (.frame m)
  have hover := sendHandover_sends (L := { (J.wr Int.frameSentAt t).sendFeltAll (.frame m) with sent := some m })
  generalize hM : (J.wr Int.frameSentAt t).sendFeltAll (.frame m) = M at hall hposted hover
  have hmarked : M.keepsBut { M with sent := some m } messageFields := ⟨rfl, rfl, rfl, fun _ _ => rfl⟩
  have hkeeps := keepsBut_trans (keepsBut_trans htimed.keeps hall.keeps) (keepsBut_trans hmarked hover.keeps)
  obtain ⟨hmem, hnor, -, hrd⟩ := hkeeps
  have hlink : ∀ p < 2, J.on (FLT_P_STATUS.LINK p) = L.on (FLT_P_STATUS.LINK p) := by
    intro p hp
    obtain ⟨hselfLate, hdone⟩ := (by decide : ∀ p < 2, (FLT_P_STATUS.LINK p).key ≠ LSC_AGR_STATUS.SELF_LATE.key ∧
      (FLT_P_STATUS.LINK p).key ≠ Int.readyDone.key) p hp
    rw [← hJ, put_eq, on_wr_ne _ _ _ _ hselfLate, set_eq, on_wr_ne _ _ _ _ hdone]
  refine ⟨?_, ?_, ?_, ?_, ?_, m, hover.sent, hlate, hdemands, fun p hp hon => hover.messages p hp _ ?_⟩
  · rw [hmem, ← hJ]
    rfl
  · rw [hnor, ← hJ]
    rfl
  · rw [hrd _ (by decide), ← hJ, put_eq, rd_wr_ne _ _ _ _ (by decide), set_eq, rd_wr_ne _ _ _ _ (by decide)]
  · rw [on_eq_rd, hrd _ (by decide), ← hJ, put_eq, rd_wr_ne _ _ _ _ (by decide), set_eq, rd_wr_same]
    rfl
  · rw [on_eq_rd, hrd _ (by decide), ← hJ, put_eq, rd_wr_same]
    cases late <;> rfl
  · exact hposted p hp ((htimed.on (link_apart hp)).trans ((hlink p hp).trans hon))

/-- F1 in an open frame whose message is not sent (R231). -/
theorem sendFrame_sent (timeout : Bool) (hopen : L.on Int.frameOpen = true) (hdone : L.on Int.readyDone = false) :
    L.FrameSent (L.sendFrame timeout) (timeout || L.on Int.e0) (L.rd LSC_AGR_CFG.READY) := by
  unfold sendFrame
  rw [if_neg (by simp [hopen, hdone])]
  extract_lets late renewal K₀ accept K₁ m
  have hrenewed : L.SendsOn K₁ := .iff (fun _ hJ => .wr (by decide) hJ) (.wr (by decide) (.iff (fun _ hJ => .renew hJ) (.refl L)))
  have hdemand := (by decide : ∀ k < 16, (LSC_CH_DEMAND.DEMAND k).key ∉ messageFields.map Fld.key)
  have hm : m.late = late ∧ m.demands = if late then [] else (List.range 16).map fun k => K₁.rdI (LSC_CH_DEMAND.DEMAND k) := ⟨rfl, rfl⟩
  clear_value m K₁
  obtain ⟨hmem, hnor, -, hrd⟩ := hrenewed.keeps
  have hready : K₁.rd LSC_AGR_CFG.READY = L.rd LSC_AGR_CFG.READY := hrd _ (by decide)
  rw [← hready]
  exact (postFrame_sent hm.1 hm.2).congr hmem hnor (fun p hp => hrenewed.on (link_apart hp)) fun k hk => hrd _ (hdemand k hk)

/-- F1 once READY has been written (R231). -/
theorem sendFrame_ready (hopen : L.on Int.frameOpen = true) (hdone : L.on Int.readyDone = false) :
    L.FrameSent ((L.set LSC_AGR_CFG.READY).sendFrame false) (L.on Int.e0) 1 := by
  have hlink := (by decide : ∀ p < 2, (FLT_P_STATUS.LINK p).key ≠ LSC_AGR_CFG.READY.key)
  have hdemand := (by decide : ∀ k < 16, (LSC_CH_DEMAND.DEMAND k).key ≠ LSC_AGR_CFG.READY.key)
  have hsent := sendFrame_sent (L := L.set LSC_AGR_CFG.READY) false ((L.on_wr_ne _ _ 1 (by decide)).trans hopen)
    ((L.on_wr_ne _ _ 1 (by decide)).trans hdone)
  have he0 : (false || (L.set LSC_AGR_CFG.READY).on Int.e0) = L.on Int.e0 := (Bool.false_or _).trans (L.on_wr_ne _ _ 1 (by decide))
  rw [he0, set_eq, rd_wr_same] at hsent
  exact hsent.congr rfl rfl (fun p hp => L.on_wr_ne _ _ 1 (hlink p hp)) fun k hk => L.rd_wr_ne _ _ 1 (hdemand k hk)

/-- The frame message is not sent twice, and not outside a frame. -/
theorem sendFrame_skips (timeout : Bool) (h : L.on Int.frameOpen = false ∨ L.on Int.readyDone = true) : L.sendFrame timeout = L :=
  if_pos (by simpa using h)

end Lane

section
variable {s : State} {l : LaneId}

theorem agreementReady_runs (hrun : (s.lane l).framesRun = true) :
    exec (.agreementReady l) s = .next (s.onLane l fun L => (L.set LSC_AGR_CFG.READY).sendFrame false) :=
  congrArg Host.Outcome.next (onLane_congr s l (if_pos hrun))

theorem readyTimeout_runs (hrun : (s.lane l).framesRun = true) : exec (.readyTimeout l) s = .next (s.onLane l fun L => L.sendFrame true) :=
  congrArg Host.Outcome.next (onLane_congr s l (if_pos hrun))

theorem frameCommands_idle (hrun : (s.lane l).framesRun = false) : exec (.frameStart l) s = .next (s.onLane l id) ∧
    exec (.agreementReady l) s = .next (s.onLane l id) ∧ exec (.readyTimeout l) s = .next (s.onLane l id) :=
  ⟨frameStart_skips (.inl hrun), congrArg Host.Outcome.next (onLane_congr s l (if_neg (by simp [hrun]))),
    congrArg Host.Outcome.next (onLane_congr s l (if_neg (by simp [hrun])))⟩

end

/-- Settles O35: a frame that starts by `frameStart_starts`, its message by `Lane.sendFrame_sent`. -/
theorem frameStartAndFrameMessage : Obligations.FrameStartAndFrameMessage := by
  unfold Obligations.FrameStartAndFrameMessage
  refine ⟨?_, fun s l hat => frameStart_skips (.inr hat), ?_, ?_, ?_, ?_, fun s l hrun => frameCommands_idle hrun⟩
  · rintro s l L rfl hrun hat
    obtain ⟨K, hK, hstarted⟩ := frameStart_starts hrun hat
    refine ⟨K, hK, ?_, ?_, hstarted.count, hstarted.heard, ?_, hstarted.start⟩
    · simp [Lane.on_eq_rd, hstarted.isOpen]
    · simp [Lane.on_eq_rd, hstarted.ready]
    · simp [Lane.on_eq_rd, hstarted.done]
  · rintro s l L rfl hrun hopen hdone
    have hsent := Lane.sendFrame_ready hopen hdone
    have hready : (((s.lane l).set LSC_AGR_CFG.READY).sendFrame false).on LSC_AGR_CFG.READY = true := by
      rw [Lane.on_eq_rd, hsent.ready]
      rfl
    obtain ⟨m, hm, hlate, hdemands, hports⟩ := hsent.message
    exact completes_of_exec (agreementReady_runs hrun) ⟨hready, hsent.done, hsent.selfLate, hsent.mem, hsent.nor, m, hm, hlate,
      fun he0 => by simpa [he0] using hdemands, hports 0 (by decide), hports 1 (by decide)⟩
  · rintro s l L rfl hrun h
    refine completes_of_exec (agreementReady_runs hrun) ?_
    rw [Lane.sendFrame_skips]
    · exact ⟨by simp [LSC_AGR_CFG.READY], Lane.onlyFields_wr (Lane.onlyFields_refl _ _) _ _ (by simp)⟩
    · rwa [Lane.set_eq, Lane.on_wr_ne _ _ _ _ (by decide), Lane.on_wr_ne _ _ _ _ (by decide)]
  · rintro s l L rfl hrun hopen hdone
    have hsent := Lane.sendFrame_sent true hopen hdone
    obtain ⟨m, hm, hlate, hdemands, hports⟩ := hsent.message
    exact completes_of_exec (readyTimeout_runs hrun) ⟨hsent.selfLate, hsent.done, hsent.mem, hsent.nor, m, hm, hlate, hdemands,
      hports 0 (by decide), hports 1 (by decide)⟩
  · exact fun s l hrun h => (readyTimeout_runs hrun).trans (congrArg Host.Outcome.next (onLane_congr s l (Lane.sendFrame_skips true h)))

end Sys2Proof.Machine
end

-- ==== The release of a lane out of DORMANT ====
section
/-! A release from reset that writes the retention list back over the count of WAKE attempts. -/

namespace Sys2Proof.Machine

/-- Lane A of the package at reset, held with every supply good and out of DORMANT, its retention list holding one entry: the register of
CFG_BOOT, saved with WAKE_TRIES at 2 (R432). -/
def Lane.bootRetained : Lane :=
  let L : Lane := { State.reset.a with
    mem := (State.reset.a.mem.setNum ramDefault 0x30000000 4 CFG_BOOT.WAKE_TRIES.addr).setNum ramDefault 0x30001000 4 (2 * 2 ^ CFG_BOOT.WAKE_TRIES.lsb) }
  (((L.wr PSC_SUPPLY.OK 7).wr CFG_MODE_STATUS.PREV_MODE mDormant).wr PSC_RET.N 1).wr Int.retSaved 1

/-- The package with that lane, the CRC over its list and its saved values as the save has kept it. -/
def State.bootRetained : State := { State.reset with a := Lane.bootRetained.wr Int.retCrc Lane.bootRetained.retCrc }

/-- Refutes O59: RESET_RELEASE sets WAKE_TRIES to 1 and then writes the retention list back, whose FABRIC entries reach up to
0x400E_FFFF and so take in CFG_BOOT: a lane whose list names it shows the saved count, here 2. -/
theorem not_powerOnReleaseAndWake : ¬ Obligations.PowerOnReleaseAndWake := by
  unfold Obligations.PowerOnReleaseAndWake
  rintro ⟨-, -, hrelease, -⟩
  obtain ⟨K, hK, -, -, htries, -⟩ := hrelease State.bootRetained .a _ rfl (by decide +kernel) (by decide +kernel) (by decide +kernel)
    (by decide +kernel)
  have hlane := congrArg (fun L : Lane => L.rd CFG_BOOT.WAKE_TRIES) (lane_of_next_onLane (s := State.bootRetained) rfl hK)
  exact absurd (hlane.trans htries) (by decide +kernel)

end Sys2Proof.Machine
end

-- ==== What rests on the record of the mode, the debugger's halts and the RAM ====
section
/-! A property of a lane that rests on a few fields, the RAM and the frame messages received survives the shared operations of both dies. -/

namespace Sys2Proof.Machine

/-- The record of the device mode (R58) and what the debugger has halted (R227). -/
def heldFields : List Fld :=
  [CFG_MODE_STATUS.DEVICE_MODE, CFG_MODE_STATUS.PREV_MODE, CFG_MODE_CAUSE.CAUSE, CFG_MODE_CAUSE.CAUSE_LANE, CFG_MODE_TIME.T, Int.halted,
    Int.haltClk, Int.pwmStopped]

/-- A field that is none of them. -/
abbrev Fld.Free (f : Fld) : Prop := f.key ∉ heldFields.map Fld.key

/-- `P` rests on those fields, the RAM and the frame messages received alone. -/
structure Lane.Stable (P : Lane → Prop) : Prop where
  wr : ∀ {L : Lane} {f : Fld} {v : ℕ}, f.Free → P L → P (L.wr f v)
  parts : ∀ {L K : Lane}, P L → K.regs = L.regs → K.mem = L.mem → K.heard = L.heard → K.feltRx = L.feltRx → P K

theorem iff_keeps (P : Lane → Prop) {L : Lane} {b : Bool} {g : Lane → Lane} (hg : ∀ K, P K → P (g K)) (h : P L) : P (L.iff b g) :=
  ite_keeps P (hg L h) h

/-- A fold keeps what each of its steps keeps. -/
theorem foldl_mem_keeps {α : Type} (P : Lane → Prop) {L : Lane} {xs : List α} {g : Lane → α → Lane} (hg : ∀ x ∈ xs, ∀ K, P K → P (g K x))
    (h : P L) : P (xs.foldl g L) := by
  induction xs generalizing L with
  | nil => exact h
  | cons x r ih => exact ih (fun y hy => hg y (List.mem_cons_of_mem _ hy)) (hg x List.mem_cons_self L h)

theorem forN_keeps (P : Lane → Prop) {L : Lane} {n : ℕ} {g : ℕ → Lane → Lane} (hg : ∀ i < n, ∀ K, P K → P (g i K)) (h : P L) :
    P (L.forN n g) := foldl_mem_keeps P (fun i hi K hK => hg i (List.mem_range.1 hi) K hK) h

/-- A field whose key lies in a range without one of the held ones. -/
theorem Fld.free_of_range {f : Fld} {lo hi : ℕ} (hout : ∀ k ∈ heldFields.map Fld.key, k < lo ∨ hi ≤ k) (hlo : lo ≤ f.key) (hhi : f.key < hi) :
    f.Free := fun hm => by
  have := hout _ hm
  omega

/-- The registers of the 256 flows. -/
theorem flowFields_free {f : ℕ} (hf : f < 256) : (SCH_FLOW.BOUND f).Free ∧ (SCH_FLOW.REBOUND f).Free := by
  have hout : ∀ k ∈ heldFields.map Fld.key, k < 0x40040800 * 32 ∨ 0x40040C08 * 32 ≤ k := by decide
  constructor <;> refine Fld.free_of_range hout ?_ ?_ <;> simp only [Fld.key, SCH_FLOW.BOUND, SCH_FLOW.REBOUND, Home.code] <;> omega

theorem Lane.me_lt (L : Lane) : L.me < 3 := by
  unfold Lane.me
  cases L.strap.id <;> decide

theorem laneStateOf_free (n : ℕ) : (laneStateOf n).Free :=
  ite_keeps (fun f : Fld => f.Free) (by decide) (ite_keeps (fun f : Fld => f.Free) (by decide) (by decide))

namespace Lane.Stable

variable {P : Lane → Prop} {L : Lane}

/-! ### Events, reports and messages -/

theorem wakePair (hP : Stable P) {p : ℕ} (h : P L) : P (L.wakePair p) :=
  ite_keeps P h (iff_keeps P (fun _ hJ => hP.wr (by decide) (hP.wr (by decide) hJ))
    (iff_keeps P (fun _ hK => hP.wr (by decide) hK) (hP.wr (by decide) h)))

theorem eventTo (hP : Stable P) {p ev : ℕ} (hp : p < 4) (h : P L) : P (L.eventTo p ev) :=
  ite_keeps P h (iff_keeps P (fun _ hK => hP.wakePair hK) (hP.wr ((by decide : ∀ i < 4, (Int.events i).Free) p hp) h))

theorem event (hP : Stable P) {ev : ℕ} (h : P L) : P (L.event ev) := forN_keeps P (fun _ hp _ hK => hP.eventTo hp hK) h

theorem raise (hP : Stable P) {src : ℕ} (h : P L) : P (L.raise src) := hP.parts h rfl rfl rfl rfl

theorem sendMbx (hP : Stable P) {m : MbxUp} (h : P L) : P (L.sendMbx m) := ite_keeps P (hP.parts h rfl rfl rfl rfl) (hP.wr (by decide) h)

theorem pump (hP : Stable P) (h : P L) : P L.pump := hP.wr (by decide) (hP.wr (by decide) (hP.parts h rfl rfl rfl rfl))

theorem toField (hP : Stable P) {i : DownItem} (h : P L) : P (L.toField i) := ite_keeps P (hP.pump (hP.parts h rfl rfl rfl rfl)) h

theorem updateFails (hP : Stable P) {code : Option ℕ} (h : P L) : P (L.updateFails code) := by
  unfold Lane.updateFails
  refine ite_keeps P h ?_
  extract_lets K₀ K₁ K₂
  have h₁ : P K₁ := hP.raise (hP.event (hP.wr (by decide) (hP.wr (by decide) (hP.parts h rfl rfl rfl rfl))))
  clear_value K₁
  cases code with
  | none => exact ite_keeps P h₁ (hP.sendMbx (hP.parts h₁ rfl rfl rfl rfl))
  | some c => exact ite_keeps P (hP.wr (by decide) h₁) (hP.sendMbx (hP.wr (by decide) h₁))

theorem updateLine (hP : Stable P) (h : P L) : P L.updateLine := hP.wr (by decide) h

theorem syncReady (hP : Stable P) (h : P L) : P L.syncReady := hP.wr (by decide) (hP.wr (by decide) h)

theorem setState (hP : Stable P) {st : ℕ} (h : P L) : P (L.setState st) := by
  have hknown := (by decide : ∀ n < 3, (Int.known n).Free) L.me L.me_lt
  unfold Lane.setState
  exact iff_keeps P (fun _ hJ => hP.updateFails hJ)
    (hP.updateLine (hP.syncReady (hP.wr hknown (hP.wr (laneStateOf_free _) (hP.wr (by decide) h)))))

/-! ### The scheduler -/

theorem syncSched (hP : Stable P) (h : P L) : P L.syncSched := by
  have targets : ∀ t < 5, (SCH_T_STATUS.QDEPTH t).Free ∧ (SCH_T_STATUS.SLOW t).Free ∧ (SCH_T_STATUS.EXEC t).Free ∧
      (SCH_T_STATUS.EXEC_IDX t).Free := by decide
  have classes : ∀ k < 16, (SCH_CL_STAT.READY k).Free := by decide
  unfold Lane.syncSched
  refine forN_keeps P (fun t ht _ hJ => ?_) (forN_keeps P (fun k hk _ hJ => hP.wr (classes k hk) hJ) (hP.wr (by decide) h))
  obtain ⟨hdepth, hslow, hexec, hidx⟩ := targets t ht
  extract_lets J₁ slow J₂ J₃
  have h₃ : P J₃ := hP.wr hslow (iff_keeps P (fun _ hJ' => hP.raise hJ') (hP.wr hdepth hJ))
  clear_value J₃
  split
  · exact hP.wr hidx (hP.wr hexec h₃)
  · exact hP.wr hidx (hP.wr hexec h₃)

theorem setSched (hP : Stable P) {sched : Sched} (h : P L) : P (L.setSched sched) :=
  hP.syncSched (L := { L with sched := sched }) (hP.parts h rfl rfl rfl rfl)

theorem returnTarget (hP : Stable P) {t : ℕ} {execToo : Bool} (ht : t < 5) (h : P L) : P (L.returnTarget t execToo) :=
  hP.setSched (hP.wr ((by decide : ∀ i < 5, (SCH_T_CNT.RETURNED i).Free) t ht) h)

theorem rebindFrom (hP : Stable P) {t : ℕ} (h : P L) : P (L.rebindFrom t) := by
  unfold Lane.rebindFrom
  refine ite_keeps P h (forN_keeps P (fun n _ K hK => ite_keeps P hK ?_) h)
  split
  · exact hK
  · obtain ⟨hbound, hrebound⟩ := flowFields_free (K.opFlow_lt n)
    exact hP.wr hrebound (hP.wr hbound hK)

theorem checkCapacity (hP : Stable P) (h : P L) : P L.checkCapacity := ite_keeps P (hP.raise (hP.wr (by decide) h)) (hP.wr (by decide) h)

theorem pairLeaves (hP : Stable P) {p : ℕ} (hp : p < 4) (h : P L) : P (L.pairLeaves p) :=
  hP.checkCapacity (iff_keeps P (fun _ hK => hP.rebindFrom hK)
    (hP.rebindFrom (iff_keeps P (fun _ hK => hP.returnTarget (by decide) hK) (hP.returnTarget (by omega) h))))

theorem restartPair (hP : Stable P) {p : ℕ} (hp : p < 4) (h : P L) : P (L.restartPair p) := by
  have hstate := (by decide : ∀ p < 4, (LSC_PAIR_STATUS.STATE p).Free) p hp
  have hcleared := (by decide : ∀ p < 4, ∀ f ∈ [Int.m5 p, Int.rsOpen p, Int.rsFrames p, Int.rsWhole p, Int.rsRun p], f.Free) p hp
  exact hP.pairLeaves hp (foldl_mem_keeps P (fun f hf _ hJ => hP.wr (hcleared f hf) hJ) (hP.wr hstate h))

theorem restartWithdrawn (hP : Stable P) {p : ℕ} (hp : p < 4) (h : P L) : P (L.restartWithdrawn p) := by
  have apart : ∀ p < 4, (LSC_PAIR_STATUS.CAUSE p).Free ∧ (LSC_PAIR_STATUS.STATE p).Free ∧ (Int.startPc p 0).Free ∧ (Int.startPc p 1).Free := by
    decide
  obtain ⟨hcause, hstate, hmain, hchecker⟩ := apart p hp
  exact ite_keeps P (hP.wr hchecker (hP.wr hmain (hP.wr hstate (hP.wr hcause h)))) (hP.restartPair hp (hP.wr hcause h))

/-! ### The lease -/

theorem setRole (hP : Stable P) {r : ℕ} (h : P L) : P (L.setRole r) := ite_keeps P h (hP.event (hP.wr (by decide) h))

theorem setHolder (hP : Stable P) {n : ℕ} (h : P L) : P (L.setHolder n) := ite_keeps P h (hP.event (hP.wr (by decide) h))

theorem driveSa (hP : Stable P) (h : P L) : P L.driveSa := hP.toField h

theorem undrive (hP : Stable P) (h : P L) : P L.undrive := ite_keeps P (hP.driveSa (hP.wr (by decide) h)) h

theorem refreshSa (hP : Stable P) (h : P L) : P L.refreshSa := ite_keeps P (hP.driveSa h) h

theorem syncEligible (hP : Stable P) (h : P L) : P L.syncEligible := hP.wr (by decide) h

theorem takeSeq (hP : Stable P) {seq : ℕ} (h : P L) : P (L.takeSeq seq) := hP.wr (by decide) (hP.wr (by decide) (hP.wr (by decide) h))

theorem followSuccessor (hP : Stable P) (h : P L) : P L.followSuccessor :=
  ite_keeps P (ite_keeps P (ite_keeps P (hP.wr (by decide) h) (hP.raise (hP.wr (by decide) (hP.wr (by decide) (hP.wr (by decide) h)))))
    (hP.wr (by decide) (hP.wr (by decide) h))) h

theorem endClaim (hP : Stable P) (h : P L) : P L.endClaim :=
  ite_keeps P h (iff_keeps P (fun _ hK => hP.setHolder hK) (hP.wr (by decide) (hP.setRole h)))

theorem stepDown (hP : Stable P) {seq : ℕ} {conflict : Bool} (h : P L) : P (L.stepDown seq conflict) := by
  unfold Lane.stepDown
  extract_lets K₀ K₁
  have h₁ : P K₁ := hP.wr (by decide) (hP.wr (by decide) (hP.wr (by decide) (hP.takeSeq (hP.setRole (hP.undrive h)))))
  exact ite_keeps P (hP.raise (hP.wr (by decide) h₁)) h₁

theorem heedRenewal (hP : Stable P) {src seq : ℕ} {conflict : Bool} (h : P L) : P (L.heedRenewal src seq conflict) :=
  hP.wr (by decide) (hP.wr (by decide) (hP.setHolder (ite_keeps P (hP.stepDown h) (hP.takeSeq h))))

theorem renewalFrom (hP : Stable P) {src seq successor : ℕ} (h : P L) : P (L.renewalFrom src seq successor) :=
  ite_keeps P (hP.wr (by decide) (hP.heedRenewal h)) (ite_keeps P (hP.wr (by decide) (hP.heedRenewal h)) h)

theorem writeExt (hP : Stable P) {faults : ℕ} (h : P L) : P (L.writeExt faults) :=
  forN_keeps P (fun _ _ _ hK => ite_keeps P (hP.toField hK) hK) h

/-! ### The field die -/

theorem toHost (hP : Stable P) {i : UpItem} (h : P L) : P (L.toHost i) :=
  ite_keeps P (hP.wr (by decide) (hP.wr (by decide) (hP.parts h rfl rfl rfl rfl))) h

theorem fieldCount (hP : Stable P) {src : ℕ} (hsrc : src < 256) (h : P L) : P (L.fieldCount src) := by
  have hout : ∀ k ∈ heldFields.map Fld.key, k < 5 * 2 ^ 48 ∨ 6 * 2 ^ 48 ≤ k := by decide
  have hcum : (Int.cum src).Free := Fld.free_of_range hout (by simp only [Fld.key, Int.cum, Home.code]; omega)
    (by simp only [Fld.key, Int.cum, Home.code]; omega)
  unfold Lane.fieldCount
  extract_lets K₀ K₁
  have h₁ : P K₁ := hP.parts (hP.wr hcum h) rfl rfl rfl rfl
  exact hP.wr (by decide) (hP.wr (by decide) (ite_keeps P (hP.parts h₁ rfl rfl rfl rfl) (hP.toHost h₁)))

theorem markOff (hP : Stable P) {g : ℕ} (h : P L) : P (L.markOff g) := by
  unfold Lane.markOff
  split_ifs with hg
  · exact hP.wr ((by decide : ∀ g < 8, (Int.offAt g).Free) g hg) h
  · exact h

theorem syncOverride (hP : Stable P) {g : ℕ} (hg : g < 12) (h : P L) : P (L.syncOverride g) := by
  have apart : ∀ g < 12, (PWM_GROUP_STATUS.OVERRIDE g).Free ∧ (Int.holdOff g).Free ∧ (∀ k ∈ outsOf g, (PWM_OUT_CNT.CARRY k).Free) ∧
      ∀ p ∈ pairsOf g, (Int.ascPend p).Free ∧ (Int.dtBefore p).Free := by decide
  obtain ⟨hkind, hhold, houts, hpairs⟩ := apart g hg
  unfold Lane.syncOverride
  extract_lets old new K₀ K₁
  have h₀ : P K₀ := hP.wr hkind h
  have h₁ : P K₁ := ite_keeps P (hP.wr hhold h₀) (hP.markOff (foldl_mem_keeps P (fun k hk _ hJ => hP.wr (houts k hk) hJ) h₀))
  exact ite_keeps P h (foldl_mem_keeps P (fun p hp _ hJ => hP.wr (hpairs p hp).2 (hP.wr (hpairs p hp).1 hJ)) h₁)

theorem requestSto (hP : Stable P) {c : ℕ} (hc : c < 2) (h : P L) : P (L.requestSto c) := by
  have hrel := (by decide : ∀ c < 2, (Int.stoRelAt c).Free) c hc
  have apart : ∀ c < 2, ∀ n ∈ axesOf c, n < 12 ∧ (Int.stoGroup n).Free ∧ (Int.stopping n).Free ∧ (CLE_AX_FOX_STATUS.SAFE_PATTERN n).Free := by
    decide
  refine foldl_mem_keeps P (fun n hn K hK => ?_) (hP.wr (by decide) (hP.wr hrel (hP.wr (by decide) (hP.wr (by decide) h))))
  obtain ⟨hlt, hgroup, hstopping, hpattern⟩ := apart c hc n hn
  have hoff : P (((K.set (Int.stoGroup n)).markOff n).clr (Int.stopping n)) := hP.wr hstopping (hP.markOff (hP.wr hgroup hK))
  exact ite_keeps P (hP.syncOverride hlt (hP.wr hpattern hoff)) hoff

theorem checkE5 (hP : Stable P) (h : P L) : P L.checkE5 := ite_keeps P (hP.setState (hP.wr (by decide) h)) h

theorem checkCluster (hP : Stable P) {c : ℕ} (hc : c < 2) (h : P L) : P (L.checkCluster c) :=
  ite_keeps P (hP.checkE5 (hP.requestSto hc h)) (hP.checkE5 h)

theorem syncOverrides (hP : Stable P) (h : P L) : P L.syncOverrides := forN_keeps P (fun _ hg _ hK => hP.syncOverride hg hK) h

theorem settleStopping (hP : Stable P) (h : P L) : P L.settleStopping := by
  have hstopping : ∀ n < 8, (Int.stopping n).Free := by decide
  exact forN_keeps P (fun n hn _ hK => iff_keeps P (fun _ hJ => hP.checkCluster (by omega) (hP.wr (hstopping n hn) hJ)) hK) h

theorem fieldRaise (hP : Stable P) {src : ℕ} (hsrc : src < 256) (h : P L) : P (L.fieldRaise src) :=
  ite_keeps P (hP.settleStopping (hP.syncOverrides (hP.wr (by decide) (hP.wr (by decide) (hP.fieldCount hsrc h))))) (hP.fieldCount hsrc h)

/-! ### The actions of a transition of the device mode -/

theorem startSs1 (hP : Stable P) (h : P L) : P L.startSs1 := by
  have axes : ∀ n < 8, (Int.w0 n).Free ∧ (Int.envRun n).Free := by decide
  exact ite_keeps P h (hP.raise (iff_keeps P (fun _ hJ => hP.toField hJ) (iff_keeps P (fun _ hJ => hP.toField hJ) (hP.wr (by decide)
    (hP.wr (by decide) (hP.wr (by decide) (forN_keeps P (fun n hn _ hJ => hP.wr (axes n hn).2 (hP.wr (axes n hn).1 hJ))
    (hP.wr (by decide) (hP.wr (by decide) (hP.wr (by decide) h))))))))))

theorem stateForMode (hP : Stable P) {was : ℕ} (h : P L) : P (L.stateForMode was) := by
  have admitted : ∀ s < 3, (Int.admitted s).Free := by decide
  unfold Lane.stateForMode
  extract_lets moving K
  have hK : P K := forN_keeps P (fun s hs _ hJ => iff_keeps P (fun _ hJ' => hP.wr (admitted s hs) hJ') hJ) h
  exact ite_keeps P (hP.wr (by decide) (ite_keeps P (hP.setState h) h)) (ite_keeps P (ite_keeps P (hP.setState hK) hK) h)

theorem revokeCert (hP : Stable P) (h : P L) : P L.revokeCert := by
  unfold Lane.revokeCert
  refine ite_keeps P h (hP.wr (by decide) ?_)
  split
  · exact h
  · exact hP.parts h rfl rfl rfl rfl

theorem sendPermission (hP : Stable P) (h : P L) : P L.sendPermission := ite_keeps P h (hP.toField (hP.wr (by decide) h))

theorem syncCan (hP : Stable P) (h : P L) : P L.syncCan :=
  ite_keeps P (iff_keeps P (fun _ hK => hP.wr (by decide) (hP.wr (by decide) (hP.wr (by decide) hK))) h)
    (hP.wr (by decide) (hP.wr (by decide) h))

theorem watchToken (hP : Stable P) (h : P L) : P L.watchToken := iff_keeps P (fun _ hK => hP.wr (by decide) hK) h

theorem syncGuarantee (hP : Stable P) (h : P L) : P L.syncGuarantee :=
  hP.wr (by decide) (iff_keeps P (fun _ hK => hP.wr (by decide) hK) (hP.wr (by decide) h))

theorem abandonDirect (hP : Stable P) (h : P L) : P L.abandonDirect := by
  unfold Lane.abandonDirect
  extract_lets u K
  have hK : P K := hP.updateLine (hP.wr (by decide) (hP.wr (by decide) h))
  clear_value K
  split_ifs with hidle hcore
  · exact h
  · exact hK
  · exact iff_keeps P (fun _ hJ => hP.restartWithdrawn (by omega) hJ) (hP.wr (by decide) hK)

theorem endLifecycleService (hP : Stable P) (hrun : ∀ K, P K → P (K.clr Int.halted)) (h : P L) : P L.endLifecycleService :=
  ite_keeps P (hP.syncGuarantee (hP.abandonDirect (hP.wr (by decide) (hrun _ (hP.wr (by decide) (hP.wr (by decide) h)))))) h

/-- The actions of a transition; of those on leaving SERVICE, the halts of the debugger end, and `hseal` stands for the reset of both dies
on the way to STANDBY (R282). -/
theorem modeActions (hP : Stable P) {was : ℕ} (hrun : ∀ K, P K → P (K.clr Int.halted))
    (hseal : ∀ K, P K → P (K.iff (was = mService && K.mode = mStandby) Lane.serviceSealReset)) (h : P L) : P (L.modeActions was) := by
  unfold Lane.modeActions
  extract_lets K₀ K₁ K₂ K₃ K₄ K₅ K₆ K₇ K₈ K₉ K₁₀
  have h₂ : P K₂ := iff_keeps P (fun _ hJ => hP.wr (by decide) (hP.wr (by decide) hJ)) (iff_keeps P (fun _ hJ => hP.startSs1 hJ)
    (iff_keeps P (fun _ hJ => hP.updateFails hJ) (hP.stateForMode h)))
  clear_value K₂
  have h₇ : P K₇ := iff_keeps P (fun _ hJ => ite_keeps P hJ (hP.toField hJ)) (iff_keeps P (fun _ hJ => hP.endClaim hJ)
    (iff_keeps P (fun _ hJ => hP.revokeCert hJ) (iff_keeps P (fun _ hJ => hP.wr (by decide) hJ)
    (iff_keeps P (fun _ hJ => hP.wr (by decide) hJ) h₂))))
  clear_value K₇
  have h₉ : P K₉ := iff_keeps P (fun _ hJ => hP.endLifecycleService hrun hJ) (hP.syncCan (hP.refreshSa (hP.syncEligible (hP.syncReady
    (hP.sendPermission (hP.updateLine h₇))))))
  clear_value K₉
  exact iff_keeps P (fun _ hJ => ite_keeps P (hP.raise (hP.wr (by decide) (hP.abandonDirect hJ))) (hP.abandonDirect hJ)) (hseal K₉ h₉)

end Lane.Stable

end Sys2Proof.Machine
end

-- ==== The debugger ====
section
/-! One bit of a word written, and the commands of the debug port (R52, R53, R227, R228). -/

namespace Sys2Proof.Machine

/-! ### One bit of a word -/

/-- A power of two added where its bit is clear changes no other bit. -/
theorem testBit_two_pow_add_ne {n k j : ℕ} (hk : n.testBit k = false) (hj : j ≠ k) : (2 ^ k + n).testBit j = n.testBit j := by
  rcases Nat.lt_or_gt_of_ne hj with h | h
  · exact Nat.testBit_two_pow_add_gt h n
  · obtain ⟨i, rfl⟩ := Nat.exists_eq_add_of_lt h
    have hpos : 0 < 2 ^ k := Nat.two_pow_pos k
    have hsum : (2 ^ k + n) / 2 ^ k = n / 2 ^ k + 1 := by rw [Nat.add_div_left n hpos]
    have heven : ¬ n / 2 ^ k % 2 = 1 := by simpa [Nat.testBit_eq_decide_div_mod_eq] using hk
    have hhigh : (2 ^ k + n) / 2 ^ (k + 1) = n / 2 ^ (k + 1) := by
      rw [Nat.pow_succ, ← Nat.div_div_eq_div_mul, ← Nat.div_div_eq_div_mul, hsum]
      omega
    rw [show k + i + 1 = i + (k + 1) by omega, Nat.testBit_add, Nat.testBit_add, hhigh]

theorem testBit_putBit_ne (n : ℕ) {k j : ℕ} (b : Bool) (hj : j ≠ k) : (Sys2Proof.putBit n k b).testBit j = n.testBit j := by
  cases b with
  | true =>
    simp only [Sys2Proof.putBit, setBit, if_true]
    split_ifs with hk
    · rfl
    · rw [Nat.add_comm, testBit_two_pow_add_ne (by simpa using hk) hj]
  | false =>
    simp only [Sys2Proof.putBit, clearBit, Bool.false_eq_true, if_false]
    split_ifs with hk
    · obtain ⟨m, rfl⟩ := Nat.exists_eq_add_of_le (Nat.ge_two_pow_of_testBit hk)
      have hm : m.testBit k = false := by simpa [Nat.testBit_two_pow_add_eq] using hk
      rw [Nat.add_sub_cancel_left, testBit_two_pow_add_ne hm hj]
    · rfl

theorem testBit_putBit_false (n k : ℕ) : (Sys2Proof.putBit n k false).testBit k = false := by
  simp only [Sys2Proof.putBit, clearBit, Bool.false_eq_true, if_false]
  split_ifs with hk
  · obtain ⟨m, rfl⟩ := Nat.exists_eq_add_of_le (Nat.ge_two_pow_of_testBit hk)
    simpa [Nat.testBit_two_pow_add_eq] using hk
  · simpa using hk

namespace Lane

variable {L : Lane}

theorem bitOf_putBit_false (L : Lane) (f : Fld) (k : ℕ) : (L.putBit f k false).bitOf f k = false := by
  simp [bitOf, Nat.testBit_mod_two_pow, testBit_putBit_false]

theorem bitOf_putBit_ne (L : Lane) {f : Fld} {k j : ℕ} (b : Bool) (hj : j ≠ k) (hw : j < f.width) :
    (L.putBit f k b).bitOf f j = L.bitOf f j := by
  simp [bitOf, Nat.testBit_mod_two_pow, testBit_putBit_ne _ b hj, hw]

/-! ### The clocks of a halted pair -/

/-- A value read in a field that the shared operations leave alone. -/
theorem stable_rd {f : Fld} (hf : f ∈ heldFields) (v : ℕ) : Stable fun K => K.rd f = v where
  wr := by
    intro L g w hg h
    exact (L.rd_wr_ne g f w fun e => hg (e ▸ List.mem_map_of_mem hf)).trans h
  parts := by
    intro L K h hregs _ _ _
    exact (congrArg (fun r : Store => r.rd f) hregs).trans h

/-- What the resuming of the PWM clock keeps: a property of the lane whose clock ran already, or of the lane once its clock runs (R159). -/
theorem Stable.resumePwm {P : Lane → Prop} (hP : Stable P) (hran : L.on Int.pwmStopped = false → P L) (hruns : P (L.clr Int.pwmStopped)) :
    P L.resumePwm := by
  have hfrozen : ∀ g < 12, (PWM_GROUP_STATUS.FROZEN g).Free := by decide
  unfold Lane.resumePwm
  split_ifs with h
  · exact hran (by simpa using h)
  · exact hP.fieldRaise (by decide) (forN_keeps P (fun g hg _ hK => iff_keeps P (fun _ hJ => hP.wr (hfrozen g hg) hJ) hK) hruns)

theorem resumePwm_pwmStopped (L : Lane) : L.resumePwm.on Int.pwmStopped = false := by
  have hrd : L.resumePwm.rd Int.pwmStopped = 0 :=
    (stable_rd (by decide) 0).resumePwm (fun h => by simpa [on_eq_rd] using h) (L.rd_wr_same _ _)
  simp [on_eq_rd, hrd]

/-- The resuming of the PWM clock ends no halt of the debugger. -/
theorem resumePwm_rd {f : Fld} (hf : f = Int.halted ∨ f = Int.haltClk) : L.resumePwm.rd f = L.rd f := by
  obtain ⟨hheld, hne⟩ : f ∈ heldFields ∧ f.key ≠ Int.pwmStopped.key := by
    rcases hf with rfl | rfl <;> decide
  exact (stable_rd hheld _).resumePwm (fun _ => rfl) (L.rd_wr_ne _ _ _ hne)

/-! ### The write log -/

theorem coreReg_apart (p side reg : ℕ) {f : Fld} (hf : f ∈ [LSC_DBG.LOG_USED, LSC_DBG.REPLAYED]) : f.key ≠ (Int.coreReg p side reg).key := by
  have hlow : ∀ f ∈ [LSC_DBG.LOG_USED, LSC_DBG.REPLAYED], f.key < 0xf0000000 * 32 := by decide
  have := hlow f hf
  simp only [Fld.key, Int.coreReg, Home.code] at *
  omega

/-- A lane with another write log, and what it lists of it. -/
theorem syncDebugLog_keepsBut (L : Lane) (log : List DebugWrite) : L.keepsBut { L with debugLog := log }.syncDebugLog [LSC_DBG.LOG_USED] :=
  onlyFields_keepsBut (L := { L with debugLog := log }) (onlyFields_wr (onlyFields_refl _ _) _ _ (by simp))

theorem keepsBut_wr {K : Lane} {fs : List Fld} (h : L.keepsBut K fs) {f : Fld} (hf : f ∈ fs) (v : ℕ) : L.keepsBut (K.wr f v) fs :=
  keepsBut_trans h (onlyFields_keepsBut (onlyFields_wr (K.onlyFields_refl _) f v hf))

theorem keepsBut_mono {K : Lane} {fs gs : List Fld} (h : L.keepsBut K fs) (hs : fs ⊆ gs) : L.keepsBut K gs := by
  obtain ⟨hmem, hnor, hstrap, hrd⟩ := h
  exact ⟨hmem, hnor, hstrap, fun f hf => hrd f fun hm => hf (List.map_subset _ hs hm)⟩

end Lane

/-! ### The commands of the debug port -/

section
variable {s : State} {l : LaneId} {p : Fin 4}

theorem debugHalt_halts {clocks : Bool} (hmode : haltAllowed (s.lane l).mode = true) (hopen : (s.lane l).on LCS_STATE.DBG_OPEN = true) :
    exec (.debugHaltRequest l p clocks) s = .next (s.onLane l fun L =>
      (L.putBit Int.halted p true).iff clocks fun K => (K.set Int.haltClk).set Int.pwmStopped) :=
  congrArg Host.Outcome.next (onLane_congr s l (by simp [hmode, hopen, Lane.iff]))

theorem debugWrite_register {reg v : ℕ} (hmode : haltAllowed (s.lane l).mode = true) (hopen : (s.lane l).on LCS_STATE.DBG_OPEN = true) :
    exec (.debugWrite l p (.reg reg) v) s = .next (s.onLane l fun L => L.debugRegister p (reg % 256) v) :=
  if_neg (by simp [hmode, hopen])

theorem debugReplay_logged {n : ℕ} {w : DebugWrite}
    (hw : (s.lane l).debugLog.find? (fun w => w.pair = (p : ℕ) ∧ w.retired = n) = some w) :
    exec (.debugReplay l (p, n)) s = .next (s.onLane l fun L =>
      (({ L with debugLog := L.debugLog.erase w }.syncDebugLog).inc LSC_DBG.REPLAYED).wr (Int.coreReg p 1 w.reg) w.value) :=
  congrArg Host.Outcome.next (onLane_congr s l (by simp only [hw]))

end

/-- Settles O48: each command writes the few fields of its pair; that the field clocks resume is `Lane.Stable.resumePwm`. -/
theorem debuggerHaltsStepsAndWrites : Obligations.DebuggerHaltsStepsAndWrites := by
  unfold Obligations.DebuggerHaltsStepsAndWrites
  refine ⟨?_, ?_, ?_, ?_, ?_, ?_, ?_, ?_, ?_, ?_, ?_, ?_⟩
  · rintro s l p b _ rfl hmode
    refine completes_of_exec (g := fun L => L.inc CFG_MODE_STATUS.HALT_REFUSED)
      (congrArg Host.Outcome.next (onLane_congr s l (by simp [hmode]))) ?_
    exact ⟨by simp [Nat.mod_eq_of_lt, CFG_MODE_STATUS.HALT_REFUSED], Lane.onlyFields_wr (Lane.onlyFields_refl _ _) _ _ (by simp)⟩
  · rintro s l p b _ rfl hmode hopen
    refine completes_of_exec (debugHalt_halts hmode hopen) ?_
    generalize s.lane l = L
    have hbit := L.bitOf_putBit_true (f := Int.halted) p.isLt
    have hothers : ∀ q : Fin 4, q ≠ p → (L.putBit Int.halted p true).bitOf Int.halted q = L.bitOf Int.halted q :=
      fun q hne => L.bitOf_putBit_ne true (Fin.val_ne_of_ne hne) q.isLt
    have hput : ∀ fs, Int.halted ∈ fs → L.onlyFields (L.putBit Int.halted p true) fs :=
      fun fs hfs => Lane.onlyFields_wr (L.onlyFields_refl _) _ _ hfs
    generalize L.putBit Int.halted p true = K at hbit hothers hput
    cases b with
    | false => exact ⟨hbit, fun q _ => hothers q, fun h => absurd h (by decide), hput _ (by simp)⟩
    | true =>
      have hclocks : K.onlyFields ((K.set Int.haltClk).set Int.pwmStopped) [Int.haltClk, Int.pwmStopped] :=
        Lane.onlyFields_wr (Lane.onlyFields_wr (K.onlyFields_refl _) _ _ (by simp)) _ _ (by simp)
      refine ⟨?_, fun q _ hne => ?_, fun _ => Lane.on_wr_same .., Lane.onlyFields_trans (hput _ (by simp))
        (Lane.onlyFields_mono hclocks (by simp))⟩
      · exact (Lane.bitOf_onlyFields hclocks (by decide) _).trans hbit
      · exact (Lane.bitOf_onlyFields hclocks (by decide) _).trans (hothers q hne)
  · rintro s l p b place v c _ rfl (⟨hmode, hopen, rfl⟩ | ⟨h, rfl⟩)
    · exact congrArg Host.Outcome.next (onLane_congr s l (by simp [hmode, hopen, Lane.raise]))
    · exact if_pos (by rcases h with h | h <;> simp [h])
  · rintro s l p _ rfl hclk
    refine completes_of_exec (g := fun L => L.putBit Int.halted p false) (congrArg Host.Outcome.next (onLane_congr s l (if_neg ?_))) ?_
    · rw [Lane.putBit_eq, Lane.on_wr_ne _ _ _ _ (by decide), hclk]
      simp
    · exact ⟨Lane.bitOf_putBit_false .., fun q _ hne => Lane.bitOf_putBit_ne _ _ (Fin.val_ne_of_ne hne) q.isLt,
        Lane.onlyFields_wr (Lane.onlyFields_refl _ _) _ _ (by simp)⟩
  · rintro s l p _ rfl hclk hhalted
    have hnone : ((s.lane l).putBit Int.halted p false).rd Int.halted = 0 := by
      rw [Lane.putBit_eq, Lane.rd_wr_same, hhalted]
      exact (by decide : ∀ p : Fin 4, putBit (2 ^ (p : ℕ)) p false % 2 ^ Int.halted.width = 0) p
    refine completes_of_exec (g := fun L => ((L.putBit Int.halted p false).clr Int.haltClk).resumePwm)
      (congrArg Host.Outcome.next (onLane_congr s l (if_pos ?_))) ⟨?_, ?_, Lane.resumePwm_pwmStopped _⟩
    · rw [hnone, Lane.putBit_eq, Lane.on_wr_ne _ _ _ _ (by decide), hclk]
      rfl
    · rw [Lane.resumePwm_rd (.inl rfl), Lane.clr_eq, Lane.rd_wr_ne _ _ _ _ (by decide), hnone]
    · rw [Lane.on_eq_rd, Lane.resumePwm_rd (.inr rfl), Lane.clr_eq, Lane.rd_wr_same]
      rfl
  · rintro s l p _ rfl hbit
    refine completes_of_exec (g := fun L => L.wr (Int.retired p) (L.rd (Int.retired p) + 1))
      (congrArg Host.Outcome.next (onLane_congr s l (if_pos hbit))) ?_
    exact ⟨Lane.rd_wr_same .., Lane.onlyFields_wr (Lane.onlyFields_refl _ _) _ _ (by simp)⟩
  · exact fun s l p hbit => congrArg Host.Outcome.next (onLane_congr s l (if_neg (by simp [hbit])))
  · rintro s l p reg v _ rfl hmode hopen hreg hlog
    refine completes_of_exec (debugWrite_register hmode hopen) ?_
    rw [Nat.mod_eq_of_lt hreg, Lane.debugRegister, if_neg (by omega)]
    have hlogged := Lane.syncDebugLog_keepsBut (s.lane l) ((s.lane l).debugLog ++ [⟨p, reg, v, (s.lane l).rd (Int.retired p)⟩])
    refine ⟨Lane.rd_wr_same .., rfl, ?_, Lane.keepsBut_wr (Lane.keepsBut_mono hlogged (by simp)) (by simp) v⟩
    rw [Lane.rd_wr_ne _ _ _ _ (Lane.coreReg_apart _ _ _ (by simp)), Lane.syncDebugLog, Lane.rd_wr_same, List.length_append]
    exact Nat.mod_eq_of_lt (show _ + 1 < 2 ^ 6 by omega)
  · rintro s l p reg v _ rfl hmode hopen hlog
    refine completes_of_exec (debugWrite_register hmode hopen) ?_
    rw [Lane.debugRegister, if_pos hlog]
    have hrefused : (s.lane l).keepsBut (((s.lane l).inc LSC_DBG.REFUSED_WR).set LSC_DBG.LOG_FULL) [LSC_DBG.LOG_FULL, LSC_DBG.REFUSED_WR] :=
      Lane.keepsBut_wr (Lane.keepsBut_wr (Lane.keepsBut_refl _ _) (by simp) _) (by simp) _
    refine ⟨Lane.on_wr_same ((s.lane l).inc LSC_DBG.REFUSED_WR) LSC_DBG.LOG_FULL 1, rfl, ?_, rfl, hrefused⟩
    rw [Lane.raise_rd, Lane.set_eq, Lane.rd_wr_ne _ _ _ _ (by decide), Lane.inc_eq, Lane.rd_wr_same]
    exact Nat.mod_eq_of_lt (lt_of_le_of_lt (min_le_right _ _) (by decide))
  · exact fun s l p a v hmode hopen => if_neg (by simp [hmode, hopen])
  · rintro s l p n w _ rfl hw -
    refine completes_of_exec (debugReplay_logged hw) ?_
    have hlogged := Lane.syncDebugLog_keepsBut (s.lane l) ((s.lane l).debugLog.erase w)
    refine ⟨Lane.rd_wr_same .., rfl, ?_, ?_,
      Lane.keepsBut_wr (Lane.keepsBut_wr (Lane.keepsBut_mono hlogged (by simp)) (by simp) _) (by simp) _⟩
    · rw [Lane.rd_wr_ne _ _ _ _ (Lane.coreReg_apart _ _ _ (by simp)), Lane.inc_eq, Lane.rd_wr_ne _ _ _ _ (by decide), Lane.syncDebugLog,
        Lane.rd_wr_same]
      rfl
    · rw [Lane.rd_wr_ne _ _ _ _ (Lane.coreReg_apart _ _ _ (by simp)), Lane.inc_eq, Lane.rd_wr_same, Lane.keepsBut_rd hlogged (by decide)]
      exact Nat.mod_eq_of_lt (lt_of_le_of_lt (min_le_right _ _) (by decide))
  · exact fun s l p n hw => congrArg Host.Outcome.next (onLane_congr s l (by simp only [hw, id]))

end Sys2Proof.Machine
end

-- ==== Requests and transitions of the device mode ====
section
/-! What a write of TARGET shows, what a stop request writes, and the record of a transition (R44, R46, R48, R55, R58, R268). -/

namespace Sys2Proof.Machine

namespace Lane

variable {L K : Lane}

/-! ### Requests (R55) -/

/-- What a write of TARGET writes. -/
def targetFields : List Fld := [CFG_MODE_REQ.TARGET, Int.targetAt, Int.targetDone]

theorem writeTarget_onlyFields (L : Lane) (t : ℕ) : L.onlyFields (L.writeTarget t) targetFields :=
  iff_keeps (fun K => L.onlyFields K targetFields) (fun _ hK => onlyFields_wr hK _ _ (by decide))
    (onlyFields_wr (onlyFields_wr (onlyFields_wr (L.onlyFields_refl _) _ _ (by decide)) _ _ (by decide)) _ _ (by decide))

theorem syncTarget_rd {f : Fld} (hf : f.key ≠ Int.targetDone.key) : L.syncTarget.rd f = L.rd f :=
  iff_keeps (fun K => K.rd f = L.rd f) (fun K hK => (K.rd_wr_ne _ _ _ hf).trans hK) rfl

theorem writeTarget_rd (L : Lane) (t : ℕ) :
    (L.writeTarget t).rd CFG_MODE_REQ.TARGET = t % 2 ^ 4 ∧ (L.writeTarget t).rd Int.targetAt = L.now % 2 ^ 64 := by
  constructor
  · rw [writeTarget, syncTarget_rd (by decide), clr_eq, rd_wr_ne _ _ _ _ (by decide), rd_wr_ne _ _ _ _ (by decide), rd_wr_same]
    rfl
  · rw [writeTarget, syncTarget_rd (by decide), clr_eq, rd_wr_ne _ _ _ _ (by decide), rd_wr_same]
    rfl

/-- The target that the frame messages carry after a write other than of SAFE-STOP. -/
theorem writeTarget_targetSent {t : ℕ} (ht : t < 16) (h9 : t ≠ 9) :
    (L.writeTarget t).targetSent = if L.mode = t ∨ t = 6 ∧ operating L.mode = true then 0 else t := by
  have htarget : (L.writeTarget t).rd CFG_MODE_REQ.TARGET = t := (L.writeTarget_rd t).1.trans (Nat.mod_eq_of_lt ht)
  have hdone : (L.writeTarget t).on Int.targetDone = decide (L.mode = t ∨ t = 6 ∧ operating L.mode = true) := by
    unfold writeTarget
    generalize hJ : ((L.wr CFG_MODE_REQ.TARGET t).wr Int.targetAt L.now).clr Int.targetDone = J
    have hmode : J.mode = L.mode := by
      rw [mode, ← hJ, clr_eq, rd_wr_ne _ _ _ _ (by decide), rd_wr_ne _ _ _ _ (by decide), rd_wr_ne _ _ _ _ (by decide)]
      rfl
    have hunsent : J.on Int.targetDone = false := by
      rw [← hJ, clr_eq, on_wr_same]
      rfl
    have hJt : J.rd CFG_MODE_REQ.TARGET = t := by rwa [writeTarget, hJ, syncTarget_rd (by decide)] at htarget
    simp only [syncTarget]
    rw [hmode, hJt]
    by_cases hequal : L.mode = t ∨ t = 6 ∧ operating L.mode = true
    · rw [show (decide (L.mode = t) || decide (t = 6) && operating L.mode) = true by simpa using hequal, decide_eq_true hequal]
      exact on_wr_same ..
    · rw [show (decide (L.mode = t) || decide (t = 6) && operating L.mode) = false by simpa using hequal, decide_eq_false hequal]
      exact hunsent
  rw [targetSent, htarget, hdone]
  simp [h9]

/-! ### A stop request (R46, R268) -/

theorem toField_keepsBut (L : Lane) (i : DownItem) : L.keepsBut (L.toField i) couchFields :=
  ite_keeps (fun K => L.keepsBut K couchFields) (keepsBut_wr (keepsBut_wr ⟨rfl, rfl, rfl, fun _ _ => rfl⟩ (by decide) _) (by decide) _)
    (L.keepsBut_refl _)

/-- What the start of SS1 writes beside the stop instant. -/
def ss1Fields : List Fld :=
  [Int.v0, Int.envRunVeh, Int.rampAxes, Int.s0Have] ++ (List.range 8).flatMap (fun n => [Int.w0 n, Int.envRun n]) ++ couchFields

theorem startSs1_keepsBut (hidle : L.on SSF_STATUS.SS_ACTIVE = false) :
    ((L.set SSF_STATUS.SS_ACTIVE).wr Int.s0Time L.now).keepsBut L.startSs1 ss1Fields := by
  have hcouch : couchFields ⊆ ss1Fields := List.subset_append_right _ _
  have haxes : ∀ n < 8, Int.w0 n ∈ ss1Fields ∧ Int.envRun n ∈ ss1Fields := by decide
  obtain ⟨hv0, hrun, hramp, hhave⟩ : Int.v0 ∈ ss1Fields ∧ Int.envRunVeh ∈ ss1Fields ∧ Int.rampAxes ∈ ss1Fields ∧ Int.s0Have ∈ ss1Fields := by
    decide
  unfold startSs1
  rw [if_neg (by simp [hidle])]
  generalize (L.set SSF_STATUS.SS_ACTIVE).wr Int.s0Time L.now = O
  extract_lets K₀ K₁ K₂ off ramp K₃ K₄
  have hsend : ∀ i K, O.keepsBut K ss1Fields → O.keepsBut (K.toField i) ss1Fields :=
    fun i K hK => keepsBut_trans hK (keepsBut_mono (K.toField_keepsBut i) hcouch)
  have h₂ : O.keepsBut K₂ ss1Fields := keepsBut_wr (forN_keeps (O.keepsBut · ss1Fields)
    (fun n hn _ hJ => keepsBut_wr (keepsBut_wr hJ (haxes n hn).1 _) (haxes n hn).2 _) (keepsBut_wr (O.keepsBut_refl _) hv0 _)) hrun _
  clear_value K₂ off ramp
  have h₄ : O.keepsBut K₄ ss1Fields := iff_keeps (O.keepsBut · ss1Fields) (fun J => hsend _ J) (iff_keeps (O.keepsBut · ss1Fields) (fun J => hsend _ J)
    (keepsBut_wr (keepsBut_wr h₂ hramp _) hhave _))
  clear_value K₄
  exact keepsBut_trans h₄ ⟨rfl, rfl, rfl, fun _ _ => rfl⟩

theorem startSs1_starts (hidle : L.on SSF_STATUS.SS_ACTIVE = false) :
    L.startSs1.on SSF_STATUS.SS_ACTIVE = true ∧ L.startSs1.rd Int.s0Time = L.now % 2 ^ 64 := by
  have h := startSs1_keepsBut hidle
  constructor
  · rw [on_eq_rd, keepsBut_rd h (by decide), rd_wr_ne _ _ _ _ (by decide), set_eq, rd_wr_same]
    rfl
  · rw [keepsBut_rd h (by decide), rd_wr_same]
    rfl

theorem startSs1_started (hactive : L.on SSF_STATUS.SS_ACTIVE = true) : L.startSs1 = L := if_pos hactive

/-- What a stop request writes. -/
def stopFields : List Fld :=
  [Int.restrict, Int.restrictCause, Int.ssfSto, COU_STATUS.LINE, SSF_STATUS.SS_ACTIVE, Int.s0Time] ++ ss1Fields

theorem requestStop_keepsBut (L : Lane) (cause : ℕ) : L.keepsBut (L.requestStop cause) stopFields := by
  have hstart : L.keepsBut L.startSs1 stopFields := by
    cases hactive : L.on SSF_STATUS.SS_ACTIVE
    · exact keepsBut_trans (keepsBut_wr (keepsBut_wr (L.keepsBut_refl _) (by decide) _) (by decide) _)
        (keepsBut_mono (startSs1_keepsBut hactive) (List.subset_append_right _ _))
    · rw [startSs1_started hactive]
      exact L.keepsBut_refl _
  exact ite_keeps (L.keepsBut · stopFields) (keepsBut_wr (keepsBut_wr hstart (by decide) _) (by decide) _)
    (ite_keeps (L.keepsBut · stopFields) (keepsBut_wr (keepsBut_wr (keepsBut_wr (keepsBut_wr (L.keepsBut_refl _) (by decide) _) (by decide) _)
      (by decide) _) (by decide) _) (L.keepsBut_refl _))

theorem requestStop_operating {cause : ℕ} (h : operating L.mode = true) :
    L.requestStop cause = (L.startSs1.wr Int.restrict (max (L.rd Int.restrict) mSafeStop)).wr Int.restrictCause cause := if_pos h

/-- In an operating mode a stop request acts on SS1 and on the proposal alone. -/
theorem requestStop_operating_rd {cause : ℕ} {f : Fld} (h : operating L.mode = true) (hf : f.key ≠ Int.restrictCause.key ∧ f.key ≠ Int.restrict.key) :
    (L.requestStop cause).rd f = L.startSs1.rd f := by
  rw [requestStop_operating h, rd_wr_ne _ _ _ _ hf.1, rd_wr_ne _ _ _ _ hf.2]

theorem requestStop_proposes {cause : ℕ} (h : operating L.mode = true) (hfits : L.rd Int.restrict < 16) :
    9 ≤ (L.requestStop cause).rd Int.restrict := by
  have hwritten : (L.requestStop cause).rd Int.restrict = max (L.rd Int.restrict) mSafeStop % 2 ^ 4 := by
    rw [requestStop_operating h, rd_wr_ne _ _ _ _ (by decide), rd_wr_same]
    rfl
  have hbound : max (L.rd Int.restrict) mSafeStop < 2 ^ 4 := max_lt hfits (by decide)
  rw [hwritten, Nat.mod_eq_of_lt hbound]
  exact le_max_right _ _

theorem requestStop_service {cause : ℕ} (h : L.mode = mService) :
    (L.requestStop cause).rd Int.restrict = mTorqueOff ∧ (L.requestStop cause).on Int.ssfSto = true := by
  have hstop : L.requestStop cause = ((L.set Int.ssfSto).updateLine.wr Int.restrict mTorqueOff).wr Int.restrictCause cause :=
    (if_neg (by rw [h]; decide)).trans (if_pos h)
  rw [hstop]
  constructor
  · rw [rd_wr_ne _ _ _ _ (by decide), rd_wr_same]
    rfl
  · rw [on_wr_ne _ _ _ _ (by decide), on_wr_ne _ _ _ _ (by decide), updateLine, on_wr_ne _ _ _ _ (by decide), set_eq, on_wr_same]
    rfl

theorem requestStop_rests {cause : ℕ} (h : operating L.mode = false) :
    (L.requestStop cause).rd SSF_STATUS.SS_ACTIVE = L.rd SSF_STATUS.SS_ACTIVE := by
  unfold requestStop
  rw [if_neg (by simp [h])]
  refine ite_keeps (fun K : Lane => K.rd SSF_STATUS.SS_ACTIVE = L.rd SSF_STATUS.SS_ACTIVE) ?_ rfl
  rw [rd_wr_ne _ _ _ _ (by decide), rd_wr_ne _ _ _ _ (by decide), updateLine, rd_wr_ne _ _ _ _ (by decide), set_eq,
    rd_wr_ne _ _ _ _ (by decide)]

/-- What a stop request of firmware leaves of a field that no part of it writes. -/
theorem stopTarget_rd {f : Fld} (hmessage : f.key ∉ messageFields.map Fld.key) :
    L.stopTarget.rd f = ((L.writeTarget 9).requestStop 0x07).rd f :=
  keepsBut_rd (sendFeltAll_sends _).1.keeps hmessage

theorem stopTarget_rd_target {f : Fld} (hmessage : f.key ∉ messageFields.map Fld.key) (hstop : f.key ∉ stopFields.map Fld.key) :
    L.stopTarget.rd f = (L.writeTarget 9).rd f :=
  (stopTarget_rd hmessage).trans (keepsBut_rd (requestStop_keepsBut _ _) hstop)

/-- A field that a write of TARGET leaves. -/
theorem writeTarget_rd_ne {t : ℕ} {f : Fld} (hf : f.key ∉ targetFields.map Fld.key) : (L.writeTarget t).rd f = L.rd f :=
  onlyFields_rd (L.writeTarget_onlyFields t) f hf

theorem stopTarget_memories (L : Lane) : L.stopTarget.mem = L.mem ∧ L.stopTarget.nor = L.nor := by
  obtain ⟨hmem, hnor, -, -⟩ := keepsBut_trans (onlyFields_keepsBut (onlyFields_mono (gs := targetFields ++ stopFields)
      (L.writeTarget_onlyFields 9) (List.subset_append_left _ _)))
    (keepsBut_mono (requestStop_keepsBut (L.writeTarget 9) 0x07) (List.subset_append_right _ _))
  obtain ⟨hmem', hnor', -, -⟩ := (sendFeltAll_sends (L := (L.writeTarget 9).requestStop 0x07) .stopRequest).1.keeps
  exact ⟨hmem'.trans hmem, hnor'.trans hnor⟩

theorem stopTarget_sends {p : ℕ} (hp : p < 2) (hlink : L.on (FLT_P_STATUS.LINK p) = true) :
    .stopRequest ∈ L.stopTarget.felt p ++ L.stopTarget.feltWait p := by
  have hapart := (by decide : ∀ p < 2, (FLT_P_STATUS.LINK p).key ∉ stopFields.map Fld.key ∧
    (FLT_P_STATUS.LINK p).key ∉ targetFields.map Fld.key) p hp
  refine (sendFeltAll_sends _).2 p hp ?_
  rw [on_eq_rd, keepsBut_rd (requestStop_keepsBut _ _) hapart.1, writeTarget_rd_ne hapart.2]
  exact hlink

/-! ### The record of a transition (R58) -/

/-- The lane with a transition recorded. -/
def modeRecorded (L : Lane) (m cause lane : ℕ) : Lane :=
  (((((L.wr CFG_MODE_STATUS.PREV_MODE L.mode).wr CFG_MODE_STATUS.DEVICE_MODE m).wr CFG_MODE_CAUSE.CAUSE cause).wr CFG_MODE_CAUSE.CAUSE_LANE lane).wr
    CFG_MODE_TIME.T L.now).clr Int.refusedAt

theorem setMode_same (L : Lane) (cause lane : ℕ) : L.setMode L.mode cause lane = L := if_pos rfl

theorem setMode_records {m : ℕ} (cause lane : ℕ) (h : L.mode ≠ m) :
    L.setMode m cause lane = ((L.modeRecorded m cause lane).syncTarget.modeActions L.mode).watchToken := if_neg h

/-- The fields of the record. -/
def recordFields : List Fld :=
  [CFG_MODE_STATUS.DEVICE_MODE, CFG_MODE_STATUS.PREV_MODE, CFG_MODE_CAUSE.CAUSE, CFG_MODE_CAUSE.CAUSE_LANE, CFG_MODE_TIME.T]

/-- `K` has the record and the RAM of `O`. -/
def SameRecord (O K : Lane) : Prop := K.mem = O.mem ∧ ∀ f ∈ recordFields, K.rd f = O.rd f

theorem stable_sameRecord (O : Lane) : Stable O.SameRecord where
  wr := by
    intro L g v hg ⟨hmem, hrd⟩
    exact ⟨hmem, fun f hf => (L.rd_wr_ne g f v fun e =>
      hg (e ▸ List.mem_map_of_mem ((by decide : recordFields ⊆ heldFields) hf))).trans (hrd f hf)⟩
  parts := by
    intro L K ⟨hmem, hrd⟩ hregs hmem' _ _
    exact ⟨hmem'.trans hmem, fun f hf => (congrArg (fun r : Store => r.rd f) hregs).trans (hrd f hf)⟩

theorem sameRecord_wr {O : Lane} {g : Fld} (hg : g.key ∉ recordFields.map Fld.key) (v : ℕ) (h : O.SameRecord L) : O.SameRecord (L.wr g v) :=
  ⟨h.1, fun f hf => (L.rd_wr_ne g f v fun e => hg (e ▸ List.mem_map_of_mem hf)).trans (h.2 f hf)⟩

/-- The actions of a transition that does not lead from SERVICE to STANDBY leave its record. -/
theorem setMode_sameRecord {m cause lane : ℕ} (hne : L.mode ≠ m) (hm : m < 16) (hreset : L.mode ≠ mService ∨ m ≠ mStandby) :
    (L.modeRecorded m cause lane).SameRecord (L.setMode m cause lane) := by
  rw [setMode_records cause lane hne]
  generalize hO : L.modeRecorded m cause lane = O
  have hmode : O.mode = m := by
    rw [mode, ← hO, modeRecorded, clr_eq, rd_wr_ne _ _ _ _ (by decide), rd_wr_ne _ _ _ _ (by decide), rd_wr_ne _ _ _ _ (by decide),
      rd_wr_ne _ _ _ _ (by decide), rd_wr_same]
    exact Nat.mod_eq_of_lt hm
  have hP := stable_sameRecord O
  refine hP.watchToken (hP.modeActions (fun _ hK => sameRecord_wr (by decide) _ hK) (fun K hK => ?_)
    (iff_keeps O.SameRecord (fun _ hJ => hP.wr (by decide) hJ) ⟨rfl, fun _ _ => rfl⟩))
  have hstays : (decide (L.mode = mService) && decide (K.mode = mStandby)) = false := by
    rw [show K.mode = m from (hK.2 _ (by decide)).trans hmode]
    simpa [imp_iff_not_or] using hreset
  rw [hstays]
  exact hK

end Lane

/-- Settles O37: a request by `Lane.writeTarget_targetSent`, a stop by `Lane.requestStop_keepsBut` and the lemmas beside it, a transition
by `Lane.setMode_sameRecord`. -/
theorem modeRequestsAndTransitions : Obligations.ModeRequestsAndTransitions := by
  unfold Obligations.ModeRequestsAndTransitions
  refine ⟨⟨?_, ?_, ?_, ?_⟩, ?_, Lane.setMode_same⟩
  · rintro s l L rfl
    have hrequest : ∀ t < 16, t ≠ 9 → ∀ c, exec c s = .next (s.onLane l fun L => L.writeTarget t) →
        ∃ K, exec c s = .next (s.onLane l fun _ => K) ∧ K.rd CFG_MODE_REQ.TARGET = t ∧ K.rd Int.targetAt = (s.lane l).now % 2 ^ 64 ∧
          K.targetSent = (if (s.lane l).mode = t ∨ t = 6 ∧ operating (s.lane l).mode = true then 0 else t) ∧
          (s.lane l).onlyFields K [CFG_MODE_REQ.TARGET, Int.targetAt, Int.targetDone] := by
      intro t ht h9 c hc
      obtain ⟨htarget, htime⟩ := (s.lane l).writeTarget_rd t
      exact completes_of_exec hc ⟨htarget.trans (Nat.mod_eq_of_lt ht), htime, Lane.writeTarget_targetSent ht h9, Lane.writeTarget_onlyFields ..⟩
    refine ⟨?_, ?_, ?_, ?_, ?_⟩
    · simpa using hrequest 0 (by decide) (by decide) (.modeReqClear l) rfl
    · simpa using hrequest 5 (by decide) (by decide) (.standbyRequest l) rfl
    · simpa using hrequest 6 (by decide) (by decide) (.operateRequest l) rfl
    · simpa using hrequest 11 (by decide) (by decide) (.serviceRequest l) rfl
    · simpa using hrequest 12 (by decide) (by decide) (.shutdownRequest l) rfl
  · rintro s l _ rfl
    refine completes_of_exec (g := Lane.stopTarget) rfl ?_
    generalize s.lane l = L
    obtain ⟨htarget, htime⟩ := L.writeTarget_rd 9
    obtain ⟨hmem, hnor⟩ := L.stopTarget_memories
    have hmode : (L.writeTarget 9).mode = L.mode := Lane.writeTarget_rd_ne (by decide)
    have hactive : (L.writeTarget 9).on SSF_STATUS.SS_ACTIVE = L.on SSF_STATUS.SS_ACTIVE := by
      rw [Lane.on_eq_rd, Lane.writeTarget_rd_ne (by decide)]
      rfl
    have hnow : (L.writeTarget 9).now = L.now := Lane.writeTarget_rd_ne (by decide)
    refine ⟨(Lane.stopTarget_rd_target (by decide) (by decide)).trans htarget, (Lane.stopTarget_rd_target (by decide) (by decide)).trans htime,
      hmem, hnor, fun p hp hlink => Lane.stopTarget_sends hp hlink, fun hop hidle hfits => ?_, fun hop hrunning => ?_, fun hservice => ?_,
      fun hrest => ?_⟩
    · obtain ⟨hstarted, hinstant⟩ := Lane.startSs1_starts (hactive.trans hidle)
      rw [← hmode] at hop
      rw [Lane.on_eq_rd, Lane.stopTarget_rd (by decide), Lane.stopTarget_rd (by decide), Lane.stopTarget_rd (by decide),
        Lane.requestStop_operating_rd hop (by decide), Lane.requestStop_operating_rd hop (by decide), hinstant, hnow]
      exact ⟨hstarted, rfl, Lane.requestStop_proposes hop ((Lane.writeTarget_rd_ne (by decide)).trans_lt hfits)⟩
    · rw [← hmode] at hop
      rw [Lane.stopTarget_rd (by decide), Lane.requestStop_operating_rd hop (by decide), Lane.startSs1_started (hactive.trans hrunning),
        Lane.writeTarget_rd_ne (by decide)]
    · obtain ⟨hproposed, hsto⟩ := Lane.requestStop_service (cause := 0x07) (hmode.trans hservice)
      rw [Lane.on_eq_rd, Lane.stopTarget_rd (by decide), Lane.stopTarget_rd (by decide)]
      exact ⟨hproposed, hsto⟩
    · rw [Lane.stopTarget_rd (by decide), Lane.requestStop_rests (by rw [hmode, hrest]), Lane.writeTarget_rd_ne (by decide)]
  · rintro s l _ rfl hwaiting
    refine completes_of_exec (g := Lane.refuseStart) (congrArg Host.Outcome.next (onLane_congr s l (if_pos hwaiting))) ⟨?_, ?_, ?_, ?_⟩
    · rw [Lane.refuseStart, Lane.clr_eq, Lane.on_wr_ne _ _ _ _ (by decide), Lane.on_wr_ne _ _ _ _ (by decide), Lane.set_eq, Lane.on_wr_same]
      rfl
    · exact (Lane.on_wr_same ..).trans rfl
    · rw [Lane.refuseStart, Lane.clr_eq, Lane.rd_wr_ne _ _ _ _ (by decide), Lane.rd_wr_same]
    · exact Lane.onlyFields_wr (Lane.onlyFields_wr (Lane.onlyFields_wr (Lane.onlyFields_refl _ _) _ _ (by simp)) _ _ (by simp)) _ _ (by simp)
  · exact fun s l hwaiting => congrArg Host.Outcome.next (onLane_congr s l (if_neg (by simp [hwaiting])))
  · rintro L _ m cause lane hne hm hcause hlane hold hreset rfl
    obtain ⟨hmem, hrd⟩ := Lane.setMode_sameRecord (cause := cause) (lane := lane) hne hm hreset
    have hread : ∀ f ∈ Lane.recordFields, (L.setMode m cause lane).rd f = (L.modeRecorded m cause lane).rd f := hrd
    refine ⟨(hread CFG_MODE_STATUS.DEVICE_MODE (by decide)).trans ?_, (hread _ (by decide)).trans ?_, (hread _ (by decide)).trans ?_,
      (hread _ (by decide)).trans ?_, (hread _ (by decide)).trans ?_, hmem⟩
    · rw [Lane.modeRecorded, Lane.clr_eq, Lane.rd_wr_ne _ _ _ _ (by decide), Lane.rd_wr_ne _ _ _ _ (by decide),
        Lane.rd_wr_ne _ _ _ _ (by decide), Lane.rd_wr_ne _ _ _ _ (by decide), Lane.rd_wr_same]
      exact Nat.mod_eq_of_lt hm
    · rw [Lane.modeRecorded, Lane.clr_eq, Lane.rd_wr_ne _ _ _ _ (by decide), Lane.rd_wr_ne _ _ _ _ (by decide),
        Lane.rd_wr_ne _ _ _ _ (by decide), Lane.rd_wr_ne _ _ _ _ (by decide), Lane.rd_wr_ne _ _ _ _ (by decide), Lane.rd_wr_same]
      exact Nat.mod_eq_of_lt hold
    · rw [Lane.modeRecorded, Lane.clr_eq, Lane.rd_wr_ne _ _ _ _ (by decide), Lane.rd_wr_ne _ _ _ _ (by decide),
        Lane.rd_wr_ne _ _ _ _ (by decide), Lane.rd_wr_same]
    · rw [Lane.modeRecorded, Lane.clr_eq, Lane.rd_wr_ne _ _ _ _ (by decide), Lane.rd_wr_ne _ _ _ _ (by decide), Lane.rd_wr_same]
    · rw [Lane.modeRecorded, Lane.clr_eq, Lane.rd_wr_ne _ _ _ _ (by decide), Lane.rd_wr_same]

end Sys2Proof.Machine
end

-- ==== The RAM at the close of a window ====
section
/-! Each operation of a window close, of a lane exit and of a transition leaves the shared SRAM, the TCMs and the Squirrel store (R24, R231). -/

namespace Sys2Proof.Machine

/-- The RAM of the lane is `m`. -/
def Lane.MemIs (m : Memory) (L : Lane) : Prop := L.mem = m

namespace Lane.MemIs

variable {m : Memory} {L : Lane}

/-- That the RAM is `m` rests on the RAM alone. -/
theorem ram : Stable (Lane.MemIs m) := ⟨fun _ h => h, fun h _ hmem _ _ => hmem.trans h⟩

theorem ite {c : Prop} [Decidable c] {J K : Lane} (h : J.MemIs m) (hK : K.MemIs m) : (if c then J else K).MemIs m := ite_keeps _ h hK

theorem iff {b : Bool} {g : Lane → Lane} (hg : ∀ K : Lane, K.MemIs m → (g K).MemIs m) (h : L.MemIs m) : (L.iff b g).MemIs m :=
  iff_keeps _ hg h

theorem foldl {α : Type} {g : Lane → α → Lane} {xs : List α} (hg : ∀ K x, K.MemIs m → (g K x).MemIs m) (h : L.MemIs m) :
    (xs.foldl g L).MemIs m := foldl_keeps _ hg h

theorem forN {n : ℕ} {g : ℕ → Lane → Lane} (hg : ∀ i < n, ∀ K : Lane, K.MemIs m → (g i K).MemIs m) (h : L.MemIs m) :
    (L.forN n g).MemIs m := forN_keeps _ hg h

theorem wr {f : Fld} {v : ℕ} (h : L.MemIs m) : (L.wr f v).MemIs m := h

/-- A lane whose other parts changed. -/
theorem update {K : Lane} (h : L.MemIs m) (hmem : K.mem = L.mem) : K.MemIs m := hmem.trans h

/-! ### Resets -/

theorem newChallenge (h : L.MemIs m) : L.newChallenge.MemIs m := .forN (fun _ _ _ hK => .wr (.update hK rfl)) h

theorem hostReset (h : L.MemIs m) : L.hostReset.MemIs m :=
  .wr (.wr (.newChallenge (.iff (fun _ hJ => .wr (.wr hJ)) (.iff (fun _ hJ => .wr (.wr (.wr hJ))) (.iff (fun _ hJ => .wr (.wr hJ))
    (.forN (fun _ _ _ hJ => .iff (fun _ hJ' => .wr hJ') hJ) (.wr (.wr (.wr (.wr (.foldl (fun _ _ hJ => .ite (.wr hJ) (.wr hJ))
    (.update h rfl))))))))))))

theorem fieldRestart (h : L.MemIs m) : L.fieldRestart.MemIs m := .forN (fun _ _ _ hK => .wr hK) (.wr (.update h rfl))

/-! ### Messages -/

theorem sendFeltAll {msg : FeltMsg} (h : L.MemIs m) : (L.sendFeltAll msg).MemIs m := (sendFeltAll_sends msg).1.keeps.1.trans h

theorem pumpFelt {p : ℕ} (h : L.MemIs m) : (L.pumpFelt p).MemIs m := by
  have hset : ∀ ms, (L.setFelt p ms).MemIs m := fun _ => .ite (.update h rfl) (.update h rfl)
  exact .wr (.wr (.ite (.update (hset _) rfl) (.update (hset _) rfl)))

theorem fieldEvent {kind axis index cause : ℕ} (h : L.MemIs m) : (L.fieldEvent kind axis index cause).MemIs m := ram.toHost h

theorem level {ev mask : ℕ} {on : Bool} (h : L.MemIs m) : (L.level ev mask on).MemIs m :=
  .forN (fun _ hp _ hK => .ite (ram.eventTo hp hK) (.wr hK)) h

/-! ### The abort of a power entry (R423) -/

theorem putWord {a data : ℕ} (h : L.MemIs m) : (L.putWord a data).MemIs m := .foldl (fun _ _ hK => .wr hK) h

theorem netOn (h : L.MemIs m) : L.netOn.MemIs m :=
  .iff (fun _ hK => .wr (.ite (.foldl (fun _ _ hJ => .putWord hJ) (.wr hK)) (.wr (.wr hK)))) h

theorem restartStopped (h : L.MemIs m) : L.restartStopped.MemIs m := by
  unfold Lane.restartStopped
  extract_lets off K₀ K₁
  have h₁ : K₁.MemIs m := ram.event (.wr (.wr (.iff (fun _ hJ => .wr (.wr hJ)) (.netOn (.wr (.wr (.wr (.wr (.wr h)))))))))
  exact .ite (.fieldRestart (.hostReset (.wr (.wr (.wr h₁))))) (.pumpFelt (.pumpFelt (ram.pump h₁)))

theorem abortEntry {ap src : ℕ} (h : L.MemIs m) : (L.abortEntry ap src).MemIs m := .restartStopped (.wr (.wr (.wr h)))

theorem latchWake {w : ℕ} (h : L.MemIs m) : (L.latchWake w).MemIs m := by
  unfold Lane.latchWake
  extract_lets K
  have hK : K.MemIs m := ram.event (.wr (.wr h))
  exact .ite (.abortEntry hK) hK

theorem wakeSa (h : L.MemIs m) : L.wakeSa.MemIs m := .ite h (.latchWake (.wr h))

/-! ### The lease -/

theorem releaseLease {successor : ℕ} (h : L.MemIs m) : (L.releaseLease successor).MemIs m := by
  unfold Lane.releaseLease
  exact .wr (.wr (ram.setHolder (ram.setRole (.sendFeltAll (ram.takeSeq (ram.undrive h))))))

theorem releaseAtExit {cause : ℕ} (h : L.MemIs m) : (L.releaseAtExit cause).MemIs m :=
  .wr (.ite (.ite (.wr (ram.setRole (ram.undrive h))) (.releaseLease h)) (ram.endClaim h))

theorem claim {silent : Bool} (h : L.MemIs m) : (L.claim silent).MemIs m := by
  unfold Lane.claim
  exact ram.followSuccessor (.sendFeltAll (ram.setHolder (ram.setRole (.wr (.wr (.wr (.wr (.wr (.wr (.wr h))))))))))

/-! ### The exit of the field die (R107) -/

theorem syncActive {c : ℕ} (h : L.MemIs m) : (L.syncActive c).MemIs m := .ite h (.wr (.wr (.wr (.wr h))))

theorem keepSpeed {n : ℕ} (h : L.MemIs m) : (L.keepSpeed n).MemIs m := by
  unfold Lane.keepSpeed
  split
  · exact .wr h
  · exact .wr h
  · exact h

theorem settleBank {n : ℕ} (h : L.MemIs m) : (L.settleBank n).MemIs m := .ite (.ite (.wr h) (.wr (.wr (.wr (.wr h))))) h

theorem endRun {n : ℕ} (h : L.MemIs m) : (L.endRun n).MemIs m :=
  .settleBank (.foldl (fun _ _ hJ => .wr hJ) (.foldl (fun _ _ hJ => .wr hJ) (.wr (.wr (.wr (.wr (.wr (.wr (.wr h)))))))))

theorem enterSafe {n cause : ℕ} (hn : n < 8) (h : L.MemIs m) : (L.enterSafe n cause).MemIs m := by
  unfold Lane.enterSafe
  extract_lets asc K₀ K₁ K₂ K₃
  have h₃ : K₃.MemIs m := .fieldEvent (ram.syncOverride (by omega) (.wr (.wr (.wr (.wr (.wr (.wr (.endRun (.wr (.wr (.keepSpeed h)))))))))))
  exact .ite h (ram.checkCluster (by omega) h₃)

theorem fieldExit {cause : ℕ} (h : L.MemIs m) : (L.fieldExit cause).MemIs m :=
  .ite (ram.checkE5 h) (ram.checkE5 (ram.checkCluster (by decide) (ram.checkCluster (by decide) (.forN (fun _ _ _ hJ => .wr hJ)
    (.forN (fun _ hn _ hJ => .enterSafe hn hJ) (ram.syncOverrides (.forN (fun _ _ _ hJ => .syncActive hJ) (.wr (.wr (.wr h))))))))))

/-! ### The collector and the exit (R287 to R298) -/

theorem writeFirst {a : Arrival} {forced observed : Bool} {at' : ℕ × ℕ} (h : L.MemIs m) : (L.writeFirst a forced observed at').MemIs m :=
  .wr (.iff (fun _ hJ => .wr hJ) (.wr (.wr (.wr (.wr (.wr (.wr (.wr h))))))))

theorem exitRecord {k : ℕ} (h : L.MemIs m) : (L.exitRecord k).MemIs m := .ite (.writeFirst h) (.writeFirst h)

theorem latchE0 {cause : ℕ} (h : L.MemIs m) : (L.latchE0 cause).MemIs m := by
  unfold Lane.latchE0
  extract_lets K₀ K₁ K₂ K₃
  have h₁ : K₁.MemIs m := .ite (.iff (fun _ hJ => .wr hJ) (.wr (.wr h))) (.iff (fun _ hJ => .exitRecord hJ) (.wr (.wr h)))
  have h₃ : K₃.MemIs m := .forN (fun _ _ _ hJ => .wr hJ) (.forN (fun _ ht _ hJ => ram.returnTarget ht hJ) (.releaseAtExit (.wr (.wr h₁))))
  have hfield : ((K₃.wr COU_STATUS.LINE 1).fieldExit cause).MemIs m := .fieldExit (.wr h₃)
  exact .ite h (.ite (.abortEntry hfield) hfield)

theorem syncLog (h : L.MemIs m) : L.syncLog.MemIs m := by
  unfold Lane.syncLog
  split
  · exact .wr (.wr (.wr (.wr (.wr h))))
  · exact .wr (.wr (.wr (.wr (.wr (.wr h)))))

theorem logFault {e : LogEntry} (h : L.MemIs m) : (L.logFault e).MemIs m :=
  .iff (fun _ hJ => ram.sendMbx hJ) (.ite (.syncLog (.update h rfl)) (.wr h))

theorem pend {a : Arrival} {forced observed : Bool} (h : L.MemIs m) : (L.pend a forced observed).MemIs m :=
  .wr (.wr (.wr (.wr (.wr (.wr (.wr (.wr h)))))))

theorem gate {src since : ℕ} {forcedAlone : Bool} (h : L.MemIs m) : (L.gate src forcedAlone since).MemIs m := .ite (.wr (.wr h)) (.latchE0 (.wr h))

theorem react {a : Arrival} {forced observed : Bool} (h : L.MemIs m) : (L.react a forced observed).MemIs m := by
  unfold Lane.react
  extract_lets sev K₁ K₂ K₃ K₄ K₅
  have h₃ : K₃.MemIs m := .iff (fun _ hJ => .wr hJ) (.iff (fun _ hJ => .logFault hJ) (.ite (.wr h) (.wr h)))
  have h₅ : K₅.MemIs m := .level (.wr (.ite (.iff (fun _ hJ => .wr (.wr (.wr hJ))) h₃) (.iff (fun _ hJ => .pend hJ) h₃)))
  clear_value K₅
  exact .ite (.gate (.update h₅ rfl)) h₅

theorem collect {arrs : List Arrival} (h : L.MemIs m) : (L.collect arrs).MemIs m := by
  unfold Lane.collect
  refine .foldl (fun _ _ hJ => .react hJ) ?_
  split
  · exact .wr h
  · exact .foldl (fun _ _ hJ => .wr (.wr (.wr hJ))) (.ite (.wr (.writeFirst (.wr h))) (.iff (fun _ hJ => .wr hJ) (.wr h)))

theorem exitOn {src : ℕ} (h : L.MemIs m) : (L.exitOn src).MemIs m := .latchE0 (.collect h)

/-! ### A transition of the device mode -/

theorem setMode {md cause lane : ℕ} (h : L.MemIs m) : (L.setMode md cause lane).MemIs m :=
  .ite h (ram.watchToken (ram.modeActions (fun _ hK => .wr hK) (fun _ hK => .iff (fun _ hJ => .ite (.fieldRestart (.hostReset hJ)) hJ) hK)
    (.iff (fun _ hK => .wr hK) (.wr (.wr (.wr (.wr (.wr (.wr h)))))))))

/-! ### The steps of the window close (R231 to R237) -/

theorem countIn {own : Bool} {s : ℕ} {msg : Option FrameMsg} (h : L.MemIs m) : (L.countIn own s msg).MemIs m := by
  unfold Lane.countIn
  split
  · exact .wr h
  · exact .ite (.wr (.wr h)) (.ite (.wr h) (.iff (fun _ hJ => .wr hJ) (.wr h)))

theorem countLate {s : ℕ} {onTime : Bool} (h : L.MemIs m) : (L.countLate s onTime).MemIs m := by
  unfold Lane.countLate
  extract_lets st K₀ K₁
  have h₁ : K₁.MemIs m := .iff (fun _ hJ => ram.raise hJ) (.wr (.wr (.wr h)))
  exact .ite (.wr (.wr h)) (.ite (.iff (fun _ hJ => .wr hJ) (.wr (.wr h))) (.ite (ram.raise (.wr h₁)) h₁))

theorem slowExit (h : L.MemIs m) : L.slowExit.MemIs m := .ite (.exitOn (.ite (.wr h) (.wr h))) (.ite (.wr h) (.wr h))

theorem thermal {n irms : ℕ} (h : L.MemIs m) : (L.thermal n irms).MemIs m :=
  .ite (.wr (.wr (.wr h))) (.ite (.wr (.wr (.wr h))) (.wr (.wr h)))

theorem disagreement {c n : ℕ} {bad : Bool} (h : L.MemIs m) : (L.disagreement c n bad).MemIs m := by
  unfold Lane.disagreement
  extract_lets K₁ K₂ K₃ lim
  have h₁ : K₁.MemIs m := .ite (.wr h) (.wr h)
  have h₂ : K₂.MemIs m := .ite (.wr h₁) (.wr h₁)
  have h₃ : K₃.MemIs m := .ite (.wr h₂) (.wr h₂)
  exact .ite (.exitOn (.wr (.wr h₃))) (.ite (.ite (.wr (.wr (ram.raise (.wr h₃)))) (ram.raise (.wr h₃))) h₃)

theorem agree {ms : Msgs} {present c : ℕ} (h : L.MemIs m) : (L.agree ms present c).MemIs m :=
  .ite h (.disagreement (.iff (fun _ hJ => .wr hJ) (.wr (.wr (.wr (.wr h))))))

theorem countBand {s : ℕ} {msg : Option FrameMsg} (h : L.MemIs m) : (L.countBand s msg).MemIs m := by
  unfold Lane.countBand
  split
  · exact .wr h
  · exact .ite (.wr h) (.wr h)

theorem sendChannels {ms : Msgs} {present : ℕ} (h : L.MemIs m) : (L.sendChannels ms present).MemIs m := by
  have hsplits : (L.bankSplits ms present).MemIs m := .forN (fun _ _ _ hK => .iff (fun _ hJ => .wr hJ) hK) h
  exact .ite hsplits (.forN (fun _ _ _ hK => .ite hK (.forN (fun _ _ _ hJ => .ite hJ (ram.toField hJ)) (.iff (fun _ hJ => .wr hJ) hK))) hsplits)

/-- STO with a proposal of TORQUE-OFF (R272). -/
theorem stopsTorque {cause : ℕ} (h : L.MemIs m) : (L.proposeTorqueOff cause).sto.MemIs m := ram.updateLine (.wr (.ite h (.wr (.wr h))))

theorem envelopes (h : L.MemIs m) : L.envelopes.MemIs m := by
  unfold Lane.envelopes
  extract_lets L₀ lim veh K₀ K₁ viol
  have h₀ : L₀.MemIs m := .iff (fun _ hK => .wr hK) h
  have h₁ : K₁.MemIs m := .forN (fun _ _ _ hJ => .ite (.wr hJ) (.wr hJ)) (.ite (.wr h₀) (.wr h₀))
  exact .ite h₀ (.ite (.stopsTorque (ram.raise (.wr h₁))) h₁)

theorem evalStill (h : L.MemIs m) : L.evalStill.MemIs m :=
  .ite (.iff (fun _ hK => .wr (.wr hK)) h) (ram.watchToken (ram.updateFails (.wr (.wr h))))

theorem standstillNow (h : L.MemIs m) : L.standstillNow.MemIs m :=
  .ite (.evalStill h) (.iff (fun _ hJ => .stopsTorque hJ) (ram.watchToken (.wr (.ite h (.wr (.wr h))))))

theorem sealFrame {ms : Msgs} {present : ℕ} (h : L.MemIs m) : (L.sealFrame ms present).MemIs m := by
  refine .foldl (fun K s hK => .ite (.wr hK) ?_) h
  extract_lets K₀ differs K₁
  have h₁ : K₁.MemIs m := .ite (.wr (.wr hK)) (.wr (.wr hK))
  exact .ite (ram.raise (.wr h₁)) h₁

/-! ### The decision of the device mode (R43 to R49) -/

theorem permissive {pm : List (ℕ × FrameMsg)} (h : L.MemIs m) : (L.permissive pm).1.MemIs m := by
  have hrequest : ∀ (K : Lane) (operate : Bool), K.MemIs m → (K.startRequest pm operate).1.MemIs m := fun K operate hK =>
    ite_keeps (fun p : Lane × List Decision => p.1.MemIs m) (.wr (.wr (.wr hK))) (ite_keeps (fun p : Lane × List Decision => p.1.MemIs m)
      (.wr hK) (.wr hK))
  unfold Lane.permissive
  extract_lets targets K₀ K₁ t who still off plain r sealed
  have h₁ : K₁.MemIs m := .iff (fun _ hJ => .wr hJ) (.iff (fun _ hJ => .wr hJ) h)
  exact ite_keeps (fun p : Lane × List Decision => p.1.MemIs m) (hrequest _ _ h₁) (ite_keeps (fun p : Lane × List Decision => p.1.MemIs m)
    (hrequest _ _ h₁) (.wr h₁))

theorem enact {pm : List (ℕ × FrameMsg)} {d : Decision} (h : L.MemIs m) : (L.enact pm d).MemIs m :=
  .ite (.wr (.wr h)) (.setMode (.iff (fun _ hJ => .iff (fun _ hJ' => ram.setState hJ') (.foldl (fun _ _ hJ' => .wr hJ') hJ))
    (.iff (fun _ hJ => .wr hJ) h)))

theorem adopt {ms : Msgs} (h : L.MemIs m) : (L.adopt ms).MemIs m := by
  unfold Lane.adopt
  dsimp only
  split
  · split
    · exact .setMode h
    · exact h
  · exact .ite (.setMode h) h

theorem decideMode {ms : Msgs} {present : ℕ} {own : ℕ × ℕ} (h : L.MemIs m) : (L.decideMode ms present own).MemIs m := by
  unfold Lane.decideMode
  extract_lets pm p K
  have hK : K.MemIs m := by
    refine .ite (.adopt h) ?_
    split
    · exact .permissive h
    · exact .enact (.permissive h)
  exact .wr (.ite (.wr (.wr (.wr hK))) (.wr (.wr (.wr (.wr hK)))))

/-! ### The lease at the window close (R251, R257, R262) -/

theorem standbyClaim {ms : Msgs} {present : ℕ} (h : L.MemIs m) : (L.standbyClaim ms present).MemIs m := by
  unfold Lane.standbyClaim
  refine .ite h ?_
  split
  · exact h
  · exact .ite (.claim (.wakeSa (.wr (.wr h)))) (.wr (.wr h))

theorem handoverFrame (h : L.MemIs m) : L.handoverFrame.MemIs m := .ite h (.ite (.wr h) (ram.raise (.wr (ram.setRole (.wr h)))))

theorem saPowerFrame (h : L.MemIs m) : L.saPowerFrame.MemIs m :=
  .wr (.ite (.wr h) (.ite (.ite (.wr h) (.wr h)) (.iff (fun _ hJ => .wakeSa hJ) (.wr h))))

theorem closeLease {ms : Msgs} {present : ℕ} (h : L.MemIs m) : (L.closeLease ms present).MemIs m :=
  ram.syncEligible (.saPowerFrame (.standbyClaim (.handoverFrame (.wr (ram.followSuccessor (.foldl (fun _ _ hJ => .ite hJ (.wr hJ)) h))))))

end Lane.MemIs

end Sys2Proof.Machine
end

-- ==== The receipt of frame messages and the window close ====
section
/-! A frame message received (R232, R311, R314), the close of the exchange window, and the decision taken of several (R43, R45). -/

namespace Sys2Proof.Machine

/-! ### The receipt of a message -/

/-- The message of a Felt queue that is a frame message. -/
def FeltMsg.frame? : FeltMsg → Option FrameMsg
  | .frame f => some f
  | _ => none

theorem takeFirst_frame_none {ms : List FeltMsg} (h : ∀ m ∈ ms, ∀ f, m ≠ .frame f) : takeFirst FeltMsg.frame? ms = none := by
  induction ms with
  | nil => rfl
  | cons x r ih =>
    have hx : x.frame? = none := by
      cases x with
      | frame f => exact absurd rfl (h _ List.mem_cons_self f)
      | _ => rfl
    rw [takeFirst, hx, ih fun m hm => h m (List.mem_cons_of_mem _ hm)]
    rfl

theorem execFrameMessageReceipt_eq (l src : LaneId) (s : State) :
    exec (.frameMessageReceipt l src) s = .next (s.recvFelt l src FeltMsg.frame? fun f L => (L.takeFrameMsg src.num f).frameDelay (L.portTo src.num)
      ((s.lane src).now - (s.lane src).rd Int.frameSentAt)) := by
  have hpick : FeltMsg.frame? = fun m => match m with
      | .frame f => some f
      | _ => none := by
    funext m
    cases m <;> rfl
  rw [hpick]
  rfl

theorem recvFelt_head {β : Type} {s : State} {l src : LaneId} {pick : FeltMsg → Option β} {g : β → Lane → Lane} {m : FeltMsg} {b : β}
    {r : List FeltMsg} (hne : l ≠ src) (hl : s.variant.fitted l = true) (hsrc : s.variant.fitted src = true)
    (hqueue : (s.lane src).felt ((s.lane src).portTo l.num) = m :: r) (hm : pick m = some b) :
    s.recvFelt l src pick g = (s.setLane src ((s.lane src).setFelt ((s.lane src).portTo l.num) r)).onLane l (g b) := by
  unfold State.recvFelt
  simp only [hne, hl, hsrc, hqueue, takeFirst, hm, and_self, not_true, or_self, if_false]

theorem recvFelt_none {β : Type} {s : State} {l src : LaneId} {pick : FeltMsg → Option β} {g : β → Lane → Lane}
    (h : takeFirst pick ((s.lane src).felt ((s.lane src).portTo l.num)) = none) : s.recvFelt l src pick g = s := by
  unfold State.recvFelt
  simp only [h, ite_self]

namespace Lane

variable {L : Lane}

/-- The lane with a frame message in the receive register of its port. -/
def frameShown (L : Lane) (n : ℕ) (m : FrameMsg) : Lane := { L with feltRx := L.feltRx.set (L.portTo n) (some m) }.wr (Int.rxTime (L.portTo n)) L.now

theorem frameShown_open (L : Lane) (n : ℕ) (m : FrameMsg) : (L.frameShown n m).on Int.frameOpen = L.on Int.frameOpen :=
  on_wr_ne _ _ _ _ ((by decide : ∀ p < 2, Int.frameOpen.key ≠ (Int.rxTime p).key) _ (L.portTo_lt n))

theorem takeFrameMsg_closed {n : ℕ} {m : FrameMsg} (h : L.on Int.frameOpen = false) : L.takeFrameMsg n m = L.frameShown n m :=
  if_pos (show (! (L.frameShown n m).on Int.frameOpen) = true by rw [frameShown_open, h]; rfl)

/-- The frame messages that the lane has heard, and those its receive registers show. -/
def Received (heard feltRx : List (Option FrameMsg)) (L : Lane) : Prop := L.heard = heard ∧ L.feltRx = feltRx

/-- What a lane has received rests on no field. -/
theorem stable_received {heard feltRx : List (Option FrameMsg)} : Stable (Received heard feltRx) where
  wr := fun _ h => h
  parts := fun ⟨hheard, hshown⟩ _ _ hheard' hshown' => ⟨hheard'.trans hheard, hshown'.trans hshown⟩

theorem takeFrameMsg_open {n : ℕ} {m : FrameMsg} (h : L.on Int.frameOpen = true) :
    Received (L.heard.set n (some m)) (L.feltRx.set (L.portTo n) (some m)) (L.takeFrameMsg n m) := by
  have hP := @stable_received (L.heard.set n (some m)) (L.feltRx.set (L.portTo n) (some m))
  unfold takeFrameMsg
  extract_lets K₀ K₁ K₂ K₃ K₄ K₅
  have hopen : K₀.on Int.frameOpen = true := (L.frameShown_open n m).trans h
  rw [if_neg (by simp [hopen])]
  have h₁ : Received (L.heard.set n (some m)) (L.feltRx.set (L.portTo n) (some m)) (K₁.sawExits n m.exits) := ⟨rfl, rfl⟩
  have h₅ : Received (L.heard.set n (some m)) (L.feltRx.set (L.portTo n) (some m)) K₅ :=
    iff_keeps _ (fun _ hJ => hP.wr (by decide) (hP.wr (by decide) hJ)) (iff_keeps _ (fun _ hJ => hP.wr (by decide) hJ)
      (iff_keeps _ (fun _ hJ => hP.renewalFrom hJ) (hP.followSuccessor (hP.wr (by decide) h₁))))
  clear_value K₅
  refine hP.syncEligible ?_
  split
  · exact iff_keeps _ (fun _ hJ => hP.writeExt hJ) h₅
  · exact h₅

theorem frameDelay_rd {p d : ℕ} (h : L.rd (FLT_P_LQ.LAT_MAX p) ≤ 255) :
    (L.frameDelay p d).rd (FLT_P_LQ.LAT_MAX p) = max (L.rd (FLT_P_LQ.LAT_MAX p)) (min 255 (d / 10)) := by
  have hfits : max (L.rd (FLT_P_LQ.LAT_MAX p)) (min 255 (d / 10)) < 2 ^ 8 := max_lt (by omega) (by omega)
  exact (rd_wr_same ..).trans (Nat.mod_eq_of_lt hfits)

end Lane

/-! ### The close of the window -/

/-- `K` is `L` after the close of its window: the frame is closed, and the messages heard in time are recorded (R231). -/
def Lane.Closes (L K : Lane) : Prop :=
  K.on Int.frameOpen = false ∧ K.on Int.viewHave = true ∧ K.rd Int.heardView = L.frameMsgs.onTime % 2 ^ Int.heardView.width ∧ K.mem = L.mem

theorem Lane.closes_of_mem {L J : Lane} (h : J.mem = L.mem) :
    L.Closes (((J.wr Int.heardView L.frameMsgs.onTime).set Int.viewHave).clr Int.frameOpen) := by
  refine ⟨(on_wr_same ..).trans rfl, ?_, ?_, h⟩
  · rw [clr_eq, on_wr_ne _ _ _ _ (by decide), set_eq, on_wr_same]
    rfl
  · rw [clr_eq, rd_wr_ne _ _ _ _ (by decide), set_eq, rd_wr_ne _ _ _ _ (by decide), rd_wr_same]

theorem windowClose_closes {s : State} {l : LaneId} (irms : List ℕ) (hrun : (s.lane l).framesRun = true)
    (hopen : (s.lane l).on Int.frameOpen = true) :
    ∃ K, exec (.windowClose l irms) s = .next (s.onLane l fun _ => K) ∧ (s.lane l).Closes K := by
  refine completes_of_exec rfl ?_
  generalize s.lane l = L at hrun hopen
  rw [if_neg (by simp [hrun, hopen])]
  extract_lets ms onTime K₀ split K₁ K₂ present K₃ K₄ K₅ K₆ K₇ own K₈ K₉ K₁₀ K₁₁
  have h₂ : K₂.MemIs L.mem := .foldl (fun _ _ hJ => .countIn hJ) (.iff (fun _ hJ => Lane.MemIs.ram.raise (.wr hJ))
    (.foldl (fun _ _ hJ => .wr hJ) (rfl : L.MemIs L.mem)))
  clear_value K₂
  have h₅ : K₅.MemIs L.mem :=
    .slowExit (.foldl (fun _ _ hJ => .countLate hJ) (.forN (fun _ _ _ hJ => .ite (.wr hJ) (.wr hJ)) (.wr (.wr h₂))))
  clear_value K₅
  have h₆ : K₆.MemIs L.mem := by
    refine .foldl (fun _ _ hJ => ?_) h₅
    split
    · exact .wr hJ
    · exact hJ
  clear_value K₆
  have h₉ : K₉.MemIs L.mem :=
    .foldl (fun _ _ hJ => .countBand hJ) (.forN (fun _ _ _ hJ => .agree hJ) (.forN (fun _ _ _ hJ => .thermal hJ) h₆))
  clear_value K₉
  have h₁₀ : K₁₀.MemIs L.mem := .sealFrame (.standstillNow (.envelopes (.sendChannels h₉)))
  clear_value K₁₀
  have h₁₁ : K₁₁.MemIs L.mem := .closeLease (.decideMode h₁₀)
  exact Lane.closes_of_mem h₁₁

/-! ### The decision of a frame -/

theorem firstDecision_none {ds : List Decision} (h : firstDecision ds = none) : ds = [] := by
  cases ds with
  | nil => rfl
  | cons d r =>
    rw [firstDecision] at h
    split at h
    · cases h
    · split_ifs at h

theorem firstDecision_lowest {ds : List Decision} {d : Decision} (h : firstDecision ds = some d) : d ∈ ds ∧ ∀ e ∈ ds, d.rank ≤ e.rank := by
  induction ds generalizing d with
  | nil => cases h
  | cons x r ih =>
    rw [firstDecision] at h
    split at h
    next hnone =>
      obtain rfl := firstDecision_none hnone
      cases h
      simp
    next y hy =>
      obtain ⟨hmem, hlow⟩ := ih hy
      split_ifs at h with hle
      · cases h
        exact ⟨List.mem_cons_self, List.forall_mem_cons.2 ⟨le_rfl, fun e he => hle.trans (hlow e he)⟩⟩
      · cases h
        exact ⟨List.mem_cons_of_mem _ hmem, List.forall_mem_cons.2 ⟨(not_le.1 hle).le, hlow⟩⟩

/-- Settles O36: the receipt by `Lane.takeFrameMsg_open` and `Lane.takeFrameMsg_closed`, the close by `windowClose_closes`, the decision by
`firstDecision_lowest`. -/
theorem frameReceiptAndWindowClose : Obligations.FrameReceiptAndWindowClose := by
  unfold Obligations.FrameReceiptAndWindowClose
  refine ⟨?_, fun _ _ _ => Lane.frameDelay_rd, fun _ _ _ => Lane.takeFrameMsg_open, ?_, ?_, ?_, ?_, fun _ _ => firstDecision_lowest⟩
  · rintro s l src _ m r hne hl hsrc rfl hqueue
    rw [execFrameMessageReceipt_eq, recvFelt_head (pick := FeltMsg.frame?) hne hl hsrc hqueue rfl]
  · intro L n m hclosed
    rw [Lane.takeFrameMsg_closed hclosed]
    exact ⟨rfl, Lane.rd_wr_same .., Lane.onlyFields_wr (Lane.onlyFields_refl _ _) _ _ List.mem_cons_self⟩
  · intro s l src hnone
    rw [execFrameMessageReceipt_eq, recvFelt_none (takeFirst_frame_none hnone)]
  · rintro s l irms _ rfl hrun hopen
    exact windowClose_closes irms hrun hopen
  · intro s l irms hidle
    exact congrArg Host.Outcome.next (onLane_congr s l (if_pos (by simpa using hidle)))

end Sys2Proof.Machine
end

-- ==== What a report of the field die leaves ====
section
/-! An occurrence of a field source writes its CUM and the fields that forcing the gates may reach (R292, R296); every other field and both
memories stay. -/

namespace Sys2Proof.Machine

/-- No field of `gs` is stored under the key of one of `fs`. -/
abbrev Fld.Apart (gs fs : List Fld) : Prop := ∀ g ∈ gs, g.key ∉ fs.map Fld.key

/-- `K` has both memories of `O` and reads as `O` in the fields `fs`. -/
structure Lane.Holds (fs : List Fld) (O K : Lane) : Prop where
  mem : K.mem = O.mem
  nor : K.nor = O.nor
  rd : ∀ f ∈ fs, K.rd f = O.rd f

/-- The fields of no unit that a report of the field die may write: the lane state at E5 and what it raises in the host die (R25, R42, R454), the
Couch and the backlog (R302, R306), the STO (R274). -/
def reportSingles : List Fld :=
  [Int.e5, CFG_MODE_STATUS.LANE_STATE, CFG_LANE_STATES.STATE_A, CFG_LANE_STATES.STATE_B, CFG_LANE_STATES.STATE_C, CFG_READY.READY,
    CFG_READY.PULL, COU_STATUS.LINE, MBX_STATUS.UPD_STATE, MBX_STATUS.UPD_CODE, MBX_CNT.UPD_FAIL, MBX_CNT.DROPPED, PSC_STATUS.CORE,
    PSC_STATUS.LEVEL_NOW, PSC_STATUS.DOZED, Int.wakePend, Int.fieldCredits, Int.fieldOut, FBG_STATUS.BACKLOG, FBG_STATUS.UNDELIV,
    FBG_STATUS.STOP_SENT, Int.fieldStop, STO_CNT.STO_REQS, STO_STATUS.EN_N, Int.stoTestDue]

/-- What a report of the field die may write besides the CUM of its source: these, the pending events, what the lane knows of the others, and
the overrides with the STO of both clusters (R42, R156, R274). -/
def reportFields : List Fld :=
  reportSingles ++ (List.range 4).map Int.events ++ (List.range 3).map Int.known ++ (List.range 2).map Int.stoRelAt ++
  (List.range 12).flatMap (fun g => [PWM_GROUP_STATUS.OVERRIDE g, Int.holdOff g]) ++
  (List.range 52).map PWM_OUT_CNT.CARRY ++
  (List.range 24).flatMap (fun p => [Int.ascPend p, Int.dtBefore p]) ++
  (List.range 8).flatMap (fun n => [Int.offAt n, Int.stopping n, Int.stoGroup n, CLE_AX_FOX_STATUS.SAFE_PATTERN n])

theorem reportSingles_subset : reportSingles ⊆ reportFields := fun f hf => by
  simp only [reportFields, List.mem_append]
  tauto

/-- The fields of the units that a report may write, and where the fields of a report are stored. -/
theorem reportFields_units :
    (∀ p < 4, Int.events p ∈ reportFields) ∧ (∀ n < 3, Int.known n ∈ reportFields) ∧
    (∀ g < 12, PWM_GROUP_STATUS.OVERRIDE g ∈ reportFields ∧ Int.holdOff g ∈ reportFields ∧
      (∀ k ∈ outsOf g, PWM_OUT_CNT.CARRY k ∈ reportFields) ∧ ∀ p ∈ pairsOf g, Int.ascPend p ∈ reportFields ∧ Int.dtBefore p ∈ reportFields) ∧
    (∀ c < 2, Int.stoRelAt c ∈ reportFields ∧ ∀ n ∈ axesOf c, n < 8) ∧
    (∀ n < 8, Int.offAt n ∈ reportFields ∧ Int.stopping n ∈ reportFields ∧ Int.stoGroup n ∈ reportFields ∧
      CLE_AX_FOX_STATUS.SAFE_PATTERN n ∈ reportFields) ∧
    ∀ g ∈ reportFields, g.key < 5 * 2 ^ 48 + 0xf0000030 * 32 ∨ 5 * 2 ^ 48 + 0xf0000430 * 32 ≤ g.key := by
  refine ⟨?_, ?_, ?_, ?_, ?_, ?_⟩
  · decide +kernel
  · decide +kernel
  · decide +kernel
  · decide +kernel
  · decide +kernel
  · decide +kernel

namespace Lane.Holds

variable {fs gs : List Fld} {O L K : Lane}

theorem refl (L : Lane) : L.Holds fs L := ⟨rfl, rfl, fun _ _ => rfl⟩

theorem trans (h : O.Holds fs L) (h' : L.Holds fs K) : O.Holds fs K :=
  ⟨h'.mem.trans h.mem, h'.nor.trans h.nor, fun f hf => (h'.rd f hf).trans (h.rd f hf)⟩

theorem on (h : O.Holds fs L) {f : Fld} (hf : f ∈ fs) : L.on f = O.on f := by
  rw [Lane.on_eq_rd, h.rd f hf, ← Lane.on_eq_rd]

/-- A write to a field that is none of them. -/
theorem wr {f : Fld} {v : ℕ} (hf : f.key ∉ fs.map Fld.key) (h : O.Holds fs L) : O.Holds fs (L.wr f v) :=
  ⟨h.mem, h.nor, fun g hg => (L.rd_wr_ne f g v fun e => hf (e ▸ List.mem_map_of_mem hg)).trans (h.rd g hg)⟩

/-- A lane whose other parts changed. -/
theorem update (h : O.Holds fs L) (hregs : K.regs = L.regs) (hmem : K.mem = L.mem) (hnor : K.nor = L.nor) : O.Holds fs K :=
  ⟨hmem.trans h.mem, hnor.trans h.nor, fun f hf => (congrArg (fun r : Store => r.rd f) hregs).trans (h.rd f hf)⟩

theorem ite {c : Prop} [Decidable c] (hL : O.Holds fs L) (hK : O.Holds fs K) : O.Holds fs (if c then L else K) := ite_keeps _ hL hK

theorem iff {b : Bool} {g : Lane → Lane} (hg : ∀ K, O.Holds fs K → O.Holds fs (g K)) (h : O.Holds fs L) : O.Holds fs (L.iff b g) :=
  iff_keeps _ hg h

theorem foldl {α : Type} {g : Lane → α → Lane} {xs : List α} (hg : ∀ x ∈ xs, ∀ K, O.Holds fs K → O.Holds fs (g K x)) (h : O.Holds fs L) :
    O.Holds fs (xs.foldl g L) := foldl_mem_keeps _ hg h

theorem forN {n : ℕ} {g : ℕ → Lane → Lane} (hg : ∀ i < n, ∀ K, O.Holds fs K → O.Holds fs (g i K)) (h : O.Holds fs L) :
    O.Holds fs (L.forN n g) := forN_keeps _ hg h

theorem raise {src : ℕ} (h : O.Holds fs L) : O.Holds fs (L.raise src) := .update h rfl rfl rfl

/-- Fields cleared one after the other. -/
theorem clears (hgs : Fld.Apart gs fs) (h : O.Holds fs L) : O.Holds fs (gs.foldl (fun J f => J.clr f) L) :=
  .foldl (fun f hf _ hJ => .wr (hgs f hf) hJ) h

section
variable (hfs : Fld.Apart reportFields fs)
include hfs

theorem single {f : Fld} {v : ℕ} (hf : f ∈ reportSingles) (h : O.Holds fs L) : O.Holds fs (L.wr f v) :=
  .wr (hfs f (reportSingles_subset hf)) h

/-! The host die -/

theorem wakePair {p : ℕ} (h : O.Holds fs L) : O.Holds fs (L.wakePair p) :=
  .ite h (.iff (fun _ hJ => .single hfs (by simp [reportSingles]) (.single hfs (by simp [reportSingles]) hJ))
    (.iff (fun _ hK => .single hfs (by simp [reportSingles]) hK) (.single hfs (by simp [reportSingles]) h)))

theorem eventTo {p ev : ℕ} (hp : p < 4) (h : O.Holds fs L) : O.Holds fs (L.eventTo p ev) :=
  .ite h (.iff (fun _ hK => .wakePair hfs hK) (.wr (hfs _ (reportFields_units.1 p hp)) h))

theorem event {ev : ℕ} (h : O.Holds fs L) : O.Holds fs (L.event ev) := .forN (fun _ hp _ hK => .eventTo hfs hp hK) h

theorem sendMbx {m : MbxUp} (h : O.Holds fs L) : O.Holds fs (L.sendMbx m) :=
  .ite (.update h rfl rfl rfl) (.single hfs (by simp [reportSingles]) h)

theorem updateFails {code : Option ℕ} (h : O.Holds fs L) : O.Holds fs (L.updateFails code) := by
  unfold Lane.updateFails
  refine .ite h ?_
  extract_lets K₀ K₁ K₂
  have h₁ : O.Holds fs K₁ := .raise (.event hfs (.single hfs (by simp [reportSingles])
    (.single hfs (by simp [reportSingles]) (.update h rfl rfl rfl))))
  clear_value K₁
  cases code with
  | none => exact .ite h₁ (.sendMbx hfs (.update h₁ rfl rfl rfl))
  | some c =>
    have hcode : O.Holds fs (K₁.wr MBX_STATUS.UPD_CODE c) := .single hfs (by simp [reportSingles]) h₁
    exact .ite hcode (.sendMbx hfs hcode)

theorem setState {st : ℕ} (h : O.Holds fs L) : O.Holds fs (L.setState st) := by
  have hcopy : laneStateOf L.me ∈ reportSingles := ite_keeps (fun f : Fld => f ∈ reportSingles) (by simp [reportSingles])
    (ite_keeps (fun f : Fld => f ∈ reportSingles) (by simp [reportSingles]) (by simp [reportSingles]))
  obtain ⟨-, hknown, -⟩ := reportFields_units
  unfold Lane.setState
  exact .iff (fun _ hJ => .updateFails hfs hJ) (.single hfs (by simp [reportSingles]) (.single hfs (by simp [reportSingles])
    (.single hfs (by simp [reportSingles]) (.wr (hfs _ (hknown L.me L.me_lt)) (.single hfs hcopy (.single hfs (by simp [reportSingles]) h))))))

theorem checkE5 (h : O.Holds fs L) : O.Holds fs L.checkE5 := .ite (.setState hfs (.single hfs (by simp [reportSingles]) h)) h

/-! The Couch -/

theorem toHost {i : UpItem} (h : O.Holds fs L) : O.Holds fs (L.toHost i) :=
  .ite (.single hfs (by simp [reportSingles]) (.single hfs (by simp [reportSingles]) (.update h rfl rfl rfl))) h

theorem sendFault {m : FieldMsg} (h : O.Holds fs L) : O.Holds fs (L.sendFault m) := .ite (.update h rfl rfl rfl) (.toHost hfs h)

theorem syncBacklog (h : O.Holds fs L) : O.Holds fs L.syncBacklog :=
  .single hfs (by simp [reportSingles]) (.single hfs (by simp [reportSingles]) h)

/-! Overrides and STO -/

theorem markOff {g : ℕ} (h : O.Holds fs L) : O.Holds fs (L.markOff g) := by
  obtain ⟨-, -, -, -, haxes, -⟩ := reportFields_units
  unfold Lane.markOff
  split_ifs with hg
  · exact .wr (hfs _ (haxes g hg).1) h
  · exact h

theorem syncOverride {g : ℕ} (hg : g < 12) (h : O.Holds fs L) : O.Holds fs (L.syncOverride g) := by
  obtain ⟨-, -, hgroups, -⟩ := reportFields_units
  obtain ⟨hkind, hhold, houts, hpairs⟩ := hgroups g hg
  unfold Lane.syncOverride
  extract_lets old new K₀ K₁
  have h₀ : O.Holds fs K₀ := .wr (hfs _ hkind) h
  have h₁ : O.Holds fs K₁ := .ite (.wr (hfs _ hhold) h₀) (.markOff hfs (.foldl (fun k hk _ hJ => .wr (hfs _ (houts k hk)) hJ) h₀))
  exact .ite h (.foldl (fun p hp _ hJ => .wr (hfs _ (hpairs p hp).2) (.wr (hfs _ (hpairs p hp).1) hJ)) h₁)

theorem syncOverrides (h : O.Holds fs L) : O.Holds fs L.syncOverrides := .forN (fun _ hg _ hK => .syncOverride hfs hg hK) h

theorem requestSto {c : ℕ} (hc : c < 2) (h : O.Holds fs L) : O.Holds fs (L.requestSto c) := by
  obtain ⟨-, -, -, hclusters, haxes, -⟩ := reportFields_units
  obtain ⟨hrel, hlts⟩ := hclusters c hc
  refine .foldl (fun n hn K hK => ?_) (.single hfs (by simp [reportSingles]) (.wr (hfs _ hrel) (.single hfs (by simp [reportSingles])
    (.single hfs (by simp [reportSingles]) h))))
  obtain ⟨-, hstopping, hgroup, hpattern⟩ := haxes n (hlts n hn)
  have hoff : O.Holds fs (((K.set (Int.stoGroup n)).markOff n).clr (Int.stopping n)) :=
    .wr (hfs _ hstopping) (.markOff hfs (.wr (hfs _ hgroup) hK))
  exact .ite (.syncOverride hfs (by have := hlts n hn; omega) (.wr (hfs _ hpattern) hoff)) hoff

theorem checkCluster {c : ℕ} (hc : c < 2) (h : O.Holds fs L) : O.Holds fs (L.checkCluster c) :=
  .ite (.checkE5 hfs (.requestSto hfs hc h)) (.checkE5 hfs h)

theorem settleStopping (h : O.Holds fs L) : O.Holds fs L.settleStopping := by
  obtain ⟨-, -, -, -, haxes, -⟩ := reportFields_units
  refine .forN (fun n hn _ hK => ?_) h
  obtain ⟨-, hstopping, -⟩ := haxes n hn
  exact .iff (fun _ hJ => .checkCluster hfs (by omega) (.wr (hfs _ hstopping) hJ)) hK

/-! The report -/

/-- What follows the count of an occurrence: its message, and the forcing of the gates by an S4 source. -/
theorem report {src : ℕ} {m : FieldMsg} (h : O.Holds fs L) : O.Holds fs (if K.rd (FBG_SEV.SEV src) = 4 then
    ((((L.sendFault m).syncBacklog.set FBG_STATUS.STOP_SENT).set Int.fieldStop).syncOverrides).settleStopping
    else (L.sendFault m).syncBacklog) := by
  have hsent : O.Holds fs (L.sendFault m).syncBacklog := .syncBacklog hfs (.sendFault hfs h)
  exact .ite (.settleStopping hfs (.syncOverrides hfs (.single hfs (by simp [reportSingles]) (.single hfs (by simp [reportSingles]) hsent))))
    hsent

theorem fieldRaise {src : ℕ} (hcum : (Int.cum src).key ∉ fs.map Fld.key) (h : O.Holds fs L) : O.Holds fs (L.fieldRaise src) :=
  .report hfs (L := { L.wr (Int.cum src) (L.rd (Int.cum src) + 1) with occurrences := _ }) (.update (.wr hcum h) rfl rfl rfl)

end

end Lane.Holds

/-- No count of an occurrence is among them. -/
theorem cum_notMem_reportFields {src : ℕ} (hsrc : src < 256) : Fld.Apart reportFields [Int.cum src] := by
  obtain ⟨-, -, -, -, -, hout⟩ := reportFields_units
  have hkey : (Int.cum src).key = 5 * 2 ^ 48 + (0xf0000030 + 4 * src) * 32 := by
    simp only [Fld.key, Int.cum, Home.code]
    omega
  intro g hg
  have := hout g hg
  rw [List.map_singleton, List.mem_singleton, hkey]
  omega

/-- An occurrence raises the CUM of its source by one modulo 2^16 (R292). -/
theorem Lane.fieldRaise_cum (L : Lane) {src : ℕ} (hsrc : src < 256) :
    (L.fieldRaise src).rd (Int.cum src) = (L.rd (Int.cum src) + 1) % 2 ^ 16 := by
  have hreport : (L.wr (Int.cum src) (L.rd (Int.cum src) + 1)).Holds [Int.cum src] (L.fieldRaise src) :=
    .report (cum_notMem_reportFields hsrc) (L := { L.wr (Int.cum src) (L.rd (Int.cum src) + 1) with occurrences := _ })
      (.update (.refl _) rfl rfl rfl)
  exact (hreport.rd _ List.mem_cons_self).trans (L.rd_wr_same _ _)

end Sys2Proof.Machine
end

-- ==== Bank swaps, coefficients and maps ====
section
/-! The commands that write the coefficients and maps of an axis (R74 to R79). -/

namespace Sys2Proof.Machine

namespace Lane

variable {L : Lane} {n b : ℕ}

theorem requestBank_of_running (h : L.on (CLE_AX_STATUS.RUNNING n) = true) :
    L.requestBank n b = (L.wr (CLE_AX_BANK.PENDING n) 1).wr (Int.bankTarget n) b := if_pos h

theorem requestBank_of_stopped (h : L.on (CLE_AX_STATUS.RUNNING n) = false) : L.requestBank n b = L.swapBank n b :=
  if_neg (by simp [h])

theorem bankFields_distinct (n : ℕ) :
    (CLE_AX_BANK.BANK_ACTIVE n).key ≠ (CLE_AX_BANK.PENDING n).key ∧ (CLE_AX_BANK.PENDING n).key ≠ (CLE_AX_BANK.SWAPPED n).key ∧
      (CLE_AX_BANK.BANK_ACTIVE n).key ≠ (CLE_AX_BANK.SWAPPED n).key ∧ (CLE_AX_BANK.PENDING n).key ≠ (CLE_AX_BANK.SWAP_COUNT n).key ∧
      (CLE_AX_BANK.BANK_ACTIVE n).key ≠ (CLE_AX_BANK.SWAP_COUNT n).key ∧ (CLE_AX_BANK.SWAPPED n).key ≠ (CLE_AX_BANK.SWAP_COUNT n).key := by
  simp only [Fld.key, CLE_AX_BANK.BANK_ACTIVE, CLE_AX_BANK.PENDING, CLE_AX_BANK.SWAPPED, CLE_AX_BANK.SWAP_COUNT]
  omega

theorem swapBank_of_active (h : L.rd (CLE_AX_BANK.BANK_ACTIVE n) = b) : L.swapBank n b = L.wr (CLE_AX_BANK.PENDING n) 0 :=
  if_pos ((L.rd_wr_ne _ _ _ (bankFields_distinct n).1).trans h)

theorem swapBank_of_inactive (h : L.rd (CLE_AX_BANK.BANK_ACTIVE n) ≠ b) :
    L.swapBank n b = (((L.wr (CLE_AX_BANK.PENDING n) 0).wr (CLE_AX_BANK.BANK_ACTIVE n) b).set (CLE_AX_BANK.SWAPPED n)).inc (CLE_AX_BANK.SWAP_COUNT n) :=
  if_neg fun e => h ((L.rd_wr_ne _ _ _ (bankFields_distinct n).1).symm.trans e)

/-- What a swap to the other bank shows and leaves (R78). -/
theorem swapBank_shows (hb : b < 2) (h : L.rd (CLE_AX_BANK.BANK_ACTIVE n) ≠ b) :
    (L.swapBank n b).rd (CLE_AX_BANK.BANK_ACTIVE n) = b ∧ (L.swapBank n b).on (CLE_AX_BANK.SWAPPED n) = true ∧
      (L.swapBank n b).on (CLE_AX_BANK.PENDING n) = false ∧
      L.onlyFields (L.swapBank n b) [CLE_AX_BANK.PENDING n, CLE_AX_BANK.BANK_ACTIVE n, CLE_AX_BANK.SWAPPED n, CLE_AX_BANK.SWAP_COUNT n] := by
  obtain ⟨hap, hps, has, hpc, hac, hsc⟩ := bankFields_distinct n
  rw [swapBank_of_inactive h, inc_eq, set_eq]
  refine ⟨?_, ?_, ?_, onlyFields_wr (onlyFields_wr (onlyFields_wr (onlyFields_wr (L.onlyFields_refl _) _ _ (by simp)) _ _ (by simp)) _ _
    (by simp)) _ _ (by simp)⟩
  · rw [rd_wr_ne _ _ _ _ hac, rd_wr_ne _ _ _ _ has, rd_wr_same]
    exact Nat.mod_eq_of_lt hb
  · rw [on_wr_ne _ _ _ _ hsc, on_wr_same]
    rfl
  · rw [on_wr_ne _ _ _ _ hpc, on_wr_ne _ _ _ _ hps, on_wr_ne _ _ _ _ hap.symm, on_wr_same]
    rfl

theorem writeCoef_active (k v : ℕ) (h : L.rd (CLE_AX_BANK.BANK_ACTIVE n) = b) : L.writeCoef n b k v = L.inc CLE_GLB_CNT.BANK_WR_REFUSED :=
  if_pos h

theorem writeCoef_inactive {k v w : ℕ} (h : L.rd (CLE_AX_BANK.BANK_ACTIVE n) ≠ b) (hw : clampCoef k (v % 2 ^ 32) = some w) :
    L.writeCoef n b k v = L.wr (CLE_COEF.K n b k) w := by
  rw [writeCoef, if_neg h, trunc, hw]

theorem writeCoef_reserved {k v : ℕ} (h : L.rd (CLE_AX_BANK.BANK_ACTIVE n) ≠ b) (hw : clampCoef k (v % 2 ^ 32) = none) :
    L.writeCoef n b k v = L := by
  rw [writeCoef, if_neg h, trunc, hw]

theorem writeMap_enabled (q e : ℕ) (upper : Bool) (v : ℕ) (h : L.on (CLE_AX_CTL.ENABLE n) = true) :
    L.writeMap n q e upper v = L.inc CLE_GLB_CNT.MAP_WR_REFUSED := if_pos h

theorem writeMap_psi (q e v : ℕ) (h : L.on (CLE_AX_CTL.ENABLE n) = false) : L.writeMap n q e false v = L.wr (CLE_MAP.PSI n q e) v :=
  if_neg (by simp [h])

theorem writeMap_lInc (q e v : ℕ) (h : L.on (CLE_AX_CTL.ENABLE n) = false) :
    L.writeMap n q e true v = L.wr (CLE_MAP.L_INC n q e) (if toInt 32 v < 0 then 0 else v) := if_neg (by simp [h])

/-- A write of one field, as it reads and what else it leaves. -/
theorem wr_shows (L : Lane) (f : Fld) (v : ℕ) : (L.wr f v).rd f = v % 2 ^ f.width ∧ L.onlyFields (L.wr f v) [f] :=
  ⟨L.rd_wr_same f v, onlyFields_wr (L.onlyFields_refl _) f v List.mem_cons_self⟩

/-- A counter raised by one stops at its largest value, and every other field stays. -/
theorem inc_shows (L : Lane) (f : Fld) : (L.inc f).rd f = min (L.rd f + 1) (2 ^ f.width - 1) ∧ L.onlyFields (L.inc f) [f] := by
  have hfits : min (L.rd f + 1) (2 ^ f.width - 1) < 2 ^ f.width := (min_le_right ..).trans_lt (Nat.sub_one_lt (by positivity))
  exact ⟨(L.rd_wr_same f _).trans (Nat.mod_eq_of_lt hfits), (L.wr_shows f _).2⟩

end Lane

/-- Settles O12: a request by `Lane.swapBank_shows` where the axis does not run, a write by what `Lane.writeCoef` and `Lane.writeMap` do in
each case. -/
theorem bankSwapCoefficientAndMapWrites : Obligations.BankSwapCoefficientAndMapWrites := by
  unfold Obligations.BankSwapCoefficientAndMapWrites
  refine ⟨?running, ?swap, ?active, ?coef, ?reserved, ?refused, ?map, ?enabled⟩
  case running =>
    rintro s l ax b _ rfl hrun
    refine completes_of_exec rfl ?_
    have apart := (by decide : ∀ n : Fin 8, (CLE_AX_BANK.PENDING n).key ≠ (Int.bankTarget n).key) ax
    rw [Lane.requestBank_of_running hrun]
    refine ⟨?_, ?_, Lane.onlyFields_wr (Lane.onlyFields_wr (Lane.onlyFields_refl _ _) _ _ (by simp)) _ _ (by simp)⟩
    · rw [Lane.on_wr_ne _ _ _ _ apart, Lane.on_wr_same]
      rfl
    · rw [Lane.rd_wr_same]
      exact Nat.mod_eq_of_lt b.isLt
  case swap =>
    rintro s l ax b _ rfl hstop hother
    refine completes_of_exec rfl ?_
    rw [Lane.requestBank_of_stopped hstop]
    exact Lane.swapBank_shows b.isLt hother
  case active =>
    rintro s l ax b _ rfl hstop hsame
    refine completes_of_exec rfl ?_
    rw [Lane.requestBank_of_stopped hstop, Lane.swapBank_of_active hsame]
    obtain ⟨-, hrest⟩ := (s.lane l).wr_shows (CLE_AX_BANK.PENDING ax) 0
    exact ⟨(Lane.on_wr_same ..).trans rfl, hrest⟩
  case coef =>
    rintro s l ax b k v w _ rfl hother hw
    refine completes_of_exec rfl ?_
    rw [Lane.writeCoef_inactive hother hw]
    exact Lane.wr_shows _ _ _
  case reserved =>
    intro s l ax b k v hother hw
    exact congrArg Host.Outcome.next (onLane_congr s l (Lane.writeCoef_reserved hother hw))
  case refused =>
    rintro s l ax b k v _ rfl hsame
    refine completes_of_exec rfl ?_
    rw [Lane.writeCoef_active k v hsame]
    exact Lane.inc_shows _ _
  case map =>
    rintro s l ax q i j upper v _ rfl hoff
    refine completes_of_exec rfl ⟨?_, ?_⟩
    · rintro rfl
      rw [Lane.writeMap_psi q _ v hoff]
      exact Lane.wr_shows _ _ _
    · rintro rfl
      rw [Lane.writeMap_lInc q _ v hoff]
      obtain ⟨hrd, hrest⟩ := (s.lane l).wr_shows (CLE_MAP.L_INC ax q (32 * j + i)) (if toInt 32 v < 0 then 0 else v)
      refine ⟨hrd.trans ?_, hrest⟩
      split_ifs <;> rfl
  case enabled =>
    rintro s l ax q i j upper v _ rfl hon
    refine completes_of_exec rfl ?_
    rw [Lane.writeMap_enabled q _ upper v hon]
    exact Lane.inc_shows _ _

end Sys2Proof.Machine
end

-- ==== What the entry to the safe state leaves ====
section
/-! The entry of an axis to its safe state writes the fields of its axis and those that a report may write (R107, R121, R122). -/

namespace Sys2Proof.Machine

/-- The loops, set-points and outputs of an axis that the end of running clears, but for CARRY (R87, R124). -/
def loopFields (n : ℕ) : List Fld :=
  [Int.accD n, Int.accQ n, Int.accW n, Int.limD n, Int.limQ n, Int.limIq n, Int.fw n, Int.spdCnt n, Int.posCnt n, Int.spAcc n, Int.spHave n,
    Int.magM n, Int.mAl n, Int.mBe n, Int.idRef n, Int.iqRef n, Int.tCmd n, CLE_AX_VAL.A_REF n, CLE_AX_STATUS.RAMP_ACTIVE n,
    CLE_AX_STATUS.SP_LOST n]

/-- The fields of a bank swap (R78). -/
def bankFields (n : ℕ) : List Fld :=
  [CLE_AX_BANK.PENDING n, CLE_AX_BANK.BANK_ACTIVE n, CLE_AX_BANK.SWAPPED n, CLE_AX_BANK.SWAP_COUNT n]

/-- What the entry of an axis to its safe state writes besides what a report may write. -/
def safeFields (n : ℕ) : List Fld :=
  [Int.lastSpeed n, CLE_AX_FOX_STATUS.STATE n, CLE_AX_STATUS.RUNNING n, CLE_AX_FOX_STATUS.LOCKED n, CLE_AX_FOX_STATUS.ANGLE_SRC n,
    CLE_AX_FOX_STATUS.FW_ACTIVE n, CLE_AX_FOX_STATUS.FW_LIMIT n, DCL_AXIS_STATUS.LOSS_INJ, Int.srPulse n, Int.isoOut n, Int.isoWait n,
    Int.safeDone n, CLE_AX_STATUS.HELD n, Int.acqHave n] ++ loopFields n ++ bankFields n

namespace Lane.Holds

variable {fs : List Fld} {O L : Lane} {n : ℕ}

theorem swapBank {b : ℕ} (hbank : Fld.Apart (bankFields n) fs) (h : O.Holds fs L) : O.Holds fs (L.swapBank n b) := by
  have hpending := hbank (CLE_AX_BANK.PENDING n) (by simp [bankFields])
  exact .ite (.wr hpending h) (.wr (hbank (CLE_AX_BANK.SWAP_COUNT n) (by simp [bankFields])) (.wr (hbank (CLE_AX_BANK.SWAPPED n)
    (by simp [bankFields])) (.wr (hbank (CLE_AX_BANK.BANK_ACTIVE n) (by simp [bankFields])) (.wr hpending h))))

theorem settleBank (hbank : Fld.Apart (bankFields n) fs) (h : O.Holds fs L) : O.Holds fs (L.settleBank n) := .ite (.swapBank hbank h) h

section
variable (hn : n < 8) (hfs : Fld.Apart reportFields fs) (hsafe : Fld.Apart (safeFields n) fs)

include hsafe in
theorem keepSpeed (h : O.Holds fs L) : O.Holds fs (L.keepSpeed n) := by
  have hspeed := hsafe (Int.lastSpeed n) (by simp [safeFields])
  unfold Lane.keepSpeed
  split
  · exact .wr hspeed h
  · exact .wr hspeed h
  · exact h

include hn hfs hsafe

theorem clearLoops (h : O.Holds fs L) : O.Holds fs (L.clearLoops n) := by
  obtain ⟨-, -, hgroups, -⟩ := reportFields_units
  obtain ⟨-, -, hcarry, -⟩ := hgroups n (by omega)
  have hloops : Fld.Apart (loopFields n) fs := fun g hg => hsafe g (by simp [safeFields, hg])
  exact .foldl (fun k hk _ hJ => .wr (hfs _ (hcarry k hk)) hJ) (.clears hloops h)

theorem endRun (h : O.Holds fs L) : O.Holds fs (L.endRun n) := by
  have listed : ∀ g ∈ [CLE_AX_STATUS.RUNNING n, CLE_AX_FOX_STATUS.LOCKED n, CLE_AX_FOX_STATUS.ANGLE_SRC n, CLE_AX_FOX_STATUS.FW_ACTIVE n,
      CLE_AX_FOX_STATUS.FW_LIMIT n, DCL_AXIS_STATUS.LOSS_INJ, Int.srPulse n], g.key ∉ fs.map Fld.key :=
    fun g hg => hsafe g (by simp only [safeFields, List.mem_append]; exact .inl (.inl (by revert hg; simp; tauto)))
  simp only [List.forall_mem_cons] at listed
  obtain ⟨hrun, hlocked, hsrc, hactive, hlimit, hinj, hpulse, -⟩ := listed
  exact .settleBank (fun g hg => hsafe g (by simp [safeFields, hg])) (.clearLoops hn hfs hsafe (.wr hpulse (.wr hinj (.wr hlimit
    (.wr hactive (.wr hsrc (.wr hlocked (.wr hrun h))))))))

theorem enterSafe {cause : ℕ} (h : O.Holds fs L) : O.Holds fs (L.enterSafe n cause) := by
  obtain ⟨-, -, -, -, haxes, -⟩ := reportFields_units
  obtain ⟨-, hstopping, -, hpattern⟩ := haxes n hn
  have listed : ∀ g ∈ [CLE_AX_FOX_STATUS.STATE n, Int.isoOut n, Int.isoWait n, Int.safeDone n, CLE_AX_STATUS.HELD n, Int.acqHave n],
      g.key ∉ fs.map Fld.key :=
    fun g hg => hsafe g (by simp only [safeFields, List.mem_append]; exact .inl (.inl (by revert hg; simp; tauto)))
  simp only [List.forall_mem_cons] at listed
  obtain ⟨hstate, hout, hwait, hdone, hheld, hacq, -⟩ := listed
  unfold Lane.enterSafe
  extract_lets asc K₀ K₁ K₂ K₃
  have h₁ : O.Holds fs K₁ := .wr hdone (.wr hwait (.wr hout (.endRun hn hfs hsafe (.wr (hfs _ hpattern) (.wr hstate (.keepSpeed hsafe h))))))
  have h₂ : O.Holds fs K₂ := .wr hacq (.wr hheld (.wr (hfs _ hstopping) h₁))
  exact .ite h (.checkCluster hfs (by omega) (.toHost hfs (.syncOverride hfs (by omega) h₂)))

end

theorem allSafe {cause : ℕ} (hfs : Fld.Apart reportFields fs) (hsafe : ∀ n < 8, Fld.Apart (safeFields n) fs) (h : O.Holds fs L) :
    O.Holds fs (L.allSafe cause) := .forN (fun n hn _ hK => .enterSafe hn hfs (hsafe n hn) hK) h

end Lane.Holds

end Sys2Proof.Machine
end

-- ==== The safe state left by a reset, and one that runs ====
section
/-! A lane exit that resets both dies leaves no axis in its safe state (R423, R436), and a lane that refutes by a running axis in SAFE. -/

namespace Sys2Proof.Machine

namespace Lane

variable {L : Lane}

/-- The abort of an entry whose field regions are OFF resets both dies (R423). -/
theorem abortForExit_resets (h : L.abortResets = true) : ∃ J : Lane, L.abortForExit = J.hostReset.fieldRestart := by
  have hopen := h
  simp only [abortResets, Bool.and_eq_true, decide_eq_true_eq] at hopen
  obtain ⟨⟨hopen, hn3⟩, hask⟩ := hopen
  have hmark : L.KeepsExit (((L.inc PSC_CNT.ABORTED).wr PSC_REFUSE.ABORT_AP L.nextAbortPoint).wr PSC_REFUSE.ABORT_SRC 0) :=
    .wr (by decide) (.wr (by decide) (.wr (by decide) (.refl L)))
  rw [abortForExit, if_pos hopen, abortEntry]
  refine restartStopped_resets ?_ ((hmark Int.pscAsk (by decide)).trans hask)
  rw [on_eq_rd, hmark Int.pscN3 (by decide), ← on_eq_rd, hn3]

/-- An exit that aborts such an entry resets both dies (R423, R436). -/
theorem latchE0_resets (cause : ℕ) (he0 : L.on Int.e0 = false) (hheld : L.on Int.held = false) (h : L.abortResets = true) :
    ∃ J : Lane, L.latchE0 cause = J.hostReset.fieldRestart := by
  unfold latchE0
  rw [if_neg (by simp [he0, hheld])]
  extract_lets K₀ K₁ K₂ K₃
  have h₀ : (L.set Int.e0).KeepsExit K₀ := .wr (by decide) (.refl _)
  have h₁ : (L.set Int.e0).KeepsExit K₁ := .ite (.iff (fun _ hJ => .wr (by decide) hJ) h₀) (.iff (fun _ hJ => .exitRecord hJ) h₀)
  have hexits : (exitsOf K₁.me).key ∉ exitFields.map Fld.key :=
    ite_keeps (fun f : Fld => f.key ∉ _) (by decide) (ite_keeps (fun f : Fld => f.key ∉ _) (by decide) (by decide))
  have hm5 : ∀ p < 4, (Int.m5 p).key ∉ exitFields.map Fld.key := by decide
  have h₃ : (K₁.wr BGR_STATE.STATE 2).KeepsExit ((K₃.wr COU_STATUS.LINE 1).fieldExit cause) :=
    .fieldExit (.wr (by decide) (.forN (fun p hp _ hJ => .wr (hm5 p hp) hJ) (.schedStop (.releaseAtExit (.wr hexits (.refl _))))))
  have entry : ∀ f ∈ [PSC_STATUS.STAGE, Int.pscN3, Int.pscN4, Int.pscAsk], f ∈ exitFields ∧ f.key ≠ BGR_STATE.STATE.key ∧ f.key ≠ Int.e0.key := by
    decide
  refine abortForExit_resets ((abortResets_congr fun f hf => ?_).trans h)
  obtain ⟨hmem, hstate, he0'⟩ := entry f hf
  rw [h₃ f hmem, rd_wr_ne _ _ _ _ hstate, h₁ f hmem, set_eq, rd_wr_ne _ _ _ _ he0']

/-- After a field die reset every axis is IDLE (R361). -/
theorem fieldRestart_state (L : Lane) : L.fieldRestart.rd (CLE_AX_FOX_STATUS.STATE 0) = 0 := by
  have hports : L.fieldReset.Holds [CLE_AX_FOX_STATUS.STATE 0] L.fieldRestart :=
    .forN (fun k hk _ hK => .wr ((by decide : ∀ k < 3, (FPS_PORT.EPOCH k).key ∉ [CLE_AX_FOX_STATUS.STATE 0].map Fld.key) k hk) hK) (.refl _)
  rw [hports.rd _ List.mem_cons_self, fieldReset, rd_wr_ne _ _ _ _ (by decide)]
  exact Store.rd_resetHome_same _ (by decide)

/-- The lane after its reference of cluster `c` has failed its check, with the axes of the cluster in SAFE (R90). -/
def referenceFails (L : Lane) (c : ℕ) : Lane :=
  (axesOf c).foldl (fun J n => J.enterSafe n 0x8A) ((L.clr (ADC_CL_STATUS.REF_OK c)).fieldRaise 0x8A)

theorem execReferenceCheck_failed (l : LaneId) (c : Fin 2) (s : State) :
    exec (.referenceCheck l c false) s = .next (s.onLane l fun L => if (L.referenceFails c).on (ADC_CL_STATUS.REF_OK (1 - c)) then
      L.referenceFails c else ((L.referenceFails c).allSafe 0x8A).latchE0 0x8A) := by
  change execReferenceCheck l c false s = _
  simp only [execReferenceCheck, referenceFails, Bool.false_eq_true, if_false]
  rfl

/-- What decides whether the loss of a cluster's reference ends in a reset of both dies: the other reference, the exit and the power entry. -/
def referenceFields (c : ℕ) : List Fld :=
  [Int.held, Int.e0, ADC_CL_STATUS.REF_OK (1 - c), PSC_STATUS.STAGE, Int.pscN3, Int.pscN4, Int.pscAsk]

theorem apart_reference : ∀ c < 2, Fld.Apart reportFields (referenceFields c) ∧ ∀ n < 8, Fld.Apart (safeFields n) (referenceFields c) := by
  decide +kernel

theorem referenceFails_holds (L : Lane) {c : ℕ} (hc : c < 2) : L.Holds (referenceFields c) (L.referenceFails c) := by
  obtain ⟨hreport, hsafe⟩ := apart_reference c hc
  have apart : ∀ c < 2, (ADC_CL_STATUS.REF_OK c).key ∉ (referenceFields c).map Fld.key ∧ (Int.cum 0x8A).key ∉ (referenceFields c).map Fld.key ∧
      ∀ n ∈ axesOf c, n < 8 := by decide
  obtain ⟨href, hcum, haxes⟩ := apart c hc
  exact .foldl (fun n hn _ hJ => .enterSafe (haxes n hn) hreport (hsafe n (haxes n hn)) hJ)
    (.fieldRaise hreport hcum (.wr href (.refl L)))

/-- The loss of both references during such an entry ends in a reset of both dies (R90, R423). -/
theorem referenceLost_resets {s : State} {l : LaneId} {c : Fin 2} (he0 : (s.lane l).on Int.e0 = false) (hheld : (s.lane l).on Int.held = false)
    (hother : (s.lane l).on (ADC_CL_STATUS.REF_OK (1 - c)) = false) (h : (s.lane l).abortResets = true) :
    ∃ J : Lane, exec (.referenceCheck l c false) s = .next (s.onLane l fun _ => J.hostReset.fieldRestart) := by
  have hfails := (s.lane l).referenceFails_holds c.isLt
  obtain ⟨hreport, hsafe⟩ := apart_reference c c.isLt
  have hall := hfails.allSafe (cause := 0x8A) hreport hsafe
  have hentry : ∀ f ∈ [PSC_STATUS.STAGE, Int.pscN3, Int.pscN4, Int.pscAsk], f ∈ referenceFields c := by simp [referenceFields]
  obtain ⟨J, hJ⟩ := latchE0_resets 0x8A ((hall.on (by simp [referenceFields])).trans he0) ((hall.on (by simp [referenceFields])).trans hheld)
    ((abortResets_congr fun f hf => hall.rd f (hentry f hf)).trans h)
  have hboth : ((s.lane l).referenceFails c).on (ADC_CL_STATUS.REF_OK (1 - c)) = false := (hfails.on (by simp [referenceFields])).trans hother
  refine ⟨J, (execReferenceCheck_failed l c s).trans (congrArg Host.Outcome.next (onLane_congr s l ?_))⟩
  rw [if_neg (by simp [hboth]), hJ]

end Lane

/-- A command to a fitted lane has one outcome: two lanes it is shown to leave read alike. -/
theorem rd_of_exec_onLane {c : Instr} {s : State} {l : LaneId} {K M : Lane} (hfit : s.variant.fitted l = true)
    (hK : exec c s = .next (s.onLane l fun _ => K)) (hM : exec c s = .next (s.onLane l fun _ => M)) (f : Fld) : K.rd f = M.rd f := by
  have hlane := congrArg (fun t : State => (t.lane l).regs.rd f) (Host.Outcome.next.inj (hK.symm.trans hM))
  rwa [State.lane_onLane_same s l _ hfit, State.lane_onLane_same s l _ hfit] at hlane

/-- Refutes O15: the lane that loses its second reference in an entry to level 3 whose field regions are OFF exits, and the exit aborts the
entry by a reset of both dies (R423, R436), after which its axes are in IDLE, not in SAFE. The statement asks for `Lane.canExit` for the exit
alone. -/
theorem not_adcBackgroundAndReference : ¬ Obligations.AdcBackgroundAndReference := by
  unfold Obligations.AdcBackgroundAndReference
  rintro ⟨-, -, -, hlost⟩
  obtain ⟨K, hK, -, -, hsafe, -⟩ := hlost State.fieldRegionsOff .a 0 _ rfl
  obtain ⟨J, hJ⟩ := Lane.referenceLost_resets (s := State.fieldRegionsOff) (l := .a) (c := 0) (by decide) (by decide) (by decide) (by decide)
  have hidle : K.rd (CLE_AX_FOX_STATUS.STATE 0) = 0 := (rd_of_exec_onLane rfl hK hJ _).trans J.hostReset.fieldRestart_state
  exact absurd (hidle.symm.trans (hsafe 0 (by decide))) (by decide)

/-- The package at reset, but for an axis of lane A that is enabled and runs in SAFE, a state that no command brings about. -/
def State.runsInSafe : State :=
  { State.reset with a := ((State.reset.a.wr (CLE_AX_FOX_STATUS.STATE 0) 6).wr (CLE_AX_STATUS.RUNNING 0) 1).wr (CLE_AX_CTL.ENABLE 0) 1 }

/-- Refutes O14: the statement takes the lane as it is. An axis that is in SAFE stays there as it is when ENABLE is cleared (R107), so one
that has RUNNING set in SAFE keeps it. -/
theorem not_axisEnableAndSettle : ¬ Obligations.AxisEnableAndSettle := by
  unfold Obligations.AxisEnableAndSettle
  rintro ⟨-, hclear, -⟩
  obtain ⟨K, hK, -, -, -, hstopped⟩ := hclear State.runsInSafe .a 0 (by decide)
  have hlane := congrArg (fun L : Lane => L.on (CLE_AX_STATUS.RUNNING 0)) (lane_of_next_onLane (s := State.runsInSafe) rfl hK)
  exact absurd (hlane.trans hstopped) (by decide)

end Sys2Proof.Machine
end

-- ==== What the edges of an axis leave ====
section
/-! The edges of an axis go to the shadows of its outputs and request the commit (R73, R141 to R149, R109). -/

namespace Sys2Proof.Machine

/-- What the edges of axis `n` may write besides what a report may write. -/
def edgeFields (n : ℕ) : List Fld :=
  [CLE_AX_SAT.FLAGS n, PWM_GROUP_CNT.WIN_SHORT n, Int.cum 0x63, Int.cum 0x74, Int.commit n, Int.commitAt n, Int.commitLast n] ++
  (List.range 3).flatMap (fun x => [Int.winDelta n x, Int.axDuty n x]) ++
  (List.range 6).flatMap (fun i => [PWM_OUT_RISE.RISE (6 * n + i), PWM_OUT_FALL.FALL (6 * n + i), Int.wroteRise (6 * n + i),
    Int.wroteFall (6 * n + i)])

namespace Lane.Holds

variable {fs : List Fld} {O L : Lane} {n : ℕ}

section
variable {k v t : ℕ}

theorem wrAt {f : Fld} (hf : f.key ∉ fs.map Fld.key) (h : O.Holds fs L) : O.Holds fs (L.wrAt f v t) := .wr hf (.update h rfl rfl rfl)

theorem putRise (hrise : (PWM_OUT_RISE.RISE k).key ∉ fs.map Fld.key) (hwrote : (Int.wroteRise k).key ∉ fs.map Fld.key) (h : O.Holds fs L) :
    O.Holds fs (L.putRise k v t) := .wrAt hwrote (.wrAt hrise h)

theorem putFall (hfall : (PWM_OUT_FALL.FALL k).key ∉ fs.map Fld.key) (hwrote : (Int.wroteFall k).key ∉ fs.map Fld.key) (h : O.Holds fs L) :
    O.Holds fs (L.putFall k v t) := .wrAt hwrote (.wrAt hfall h)

end

section
variable (hfs : Fld.Apart reportFields fs) (hedge : Fld.Apart (edgeFields n) fs)

include hedge in
theorem commitGroup {t : ℕ} (h : O.Holds fs L) : O.Holds fs (L.commitGroup n t) := by
  have hlast := hedge (Int.commitLast n) (by simp [edgeFields])
  exact .ite (.wr hlast h) (.wr hlast (.wr (hedge (Int.commitAt n) (by simp [edgeFields])) (.wr (hedge (Int.commit n) (by simp [edgeFields])) h)))

include hfs hedge

theorem flags {mask : ℕ} (h : O.Holds fs L) : O.Holds fs (L.flags n mask) :=
  .forN (fun _ _ _ hK => .iff (fun _ hJ => .fieldRaise hfs (hedge (Int.cum 0x63) (by simp [edgeFields]))
    (.wr (hedge (CLE_AX_SAT.FLAGS n) (by simp [edgeFields])) hJ)) hK) h

theorem winShort (h : O.Holds fs L) : O.Holds fs (L.winShort n) :=
  .fieldRaise hfs (hedge (Int.cum 0x74) (by simp [edgeFields])) (.flags hfs hedge (.wr (hedge (PWM_GROUP_CNT.WIN_SHORT n) (by simp [edgeFields])) h))

theorem writePhase {x : ℕ} {d : ℤ} {mid : Bool} {t : ℕ} (hx : x < 3) (h : O.Holds fs L) : O.Holds fs (L.writePhase n x d mid t) := by
  have houts : ∀ i < 6, ∀ g ∈ [PWM_OUT_RISE.RISE (6 * n + i), PWM_OUT_FALL.FALL (6 * n + i), Int.wroteRise (6 * n + i), Int.wroteFall (6 * n + i)],
      g.key ∉ fs.map Fld.key :=
    fun i hi g hg => hedge g (List.mem_append_right _ (List.mem_flatMap.2 ⟨i, List.mem_range.2 hi, hg⟩))
  have hdelta : (Int.winDelta n x).key ∉ fs.map Fld.key :=
    hedge _ (List.mem_append_left _ (List.mem_append_right _ (List.mem_flatMap.2 ⟨x, List.mem_range.2 hx, by simp⟩)))
  have hhigh := houts (2 * x) (by omega)
  have hlow := houts (2 * x + 1) (by omega)
  simp only [List.forall_mem_cons, ← Nat.add_assoc] at hhigh hlow
  obtain ⟨hrise, hfall, hwroteRise, hwroteFall, -⟩ := hhigh
  obtain ⟨hrise', hfall', hwroteRise', hwroteFall', -⟩ := hlow
  unfold Lane.writePhase
  extract_lets k update p pf both compl dt win e f judged fresh s delta K₁ K₂ K₃ rise fall K₄ K₅ oddRise oddFall cut K₆
  have h₃ : O.Holds fs K₃ := .iff (fun _ hJ => .winShort hfs hedge hJ) (.iff (fun _ hJ => .winShort hfs hedge hJ)
    (.iff (fun _ hJ => .wr hdelta hJ) h))
  have h₄ : O.Holds fs K₄ := .ite (.putRise hrise hwroteRise h₃) h₃
  have h₅ : O.Holds fs K₅ := .ite (.putFall hfall hwroteFall h₄) h₄
  have h₆ : O.Holds fs K₆ := .iff (fun _ hJ => .putRise hrise' hwroteRise' hJ) (.flags hfs hedge h₅)
  exact .ite h₅ (.ite (.putFall hfall' hwroteFall' h₆) h₆)

theorem applyVector {phi : ℕ} {v : ℤ} (h : O.Holds fs L) : O.Holds fs (L.applyVector n phi v) := by
  have hduty : ∀ x < 3, (Int.axDuty n x).key ∉ fs.map Fld.key := fun x hx =>
    hedge _ (List.mem_append_left _ (List.mem_append_right _ (List.mem_flatMap.2 ⟨x, List.mem_range.2 hx, by simp⟩)))
  have hphase : ∀ (K : Lane) (x : ℕ) (d : ℤ) (mid : Bool) (t : ℕ), x < 3 → O.Holds fs K → O.Holds fs (K.writePhase n x d mid t) :=
    fun _ _ _ _ _ hx hK => .writePhase hfs hedge hx hK
  unfold Lane.applyVector
  extract_lets m d t L₁ K₁
  have h₁ : O.Holds fs L₁ := .wr (hduty 2 (by decide)) (.wr (hduty 1 (by decide)) (.wr (hduty 0 (by decide)) h))
  exact .commitGroup hedge (hphase _ 2 _ _ _ (by decide) (hphase _ 2 _ _ _ (by decide) (hphase _ 1 _ _ _ (by decide)
    (hphase _ 1 _ _ _ (by decide) (hphase _ 0 _ _ _ (by decide) (hphase _ 0 _ _ _ (by decide) h₁))))))

end

end Lane.Holds

/-! ### The start from rest -/

theorem pulse_apart : ∀ n < 8, Fld.Apart reportFields [Int.srPulse n] ∧ Fld.Apart (edgeFields n) [Int.srPulse n] := by decide +kernel

/-- With the current decayed the pulse noted as the next one begins, less the bits beyond its field (R109): neither the override nor the
vector writes it again. -/
theorem testPulseStart_begins {s : State} {l : LaneId} {ax : Fin 8} (hrest : (s.lane l).rd (CLE_AX_FOX_STATUS.STATE ax) = 2)
    (hnone : (s.lane l).rd (Int.srPulse ax) = 0) :
    ∃ K, exec (.testPulseStart l ax true) s = .next (s.onLane l fun _ => K) ∧ K.rd (Int.srPulse ax) = (s.lane l).rd (Int.srNext ax) % 2 ^ 5 := by
  obtain ⟨hreport, hedge⟩ := pulse_apart ax ax.isLt
  refine completes_of_exec rfl ?_
  rw [if_neg (by simp [hrest, hnone]), if_neg (by simp)]
  have hbegun := (s.lane l).rd_wr_same (Int.srPulse ax) ((s.lane l).rd (Int.srNext ax))
  exact ((Lane.Holds.applyVector hreport hedge (.syncOverride hreport (by omega) (.refl _))).rd _ List.mem_cons_self).trans hbegun

/-- The package at reset, but for an axis of lane A that is in START_REST between two pulses, and whose field store lists 32 for the next
pulse, a value that its five bits do not hold and no write stores. -/
def State.nextPulseOverfull : State :=
  { State.reset with a := { State.reset.a with regs := [((CLE_AX_FOX_STATUS.STATE 0).key, 2), ((Int.srNext 0).key, 32)] } }

/-- Refutes O17: the statement takes the lane as it is, with no bound on what its fields hold. The pulse that begins is the next one less the
bits beyond its field: from 32 it becomes 0. -/
theorem not_currentsEdgesAndStartPulses : ¬ Obligations.CurrentsEdgesAndStartPulses := by
  unfold Obligations.CurrentsEdgesAndStartPulses
  rintro ⟨-, -, -, hstart, -⟩
  obtain ⟨K, hK, hnext, -⟩ := hstart State.nextPulseOverfull .a 0 _ _ rfl (by decide) (by decide) rfl
  obtain ⟨M, hM, hpulse⟩ := testPulseStart_begins (s := State.nextPulseOverfull) (l := .a) (ax := 0) (by decide) (by decide)
  exact absurd (hnext.symm.trans ((rd_of_exec_onLane rfl hK hM _).trans hpulse)) (by decide)

end Sys2Proof.Machine
end

-- ==== Analogue and pulse inputs ====
section
/-! The set-point inputs of the control engine (R81, R82). -/

namespace Sys2Proof.Machine

namespace Lane

variable {L O : Lane} {fs : List Fld} {k : ℕ}

/-! ### An input in fault, and its good edges -/

theorem Holds.markInputs (hmark : ∀ n < 8, (CLE_AX_STATUS.SP_INPUT_FAULT n).key ∉ fs.map Fld.key) (h : O.Holds fs L) :
    O.Holds fs L.markInputs := .forN (fun n hn _ hK => .wr (hmark n hn) hK) h

theorem Holds.mono {gs : List Fld} (hgs : gs ⊆ fs) (h : O.Holds fs L) : O.Holds gs L := ⟨h.mem, h.nor, fun f hf => h.rd f (hgs hf)⟩

/-- What input `k` shows, and the report of a fault does not write. -/
def inputFields (k : ℕ) : List Fld := [Int.ainFault k, Int.pinX k, Int.pinPos k, Int.pinGood k, Int.pinFault k]

theorem inputFields_apart : ∀ k < 4, Fld.Apart reportFields (inputFields k) ∧ (Int.cum 0x65).key ∉ (inputFields k).map Fld.key ∧
    ∀ n < 8, (CLE_AX_STATUS.SP_INPUT_FAULT n).key ∉ (inputFields k).map Fld.key := by decide +kernel

/-- The report of an input in fault leaves the inputs as they are (R81). -/
theorem reportInput_holds (L : Lane) (hk : k < 4) : L.Holds (inputFields k) (L.markInputs.fieldRaise 0x65) := by
  obtain ⟨hreport, hcum, hmark⟩ := inputFields_apart k hk
  exact .fieldRaise hreport hcum (.markInputs hmark (.refl L))

/-- It counts source 0x65 once (R292). -/
theorem reportInput_cum (L : Lane) : (L.markInputs.fieldRaise 0x65).rd (Int.cum 0x65) = (L.rd (Int.cum 0x65) + 1) % 2 ^ 16 := by
  have hmark : L.Holds [Int.cum 0x65] L.markInputs := .markInputs (by decide) (.refl L)
  rw [fieldRaise_cum _ (by decide), hmark.rd _ List.mem_cons_self]

theorem pinFields_apart : ∀ k < 4, (Int.pinGood k).key ∉ [Int.pinX k, Int.pinPos k].map Fld.key ∧
    (Int.pinFault k).key ∉ [Int.pinX k, Int.pinPos k, Int.pinGood k].map Fld.key ∧
    (Int.pinBand k).key ∉ [Int.pinX k, Int.pinPos k, Int.pinGood k].map Fld.key ∧ (Int.pinFault k).key ≠ (Int.pinBand k).key ∧
    ∀ n < 8, (CLE_AX_STATUS.SP_INPUT_FAULT n).key ∉ [Int.pinX k, Int.pinPos k, Int.pinGood k].map Fld.key := by decide

/-- A pulse input in fault: its count of good edges starts again, its value stays (R82). -/
theorem pinFails_shows (L : Lane) (hk : k < 4) : (L.pinFails k).on (Int.pinFault k) = true ∧ (L.pinFails k).rd (Int.pinGood k) = 0 ∧
    L.Holds [Int.pinX k, Int.pinPos k] (L.pinFails k) := by
  obtain ⟨hgood, hfault, hband, hdistinct, -⟩ := pinFields_apart k hk
  have hcleared : L.Holds [Int.pinX k, Int.pinPos k] (L.clr (Int.pinGood k)) := .wr hgood (.refl L)
  have hzero : (L.clr (Int.pinGood k)).rd (Int.pinGood k) = 0 := rd_wr_same ..
  unfold pinFails
  extract_lets K
  by_cases h : K.on (Int.pinFault k) = true
  · rw [if_pos h]
    exact ⟨h, hzero, hcleared⟩
  · rw [if_neg h]
    have hmarked : K.Holds [Int.pinX k, Int.pinPos k, Int.pinGood k] ((K.set (Int.pinFault k)).clr (Int.pinBand k)) :=
      .wr hband (.wr hfault (.refl K))
    have hfaulted : ((K.set (Int.pinFault k)).clr (Int.pinBand k)).on (Int.pinFault k) = true := by
      rw [clr_eq, on_wr_ne _ _ _ _ hdistinct, set_eq, on_wr_same]
      rfl
    have hreport := ((K.set (Int.pinFault k)).clr (Int.pinBand k)).reportInput_holds hk
    have hend : K.Holds [Int.pinX k, Int.pinPos k, Int.pinGood k] _ := hmarked.trans (hreport.mono (by simp [inputFields]))
    exact ⟨(hreport.on (by simp [inputFields])).trans hfaulted, (hend.rd _ (by simp)).trans hzero, hcleared.trans (hend.mono (by simp))⟩

/-- A good edge of a pulse input is counted up to ten, and the value of the input stays (R82). -/
theorem pinPasses_shows (L : Lane) (hk : k < 4) : (L.pinPasses k).rd (Int.pinGood k) = min 10 (L.rd (Int.pinGood k) + 1) ∧
    L.Holds [Int.pinX k, Int.pinPos k] (L.pinPasses k) := by
  obtain ⟨hgood, hfault, hband, -, hmark⟩ := pinFields_apart k hk
  unfold pinPasses
  extract_lets K K₁
  have h₁ : K.Holds [Int.pinX k, Int.pinPos k, Int.pinGood k] K₁ := .iff (fun _ hJ => .wr hband hJ) (.refl K)
  have hend : K.Holds [Int.pinX k, Int.pinPos k, Int.pinGood k] (if (! K.on (Int.pinFault k)) = true then K else
      if K₁.rd (Int.pinGood k) = 10 ∧ K₁.on (Int.pinBand k) = true then (K₁.clr (Int.pinFault k)).markInputs else K₁) :=
    .ite (.refl K) (.ite (.markInputs hmark (.wr hfault h₁)) h₁)
  have hfits : min 10 (L.rd (Int.pinGood k) + 1) < 2 ^ 4 := by omega
  have hcounted : K.rd (Int.pinGood k) = min 10 (L.rd (Int.pinGood k) + 1) := (rd_wr_same ..).trans (Nat.mod_eq_of_lt hfits)
  exact ⟨(hend.rd _ (by simp)).trans hcounted, .trans (.wr hgood (.refl L)) (hend.mono (by simp))⟩

/-! ### A conversion of an analogue input -/

/-- A conversion is kept and scaled (R81). -/
def ainScaled (L : Lane) (k mv : ℕ) : Lane :=
  let at_ := L.rd (Int.ainN k)
  let K := (L.wr (Int.ainSum k at_) mv).wr (Int.ainN k) (at_ + 1)
  let sum : Int := ((List.range 4).map (fun i => K.rd (Int.ainSum k i))).sum
  let x := satQ (nearest 81 ((sum - 4 * K.rd (CLE_AIN_CFG.OFFSET k)) * K.rdI (CLE_AIN_GAIN.GAIN k) * 128) 4)
  let db : Int := (K.rd (CLE_AIN_CFG.DB k) : Int) * 524288
  K.wrI (Int.ainX k) (if decide ((x.natAbs : Int) ≤ db) then 0 else x - x.sign * db)

/-- A conversion of a millivolt value outside its wire limits is counted as bad, any other as good (R81). -/
def ainCounted (L : Lane) (k mv : ℕ) : Lane :=
  if decide (mv < L.rd (CLE_AIN_WIRE.LOW k)) || decide (L.rd (CLE_AIN_WIRE.HIGH k) < mv) then
    (L.wr (Int.ainBad k) (min 10 (L.rd (Int.ainBad k) + 1))).clr (Int.ainGood k)
  else (L.wr (Int.ainGood k) (min 10 (L.rd (Int.ainGood k) + 1))).clr (Int.ainBad k)

/-- Whether no set-point input is converted: the ADC domain is stopped, or both references are lost (R90, R412). -/
def ainIdle (L : Lane) : Bool := ! L.on (FCK_DOM_CTL.RUN_EN 2) || (! L.on (ADC_CL_STATUS.REF_OK 0) && ! L.on (ADC_CL_STATUS.REF_OK 1))

/-- The command for an input that is not in fault after the conversion: ten bad ones in a row put it in fault (R81). -/
theorem execAinConversion_unfaulted {s : State} {l : LaneId} {k : Fin 4} {mv : ℕ} {K : Lane} (hrun : (s.lane l).ainIdle = false)
    (hK : K = ((s.lane l).ainScaled k mv).ainCounted k mv) (hfault : K.on (Int.ainFault k) = false) :
    exec (.ainConversion l k mv) s = .next (s.onLane l fun _ =>
      if K.rd (Int.ainBad k) = 10 then (((K.set (Int.ainFault k)).clr (Int.ainBand k)).markInputs).fieldRaise 0x65 else K) := by
  subst hK
  have hidle : ¬ (! (s.lane l).on (FCK_DOM_CTL.RUN_EN 2) ||
      (! (s.lane l).on (ADC_CL_STATUS.REF_OK 0) && ! (s.lane l).on (ADC_CL_STATUS.REF_OK 1))) = true := Bool.eq_false_iff.1 hrun
  have hopen : (! (((s.lane l).ainScaled k mv).ainCounted k mv).on (Int.ainFault k)) = true := by rw [hfault]; rfl
  exact congrArg Host.Outcome.next (onLane_congr s l ((if_neg hidle).trans (if_pos hopen)))

/-- What the conversion kept as the `j`-th of input `k` writes. -/
def ainKept (k j : ℕ) : List Fld := [Int.ainSum k j, Int.ainN k, Int.ainX k]

/-- What judges a conversion of input `k`, and counts its fault. -/
def ainJudged (k : ℕ) : List Fld :=
  [CLE_AIN_WIRE.LOW k, CLE_AIN_WIRE.HIGH k, Int.ainBad k, Int.ainGood k, Int.ainFault k, Int.cum 0x65]

theorem ainScaled_onlyFields (L : Lane) (k mv : ℕ) : L.onlyFields (L.ainScaled k mv) (ainKept k (L.rd (Int.ainN k))) :=
  onlyFields_wr (onlyFields_wr (onlyFields_wr (onlyFields_refl ..) _ _ (by simp [ainKept])) _ _ (by simp [ainKept])) _ _ (by simp [ainKept])

theorem ainScaled_holds (mv : ℕ) (hk : k < 4) (hn : L.rd (Int.ainN k) < 4) : L.Holds (ainJudged k) (L.ainScaled k mv) := by
  have apart : ∀ k < 4, ∀ j < 4, Fld.Apart (ainKept k j) (ainJudged k) := by decide
  have hkept := apart k hk _ hn
  exact .wr (hkept _ (by simp [ainKept])) (.wr (hkept _ (by simp [ainKept])) (.wr (hkept _ (by simp [ainKept])) (.refl L)))

/-- A conversion inside the wire limits is good (R81). -/
theorem ainCounted_good {mv : ℕ} (hlow : L.rd (CLE_AIN_WIRE.LOW k) ≤ mv) (hhigh : mv ≤ L.rd (CLE_AIN_WIRE.HIGH k)) :
    L.ainCounted k mv = (L.wr (Int.ainGood k) (min 10 (L.rd (Int.ainGood k) + 1))).clr (Int.ainBad k) :=
  if_neg (by simp [hlow, hhigh])

/-- A conversion outside them is bad (R81). -/
theorem ainCounted_bad {mv : ℕ} (h : mv < L.rd (CLE_AIN_WIRE.LOW k) ∨ L.rd (CLE_AIN_WIRE.HIGH k) < mv) :
    L.ainCounted k mv = (L.wr (Int.ainBad k) (min 10 (L.rd (Int.ainBad k) + 1))).clr (Int.ainGood k) := if_pos (by simpa using h)

theorem ainIdle_of_reference (hrun : L.on (FCK_DOM_CTL.RUN_EN 2) = true)
    (href : L.on (ADC_CL_STATUS.REF_OK 0) = true ∨ L.on (ADC_CL_STATUS.REF_OK 1) = true) : L.ainIdle = false := by
  rcases href with href | href <;> simp [ainIdle, hrun, href]

theorem ainCounters_apart : ∀ k < 4, (Int.ainFault k).key ≠ (Int.ainBad k).key ∧ (Int.ainFault k).key ≠ (Int.ainGood k).key ∧
    (Int.ainBad k).key ≠ (Int.ainGood k).key ∧ (Int.ainFault k).key ≠ (Int.ainBand k).key ∧ (Int.cum 0x65).key ≠ (Int.ainFault k).key ∧
    (Int.cum 0x65).key ≠ (Int.ainBand k).key ∧ (Int.cum 0x65).key ≠ (Int.ainBad k).key ∧ (Int.cum 0x65).key ≠ (Int.ainGood k).key := by decide

/-- A good conversion of an input without fault is kept, counted, and ends a row of bad ones (R81). -/
theorem ainConversion_good {s : State} {l : LaneId} {k : Fin 4} {mv : ℕ} (hL : s.lane l = L) (hidle : L.ainIdle = false)
    (hfault : L.on (Int.ainFault k) = false) (hlow : L.rd (CLE_AIN_WIRE.LOW k) ≤ mv) (hhigh : mv ≤ L.rd (CLE_AIN_WIRE.HIGH k))
    (hn : L.rd (Int.ainN k) < 4) :
    ∃ K, exec (.ainConversion l k mv) s = .next (s.onLane l fun _ => K) ∧ K.on (Int.ainFault k) = false ∧ K.rd (Int.ainBad k) = 0 ∧
      L.onlyFields K [Int.ainSum k (L.rd (Int.ainN k)), Int.ainN k, Int.ainX k, Int.ainGood k, Int.ainBad k] := by
  subst hL
  set A := (s.lane l).ainScaled k mv with hA
  have hholds : (s.lane l).Holds (ainJudged k) A := ainScaled_holds mv k.isLt hn
  have hcounted := ainCounted_good (L := A) (k := k) (mv := mv) ((hholds.rd _ (by simp [ainJudged])).trans_le hlow)
    (hhigh.trans_eq (hholds.rd _ (by simp [ainJudged])).symm)
  obtain ⟨hfb, hfg, -⟩ := ainCounters_apart k k.isLt
  have hfree : (A.ainCounted k mv).on (Int.ainFault k) = false := by
    rw [hcounted, clr_eq, on_wr_ne _ _ _ _ hfb, on_wr_ne _ _ _ _ hfg, hholds.on (by simp [ainJudged]), hfault]
  have hbad : (A.ainCounted k mv).rd (Int.ainBad k) = 0 := by
    rw [hcounted, clr_eq, rd_wr_same]
    exact Nat.zero_mod _
  refine ⟨A.ainCounted k mv, ?_, hfree, hbad, ?_⟩
  · rw [execAinConversion_unfaulted hidle rfl hfree, if_neg (by rw [← hA, hbad]; decide)]
  · rw [hcounted]
    exact onlyFields_wr (onlyFields_wr (onlyFields_mono (ainScaled_onlyFields ..) (by simp [ainKept])) _ _ (by simp)) _ _ (by simp)

/-- The tenth bad conversion in a row puts the input in fault, and counts source 0x65 (R81). -/
theorem ainConversion_tenthBad {s : State} {l : LaneId} {k : Fin 4} {mv : ℕ} (hL : s.lane l = L) (hidle : L.ainIdle = false)
    (hfault : L.on (Int.ainFault k) = false) (houtside : mv < L.rd (CLE_AIN_WIRE.LOW k) ∨ L.rd (CLE_AIN_WIRE.HIGH k) < mv)
    (hn : L.rd (Int.ainN k) < 4) (hnine : L.rd (Int.ainBad k) = 9) :
    ∃ K, exec (.ainConversion l k mv) s = .next (s.onLane l fun _ => K) ∧ K.on (Int.ainFault k) = true ∧
      K.rd (Int.cum 0x65) = (L.rd (Int.cum 0x65) + 1) % 2 ^ 16 ∧ K.mem = L.mem ∧ K.nor = L.nor := by
  subst hL
  set A := (s.lane l).ainScaled k mv with hA
  have hholds : (s.lane l).Holds (ainJudged k) A := ainScaled_holds mv k.isLt hn
  have hcounted := ainCounted_bad (L := A) (k := k) (mv := mv)
    (by rwa [hholds.rd (CLE_AIN_WIRE.LOW k) (by simp [ainJudged]), hholds.rd (CLE_AIN_WIRE.HIGH k) (by simp [ainJudged])])
  obtain ⟨hfb, hfg, hbg, hfd, hcf, hcd, hcb, hcg⟩ := ainCounters_apart k k.isLt
  set K := A.ainCounted k mv with hK
  have hfree : K.on (Int.ainFault k) = false := by
    rw [hcounted, clr_eq, on_wr_ne _ _ _ _ hfg, on_wr_ne _ _ _ _ hfb, hholds.on (by simp [ainJudged]), hfault]
  have hten : K.rd (Int.ainBad k) = 10 := by
    rw [hcounted, clr_eq, rd_wr_ne _ _ _ _ hbg, rd_wr_same, hholds.rd _ (by simp [ainJudged]), hnine]
    rfl
  set J := (K.set (Int.ainFault k)).clr (Int.ainBand k) with hJ
  have hreport := J.reportInput_holds k.isLt
  have hkeeps : (s.lane l).Holds [] K := hcounted ▸ .wr (List.not_mem_nil) (.wr (List.not_mem_nil) (hholds.mono (List.nil_subset _)))
  have hkept : (s.lane l).Holds [] (J.markInputs.fieldRaise 0x65) :=
    .trans (.wr (List.not_mem_nil) (.wr (List.not_mem_nil) hkeeps)) (hreport.mono (List.nil_subset _))
  refine ⟨J.markInputs.fieldRaise 0x65, ?_, ?_, ?_, hkept.mem, hkept.nor⟩
  · rw [execAinConversion_unfaulted hidle hK hfree, if_pos hten]
  · rw [hreport.on (by simp [inputFields]), hJ, clr_eq, on_wr_ne _ _ _ _ hfd, set_eq, on_wr_same]
    rfl
  · rw [reportInput_cum, hJ, clr_eq, rd_wr_ne _ _ _ _ hcd, set_eq, rd_wr_ne _ _ _ _ hcf, hcounted, clr_eq, rd_wr_ne _ _ _ _ hcg,
      rd_wr_ne _ _ _ _ hcb, hholds.rd _ (by simp [ainJudged])]

end Lane

end Sys2Proof.Machine
end

-- ==== Pulse inputs, agreed set-points ====
section
/-! The edges of the pulse inputs, the messages with agreed set-points and their time-out (R82, R83). -/

namespace Sys2Proof.Machine

namespace Lane

variable {L O K : Lane} {fs gs : List Fld} {k : ℕ}

theorem Holds.of_onlyFields (h : L.onlyFields K gs) (hfs : Fld.Apart fs gs) : L.Holds fs K := by
  have hrd : ∀ f ∈ fs, K.rd f = L.rd f := fun f hf => onlyFields_rd h f (hfs f hf)
  obtain ⟨r, rfl, -⟩ := h
  exact ⟨rfl, rfl, hrd⟩

/-! ### The edges of a pulse input -/

/-- The level of a pulse input and its history. -/
def pinLogged (k : ℕ) : List Fld := Int.pinLvl k :: (List.range 6).map (Int.pinHist k)

theorem pushPin_onlyFields (L : Lane) (k t : ℕ) (level : Bool) : L.onlyFields (L.pushPin k t level) (pinLogged k) := by
  have hist : ∀ i < 6, Int.pinHist k i ∈ pinLogged k :=
    fun i hi => List.mem_cons_of_mem _ (List.mem_map_of_mem (List.mem_range.2 hi))
  have hshift : L.onlyFields ([5, 4, 3, 2, 1].foldl (fun J i => J.wr (Int.pinHist k i) (J.rd (Int.pinHist k (i - 1)))) L) (pinLogged k) :=
    foldl_mem_keeps (fun J => L.onlyFields J (pinLogged k))
      (fun i hi _ hJ => onlyFields_wr hJ _ _ (hist i ((by decide : ∀ i ∈ [5, 4, 3, 2, 1], i < 6) i hi))) (L.onlyFields_refl _)
  exact onlyFields_wr (onlyFields_wr hshift _ _ (hist 0 (by decide))) _ _ List.mem_cons_self

theorem pushPin_level (L : Lane) (k t : ℕ) (level : Bool) : (L.pushPin k t level).on (Int.pinLvl k) = level := by
  rw [pushPin, put, on_wr_same]
  cases level <;> rfl

/-- The lane with a rising edge of input `k` noted. -/
def pinRisen (L : Lane) (k : ℕ) : Lane := ((L.pushPin k L.ftb true).wr (Int.pinRise k) L.ftb).wr (Int.pinHave k) 1

/-- What a rising edge is judged by and stored in. -/
def pinValues (k : ℕ) : List Fld := [Int.pinPos k, Int.pinGood k, CLE_PIN_FREQ.F_CTR k, CLE_PIN_FREQ.F_SPAN k]

theorem pinEdge_apart : ∀ k < 4, Fld.Apart (pinValues k) ([Int.pinLvl k, Int.pinRise k, Int.pinHave k] ++ (List.range 6).map (Int.pinHist k)) ∧
    (Int.pinRise k).key ≠ (Int.pinHave k).key ∧ (Int.pinLvl k).key ≠ (Int.pinRise k).key ∧ (Int.pinLvl k).key ≠ (Int.pinHave k).key ∧
    (Int.pinLvl k).key ≠ (Int.pinFall k).key ∧ (Int.pinX k).key ≠ (Int.pinGood k).key := by decide

theorem pinRisen_onlyFields (L : Lane) (k : ℕ) :
    L.onlyFields (L.pinRisen k) ([Int.pinLvl k, Int.pinRise k, Int.pinHave k] ++ (List.range 6).map (Int.pinHist k)) :=
  onlyFields_wr (onlyFields_wr (onlyFields_mono (L.pushPin_onlyFields k _ true) (List.cons_subset.2 ⟨by simp, List.subset_append_right _ _⟩)) _ _
    (by simp)) _ _ (by simp)

theorem pinRisen_holds (L : Lane) (hk : k < 4) : L.Holds (pinValues k) (L.pinRisen k) :=
  .of_onlyFields (L.pinRisen_onlyFields k) (pinEdge_apart k hk).1

theorem rd_wrI_same (L : Lane) (f : Fld) (v : ℤ) : (L.wrI f v).rd f = ofInt f.width v % 2 ^ f.width := rd_wr_same ..

theorem Holds.wrI {f : Fld} {v : ℤ} (hf : f.key ∉ fs.map Fld.key) (h : O.Holds fs L) : O.Holds fs (L.wrI f v) := .wr hf h

theorem Holds.rdI (h : O.Holds fs L) {f : Fld} (hf : f ∈ fs) : L.rdI f = O.rdI f := congrArg (toInt f.width) (h.rd f hf)

/-- The count of good edges does not move a pulse input's value, whether the edge was good or not. -/
theorem pinJudged_holds (L : Lane) (hk : k < 4) (c : Prop) [Decidable c] :
    L.Holds [Int.pinX k, Int.pinPos k] (if c then L.pinFails k else L.pinPasses k) := .ite (L.pinFails_shows hk).2.2 (L.pinPasses_shows hk).2

/-- The first rising edge, and one in mode 0, only notes its time (R82). -/
theorem execPinEdge_first {s : State} {l : LaneId} {k : Fin 4} (hmode : (s.lane l).rd (CLE_PIN_CFG.MODE k) ≠ 3)
    (hfirst : (s.lane l).rd (Int.pinHave k) = 0 ∨ (s.lane l).rd (CLE_PIN_CFG.MODE k) = 0) :
    exec (.pinEdge l k true) s = .next (s.onLane l fun L => L.pinRisen k) :=
  congrArg Host.Outcome.next (onLane_congr s l ((if_neg (by decide)).trans ((if_neg hmode).trans (if_pos (by rcases hfirst with h | h <;> simp
    [h])))))

/-- A step (R82). -/
theorem execPinEdge_step {s : State} {l : LaneId} {k : Fin 4} (hmode : (s.lane l).rd (CLE_PIN_CFG.MODE k) = 3) :
    exec (.pinEdge l k true) s = .next (s.onLane l fun L =>
      let K := (L.pinRisen k).wrI (Int.pinPos k) ((L.pinRisen k).rdI (Int.pinPos k) + if L.pinLevelAt (k + 1) (L.ftb - 200) then 1 else -1)
      if (decide (L.rd (Int.pinHave k) ≠ 0) && decide (L.ftb - L.rd (Int.pinRise k) < 500)) = true then K.pinFails k else K.pinPasses k) :=
  congrArg Host.Outcome.next (onLane_congr s l ((if_neg (by decide)).trans (if_pos hmode)))

/-- The set-point of a duty input for a period and a high time (R82). -/
def dutyValue (per high : ℕ) : ℤ :=
  clampI (-2147483648) oneQ (divRound 82 (((10 * high : Nat) - (5 * per : Nat) : Int) * 2 ^ 31) (4 * per))

/-- The set-point of a frequency input for a period (R82). -/
def freqValue (ctr span per : ℕ) : ℤ :=
  clampI (-2147483648) oneQ (divRound 82 ((1000000000 - ((ctr * per : Nat) : Int)) * 2 ^ 31) (span * per))

/-- A later rising edge of a duty input (R82). -/
theorem execPinEdge_duty {s : State} {l : LaneId} {k : Fin 4} {per high : ℕ} (hmode : (s.lane l).rd (CLE_PIN_CFG.MODE k) = 1)
    (hhave : (s.lane l).rd (Int.pinHave k) = 1) (hper : per = (s.lane l).ftb - (s.lane l).rd (Int.pinRise k))
    (hhigh : high = (s.lane l).rd (Int.pinFall k) - (s.lane l).rd (Int.pinRise k)) :
    exec (.pinEdge l k true) s = .next (s.onLane l fun L =>
      let K := (L.pinRisen k).wrI (Int.pinX k) (dutyValue per high)
      if 100 * high < 5 * per ∨ 95 * per < 100 * high then K.pinFails k else K.pinPasses k) := by
  subst hper hhigh
  exact congrArg Host.Outcome.next (onLane_congr s l ((if_neg (by decide)).trans ((if_neg (by simp [hmode])).trans
    ((if_neg (by simp [hmode, hhave])).trans (if_pos hmode)))))

/-- A later rising edge of a frequency input (R82). -/
theorem execPinEdge_freq {s : State} {l : LaneId} {k : Fin 4} (hmode : (s.lane l).rd (CLE_PIN_CFG.MODE k) = 2)
    (hhave : (s.lane l).rd (Int.pinHave k) = 1) :
    exec (.pinEdge l k true) s = .next (s.onLane l fun L => ((L.pinRisen k).wrI (Int.pinX k) (freqValue (L.rd (CLE_PIN_FREQ.F_CTR k))
      (L.rd (CLE_PIN_FREQ.F_SPAN k)) (L.ftb - L.rd (Int.pinRise k)))).pinPasses k) := by
  have hrisen := (s.lane l).pinRisen_holds k.isLt
  refine congrArg Host.Outcome.next (onLane_congr s l ?_)
  rw [← hrisen.rd (CLE_PIN_FREQ.F_CTR k) (by simp [pinValues]), ← hrisen.rd (CLE_PIN_FREQ.F_SPAN k) (by simp [pinValues])]
  exact (if_neg (by decide)).trans ((if_neg (by simp [hmode])).trans ((if_neg (by simp [hmode, hhave])).trans (if_neg (by simp [hmode]))))

/-! ### Agreed set-points -/

/-- The counts of late messages. -/
def lateFields : List Fld := (List.range 8).map CLE_AX_STATUS.SP_LATE

/-- The lane after the late axes of a message to be applied at field time `f` are counted (R83). -/
theorem countLate_onlyFields (L : Lane) (axes f : ℕ) :
    L.onlyFields (L.forN 8 fun n J => J.iff (axes.testBit n && decide (f < J.ftb)) fun J => J.inc (CLE_AX_STATUS.SP_LATE n)) lateFields :=
  forN_keeps (fun J => L.onlyFields J lateFields)
    (fun _ hn _ hJ => iff_keeps (fun J => L.onlyFields J lateFields)
      (fun _ hK => onlyFields_wr hK _ _ (List.mem_map_of_mem (List.mem_range.2 hn))) hJ) (L.onlyFields_refl _)

theorem settleBank_setpoints (L : Lane) (n : ℕ) : (L.settleBank n).setpoints = L.setpoints :=
  ite_keeps (fun J : Lane => J.setpoints = L.setpoints) (ite_keeps (fun J : Lane => J.setpoints = L.setpoints) rfl rfl) rfl

/-- A message that is due is no longer one of the axis (R83). -/
theorem applyDue_done (L : Lane) (n t : ℕ) {m : Setpoint} (hm : m ∈ (L.applyDue n t).setpoints) : ¬ (m.axes.testBit n = true ∧ m.applyAt ≤ t) := by
  obtain ⟨m', -, rfl⟩ := List.mem_map.1 (List.mem_filter.1 hm).1
  rintro ⟨haxis, hdue⟩
  split_ifs at haxis hdue with h
  · exact Bool.false_ne_true ((testBit_putBit_false m'.axes n).symm.trans haxis)
  · exact h (by simp [haxis, hdue])

theorem spLost_apart : ∀ n < 8, Fld.Apart reportFields [CLE_AX_STATUS.SP_LOST n] ∧ (Int.cum 0x66).key ∉ [CLE_AX_STATUS.SP_LOST n].map Fld.key := by
  decide +kernel

/-! ### The commands -/

variable {s : State} {l : LaneId} {k : Fin 4} {ax : Fin 8}

theorem pinEdge_falls (hL : s.lane l = L) :
    ∃ K, exec (.pinEdge l k false) s = .next (s.onLane l fun _ => K) ∧ K.rd (Int.pinFall k) = L.ftb % 2 ^ 64 ∧ K.on (Int.pinLvl k) = false ∧
      L.onlyFields K ([Int.pinLvl k, Int.pinFall k] ++ (List.range 6).map (Int.pinHist k)) := by
  subst hL
  obtain ⟨-, -, -, -, hfall, -⟩ := pinEdge_apart k k.isLt
  exact completes_of_exec rfl ⟨rd_wr_same .., (on_wr_ne _ _ _ _ hfall).trans (pushPin_level ..),
    onlyFields_wr (onlyFields_mono (pushPin_onlyFields ..) (List.cons_subset.2 ⟨by simp, List.subset_append_right _ _⟩)) _ _ (by simp)⟩

theorem pinEdge_first (hL : s.lane l = L) (hmode : L.rd (CLE_PIN_CFG.MODE k) ≠ 3)
    (hfirst : L.rd (Int.pinHave k) = 0 ∨ L.rd (CLE_PIN_CFG.MODE k) = 0) :
    ∃ K, exec (.pinEdge l k true) s = .next (s.onLane l fun _ => K) ∧ K.rd (Int.pinRise k) = L.ftb % 2 ^ 64 ∧ K.rd (Int.pinHave k) = 1 ∧
      K.on (Int.pinLvl k) = true ∧ L.onlyFields K ([Int.pinLvl k, Int.pinRise k, Int.pinHave k] ++ (List.range 6).map (Int.pinHist k)) := by
  subst hL
  obtain ⟨-, hdistinct, hrise, hhave, -⟩ := pinEdge_apart k k.isLt
  refine completes_of_exec (execPinEdge_first hmode hfirst) ⟨?_, rd_wr_same .., ?_, pinRisen_onlyFields ..⟩
  · exact (rd_wr_ne _ _ _ _ hdistinct).trans (rd_wr_same ..)
  · exact (on_wr_ne _ _ _ _ hhave).trans ((on_wr_ne _ _ _ _ hrise).trans (pushPin_level ..))

/-- A value stored by an edge does not move the count of good edges. -/
theorem pinStored_holds (L : Lane) (k : Fin 4) (v : ℤ) : L.Holds [Int.pinGood k] ((L.pinRisen k).wrI (Int.pinX k) v) := by
  obtain ⟨-, -, -, -, -, hgood⟩ := pinEdge_apart k k.isLt
  exact .wrI (by simpa using hgood) ((L.pinRisen_holds k.isLt).mono (by simp [pinValues]))

theorem pinEdge_duty {per high : ℕ} (hL : s.lane l = L) (hhave : L.rd (Int.pinHave k) = 1) (hmode : L.rd (CLE_PIN_CFG.MODE k) = 1)
    (hper : per = L.ftb - L.rd (Int.pinRise k)) (hhigh : high = L.rd (Int.pinFall k) - L.rd (Int.pinRise k)) :
    ∃ K, exec (.pinEdge l k true) s = .next (s.onLane l fun _ => K) ∧ K.rd (Int.pinX k) = ofInt 32 (dutyValue per high) % 2 ^ 32 ∧
      (5 * per ≤ 100 * high → 100 * high ≤ 95 * per → K.rd (Int.pinGood k) = min 10 (L.rd (Int.pinGood k) + 1)) ∧ K.mem = L.mem ∧
      K.nor = L.nor := by
  subst hL
  have hstored := (s.lane l).pinStored_holds k (dutyValue per high)
  set K := ((s.lane l).pinRisen k).wrI (Int.pinX k) (dutyValue per high)
  have hjudged := K.pinJudged_holds k.isLt (100 * high < 5 * per ∨ 95 * per < 100 * high)
  refine completes_of_exec (execPinEdge_duty hmode hhave hper hhigh) ⟨?_, fun hlow hup => ?_, hjudged.mem.trans hstored.mem,
    hjudged.nor.trans hstored.nor⟩
  · exact (hjudged.rd _ (by simp)).trans (rd_wrI_same ..)
  · dsimp only
    rw [if_neg (by omega), (K.pinPasses_shows k.isLt).1, hstored.rd _ (by simp)]

theorem pinEdge_freq (hL : s.lane l = L) (hhave : L.rd (Int.pinHave k) = 1) (hmode : L.rd (CLE_PIN_CFG.MODE k) = 2) :
    ∃ K, exec (.pinEdge l k true) s = .next (s.onLane l fun _ => K) ∧ K.rd (Int.pinX k) = ofInt 32 (freqValue (L.rd (CLE_PIN_FREQ.F_CTR k))
        (L.rd (CLE_PIN_FREQ.F_SPAN k)) (L.ftb - L.rd (Int.pinRise k))) % 2 ^ 32 ∧
      K.rd (Int.pinGood k) = min 10 (L.rd (Int.pinGood k) + 1) ∧ K.mem = L.mem ∧ K.nor = L.nor := by
  subst hL
  have hstored := (s.lane l).pinStored_holds k (freqValue ((s.lane l).rd (CLE_PIN_FREQ.F_CTR k)) ((s.lane l).rd (CLE_PIN_FREQ.F_SPAN k))
    ((s.lane l).ftb - (s.lane l).rd (Int.pinRise k)))
  obtain ⟨hcount, hpassed⟩ := pinPasses_shows _ k.isLt
  exact completes_of_exec (execPinEdge_freq hmode hhave) ⟨(hpassed.rd _ (by simp)).trans (rd_wrI_same ..),
    hcount.trans (by rw [hstored.rd _ (by simp)]), hpassed.mem.trans hstored.mem, hpassed.nor.trans hstored.nor⟩

theorem pinEdge_step (hL : s.lane l = L) (hmode : L.rd (CLE_PIN_CFG.MODE k) = 3) :
    ∃ K, exec (.pinEdge l k true) s = .next (s.onLane l fun _ => K) ∧
      K.rd (Int.pinPos k) = ofInt 32 (L.rdI (Int.pinPos k) + if L.pinLevelAt (k + 1) (L.ftb - 200) then 1 else -1) % 2 ^ 32 ∧
      (L.rd (Int.pinHave k) = 1 → L.ftb < L.rd (Int.pinRise k) + 500 → K.on (Int.pinFault k) = true) ∧ K.mem = L.mem ∧ K.nor = L.nor := by
  subst hL
  have hrisen := (s.lane l).pinRisen_holds k.isLt
  set K := ((s.lane l).pinRisen k).wrI (Int.pinPos k) (((s.lane l).pinRisen k).rdI (Int.pinPos k) +
    if (s.lane l).pinLevelAt (k + 1) ((s.lane l).ftb - 200) then 1 else -1) with hK
  have hkept : (s.lane l).Holds [] K := .wrI List.not_mem_nil (hrisen.mono (List.nil_subset _))
  have hjudged := K.pinJudged_holds k.isLt
    ((decide ((s.lane l).rd (Int.pinHave k) ≠ 0) && decide ((s.lane l).ftb - (s.lane l).rd (Int.pinRise k) < 500)) = true)
  refine completes_of_exec (execPinEdge_step hmode) ⟨?_, fun hhave hearly => ?_, hjudged.mem.trans hkept.mem, hjudged.nor.trans hkept.nor⟩
  · refine (hjudged.rd _ (by simp)).trans ?_
    rw [hK, rd_wrI_same, hrisen.rdI (by simp [pinValues])]
    rfl
  · dsimp only
    rw [if_pos (by simp only [hhave, Bool.and_eq_true, decide_eq_true_eq]; omega)]
    exact (K.pinFails_shows k.isLt).1

theorem setpointMessage_takes {m : Setpoint} {rest : List DownItem} (hL : s.lane l = L) (hdown : L.down = .setpoint m :: rest) :
    ∃ K, exec (.setpointMessage l) s = .next (s.onLane l fun _ => K) ∧ K.down = rest ∧ K.downCredits = L.downCredits ++ [false] ∧
      K.setpoints = L.setpoints ++ [{ m with applyAt := (L.fieldTimeOf m.applyAt).toNat }] ∧ L.mem = K.mem ∧ L.nor = K.nor ∧
      L.sched = K.sched := by
  subst hL
  obtain ⟨r, hr, -⟩ := (s.lane l).takeDown.countLate_onlyFields m.axes ((s.lane l).fieldTimeOf m.applyAt).toNat
  refine completes_of_exec rfl ?_
  simp only [hdown, hr]
  exact ⟨congrArg (List.drop 1) hdown, rfl, rfl, rfl, rfl, rfl⟩

theorem setpointMessage_other (hother : ∀ m rest, (s.lane l).down ≠ .setpoint m :: rest) :
    exec (.setpointMessage l) s = .next (s.onLane l id) := by
  refine congrArg Host.Outcome.next (onLane_congr s l ?_)
  split
  · next m rest hdown => exact absurd hdown (hother m rest)
  · rfl

theorem setpointApply_stopped (hL : s.lane l = L) (hstopped : L.on (CLE_AX_STATUS.RUNNING ax) = false) :
    ∃ K, exec (.setpointApply l ax) s = .next (s.onLane l fun _ => K) ∧ ∀ m ∈ K.setpoints, ¬ (m.axes.testBit ax = true ∧ m.applyAt ≤ L.ftb) := by
  subst hL
  refine completes_of_exec rfl ?_
  rw [if_neg (by simp [hstopped]), settleBank_setpoints]
  exact fun m hm => (s.lane l).applyDue_done ax _ hm

theorem spTimeout_lost (hL : s.lane l = L) (hrun : L.on (CLE_AX_STATUS.RUNNING ax) = true) (hsrc : L.rd (CLE_AX_CTL.SP_SRC ax) = 3)
    (hlost : L.on (CLE_AX_STATUS.SP_LOST ax) = false) :
    ∃ K, exec (.spTimeout l ax) s = .next (s.onLane l fun _ => K) ∧ K = (L.wr (CLE_AX_STATUS.SP_LOST ax) 1).fieldRaise 0x66 ∧
      K.on (CLE_AX_STATUS.SP_LOST ax) = true ∧ K.rd (Int.cum 0x66) = (L.rd (Int.cum 0x66) + 1) % 2 ^ 16 := by
  subst hL
  obtain ⟨hreport, hcum⟩ := spLost_apart ax ax.isLt
  set J := (s.lane l).wr (CLE_AX_STATUS.SP_LOST ax) 1 with hJ
  have hkept := Holds.fieldRaise hreport hcum (.refl J)
  refine ⟨J.fieldRaise 0x66, congrArg Host.Outcome.next (onLane_congr s l (if_pos (by simp [hrun, hsrc, hlost]))), rfl, ?_, ?_⟩
  · exact (hkept.on List.mem_cons_self).trans ((on_wr_same ..).trans rfl)
  · rw [fieldRaise_cum _ (by decide), hJ, rd_wr_ne _ _ _ _ (by simpa using hcum)]

end Lane

/-- Settles O13: the conversions and edges by the counts of their input, the messages by the parts that the ordered channel and the list of
set-points hold. -/
theorem setpointInputsAndMessages : Obligations.SetpointInputsAndMessages := by
  unfold Obligations.SetpointInputsAndMessages
  refine ⟨⟨?_, ?_, ?_, ?_, ?_, ?_, ?_, ?_, ?_, ?_⟩, ?_, ?_, ?_, ?_, ?_, ?_⟩
  · rintro s l k mv _ rfl hidle
    refine congrArg Host.Outcome.next (onLane_congr s l (if_pos ?_))
    rcases hidle with hrun | ⟨href, href'⟩
    · simp [hrun]
    · simp [href, href']
  · exact fun _ _ _ _ _ hL hrun href => Lane.ainConversion_good hL (Lane.ainIdle_of_reference hrun href)
  · exact fun _ _ _ _ _ hL hrun href => Lane.ainConversion_tenthBad hL (Lane.ainIdle_of_reference hrun href)
  · exact fun _ _ _ _ hL => Lane.pinEdge_falls hL
  · exact fun _ _ _ _ hL => Lane.pinEdge_first hL
  · exact fun _ _ _ _ _ _ hL => Lane.pinEdge_duty hL
  · rintro _ _ _ _ _ hL hhave hmode rfl
    exact Lane.pinEdge_freq hL hhave hmode
  · exact fun _ _ _ _ hL _ => Lane.pinEdge_step hL
  · rintro s l k _ rfl hmode
    obtain ⟨hfault, hgood, hkept⟩ := (s.lane l).pinFails_shows k.isLt
    exact ⟨_, congrArg Host.Outcome.next (onLane_congr s l (if_pos hmode)), hfault, hgood, hkept.mem, hkept.nor⟩
  · exact fun s l k hduty hfreq => congrArg Host.Outcome.next (onLane_congr s l (if_neg (by simp [hduty, hfreq])))
  · exact fun _ _ _ _ _ hL => Lane.setpointMessage_takes hL
  · exact fun _ _ hother => Lane.setpointMessage_other hother
  · exact fun _ _ _ _ hL => Lane.setpointApply_stopped hL
  · exact fun s l ax hrun => congrArg Host.Outcome.next (onLane_congr s l (if_pos hrun))
  · exact fun _ _ _ _ hL => Lane.spTimeout_lost hL
  · rintro s l ax _ rfl hno
    refine congrArg Host.Outcome.next (onLane_congr s l (if_neg ?_))
    rcases hno with h | h | h <;> simp [h]

end Sys2Proof.Machine
end

-- ==== What a current sample leaves ====
section
/-! No operation of the pipeline, of the Fox or of the zero tracking writes a code of a current or voltage channel, nor a memory (R59 to R75,
R88, R105 to R126). -/

namespace Sys2Proof.Machine

/-- The five codes of the current samples of every axis (R60, R88). -/
def codeFields : List Fld := (List.range 8).flatMap fun n =>
  [ADC_AX_ICODE.I0_CODE n, ADC_AX_ICODE.I1_CODE n, ADC_AX_VCODE.VA_CODE n, ADC_AX_VCODE.VB_CODE n, ADC_AX_VCODEC.VC_CODE n]

/-- What a zero sample of axis `n` may write besides what a report may write. -/
def zeroFields (n : ℕ) : List Fld :=
  [ADC_AX_ZCNT.ZSAMPLES n, Int.zSum n 0, Int.zSum n 1, Int.zCnt n, ADC_AX_IZERO.IZERO0 n, ADC_AX_IZERO.IZERO1 n, Int.cum 0x8B]

/-- No other operation of a sample writes a code; of the fields of the engine only the other words of the channels are stored between the codes. -/
theorem codes_apart : Fld.Apart reportFields codeFields ∧ (∀ n < 8, Fld.Apart (safeFields n) codeFields ∧ Fld.Apart (bankFields n) codeFields ∧
      Fld.Apart (edgeFields n) codeFields ∧ Fld.Apart (zeroFields n) codeFields) ∧
    ∀ k ∈ codeFields.map Fld.key, (ADC_AX_ICODE.I0_CODE 0).key ≤ k ∧ k ≤ (ADC_AX_VCODEC.VC_CODE 7).key := by decide +kernel

theorem report_apart_codes : Fld.Apart reportFields codeFields := codes_apart.1

theorem safe_apart_codes {n : ℕ} (hn : n < 8) : Fld.Apart (safeFields n) codeFields := (codes_apart.2.1 n hn).1

theorem bank_apart_codes {n : ℕ} (hn : n < 8) : Fld.Apart (bankFields n) codeFields := (codes_apart.2.1 n hn).2.1

theorem edge_apart_codes {n : ℕ} (hn : n < 8) : Fld.Apart (edgeFields n) codeFields := (codes_apart.2.1 n hn).2.2.1

theorem zero_apart_codes {n : ℕ} (hn : n < 8) : Fld.Apart (zeroFields n) codeFields := (codes_apart.2.1 n hn).2.2.2

/-- A field stored below or above all codes. -/
abbrev Fld.OffCodes (f : Fld) : Prop := f.key < (ADC_AX_ICODE.I0_CODE 0).key ∨ (ADC_AX_VCODEC.VC_CODE 7).key < f.key

theorem Fld.OffCodes.notMem {f : Fld} (h : f.OffCodes) : f.key ∉ codeFields.map Fld.key := fun hf => by
  have := codes_apart.2.2 _ hf
  omega

/-- Both memories and the codes of `L` stand in `K`. -/
def Lane.KeepsCodes (L K : Lane) : Prop := L.Holds codeFields K

namespace Lane.KeepsCodes

variable {O L : Lane} {n : ℕ}

theorem ite {c : Prop} [Decidable c] {K : Lane} (hL : O.KeepsCodes L) (hK : O.KeepsCodes K) : O.KeepsCodes (if c then L else K) :=
  Holds.ite hL hK

theorem iff {b : Bool} {g : Lane → Lane} (hg : ∀ K, O.KeepsCodes K → O.KeepsCodes (g K)) (h : O.KeepsCodes L) : O.KeepsCodes (L.iff b g) :=
  Holds.iff hg h

/-- A write to a field of the lane. -/
theorem wrOne {f : Fld} {v : ℕ} (hf : f.OffCodes) (h : O.KeepsCodes L) : O.KeepsCodes (L.wr f v) := Holds.wr hf.notMem h

/-- A write to a field of an axis. -/
theorem wr {F : ℕ → Fld} {v : ℕ} (hn : n < 8) (hF : ∀ n < 8, (F n).OffCodes) (h : O.KeepsCodes L) : O.KeepsCodes (L.wr (F n) v) :=
  Holds.wr (hF n hn).notMem h

/-- A write to one of several fields of an axis. -/
theorem wrPart {F : ℕ → ℕ → Fld} {i v : ℕ} (hn : n < 8) (hF : ∀ n < 8, (F n i).OffCodes) (h : O.KeepsCodes L) :
    O.KeepsCodes (L.wr (F n i) v) := Holds.wr (hF n hn).notMem h

theorem raise {src : ℕ} (hcum : (Int.cum src).OffCodes) (h : O.KeepsCodes L) : O.KeepsCodes (L.fieldRaise src) :=
  Holds.fieldRaise report_apart_codes hcum.notMem h

theorem swapBank {b : ℕ} (hn : n < 8) (h : O.KeepsCodes L) : O.KeepsCodes (L.swapBank n b) := Holds.swapBank (bank_apart_codes hn) h

theorem settleBank (hn : n < 8) (h : O.KeepsCodes L) : O.KeepsCodes (L.settleBank n) := Holds.settleBank (bank_apart_codes hn) h

theorem enterSafe {cause : ℕ} (hn : n < 8) (h : O.KeepsCodes L) : O.KeepsCodes (L.enterSafe n cause) :=
  Holds.enterSafe hn report_apart_codes (safe_apart_codes hn) h

theorem syncOverride (hn : n < 8) (h : O.KeepsCodes L) : O.KeepsCodes (L.syncOverride n) := Holds.syncOverride report_apart_codes (by omega) h

theorem flags {mask : ℕ} (hn : n < 8) (h : O.KeepsCodes L) : O.KeepsCodes (L.flags n mask) :=
  Holds.flags report_apart_codes (edge_apart_codes hn) h

theorem positionOf_lane (h : O.KeepsCodes L) : O.KeepsCodes (L.positionOf n).2 :=
  ite_keeps (fun p : ℤ × Lane => O.KeepsCodes p.2) (Holds.update h rfl rfl rfl) h

/-! ### The states of the Fox (R107 to R122) -/

theorem startFailed (hn : n < 8) (h : O.KeepsCodes L) : O.KeepsCodes (L.startFailed n) := .enterSafe hn (.raise (by decide) h)

theorem enterHall {theta : ℕ} (hn : n < 8) (h : O.KeepsCodes L) : O.KeepsCodes (L.enterHall n theta) :=
  .syncOverride hn (.wr hn (by decide) (.wr hn (by decide) (.wr hn (by decide) (.wr hn (by decide) (.wr hn (by decide) (.wr hn (by decide) h))))))

theorem showTrack {theta : ℕ} {omega : ℤ} (hn : n < 8) (h : O.KeepsCodes L) : O.KeepsCodes (L.showTrack n theta omega) :=
  .syncOverride hn (.wr hn (by decide) (.wr hn (by decide) (.wr hn (by decide) (.wr hn (by decide) (.wr hn (by decide) (.wr hn (by decide)
    (.wr hn (by decide) (.wr hn (by decide) (.wr hn (by decide) (.wr hn (by decide) h))))))))))

theorem enterTrack {theta : ℕ} {omega : ℤ} (hn : n < 8) (h : O.KeepsCodes L) : O.KeepsCodes (L.enterTrack n theta omega) :=
  .wr hn (by decide) (.wr hn (by decide) (.wr hn (by decide) (.showTrack hn h)))

theorem presetLoops {omega : ℤ} (hn : n < 8) (h : O.KeepsCodes L) : O.KeepsCodes (L.presetLoops n omega) :=
  .wr hn (by decide) (.wr hn (by decide) (.positionOf_lane (.wr hn (by decide) (.wr hn (by decide) (.wr hn (by decide) (.wr hn (by decide)
    (.wr hn (by decide) (.wr hn (by decide) h))))))))

theorem enterCentre (hn : n < 8) (h : O.KeepsCodes L) : O.KeepsCodes (L.enterCentre n) :=
  .presetLoops hn (.enterHall hn (.iff (fun _ hK => .wr hn (by decide) hK) h))

theorem enterAcquire {st : ℕ} (hn : n < 8) (h : O.KeepsCodes L) : O.KeepsCodes (L.enterAcquire n st) :=
  .syncOverride hn (.wrOne (by decide) (.wr hn (by decide) (.wr hn (by decide) (.wr hn (by decide) (.wr hn (by decide) (.wr hn (by decide)
    (.wr hn (by decide) (.wr hn (by decide) (.wr hn (by decide) (.wr hn (by decide) h))))))))))

theorem enterRest (hn : n < 8) (h : O.KeepsCodes L) : O.KeepsCodes (L.enterRest n) := by
  unfold Lane.enterRest
  exact .syncOverride hn (.wr hn (by decide) (.wr hn (by decide) (.wr hn (by decide) (.wr hn (by decide) (.wr hn (by decide) (.wr hn (by decide)
    (.wr hn (by decide) (.wr hn (by decide) h))))))))

theorem idleStep (hn : n < 8) (h : O.KeepsCodes L) : O.KeepsCodes (L.idleStep n) :=
  .ite h (.ite (.ite (.enterCentre hn h) (.startFailed hn h)) (.ite (.enterRest hn h) (.enterAcquire hn h)))

theorem acquireStep_lane {e : ℤ × ℤ} {quiet : Bool} (hn : n < 8) (h : O.KeepsCodes L) : O.KeepsCodes (L.acquireStep n e quiet).2.2.2 :=
  .wr hn (by decide) (.wr hn (by decide) (.wr hn (by decide) (.wr hn (by decide) (.wr hn (by decide) (.wr hn (by decide) h)))))

theorem locked {ang : ℕ} {omega : ℤ} (hn : n < 8) (h : O.KeepsCodes L) : O.KeepsCodes (L.locked n ang omega) :=
  .presetLoops hn (.enterTrack hn h)

theorem acquireSample {e : ℤ × ℤ} {quiet : Bool} (hn : n < 8) (h : O.KeepsCodes L) : O.KeepsCodes (L.acquireSample n e quiet) := by
  have hstep := h.acquireStep_lane (e := e) (quiet := quiet) hn
  exact .ite (.locked hn hstep) (.ite (.ite (.enterCentre hn hstep) (.ite (.enterRest hn hstep) (.startFailed hn hstep)))
    (.ite (.startFailed hn hstep) hstep))

theorem reacqSample {e : ℤ × ℤ} {quiet : Bool} (hn : n < 8) (h : O.KeepsCodes L) : O.KeepsCodes (L.reacqSample n e quiet) := by
  have hstep := h.acquireStep_lane (e := e) (quiet := quiet) hn
  exact .ite (.wr hn (by decide) (.locked hn hstep)) hstep

theorem safeSample {e : ℤ × ℤ} (hn : n < 8) (h : O.KeepsCodes L) : O.KeepsCodes (L.safeSample n e) := by
  have hstep := h.acquireStep_lane (e := e) (quiet := true) hn
  exact .ite h (.ite (.ite (.syncOverride hn (.wr hn (by decide) hstep)) hstep)
    (.ite (Holds.checkCluster report_apart_codes (by omega) (syncOverride hn (.wr hn (by decide) h))) h))

theorem rotorLost {omega u : ℤ} (hn : n < 8) (h : O.KeepsCodes L) : O.KeepsCodes (L.rotorLost n omega u) := by
  unfold Lane.rotorLost
  extract_lets t third K₁ K₂ K₃
  have h₁ : O.KeepsCodes K₁ := .wr hn (by decide) (.wr hn (by decide) (.wr hn (by decide) (.wr hn (by decide) h)))
  have h₃ : O.KeepsCodes K₃ := .raise (by decide) (.wr hn (by decide) (.wrPart hn (by decide) (.wrPart hn (by decide) h₁)))
  exact .ite (.enterSafe hn h₃) (.ite (.wr hn (by decide) (.enterHall hn h₃)) (.ite (.enterAcquire hn h₃) (.enterSafe hn h₃)))

end Lane.KeepsCodes

end Sys2Proof.Machine
end

-- ==== What the pipeline leaves ====
section
/-! The pipeline of a sample, the observer and the zero tracking keep the codes and the memories (R59 to R90, R112 to R126). -/

namespace Sys2Proof.Machine

namespace Lane.KeepsCodes

variable {O L : Lane} {n : ℕ}

/-! ### The observer (R112 to R126) -/

theorem observe_lane {theta : ℕ} {ia ib ic al be id iq : ℤ} (hn : n < 8) (h : O.KeepsCodes L) :
    O.KeepsCodes (L.observe n theta ia ib ic al be id iq).2.2 := .wr hn (by decide) (.wr hn (by decide) (.wr hn (by decide) h))

theorem pllStep {theta : ℕ} {err : ℤ} (hn : n < 8) (h : O.KeepsCodes L) : O.KeepsCodes (L.pllStep n theta err) :=
  .wr hn (by decide) (.wr hn (by decide) (.wr hn (by decide) h))

theorem trackCheck {r omega u : ℤ} (hn : n < 8) (h : O.KeepsCodes L) : O.KeepsCodes (L.trackCheck n r omega u) := by
  unfold Lane.trackCheck
  extract_lets cnt run K
  have hK : O.KeepsCodes K := .wr hn (by decide) (.wr hn (by decide) h)
  exact .ite (.rotorLost hn hK) (.ite (.enterHall hn hK) (.wr hn (by decide) hK))

theorem hallCheck {r : ℤ} (hn : n < 8) (h : O.KeepsCodes L) : O.KeepsCodes (L.hallCheck n r) := by
  unfold Lane.hallCheck
  extract_lets w K₁ fits run K₂
  have h₂ : O.KeepsCodes K₂ := .wr hn (by decide) (.wr hn (by decide) (.wr hn (by decide) h))
  exact .ite (.showTrack hn h₂) h₂

theorem weaken (hn : n < 8) (h : O.KeepsCodes L) : O.KeepsCodes (L.weaken n) :=
  .ite (.wr hn (by decide) (.wr hn (by decide) h)) (.iff (fun _ hJ => .raise (by decide) hJ) (.wr hn (by decide) (.wr hn (by decide) (.wr hn
    (by decide) h))))

theorem judgeKe {rho : ℤ} (hn : n < 8) (h : O.KeepsCodes L) : O.KeepsCodes (L.judgeKe n rho) := by
  unfold Lane.judgeKe
  extract_lets K₁ K₂ K₃
  have h₂ : O.KeepsCodes K₂ := .iff (fun _ hJ => .raise (by decide) (.wr hn (by decide) hJ)) (.wr hn (by decide) (.wr hn (by decide) h))
  have h₃ : O.KeepsCodes K₃ := .raise (by decide) (.wr hn (by decide) h₂)
  exact .ite (.ite (.enterSafe hn h₃) h₃) h₂

theorem missKe (hn : n < 8) (h : O.KeepsCodes L) : O.KeepsCodes (L.missKe n) :=
  .ite h (.ite (.wr hn (by decide) (.wr hn (by decide) (.wr hn (by decide) h))) (.wr hn (by decide) h))

theorem checkKe {id iq mq : ℤ} (hn : n < 8) (h : O.KeepsCodes L) : O.KeepsCodes (L.checkKe n id iq mq) := by
  unfold Lane.checkKe
  extract_lets w den num rho K
  have hK : O.KeepsCodes K := .wr hn (by decide) (.wr hn (by decide) (.wr hn (by decide) h))
  exact .ite h (.ite (.ite hK (.judgeKe hn (.wr hn (by decide) (.wr hn (by decide) hK)))) (.missKe hn h))

/-! ### The pipeline (R59 to R75, R83 to R86) -/

theorem writePhase {x : ℕ} {d : ℤ} {mid : Bool} {t : ℕ} (hn : n < 8) (hx : x < 3) (h : O.KeepsCodes L) :
    O.KeepsCodes (L.writePhase n x d mid t) := Holds.writePhase report_apart_codes (edge_apart_codes hn) hx h

theorem latchEdges {mid : Bool} {delay : ℕ} {d : ℤ × ℤ × ℤ} (hn : n < 8) (h : O.KeepsCodes L) : O.KeepsCodes (L.latchEdges n mid delay d) := by
  unfold Lane.latchEdges
  extract_lets t K bound
  have hK : O.KeepsCodes K := Holds.commitGroup (edge_apart_codes hn)
    (writePhase hn (by decide) (writePhase hn (by decide) (writePhase hn (by decide) h)))
  exact .ite (.raise (by decide) (.wr hn (by decide) hK)) hK

theorem applySetpoint {m : Setpoint} (hn : n < 8) (h : O.KeepsCodes L) : O.KeepsCodes (L.applySetpoint n m) := by
  unfold Lane.applySetpoint
  extract_lets K₁ K₂ K₃ K₄ K₅ K₆
  have h₃ : O.KeepsCodes K₃ := .wr hn (by decide) (.wr hn (by decide) (.wr hn (by decide) (.wr hn (by decide) (.wr hn (by decide) (.wr hn
    (by decide) (.wr hn (by decide) h))))))
  have h₄ : O.KeepsCodes K₄ := by
    unfold K₄
    split
    · exact h₃
    · exact .wr hn (by decide) h₃
  have h₅ : O.KeepsCodes K₅ := by
    unfold K₅
    split
    · exact h₄
    · exact .wr hn (by decide) h₄
  exact .ite h₅ (.swapBank hn (.iff (fun _ hJ => .wr hn (by decide) hJ) h₅))

theorem applyDue {t : ℕ} (hn : n < 8) (h : O.KeepsCodes L) : O.KeepsCodes (L.applyDue n t) :=
  Holds.update (Holds.foldl (fun _ _ _ hJ => applySetpoint hn hJ) h) rfl rfl rfl

theorem calender {target : ℤ} (hn : n < 8) (h : O.KeepsCodes L) : O.KeepsCodes (L.calender n target) :=
  .flags hn (.wr hn (by decide) (.wr hn (by decide) (.wr hn (by decide) h)))

theorem positionLoop {sp : ℤ} (hn : n < 8) (h : O.KeepsCodes L) : O.KeepsCodes (L.positionLoop n sp) :=
  .flags hn (.wr hn (by decide) (.wr hn (by decide) (.positionOf_lane h)))

theorem countLoops (hn : n < 8) (h : O.KeepsCodes L) : O.KeepsCodes (L.countLoops n) :=
  .ite (.wr hn (by decide) h) (.ite (.wr hn (by decide) (.wr hn (by decide) h)) (.wr hn (by decide) (.wr hn (by decide) h)))

theorem outerLoops {sp : ℤ} (hn : n < 8) (h : O.KeepsCodes L) : O.KeepsCodes (L.outerLoops n sp) := by
  unfold Lane.outerLoops
  extract_lets mode lim K₁ K₂ meas r K₃
  have h₂ : O.KeepsCodes K₂ := .calender hn (.ite (.wr hn (by decide) h) h)
  have h₃ : O.KeepsCodes K₃ := .flags hn (.wr hn (by decide) (.wr hn (by decide) h₂))
  exact .ite h (.ite (.positionLoop hn h₃) h₃)

theorem voltages_lane {id iq : ℤ} (hn : n < 8) (h : O.KeepsCodes L) : O.KeepsCodes (L.voltages n id iq).2.2 :=
  .flags hn (.wr hn (by decide) (.wr hn (by decide) h))

theorem modulate_lane {vd vq : ℤ} (hn : n < 8) (h : O.KeepsCodes L) : O.KeepsCodes (L.modulate n vd vq).2.2 :=
  .flags hn (.wr hn (by decide) (.wr hn (by decide) (.wr hn (by decide) (.wr hn (by decide) (.wr hn (by decide) (.wr hn (by decide) (.wr hn
    (by decide) (.wr hn (by decide) h))))))))

/-- The rail of an axis is one of four, and so is the mark of its loss current. -/
theorem lossSeen_offCodes (K : Lane) (n : ℕ) : (Int.lossSeen (K.railOf n)).OffCodes := by
  have hrail : K.railOf n < 4 := Nat.mod_lt _ (by decide)
  exact (by decide : ∀ r < 4, (Int.lossSeen r).OffCodes) _ hrail

theorem stage5 {sp acc : ℤ} (hn : n < 8) (h : O.KeepsCodes L) : O.KeepsCodes (L.stage5 n sp acc) := by
  unfold Lane.stage5
  extract_lets mode tCmd aCmd K₁ r K₂ K₃ inj first K₄
  have h₂ : O.KeepsCodes K₂ := .wr hn (by decide) (.wr hn (by decide) (.wr hn (by decide) (.wr hn (by decide) (.weaken hn h))))
  have h₄ : O.KeepsCodes K₄ := .wrOne (by decide) (.flags hn (.wrOne (by decide) h₂))
  exact .iff (fun K hK => .raise (by decide) (.wrOne (lossSeen_offCodes K n) hK)) h₄

theorem runSample {mid : Bool} {delay i0 i1 : ℕ} {u : ℤ} (hn : n < 8) (h : O.KeepsCodes L) :
    O.KeepsCodes (L.runSample n mid delay i0 i1 u) := by
  unfold Lane.runSample
  extract_lets hall omega theta K₁ ph p id iq K₂ ob K₃ v m sp K₄ K₅ K₆ ab d K₇ K₈ K₉ K₁₀ K₁₁
  have h₃ : O.KeepsCodes K₃ := .observe_lane hn (.flags hn (.wr hn (by decide) (.wr hn (by decide) (.iff (fun _ hJ => .wr hn (by decide) (.wr hn
    (by decide) hJ)) h))))
  have h₄ : O.KeepsCodes K₄ := .wr hn (by decide) (.wr hn (by decide) (.modulate_lane hn (.voltages_lane hn h₃)))
  have h₇ : O.KeepsCodes K₇ := .flags hn (.wr hn (by decide) (.wr hn (by decide) (.stage5 hn (.ite h₄ (.wr hn (by decide) h₄)))))
  have h₈ : O.KeepsCodes K₈ := .wrPart hn (by decide) (.wrPart hn (by decide) (.wrPart hn (by decide) h₇))
  have h₉ : O.KeepsCodes K₉ := .wrPart hn (by decide) (.wrPart hn (by decide) (.wrPart hn (by decide) h₈))
  have h₁₁ : O.KeepsCodes K₁₁ := .checkKe hn (.outerLoops hn (.latchEdges hn h₉))
  exact .ite (.rotorLost hn (.missKe hn h)) (.ite h₁₁ (.ite (.hallCheck hn h₁₁) (.trackCheck hn (.pllStep hn h₁₁))))

theorem restCurrents {ia ib ic : ℤ} (hn : n < 8) (h : O.KeepsCodes L) : O.KeepsCodes (L.restCurrents n ia ib ic) := by
  unfold Lane.restCurrents
  extract_lets K
  have hK : O.KeepsCodes K := .wrPart hn (by decide) (.wrPart hn (by decide) (.wrPart hn (by decide) h))
  exact .ite hK (.wrPart hn (by decide) (.wrPart hn (by decide) (.wrPart hn (by decide) hK)))

end Lane.KeepsCodes

/-! ### The zero tracking (R90) -/

namespace Lane.Holds

variable {O L : Lane} {fs : List Fld} {n : ℕ}

theorem moveZero {c : ℕ} (hc : c < 2) (hfs : Fld.Apart reportFields fs) (hzero : Fld.Apart (zeroFields n) fs) (h : O.Holds fs L) :
    O.Holds fs (L.moveZero n c) := by
  have hcode : (izero n c).key ∉ fs.map Fld.key :=
    ite_keeps (fun f : Fld => f.key ∉ fs.map Fld.key) (hzero _ (by simp [zeroFields])) (hzero _ (by simp [zeroFields]))
  have hsum : (Int.zSum n c).key ∉ fs.map Fld.key := by
    interval_cases c
    · exact hzero _ (by simp [zeroFields])
    · exact hzero _ (by simp [zeroFields])
  unfold Lane.moveZero
  extract_lets mean trim lim z goal K
  have hK : O.Holds fs K := .wr hsum (.wr hcode h)
  exact .ite (.fieldRaise hfs (hzero _ (by simp [zeroFields])) hK) hK

theorem trackZero {i0 i1 : ℕ} (hfs : Fld.Apart reportFields fs) (hzero : Fld.Apart (zeroFields n) fs) (h : O.Holds fs L) :
    O.Holds fs (L.trackZero n i0 i1) := by
  have hcount : (Int.zCnt n).key ∉ fs.map Fld.key := hzero _ (by simp [zeroFields])
  unfold Lane.trackZero
  extract_lets K₁ K₂
  have h₂ : O.Holds fs K₂ := .wr (hzero _ (by simp [zeroFields])) (.wr (hzero _ (by simp [zeroFields])) (.wr (hzero _ (by simp [zeroFields])) h))
  exact .ite h (.ite (.moveZero (by decide) hfs hzero (.moveZero (by decide) hfs hzero (.wr hcount h₂))) (.wr hcount h₂))

end Lane.Holds

/-- What the rail voltage of an axis is worked out from (R69, R196). -/
def railFields : List Fld := DCL_AXIS_MAP.RAIL_OF :: (List.range 4).map Int.railCode

theorem codes_apart_sample : Fld.Apart codeFields railFields ∧ ∀ n < 8, Fld.Apart codeFields [Int.udcLast n] := by decide +kernel

/-- The rail voltage of an axis rests on these fields alone. -/
theorem Lane.Holds.udc {O L : Lane} (h : O.Holds railFields L) (n : ℕ) : L.udc n = O.udc n := by
  have hrail : L.railOf n = O.railOf n := congrArg (slice (2 * n) 2) (h.rd _ List.mem_cons_self)
  have hlt : O.railOf n < 4 := Nat.mod_lt _ (by decide)
  rw [Lane.udc, Lane.udc, hrail, h.rd _ (List.mem_cons_of_mem _ (List.mem_map_of_mem (List.mem_range.2 hlt)))]

/-! ### CURRENT_SAMPLE -/

namespace Lane

variable {L O K : Lane} {n i0 i1 va vb vc : ℕ}

/-- The codes of a sample stored (R60, R88). -/
def storeCodes (L : Lane) (n i0 i1 va vb vc : ℕ) : Lane :=
  ((((L.wr (ADC_AX_ICODE.I0_CODE n) (min i0 16383)).wr (ADC_AX_ICODE.I1_CODE n) (min i1 16383)).wr (ADC_AX_VCODE.VA_CODE n) (min va 16383)).wr
    (ADC_AX_VCODE.VB_CODE n) (min vb 16383)).wr (ADC_AX_VCODEC.VC_CODE n) (min vc 16383)

theorem storeCodes_holds {fs : List Fld} (hn : n < 8) (hfs : Fld.Apart codeFields fs) : L.Holds fs (L.storeCodes n i0 i1 va vb vc) := by
  have hcode : ∀ f ∈ [ADC_AX_ICODE.I0_CODE n, ADC_AX_ICODE.I1_CODE n, ADC_AX_VCODE.VA_CODE n, ADC_AX_VCODE.VB_CODE n, ADC_AX_VCODEC.VC_CODE n],
      f.key ∉ fs.map Fld.key := fun f hf => hfs f (List.mem_flatMap.2 ⟨n, List.mem_range.2 hn, hf⟩)
  simp only [List.forall_mem_cons] at hcode
  obtain ⟨hi0, hi1, hva, hvb, hvc, -⟩ := hcode
  exact .wr hvc (.wr hvb (.wr hva (.wr hi1 (.wr hi0 (.refl L)))))

/-- The lane on which the Fox takes a sample: the codes stored, a zero sample tracked and the rail voltage kept (R90, R116). -/
def sampled (L : Lane) (n i0 i1 va vb vc : ℕ) : Lane :=
  ((L.storeCodes n i0 i1 va vb vc).trackZero n (min i0 16383) (min i1 16383)).wrI (Int.udcLast n) ((L.storeCodes n i0 i1 va vb vc).udc n)

theorem sampled_keepsCodes (hn : n < 8) : (L.storeCodes n i0 i1 va vb vc).KeepsCodes (L.sampled n i0 i1 va vb vc) :=
  .wr hn (by decide) (Holds.trackZero report_apart_codes (zero_apart_codes hn) (.refl _))

/-- What a running axis takes on before the sample: set-points that are due, a waiting bank swap, the counts of the outer loops (R78, R83, R84). -/
def takenOn (L : Lane) (n : ℕ) : Lane := ((L.applyDue n L.ftb).settleBank n).countLoops n

theorem takenOn_keepsCodes (hn : n < 8) (h : O.KeepsCodes L) : O.KeepsCodes (L.takenOn n) :=
  .countLoops hn (.settleBank hn (.applyDue hn h))

/-- What CURRENT_SAMPLE leaves: the codes it stores, and the lane after the pipeline for a running axis in TRACK or HALL (R59, R107). -/
structure SampleTaken (L : Lane) (n : ℕ) (mid : Bool) (delay i0 i1 va vb vc : ℕ) (K : Lane) : Prop where
  keeps : (L.storeCodes n i0 i1 va vb vc).KeepsCodes K
  runs : (L.sampled n i0 i1 va vb vc).on (CLE_AX_STATUS.RUNNING n) = true →
    ((L.sampled n i0 i1 va vb vc).takenOn n).rd (CLE_AX_FOX_STATUS.STATE n) = 3 ∨
      ((L.sampled n i0 i1 va vb vc).takenOn n).rd (CLE_AX_FOX_STATUS.STATE n) = 4 →
    K = ((L.sampled n i0 i1 va vb vc).takenOn n).runSample n mid delay (min i0 16383) (min i1 16383)
      ((L.storeCodes n i0 i1 va vb vc).rdI (Int.udcLast n))

theorem currentSample_taken {s : State} {l : LaneId} {ax : Fin 8} {mid : Bool} {delay : ℕ} (hL : s.lane l = L)
    (hrun : L.on (PWM_GROUP_CTL.RUN ax) = true) (hmid : mid = true → L.on (CLE_AX_CTL.UPDATE ax) = true)
    (hcle : L.on (FCK_DOM_CTL.RUN_EN 0) = true) (hadc : L.on (FCK_DOM_CTL.RUN_EN 2) = true) :
    ∃ K, exec (.currentSample l ax mid delay i0 i1 va vb vc) s = .next (s.onLane l fun _ => K) ∧
      L.SampleTaken ax mid delay i0 i1 va vb vc K := by
  subst hL
  have hopen : ¬ (! (s.lane l).on (FCK_DOM_CTL.RUN_EN 0) || ! (s.lane l).on (FCK_DOM_CTL.RUN_EN 2) || ! (s.lane l).on (PWM_GROUP_CTL.RUN ax) ||
      (mid && ! (s.lane l).on (CLE_AX_CTL.UPDATE ax))) = true := by
    cases mid with
    | false => simp [hcle, hadc, hrun]
    | true => simp [hcle, hadc, hrun, hmid rfl]
  refine completes_of_exec rfl ?_
  rw [if_neg hopen]
  extract_lets c0 c1 K₀ K₁ u K₂ K₃ e ph z quiet st K
  have h₂ : ((s.lane l).storeCodes ax i0 i1 va vb vc).KeepsCodes K₂ := sampled_keepsCodes ax.isLt
  have hkept : ((s.lane l).storeCodes ax i0 i1 va vb vc).KeepsCodes K :=
    .iff (fun _ hJ => .restCurrents ax.isLt (.missKe ax.isLt hJ)) (.ite (takenOn_keepsCodes ax.isLt h₂) h₂)
  have hK₃ : ((s.lane l).sampled ax i0 i1 va vb vc).on (CLE_AX_STATUS.RUNNING ax) = true →
      K₃ = ((s.lane l).sampled ax i0 i1 va vb vc).takenOn ax := fun h => if_pos h
  have hK : st = 3 ∨ st = 4 → K = K₃ := fun h => if_neg fun hb => by
    have hother := of_decide_eq_true hb
    omega
  have hst : st = K₃.rd (CLE_AX_FOX_STATUS.STATE ax) := rfl
  have hruns : ((s.lane l).sampled ax i0 i1 va vb vc).on (CLE_AX_STATUS.RUNNING ax) = true →
      (((s.lane l).sampled ax i0 i1 va vb vc).takenOn ax).rd (CLE_AX_FOX_STATUS.STATE ax) = 3 ∨
        (((s.lane l).sampled ax i0 i1 va vb vc).takenOn ax).rd (CLE_AX_FOX_STATUS.STATE ax) = 4 →
      (st = 3 ∨ st = 4) ∧ K = ((s.lane l).sampled ax i0 i1 va vb vc).takenOn ax := fun hr ht => by
    have htracks : st = 3 ∨ st = 4 := by rwa [hst, hK₃ hr]
    exact ⟨htracks, (hK htracks).trans (hK₃ hr)⟩
  clear hK hst hK₃ h₂
  clear_value K st quiet e
  split
  · exact ⟨.idleStep ax.isLt hkept, fun hr ht => absurd (hruns hr ht).1 (by decide)⟩
  · exact ⟨.acquireSample ax.isLt hkept, fun hr ht => absurd (hruns hr ht).1 (by decide)⟩
  · exact ⟨.runSample ax.isLt hkept, fun hr ht => congrArg (fun J : Lane => J.runSample ax mid delay c0 c1 u) (hruns hr ht).2⟩
  · exact ⟨.runSample ax.isLt hkept, fun hr ht => congrArg (fun J : Lane => J.runSample ax mid delay c0 c1 u) (hruns hr ht).2⟩
  · exact ⟨.reacqSample ax.isLt hkept, fun hr ht => absurd (hruns hr ht).1 (by decide)⟩
  · exact ⟨.safeSample ax.isLt hkept, fun hr ht => absurd (hruns hr ht).1 (by decide)⟩
  · next _ _ hthree hfour _ _ => exact ⟨hkept, fun hr ht => absurd (hruns hr ht).1 (not_or.2 ⟨hthree, hfour⟩)⟩

/-- The codes that a sample stores are read back, clamped to 14 bits (R60, R88). -/
theorem storeCodes_rd (L : Lane) (hn : n < 8) (i0 i1 va vb vc : ℕ) : (L.storeCodes n i0 i1 va vb vc).rd (ADC_AX_ICODE.I0_CODE n) = min i0 16383 ∧
    (L.storeCodes n i0 i1 va vb vc).rd (ADC_AX_ICODE.I1_CODE n) = min i1 16383 ∧
    (L.storeCodes n i0 i1 va vb vc).rd (ADC_AX_VCODE.VA_CODE n) = min va 16383 ∧
    (L.storeCodes n i0 i1 va vb vc).rd (ADC_AX_VCODE.VB_CODE n) = min vb 16383 ∧
    (L.storeCodes n i0 i1 va vb vc).rd (ADC_AX_VCODEC.VC_CODE n) = min vc 16383 := by
  have distinct : ∀ n < 8, [ADC_AX_ICODE.I0_CODE n, ADC_AX_ICODE.I1_CODE n, ADC_AX_VCODE.VA_CODE n, ADC_AX_VCODE.VB_CODE n,
      ADC_AX_VCODEC.VC_CODE n].Pairwise fun f g => f.key ≠ g.key := by decide
  have hkeys := distinct n hn
  have fits (x : ℕ) : min x 16383 % 2 ^ 14 = min x 16383 := Nat.mod_eq_of_lt (by omega)
  simp only [List.pairwise_cons, List.forall_mem_cons] at hkeys
  obtain ⟨⟨h01, h0a, h0b, h0c, -⟩, ⟨h1a, h1b, h1c, -⟩, ⟨hab, hac, -⟩, ⟨hbc, -⟩, -⟩ := hkeys
  refine ⟨?_, ?_, ?_, ?_, ?_⟩
  · rw [storeCodes, rd_wr_ne _ _ _ _ h0c, rd_wr_ne _ _ _ _ h0b, rd_wr_ne _ _ _ _ h0a, rd_wr_ne _ _ _ _ h01, rd_wr_same]
    exact fits i0
  · rw [storeCodes, rd_wr_ne _ _ _ _ h1c, rd_wr_ne _ _ _ _ h1b, rd_wr_ne _ _ _ _ h1a, rd_wr_same]
    exact fits i1
  · rw [storeCodes, rd_wr_ne _ _ _ _ hac, rd_wr_ne _ _ _ _ hab, rd_wr_same]
    exact fits va
  · rw [storeCodes, rd_wr_ne _ _ _ _ hbc, rd_wr_same]
    exact fits vb
  · rw [storeCodes, rd_wr_same]
    exact fits vc

end Lane

/-- Settles O16: the Fox and the pipeline keep the codes that the sample stores, and in TRACK and HALL the sample is the pipeline. -/
theorem currentSampleRunsThePipeline : Obligations.CurrentSampleRunsThePipeline := by
  unfold Obligations.CurrentSampleRunsThePipeline
  refine ⟨?_, ?_⟩
  · rintro s l ax mid delay i0 i1 va vb vc _ rfl hno
    refine congrArg Host.Outcome.next (onLane_congr s l (if_pos ?_))
    rcases hno with hrun | ⟨rfl, hupdate⟩ | hcle | hadc
    · simp [hrun]
    · simp [hupdate]
    · simp [hcle]
    · simp [hadc]
  · rintro s l ax mid delay i0 i1 va vb vc L J M hL hrun hmid hcle hadc hJ hM
    obtain ⟨K, hexec, hkeeps, hruns⟩ := Lane.currentSample_taken (i0 := i0) (i1 := i1) (va := va) (vb := vb) (vc := vc) (delay := delay)
      hL hrun hmid hcle hadc
    obtain ⟨hrails, hlast⟩ := codes_apart_sample
    have hstored : L.Holds railFields (L.storeCodes ax i0 i1 va vb vc) := Lane.storeCodes_holds ax.isLt hrails
    have hu : (L.storeCodes ax i0 i1 va vb vc).rdI (Int.udcLast ax) = L.rdI (Int.udcLast ax) :=
      (Lane.storeCodes_holds ax.isLt (hlast ax ax.isLt)).rdI List.mem_cons_self
    have hsampled : J = L.sampled ax i0 i1 va vb vc := by rw [hJ, Lane.sampled, hstored.udc, Lane.storeCodes]
    have htaken : M = (L.sampled ax i0 i1 va vb vc).takenOn ax := by rw [hM, hsampled, Lane.takenOn]
    obtain ⟨hi0, hi1, hva, hvb, hvc⟩ := L.storeCodes_rd ax.isLt i0 i1 va vb vc
    have hcode : ∀ f ∈ [ADC_AX_ICODE.I0_CODE ax, ADC_AX_ICODE.I1_CODE ax, ADC_AX_VCODE.VA_CODE ax, ADC_AX_VCODE.VB_CODE ax,
        ADC_AX_VCODEC.VC_CODE ax], K.rd f = (L.storeCodes ax i0 i1 va vb vc).rd f :=
      fun f hf => Lane.Holds.rd hkeeps f (List.mem_flatMap.2 ⟨ax, List.mem_range.2 ax.isLt, hf⟩)
    simp only [List.forall_mem_cons] at hcode
    obtain ⟨hi0', hi1', hva', hvb', hvc', -⟩ := hcode
    refine ⟨K, hexec, (Lane.Holds.mem hkeeps).trans hstored.mem, (Lane.Holds.nor hkeeps).trans hstored.nor, hi0'.trans hi0, hi1'.trans hi1,
      hva'.trans hva, hvb'.trans hvb, hvc'.trans hvc, ?_⟩
    rw [hsampled, htaken, ← hu]
    exact hruns

end Sys2Proof.Machine
end

-- ==== Items from the field die ====
section
/-! What the host takes of the field die's ordered channel stays through all that a status or event item sets off (R119, R302, R306, R374). -/

namespace Sys2Proof.Machine

/-- The fields that a status or event item shows in the host: the credits on their way back, the events lost, the axes marked absent, the
validity of SYNC, the class G latch and the speeds (R119, R302, R306). -/
def itemFields : List Fld :=
  [Int.upBack, COU_EVQ_LOST.EVQ_LOST, Int.axisAbsent, COU_STATUS.SYNC_VALID, PSC_STATUS.G_LATCHED] ++ (List.range 8).map Int.axisSpeed

/-- The shown oldest event with the number held, and what the event to the pairs writes (R314, R374). -/
def evqFields : List Fld := [COU_EVQ.KIND, COU_EVQ.AXIS, COU_EVQ.INDEX, COU_EVQ.CAUSE, COU_EVQ.LEVEL] ++ eventFields

/-- A field in a range of keys that holds none of the listed ones. -/
theorem Fld.notMem_of_range {fs : List Fld} {f : Fld} {lo hi : ℕ} (hout : ∀ k ∈ fs.map Fld.key, k < lo ∨ hi ≤ k) (hlo : lo ≤ f.key)
    (hhi : f.key < hi) : f.key ∉ fs.map Fld.key := fun hm => by
  have := hout _ hm
  omega

/-- The quantities of the 4,096 operations lie apart from what an item shows. -/
theorem opFields_apart_items {n : ℕ} (hn : n < 4096) : Fld.Apart [Int.opTokens n, Int.opFlag n, Int.opTrigAt n, Int.opInst n] itemFields := by
  have hout : ∀ k ∈ itemFields.map Fld.key, k < 0xf0003380 * 32 ∨ 0xf0017380 * 32 ≤ k := by decide
  simp only [Fld.Apart, List.forall_mem_cons, List.not_mem_nil, false_imp_iff, implies_true, and_true]
  refine ⟨?_, ?_, ?_, ?_⟩ <;> refine Fld.notMem_of_range hout ?_ ?_ <;>
    simp only [Fld.key, Int.opTokens, Int.opFlag, Int.opTrigAt, Int.opInst, Home.code] <;> omega

/-- The flow of an operation is bound to a target apart from what an item shows. -/
theorem bound_apart_items {f : ℕ} (hf : f < 256) : (SCH_FLOW.BOUND f).key ∉ itemFields.map Fld.key := by
  have hout : ∀ k ∈ itemFields.map Fld.key, k < 0x40040800 * 32 ∨ 0x40040C08 * 32 ≤ k := by decide
  refine Fld.notMem_of_range hout ?_ ?_ <;> simp only [Fld.key, SCH_FLOW.BOUND, Home.code] <;> omega

namespace Lane

/-- `K` has the memories of `O`, its ordered channel to the host and its event queue, and reads as `O` in the fields `fs`. -/
structure HoldsItems (fs : List Fld) (O K : Lane) : Prop extends Holds fs O K where
  up : K.up = O.up
  evq : K.evq = O.evq

namespace HoldsItems

variable {fs gs : List Fld} {O L K : Lane}

theorem refl (L : Lane) : L.HoldsItems fs L := ⟨.refl L, rfl, rfl⟩

theorem trans (h : O.HoldsItems fs L) (h' : L.HoldsItems fs K) : O.HoldsItems fs K :=
  ⟨h.toHolds.trans h'.toHolds, h'.up.trans h.up, h'.evq.trans h.evq⟩

theorem wr {f : Fld} {v : ℕ} (hf : f.key ∉ fs.map Fld.key) (h : O.HoldsItems fs L) : O.HoldsItems fs (L.wr f v) :=
  ⟨.wr hf h.toHolds, h.up, h.evq⟩

/-- A lane whose other parts changed. -/
theorem update (h : O.HoldsItems fs L) (hregs : K.regs = L.regs) (hmem : K.mem = L.mem) (hnor : K.nor = L.nor) (hup : K.up = L.up)
    (hevq : K.evq = L.evq) : O.HoldsItems fs K :=
  ⟨.update h.toHolds hregs hmem hnor, hup.trans h.up, hevq.trans h.evq⟩

theorem ite {c : Prop} [Decidable c] (hL : O.HoldsItems fs L) (hK : O.HoldsItems fs K) : O.HoldsItems fs (if c then L else K) :=
  ite_keeps _ hL hK

theorem iff {b : Bool} {g : Lane → Lane} (hg : ∀ K, O.HoldsItems fs K → O.HoldsItems fs (g K)) (h : O.HoldsItems fs L) :
    O.HoldsItems fs (L.iff b g) := iff_keeps _ hg h

theorem forN {n : ℕ} {g : ℕ → Lane → Lane} (hg : ∀ i < n, ∀ K, O.HoldsItems fs K → O.HoldsItems fs (g i K)) (h : O.HoldsItems fs L) :
    O.HoldsItems fs (L.forN n g) := forN_keeps _ hg h

theorem of_onlyFields (h : L.onlyFields K gs) (hfs : Fld.Apart fs gs) : L.HoldsItems fs K := by
  have hholds := Holds.of_onlyFields h hfs
  obtain ⟨r, rfl, -⟩ := h
  exact ⟨hholds, rfl, rfl⟩

/-! Events, reports and messages -/

theorem event {ev : ℕ} (h : O.HoldsItems itemFields L) : O.HoldsItems itemFields (L.event ev) :=
  .forN (fun _ hp K hK => hK.trans (.of_onlyFields (K.eventTo_onlyFields ev hp) (by decide))) h

theorem raise {src : ℕ} (h : O.HoldsItems fs L) : O.HoldsItems fs (L.raise src) := .update h rfl rfl rfl rfl rfl

theorem sendMbx {m : MbxUp} (h : O.HoldsItems itemFields L) : O.HoldsItems itemFields (L.sendMbx m) :=
  .ite (.update h rfl rfl rfl rfl rfl) (.wr (by decide) h)

theorem toField {i : DownItem} (h : O.HoldsItems itemFields L) : O.HoldsItems itemFields (L.toField i) :=
  .ite (.wr (by decide) (.wr (by decide) (.update h rfl rfl rfl rfl rfl))) h

theorem refreshSa (h : O.HoldsItems itemFields L) : O.HoldsItems itemFields L.refreshSa := .ite (.toField h) h

theorem setFelt {p : ℕ} {ms : List FeltMsg} (h : O.HoldsItems fs L) : O.HoldsItems fs (L.setFelt p ms) :=
  .ite (.update h rfl rfl rfl rfl rfl) (.update h rfl rfl rfl rfl rfl)

theorem setFeltWait {p : ℕ} {ms : List FeltMsg} (h : O.HoldsItems fs L) : O.HoldsItems fs (L.setFeltWait p ms) :=
  .ite (.update h rfl rfl rfl rfl rfl) (.update h rfl rfl rfl rfl rfl)

theorem sendFelt {p : ℕ} {m : FeltMsg} (hp : p < 2) (h : O.HoldsItems itemFields L) : O.HoldsItems itemFields (L.sendFelt p m) := by
  have apart : ∀ p < 2, Fld.Apart [FLT_P_STATUS.CREDITS p, FLT_P_STATUS.OUTSTANDING p] itemFields := by decide
  exact .ite (.wr (apart p hp _ (by simp)) (.wr (apart p hp _ (by simp)) (.setFeltWait (.setFelt (.setFeltWait h))))) h

theorem ownContReq {c : ℕ} (h : O.HoldsItems itemFields L) : O.HoldsItems itemFields (L.ownContReq c) := by
  unfold Lane.ownContReq
  extract_lets m K
  have hK : O.HoldsItems itemFields K := .wr (by decide) h
  exact .ite h (.ite (.refreshSa hK) (.sendFelt (by decide) (.sendFelt (by decide) hK)))

theorem updateFails {code : Option ℕ} (h : O.HoldsItems itemFields L) : O.HoldsItems itemFields (L.updateFails code) := by
  unfold Lane.updateFails
  refine .ite h ?_
  extract_lets K₀ K₁ K₂
  have h₁ : O.HoldsItems itemFields K₁ := .raise (.event (.wr (by decide) (.wr (by decide) (.update h rfl rfl rfl rfl rfl))))
  clear_value K₁
  cases code with
  | none => exact .ite h₁ (.sendMbx (.update h₁ rfl rfl rfl rfl rfl))
  | some c =>
    have hcode : O.HoldsItems itemFields (K₁.wr MBX_STATUS.UPD_CODE c) := .wr (by decide) h₁
    exact .ite hcode (.sendMbx hcode)

/-- The conditions of standstill, looked at anew, leave what an item shows (R273). -/
theorem evalStill (h : O.HoldsItems itemFields L) : O.HoldsItems itemFields L.evalStill :=
  .ite (.iff (fun _ hK => .wr (by decide) (.wr (by decide) hK)) h)
    (.iff (fun _ hK => .wr (by decide) hK) (.updateFails (.wr (by decide) (.wr (by decide) h))))

/-! The scheduler -/

theorem syncSched (h : O.HoldsItems itemFields L) : O.HoldsItems itemFields L.syncSched := by
  have targets : ∀ t < 5, Fld.Apart [SCH_T_STATUS.QDEPTH t, SCH_T_STATUS.SLOW t, SCH_T_STATUS.EXEC t, SCH_T_STATUS.EXEC_IDX t] itemFields := by
    decide
  have classes : ∀ k < 16, (SCH_CL_STAT.READY k).key ∉ itemFields.map Fld.key := by decide
  unfold Lane.syncSched
  refine .forN (fun t ht _ hJ => ?_) (.forN (fun k hk _ hJ => .wr (classes k hk) hJ) (.wr (by decide) h))
  have apart := targets t ht
  extract_lets J₁ slow J₂ J₃
  have h₃ : O.HoldsItems itemFields J₃ := .wr (apart _ (by simp)) (.iff (fun _ hJ' => .raise hJ') (.wr (apart _ (by simp)) hJ))
  clear_value J₃
  split
  · exact .wr (apart _ (by simp)) (.wr (apart _ (by simp)) h₃)
  · exact .wr (apart _ (by simp)) (.wr (apart _ (by simp)) h₃)

theorem judgeReady {n : ℕ} (hn : n < 4096) (h : O.HoldsItems itemFields L) : O.HoldsItems itemFields (L.judgeReady n) := by
  have apart := opFields_apart_items hn
  unfold Lane.judgeReady
  extract_lets need met trig K o shadows
  have hK : O.HoldsItems itemFields K := .wr (apart _ (by simp)) (.wr (apart _ (by simp)) (.wr (apart _ (by simp)) h))
  have hhome : O.HoldsItems itemFields (K.flowHome n) := .ite (.wr (bound_apart_items (K.opFlow_lt n)) hK) hK
  refine .ite h (.ite (.raise (.wr (by decide) (.wr (apart _ (by simp)) (.wr (apart _ (by simp)) h)))) ?_)
  exact .syncSched (.update hhome rfl rfl rfl rfl rfl)

theorem triggerAll {kind : ℕ} {cond : ℕ → Bool} (h : O.HoldsItems itemFields L) : O.HoldsItems itemFields (L.triggerAll kind cond) :=
  .ite (.forN (fun _ hn _ hK => .iff (fun _ hJ => .judgeReady hn (.wr (opFields_apart_items hn _ (by simp))
    (.wr (opFields_apart_items hn _ (by simp)) hJ))) hK) h) h

end HoldsItems

variable {L : Lane}

/-! ### The event queue -/

theorem syncEvq_onlyFields (L : Lane) : L.onlyFields L.syncEvq evqFields := by
  refine onlyFields_trans ?_ (onlyFields_mono (level_onlyFields _ _ _ _) (List.subset_append_right _ _))
  exact onlyFields_wr (onlyFields_wr (onlyFields_wr (onlyFields_wr (onlyFields_wr (L.onlyFields_refl _) _ _ (by decide)) _ _ (by decide))
    _ _ (by decide)) _ _ (by decide)) _ _ (by decide)

/-- An event enters the queue, or is lost and counted when 32 are held (R374). -/
def queueEvent (L : Lane) (e : EvItem) : Lane :=
  if L.evq.length < 32 then { L with evq := L.evq ++ [e] }.syncEvq else L.inc COU_EVQ_LOST.EVQ_LOST

/-- The word of COU_EVQ: the oldest event and the number held, or 0 of an empty queue (R374). -/
def evqWord (L : Lane) : ℕ :=
  packWord [((L.evq.headD ⟨0, 0, 0, 0⟩).kind, 0), ((L.evq.headD ⟨0, 0, 0, 0⟩).axis, 4), ((L.evq.headD ⟨0, 0, 0, 0⟩).index, 8),
    ((L.evq.headD ⟨0, 0, 0, 0⟩).cause, 16), (L.evq.length, 24)]

/-- A read by a pair removes the oldest event and returns the word that showed it. -/
theorem evqRead_reads {s : State} {l : LaneId} {p : Fin 4} (hL : s.lane l = L) (hheld : L.pairHeld p = false) :
    ∃ K, exec (.evqRead l p) s = .next (s.onLane l (fun _ => K)) ∧ K.evq = L.evq.drop 1 ∧ K.mem = L.mem ∧ K.nor = L.nor ∧
      K.rd (Int.readData p) = L.evqWord % 2 ^ 32 := by
  subst hL
  have hshown : { s.lane l with evq := (s.lane l).evq.drop 1 }.HoldsItems []
      (({ s.lane l with evq := (s.lane l).evq.drop 1 }.syncEvq).wr (Int.readData p) (s.lane l).evqWord) :=
    .wr List.not_mem_nil (.of_onlyFields (syncEvq_onlyFields _) (by simp [Fld.Apart]))
  refine ⟨_, ?_, hshown.evq, hshown.mem, hshown.nor, rd_wr_same ..⟩
  exact congrArg Host.Outcome.next (onLane_congr s l (if_neg (by simp [hheld])))

/-! ### An event item -/

theorem takeUp_up {i : UpItem} {r : List UpItem} (h : L.up = i :: r) : L.takeUp.up = r := congrArg (List.drop 1) h

theorem takeUp_rd (L : Lane) : L.takeUp.rd Int.upBack = (L.rd Int.upBack + 1) % 2 ^ Int.upBack.width := rd_wr_same ..

theorem takeUp_rd_ne (L : Lane) {f : Fld} (hf : f.key ≠ Int.upBack.key) : L.takeUp.rd f = L.rd f := rd_wr_ne _ _ _ _ hf

/-- An entry to SAFE with a cause marks its axis absent (R119). -/
def markAbsent (L : Lane) (kd ax cs : ℕ) : Lane := L.iff (kd = 3 && cs ≠ 0) fun J => J.putBit Int.axisAbsent ax true

theorem markAbsent_marks {kd ax cs : ℕ} (hkd : kd = 3) (hcs : cs ≠ 0) (hax : ax < 8) :
    (L.markAbsent kd ax cs).bitOf Int.axisAbsent ax = true := by
  have hmark : L.markAbsent kd ax cs = L.putBit Int.axisAbsent ax true := if_pos (by simp [hkd, hcs])
  rw [hmark]
  exact L.bitOf_putBit_true hax

/-- What the host takes of an event item before anything that the event sets off. -/
def eventTaken (L : Lane) (kd ax ix cs : ℕ) : Lane := (L.takeUp.queueEvent ⟨kd, ax, ix, cs⟩).markAbsent kd ax cs

/-- The mark of an absent axis leaves the rest of what is taken. -/
theorem markAbsent_holdsItems {O : Lane} (kd ax cs : ℕ) (h : O.HoldsItems [Int.upBack, COU_EVQ_LOST.EVQ_LOST] L) :
    O.HoldsItems [Int.upBack, COU_EVQ_LOST.EVQ_LOST] (L.markAbsent kd ax cs) := .iff (fun _ hK => .wr (by decide) hK) h

theorem eventTaken_room (kd ax ix cs : ℕ) (h : L.evq.length < 32) :
    { L.takeUp with evq := L.evq ++ [(⟨kd, ax, ix, cs⟩ : EvItem)] }.HoldsItems [Int.upBack, COU_EVQ_LOST.EVQ_LOST]
      (L.eventTaken kd ax ix cs) := by
  have hqueued : L.takeUp.queueEvent ⟨kd, ax, ix, cs⟩ = { L.takeUp with evq := L.evq ++ [(⟨kd, ax, ix, cs⟩ : EvItem)] }.syncEvq := if_pos h
  rw [eventTaken, hqueued]
  exact markAbsent_holdsItems kd ax cs (.of_onlyFields (syncEvq_onlyFields _) (by decide))

theorem eventTaken_full (kd ax ix cs : ℕ) (h : 32 ≤ L.evq.length) :
    (L.takeUp.inc COU_EVQ_LOST.EVQ_LOST).HoldsItems [Int.upBack, COU_EVQ_LOST.EVQ_LOST] (L.eventTaken kd ax ix cs) := by
  have hlost : L.takeUp.queueEvent ⟨kd, ax, ix, cs⟩ = L.takeUp.inc COU_EVQ_LOST.EVQ_LOST := if_neg (Nat.not_lt.2 h)
  rw [eventTaken, hlost]
  exact markAbsent_holdsItems kd ax cs (.refl _)

/-- A contactor request and the operations triggered by an event leave what was taken of its item (R207, R315). -/
theorem eventItem_takes {s : State} {l : LaneId} {kd ax ix cs : ℕ} {r : List UpItem} (hL : s.lane l = L) (hup : L.up = .event kd ax ix cs :: r) :
    ∃ K, exec (.eventItem l) s = .next (s.onLane l (fun _ => K)) ∧ (L.eventTaken kd ax ix cs).HoldsItems itemFields K := by
  subst hL
  refine ⟨((s.lane l).eventTaken kd ax ix cs |>.iff (kd = 4) fun J => J.ownContReq ix).triggerAll 5 fun _ => true, ?_, ?_⟩
  · refine congrArg Host.Outcome.next (onLane_congr s l ?_)
    simp only [hup]
    rfl
  · exact .triggerAll (.iff (fun _ hJ => .ownContReq hJ) (.refl _))

/-! ### A status item -/

/-- A status item shows the speed of an axis, and one seen out of SAFE is no longer marked absent (R119, R302). -/
def showAxis (sp fx : List ℕ) (n : ℕ) (J : Lane) : Lane :=
  (J.wr (Int.axisSpeed n) (sp.getD n 0)).iff (fx.getD n 6 ≠ 6) fun J => J.putBit Int.axisAbsent n false

theorem axisSpeed_key_ne : ∀ n < 8, ∀ m < 8, n ≠ m → (Int.axisSpeed n).key ≠ (Int.axisSpeed m).key := by decide

theorem showAxis_holdsItems {O : Lane} (sp fx : List ℕ) {n : ℕ} (hn : n < 8) (h : O.HoldsItems [Int.upBack] L) :
    O.HoldsItems [Int.upBack] (showAxis sp fx n L) :=
  .iff (fun _ hK => .wr (by decide) hK)
    (.wr ((by decide : ∀ n < 8, (Int.axisSpeed n).key ∉ [Int.upBack].map Fld.key) n hn) h)

/-- The marks of the absent axes are no speed. -/
theorem showAxis_rd (sp fx : List ℕ) (m : ℕ) {n : ℕ} (hn : n < 8) :
    (showAxis sp fx m L).rd (Int.axisSpeed n) = (L.wr (Int.axisSpeed m) (sp.getD m 0)).rd (Int.axisSpeed n) := by
  have hne : (Int.axisSpeed n).key ≠ Int.axisAbsent.key := (by decide : ∀ n < 8, (Int.axisSpeed n).key ≠ Int.axisAbsent.key) n hn
  exact ite_keeps (fun K : Lane => K.rd (Int.axisSpeed n) = _) (rd_wr_ne _ _ _ _ hne) rfl

theorem forN_succ (L : Lane) (n : ℕ) (g : ℕ → Lane → Lane) : L.forN (n + 1) g = g n (L.forN n g) := by
  simp [forN, List.range_succ]

/-- Once its axis has been gone through, each speed shows. -/
theorem showAxes_rd (sp fx : List ℕ) {m n : ℕ} (hm : m ≤ 8) (hn : n < m) :
    (L.forN m (showAxis sp fx)).rd (Int.axisSpeed n) = sp.getD n 0 % 2 ^ 32 := by
  induction m with
  | zero => omega
  | succ m ih =>
    rw [forN_succ, showAxis_rd sp fx m (by omega)]
    by_cases hnm : n = m
    · subst hnm
      exact rd_wr_same ..
    · rw [rd_wr_ne _ _ _ _ (axisSpeed_key_ne n (by omega) m (by omega) hnm)]
      exact ih (by omega) (by omega)

/-- What the host takes of a status item. -/
def statusTaken (L : Lane) (sp fx : List ℕ) (v g : Bool) : Lane :=
  ((L.takeUp.forN 8 (showAxis sp fx)).put COU_STATUS.SYNC_VALID v).put PSC_STATUS.G_LATCHED g

theorem on_put (f : Fld) (b : Bool) (hf : f.width = 1) : (L.put f b).on f = b := by
  rw [put, on_wr_same, hf]
  cases b <;> rfl

/-- The conditions of standstill are looked at with the speeds shown. -/
theorem statusItem_takes {s : State} {l : LaneId} {sp fx rn : List ℕ} {v g : Bool} {r : List UpItem} (hL : s.lane l = L)
    (hup : L.up = .status sp fx rn v g :: r) :
    ∃ K, exec (.statusItem l) s = .next (s.onLane l (fun _ => K)) ∧ (L.statusTaken sp fx v g).HoldsItems itemFields K := by
  subst hL
  refine ⟨((s.lane l).statusTaken sp fx v g).evalStill, ?_, .evalStill (.refl _)⟩
  refine congrArg Host.Outcome.next (onLane_congr s l ?_)
  simp only [hup]
  rfl

theorem statusTaken_holdsItems (L : Lane) (sp fx : List ℕ) (v g : Bool) : L.takeUp.HoldsItems [Int.upBack] (L.statusTaken sp fx v g) :=
  .wr (by decide) (.wr (by decide) (.forN (fun _ hn _ hK => showAxis_holdsItems sp fx hn hK) (.refl _)))

theorem statusTaken_speed (sp fx : List ℕ) (v g : Bool) {n : ℕ} (hn : n < 8) :
    (L.statusTaken sp fx v g).rd (Int.axisSpeed n) = sp.getD n 0 % 2 ^ 32 := by
  have hapart : ∀ n < 8, (Int.axisSpeed n).key ≠ COU_STATUS.SYNC_VALID.key ∧ (Int.axisSpeed n).key ≠ PSC_STATUS.G_LATCHED.key := by decide
  obtain ⟨hvalid, hlatch⟩ := hapart n hn
  exact (rd_wr_ne _ _ _ _ hlatch).trans ((rd_wr_ne _ _ _ _ hvalid).trans (showAxes_rd sp fx le_rfl hn))

theorem statusTaken_valid (sp fx : List ℕ) (v g : Bool) : (L.statusTaken sp fx v g).on COU_STATUS.SYNC_VALID = v :=
  (on_wr_ne _ _ _ _ (by decide)).trans (on_put _ v rfl)

end Lane

/-- Settles O29: what is taken of an item is written first, and nothing that the item sets off writes it again. -/
theorem fieldItemsReachTheHost : Obligations.FieldItemsReachTheHost := by
  unfold Obligations.FieldItemsReachTheHost
  refine ⟨?_, ?_, ?_, ?_, ?_, ?_, ?_, ?_⟩
  · rintro s l sp fx rn v g r L hL hup
    obtain ⟨K, hexec, hkeeps⟩ := Lane.statusItem_takes hL hup
    have htaken := L.statusTaken_holdsItems sp fx v g
    refine ⟨K, hexec, ?_, ?_, ?_, ?_, fun n hn => ?_, hkeeps.mem.trans htaken.mem, hkeeps.nor.trans htaken.nor⟩
    · rw [hkeeps.up, htaken.up, Lane.takeUp_up hup]
    · rw [hkeeps.rd _ (by decide), htaken.rd _ (by decide), L.takeUp_rd]
    · rw [hkeeps.on (by decide), L.statusTaken_valid]
    · rw [hkeeps.on (by decide)]
      exact Lane.on_put _ g rfl
    · rw [hkeeps.rd _ ((by decide : ∀ n < 8, Int.axisSpeed n ∈ itemFields) n hn), Lane.statusTaken_speed sp fx v g hn]
  · rintro s l hother
    refine congrArg Host.Outcome.next (onLane_congr s l ?_)
    split
    · exact absurd ‹_› (hother _ _ _ _ _ _)
    · rfl
  · rintro s l kd ax ix cs r L hL hup hroom
    obtain ⟨K, hexec, hkeeps⟩ := Lane.eventItem_takes hL hup
    have htaken := Lane.eventTaken_room kd ax ix cs hroom
    refine ⟨K, hexec, ?_, ?_, ?_, fun hkd hcs hax => ?_⟩
    · rw [hkeeps.up, htaken.up, Lane.takeUp_up hup]
    · exact hkeeps.evq.trans htaken.evq
    · exact (hkeeps.rd _ (by decide)).trans ((htaken.rd _ (by decide)).trans L.takeUp_rd)
    · rw [Lane.bitOf, hkeeps.rd _ (by decide)]
      exact Lane.markAbsent_marks hkd hcs hax
  · rintro s l kd ax ix cs r L hL hup hfull
    obtain ⟨K, hexec, hkeeps⟩ := Lane.eventItem_takes hL hup
    have htaken := Lane.eventTaken_full kd ax ix cs hfull
    obtain ⟨hcount, -⟩ := L.takeUp.inc_shows COU_EVQ_LOST.EVQ_LOST
    have hlost : L.takeUp.rd COU_EVQ_LOST.EVQ_LOST = L.rd COU_EVQ_LOST.EVQ_LOST := L.takeUp_rd_ne (by decide)
    refine ⟨K, hexec, hkeeps.up.trans (htaken.up.trans (Lane.takeUp_up hup)), hkeeps.evq.trans htaken.evq, ?_⟩
    rw [hkeeps.rd _ (by decide), htaken.rd _ (by decide), hcount, hlost]
  · rintro s l hother
    refine congrArg Host.Outcome.next (onLane_congr s l ?_)
    split
    · exact absurd ‹_› (hother _ _ _ _ _)
    · rfl
  · rintro s l p e r L hL hevq hheld
    obtain ⟨K, hexec, hrest, hmem, hnor, hword⟩ := Lane.evqRead_reads (p := p) hL hheld
    refine ⟨K, hexec, ?_, hmem, hnor, ?_⟩
    · rw [hrest, hevq, List.drop_one, List.tail_cons]
    · rw [hword, Lane.evqWord, hevq]
      rfl
  · rintro s l p L hL hevq hheld
    obtain ⟨K, hexec, hrest, hmem, hnor, hword⟩ := Lane.evqRead_reads (p := p) hL hheld
    refine ⟨K, hexec, ?_, ?_, hmem, hnor⟩
    · rw [hrest, hevq, List.drop_nil]
    · rw [hword, Lane.evqWord, hevq]
      rfl
  · rintro s l p hheld
    exact congrArg Host.Outcome.next (onLane_congr s l (if_pos hheld))

end Sys2Proof.Machine
end

-- ==== Dead times and commits ====
section
/-! The dead times of the pairs and the commits of the groups (R140, R141, R156, R159, R160). -/

namespace Sys2Proof.Machine

namespace Lane

variable {L K : Lane} {fs : List Fld} {p g k t : ℕ}

/-! ### The expiry of a dead time -/

/-- The expiry of a dead time, as the lane takes it (R140, R156, R159). -/
def expireDt (L : Lane) (p : ℕ) : Lane :=
  if L.ascDue p then L.clr (Int.ascPend p)
  else if L.on Int.pwmStopped then L
  else if L.rd (Int.dtPend p) = 1 then (L.set (Int.outOn (2 * p))).startDt p 0
  else if L.rd (Int.dtPend p) = 2 then (L.set (Int.outOn (2 * p + 1))).startDt p 0
  else L

theorem ascDue_eq_false (h : L.on Int.pwmStopped = false) (hpend : L.rd (Int.dtPend p) ≠ 0)
    (hfirst : L.on (Int.ascPend p) = false ∨ L.on (Int.dtBefore p) = true) : L.ascDue p = false := by
  rcases hfirst with hasc | hbefore
  · simp [ascDue, hasc]
  · simp [ascDue, h, hpend, hbefore]

/-- A dead time of a compare that ends turns on the side that is pending. -/
theorem expireDt_compare {low : Bool} (h : L.on Int.pwmStopped = false) (hpend : L.rd (Int.dtPend p) = 1 + bit low)
    (hfirst : L.on (Int.ascPend p) = false ∨ L.on (Int.dtBefore p) = true) :
    L.expireDt p = (L.wr (Int.outOn (2 * p + bit low)) 1).startDt p 0 := by
  have hdue : L.ascDue p = false := ascDue_eq_false h (by omega) hfirst
  unfold expireDt
  rw [if_neg (by simp [hdue]), if_neg (by simp [h])]
  cases low with
  | false => exact if_pos hpend
  | true => exact (if_neg (by rw [hpend]; decide)).trans (if_pos hpend)

/-- The dead time of an ASC pattern ends its wait. -/
theorem expireDt_pattern (hasc : L.on (Int.ascPend p) = true)
    (hfirst : L.on Int.pwmStopped = true ∨ L.rd (Int.dtPend p) = 0 ∨ L.on (Int.dtBefore p) = false) :
    L.expireDt p = L.wr (Int.ascPend p) 0 :=
  if_pos (by rcases hfirst with h | h | h <;> simp [ascDue, hasc, h])

theorem expireDt_idle (hasc : L.on (Int.ascPend p) = false) (hidle : L.on Int.pwmStopped = true ∨ L.rd (Int.dtPend p) = 0) :
    L.expireDt p = L := by
  unfold expireDt
  rw [if_neg (by simp [ascDue, hasc])]
  rcases hidle with h | h
  · exact if_pos h
  · simp [h]

theorem startDt_onlyFields (hpend : Int.dtPend p ∈ fs) (hbefore : Int.dtBefore p ∈ fs) (side : ℕ) (h : L.onlyFields K fs) :
    L.onlyFields (K.startDt p side) fs := onlyFields_wr (onlyFields_wr h _ _ hpend) _ _ hbefore

/-- What a dead time begins with: the side it turns on, and no pattern that waited before it. -/
theorem startDt_shows (L : Lane) (p : ℕ) {side : ℕ} (hside : side < 4) :
    (L.startDt p side).rd (Int.dtPend p) = side ∧ (L.startDt p side).on (Int.dtBefore p) = false := by
  have hne : (Int.dtPend p).key ≠ (Int.dtBefore p).key := by
    simp only [Fld.key, Int.dtPend, Int.dtBefore]
    omega
  exact ⟨(rd_wr_ne _ _ _ _ hne).trans ((rd_wr_same ..).trans (Nat.mod_eq_of_lt hside)), (on_wr_same ..).trans rfl⟩

theorem deadTime_apart : ∀ p < 26, ∀ i < 2, Fld.Apart [Int.dtPend p, Int.dtBefore p] [Int.outOn (2 * p + i)] := by decide

/-- The lane after the pending side of a pair has gone on, as it reads and in all else. -/
theorem turnOn_shows (L : Lane) {i : ℕ} (hp : p < 26) (hi : i < 2) :
    ((L.wr (Int.outOn (2 * p + i)) 1).startDt p 0).on (Int.outOn (2 * p + i)) = true ∧
      L.onlyFields ((L.wr (Int.outOn (2 * p + i)) 1).startDt p 0) [Int.outOn (2 * p + i), Int.dtPend p, Int.dtBefore p] := by
  have apart := deadTime_apart p hp i hi
  have hkept : (L.wr (Int.outOn (2 * p + i)) 1).Holds [Int.outOn (2 * p + i)] ((L.wr (Int.outOn (2 * p + i)) 1).startDt p 0) :=
    .wr (apart _ (by simp)) (.wr (apart _ (by simp)) (.refl _))
  exact ⟨(hkept.on List.mem_cons_self).trans ((on_wr_same ..).trans rfl),
    startDt_onlyFields (by simp) (by simp) _ (onlyFields_wr (L.onlyFields_refl _) _ _ List.mem_cons_self)⟩

/-! ### A commit -/

theorem commitGroup_first (h : L.on (Int.commit g) = false) :
    L.commitGroup g t = ((L.wr (Int.commit g) 1).wr (Int.commitAt g) t).wr (Int.commitLast g) t := if_neg (by simp [h])

theorem commitGroup_again (h : L.on (Int.commit g) = true) : L.commitGroup g t = L.wr (Int.commitLast g) t := if_pos h

theorem commitFields_distinct : ∀ g < 12, (Int.commit g).key ≠ (Int.commitAt g).key ∧ (Int.commit g).key ≠ (Int.commitLast g).key ∧
    (Int.commitAt g).key ≠ (Int.commitLast g).key := by decide

end Lane

/-- Settles O9: an expiry by what `Lane.expireDt` does in each case, a commit by the two cases of `Lane.commitGroup`. -/
theorem deadTimeAndCommit : Obligations.DeadTimeAndCommit := by
  unfold Obligations.DeadTimeAndCommit
  refine ⟨⟨?compare, ?pattern, ?idle⟩, ?first, ?again⟩
  case compare =>
    rintro s l p low _ rfl hruns hpend hfirst
    obtain ⟨hon, honly⟩ := (s.lane l).turnOn_shows p.isLt (show bit low < 2 by cases low <;> decide)
    obtain ⟨hnone, hbefore⟩ := ((s.lane l).wr (Int.outOn (2 * p + bit low)) 1).startDt_shows p (side := 0) (by decide)
    exact ⟨_, congrArg Host.Outcome.next (onLane_congr s l (Lane.expireDt_compare hruns hpend hfirst)), hon, hnone, hbefore, honly⟩
  case pattern =>
    rintro s l p _ rfl hasc hfirst
    exact ⟨_, congrArg Host.Outcome.next (onLane_congr s l (Lane.expireDt_pattern hasc hfirst)), (Lane.on_wr_same ..).trans rfl,
      (Lane.wr_shows ..).2⟩
  case idle =>
    rintro s l p _ rfl hasc hidle
    exact congrArg Host.Outcome.next (onLane_congr s l (Lane.expireDt_idle hasc hidle))
  case first =>
    rintro s l g _ rfl hnone
    obtain ⟨hcommit, hcommit', hat⟩ := Lane.commitFields_distinct g g.isLt
    refine ⟨_, congrArg Host.Outcome.next (onLane_congr s l (Lane.commitGroup_first hnone)), ?_, ?_,
      Lane.onlyFields_wr (Lane.onlyFields_wr (Lane.onlyFields_wr (Lane.onlyFields_refl _ _) _ _ (by simp)) _ _ (by simp)) _ _ (by simp)⟩
    · exact (Lane.on_wr_ne _ _ _ _ hcommit').trans ((Lane.on_wr_ne _ _ _ _ hcommit).trans ((Lane.on_wr_same ..).trans rfl))
    · exact (Lane.rd_wr_ne _ _ _ _ hat).trans (Lane.rd_wr_same ..)
  case again =>
    rintro s l g _ rfl hwaits
    obtain ⟨-, hcommit, hat⟩ := Lane.commitFields_distinct g g.isLt
    obtain ⟨hlast, honly⟩ := (s.lane l).wr_shows (Int.commitLast g) (s.lane l).ftb
    exact ⟨_, congrArg Host.Outcome.next (onLane_congr s l (Lane.commitGroup_again hwaits)), (Lane.on_wr_ne _ _ _ _ hcommit).trans hwaits,
      Lane.rd_wr_ne _ _ _ _ hat, hlast, honly⟩

end Sys2Proof.Machine
end

-- ==== The markers of SYNC ====
section
/-! The SYNC markers that map the timebases of the two dies on each other (R305, R402). -/

namespace Sys2Proof.Machine

namespace Lane

variable {O L : Lane} {fs : List Fld} {q : ℕ}

/-! ### A field with a record of its changes -/

theorem rd_wrAt_same (L : Lane) (f : Fld) (v t : ℕ) : (L.wrAt f v t).rd f = v % 2 ^ f.width := rd_wr_same ..

theorem rd_wrAt_ne (L : Lane) (f g : Fld) (v t : ℕ) (h : g.key ≠ f.key) : (L.wrAt f v t).rd g = L.rd g := rd_wr_ne _ _ _ _ h

/-! ### The status item -/

/-- What a status item shows (R302). -/
def statusFields : List Fld :=
  [Int.syncValid, FPS_STATUS.G_LATCHED] ++ (List.range 8).flatMap fun n =>
    [CLE_AX_CTL.SPD_SRC n, FBI_AX.SPEED n, CLE_AX_FOX.OMEGA n, CLE_AX_FOX_STATUS.STATE n, CLE_AX_STATUS.RUNNING n]

theorem statusItem_congr (h : O.Holds statusFields L) : L.statusItem = O.statusItem := by
  have hunits : ∀ n < 8, ∀ f ∈ [CLE_AX_CTL.SPD_SRC n, FBI_AX.SPEED n, CLE_AX_FOX.OMEGA n, CLE_AX_FOX_STATUS.STATE n, CLE_AX_STATUS.RUNNING n],
      f ∈ statusFields :=
    fun n hn f hf => List.mem_append_right _ (List.mem_flatMap.2 ⟨n, List.mem_range.2 hn, hf⟩)
  have hspeed : ∀ n ∈ List.range 8, L.axisSpeedNow n = O.axisSpeedNow n := fun n hn => by
    have hunit := hunits n (List.mem_range.1 hn)
    rw [axisSpeedNow, axisSpeedNow, h.on (hunit (CLE_AX_CTL.SPD_SRC n) (by simp)), h.rd _ (hunit (FBI_AX.SPEED n) (by simp)),
      h.rd _ (hunit (CLE_AX_FOX.OMEGA n) (by simp))]
  have hstate : ∀ n ∈ List.range 8, L.rd (CLE_AX_FOX_STATUS.STATE n) = O.rd (CLE_AX_FOX_STATUS.STATE n) :=
    fun n hn => h.rd _ (hunits n (List.mem_range.1 hn) _ (by simp))
  have hrun : ∀ n ∈ List.range 8, L.rd (CLE_AX_STATUS.RUNNING n) = O.rd (CLE_AX_STATUS.RUNNING n) :=
    fun n hn => h.rd _ (hunits n (List.mem_range.1 hn) _ (by simp))
  unfold statusItem
  rw [List.map_congr_left hspeed, List.map_congr_left hstate, List.map_congr_left hrun, h.on (f := Int.syncValid) (by simp [statusFields]),
    h.on (f := FPS_STATUS.G_LATCHED) (by simp [statusFields])]

/-- The credits of the channel to the host are apart from what its items show. -/
theorem credits_apart : Fld.Apart [Int.fieldCredits, Int.fieldOut] statusFields := by decide

/-- An item sent over a live link is on its way or waits for a credit (R302, R306). -/
theorem mem_toHost (i : UpItem) (h : L.on Int.fieldLink = true) : i ∈ (L.toHost i).up ++ (L.toHost i).upQueue := by
  have hsent : L.toHost i = { L with upQueue := L.upQueue ++ [i] }.pumpUp := if_pos h
  have hall : (L.toHost i).up ++ (L.toHost i).upQueue = L.up ++ (L.upQueue ++ [i]) := by
    rw [hsent]
    exact (List.append_assoc ..).trans (congrArg (L.up ++ ·) (List.take_append_drop ..))
  simp [hall]

/-- A status item sent shows the lane as it stands after it is sent. -/
theorem statusItem_toHost (i : UpItem) : (L.toHost i).statusItem = L.statusItem := by
  have hkept : L.Holds statusFields (L.toHost i) :=
    .ite (.wr (credits_apart _ (by simp)) (.wr (credits_apart _ (by simp)) (.update (.refl L) rfl rfl rfl))) (.refl L)
  exact statusItem_congr hkept

/-! ### The pair of a marker -/

/-- The lane after the marker sent at lane time `t` and stamped `f` is stored as the latest pair (R305). -/
def storePair (L : Lane) (f t f0 t0 n : ℕ) : Lane :=
  (((((L.wrAt (Int.ftbF 1) f0 L.ftb).wrAt (Int.ftbL 1) t0 L.ftb).wrAt (Int.ftbF 0) f L.ftb).wrAt (Int.ftbL 0) t L.ftb).wr Int.syncN
    (min 2 (n + 1))).wrAt Int.syncValid (bit (decide (1 ≤ n))) L.ftb

theorem storePair_shows (L : Lane) (f t f0 t0 n : ℕ) :
    (L.storePair f t f0 t0 n).rd (Int.ftbF 0) = f % 2 ^ 64 ∧ (L.storePair f t f0 t0 n).rd (Int.ftbL 0) = t % 2 ^ 64 ∧
      (L.storePair f t f0 t0 n).rd (Int.ftbF 1) = f0 % 2 ^ 64 ∧ (L.storePair f t f0 t0 n).rd (Int.ftbL 1) = t0 % 2 ^ 64 ∧
      (L.storePair f t f0 t0 n).on Int.syncValid = decide (1 ≤ n) := by
  refine ⟨?_, ?_, ?_, ?_, ?_⟩
  · simp (disch := decide) only [storePair, rd_wrAt_ne, rd_wr_ne, rd_wrAt_same]
    rfl
  · simp (disch := decide) only [storePair, rd_wrAt_ne, rd_wr_ne, rd_wrAt_same]
    rfl
  · simp (disch := decide) only [storePair, rd_wrAt_ne, rd_wr_ne, rd_wrAt_same]
    rfl
  · simp (disch := decide) only [storePair, rd_wrAt_ne, rd_wr_ne, rd_wrAt_same]
    rfl
  · exact on_put _ _ rfl

/-- The fields of the pairs. -/
def pairFields : List Fld := [Int.ftbF 0, Int.ftbL 0, Int.ftbF 1, Int.ftbL 1, Int.syncValid]

/-- The marker on its way and the link, which neither the pairs nor a report of the field die write. -/
def markerFields : List Fld := [Int.syncFly, Int.fieldLink]

theorem report_apart_sync : Fld.Apart reportFields (pairFields ++ markerFields) := by decide +kernel

theorem storePair_holds {f t f0 t0 n : ℕ} (h : O.Holds markerFields L) : O.Holds markerFields (L.storePair f t f0 t0 n) :=
  .wrAt (by decide) (.wr (by decide) (.wrAt (by decide) (.wrAt (by decide) (.wrAt (by decide) (.wrAt (by decide) h)))))

theorem trimRate_holds {df dl : ℤ} (h : O.Holds (pairFields ++ markerFields) L) : O.Holds (pairFields ++ markerFields) (L.trimRate df dl) := by
  have htrim : ∀ r v : ℕ, O.Holds (pairFields ++ markerFields) ((L.wr FCK.TRIM v).wr Int.trimRun r) :=
    fun r v => .wr (by decide) (.wr (by decide) h)
  exact .ite (.fieldRaise report_apart_sync (by decide) (htrim _ _)) (htrim _ _)

/-- The stamp of a marker that arrives now, in quarter nanoseconds less the barrier delay (R305). -/
def stampNow (L : Lane) (q : ℕ) : ℕ := 4 * L.ftb + q - L.rd CFG_CAL.BARRIER

/-- The field die has taken a marker: a stamp off the mapping by more than the tolerance is reported, the pair is stored, and from the second
one on the rate is trimmed (R305, R402). -/
def takeMarker (L : Lane) (q : ℕ) (off : Bool) : Lane :=
  let K := ((L.clr Int.syncFly).iff off fun J => J.fieldRaise 0x44).storePair (L.stampNow q) (L.rd Int.syncL) (L.rd (Int.ftbF 0))
    (L.rd (Int.ftbL 0)) (L.rd Int.syncN)
  if L.rd Int.syncN = 0 then K
  else K.trimRate ((L.stampNow q : ℤ) - L.rd (Int.ftbF 0)) ((L.rd Int.syncL : ℤ) - L.rd (Int.ftbL 0))

theorem takeMarker_shows (L : Lane) (q : ℕ) (off : Bool) :
    (L.takeMarker q off).rd (Int.ftbF 0) = L.stampNow q % 2 ^ 64 ∧ (L.takeMarker q off).rd (Int.ftbL 0) = L.rd Int.syncL % 2 ^ 64 ∧
      (L.takeMarker q off).rd (Int.ftbF 1) = L.rd (Int.ftbF 0) % 2 ^ 64 ∧ (L.takeMarker q off).rd (Int.ftbL 1) = L.rd (Int.ftbL 0) % 2 ^ 64 ∧
      (L.takeMarker q off).on Int.syncValid = decide (1 ≤ L.rd Int.syncN) := by
  obtain ⟨hf, ht, hf', ht', hvalid⟩ := ((L.clr Int.syncFly).iff off fun J => J.fieldRaise 0x44).storePair_shows (L.stampNow q)
    (L.rd Int.syncL) (L.rd (Int.ftbF 0)) (L.rd (Int.ftbL 0)) (L.rd Int.syncN)
  have hkept : (((L.clr Int.syncFly).iff off fun J => J.fieldRaise 0x44).storePair (L.stampNow q) (L.rd Int.syncL) (L.rd (Int.ftbF 0))
      (L.rd (Int.ftbL 0)) (L.rd Int.syncN)).Holds (pairFields ++ markerFields) (L.takeMarker q off) :=
    .ite (.refl _) (trimRate_holds (.refl _))
  exact ⟨(hkept.rd _ (by simp [pairFields])).trans hf, (hkept.rd _ (by simp [pairFields])).trans ht,
    (hkept.rd _ (by simp [pairFields])).trans hf', (hkept.rd _ (by simp [pairFields])).trans ht',
    (hkept.on (by simp [pairFields])).trans hvalid⟩

theorem takeMarker_holds (L : Lane) (q : ℕ) (off : Bool) : (L.clr Int.syncFly).Holds markerFields (L.takeMarker q off) := by
  have hreport : Fld.Apart reportFields markerFields :=
    fun f hf hm => report_apart_sync f hf (List.map_subset _ (List.subset_append_right _ _) hm)
  have hstored : (L.clr Int.syncFly).Holds markerFields (((L.clr Int.syncFly).iff off fun J => J.fieldRaise 0x44).storePair (L.stampNow q)
      (L.rd Int.syncL) (L.rd (Int.ftbF 0)) (L.rd (Int.ftbL 0)) (L.rd Int.syncN)) :=
    storePair_holds (.iff (fun _ hJ => .fieldRaise hreport (by decide) hJ) (.refl _))
  exact .ite hstored (hstored.trans ((trimRate_holds (.refl _)).mono (List.subset_append_right _ _)))

/-- The taking of a marker over a live link, with the answer to it. -/
theorem syncReceipt_takes {s : State} {l : LaneId} {q : Fin 4} (hfly : (s.lane l).on Int.syncFly = true)
    (hlink : (s.lane l).on Int.fieldLink = true) :
    ∃ off, exec (.syncReceipt l q) s =
      .next (s.onLane l fun _ => ((s.lane l).takeMarker q off).toHost ((s.lane l).takeMarker q off).statusItem) :=
  ⟨_, congrArg Host.Outcome.next (onLane_congr s l (if_neg (by simp [hfly, hlink])))⟩

theorem syncReceipt_ignored {s : State} {l : LaneId} {q : Fin 4} (h : (s.lane l).on Int.syncFly = false ∨ (s.lane l).on Int.fieldLink = false) :
    exec (.syncReceipt l q) s = .next (s.onLane l fun L => L.wr Int.syncFly 0) :=
  congrArg Host.Outcome.next (onLane_congr s l (if_pos (by rcases h with h | h <;> simp [h])))

/-! ### The loss of SYNC -/

/-- What step `g` of a repetition brings about and every later one keeps holds at its end. -/
theorem forN_establishes {P Q : Lane → Prop} {m g : ℕ} {step : ℕ → Lane → Lane} (hg : g < m) (h : Q L)
    (hQ : ∀ i < g, ∀ K, Q K → Q (step i K)) (hset : ∀ K, Q K → P (step g K)) (hP : ∀ i < m, g < i → ∀ K, P K → P (step i K)) :
    P (L.forN m step) := by
  induction m with
  | zero => omega
  | succ m ih =>
    rw [forN_succ]
    rcases Nat.lt_succ_iff_lt_or_eq.1 hg with hlt | rfl
    · exact hP m (by omega) hlt _ (ih hlt fun i hi => hP i (by omega))
    · exact hset _ (forN_keeps Q hQ h)

theorem aligned_key_ne {g i : ℕ} (h : g ≠ i) : (PWM_GROUP_STATUS.ALIGNED g).key ≠ (PWM_GROUP_STATUS.ALIGNED i).key := by
  simp only [Fld.key, PWM_GROUP_STATUS.ALIGNED]
  omega

theorem dropSync_aligned (L : Lane) {g : ℕ} (hg : g < 12) : L.dropSync.on (PWM_GROUP_STATUS.ALIGNED g) = false :=
  forN_establishes (P := fun K => K.on (PWM_GROUP_STATUS.ALIGNED g) = false) (Q := fun _ => True) hg trivial (fun _ _ _ _ => trivial)
    (fun _ _ => (on_wr_same ..).trans rfl) (fun _ _ hlt _ hK => (on_wr_ne _ _ _ _ (aligned_key_ne hlt.ne)).trans hK)

/-- The loss of SYNC writes ALIGNED after SYNC_VALID and the count of pairs. -/
theorem dropSync_holds (L : Lane) : ((L.clr Int.syncN).clr Int.syncValid).Holds [Int.syncValid, Int.syncN] L.dropSync := by
  have apart : ∀ g < 12, (PWM_GROUP_STATUS.ALIGNED g).key ∉ [Int.syncValid, Int.syncN].map Fld.key := by decide
  exact .forN (fun g hg _ hK => .wr (apart g hg) hK) (.refl _)

theorem dropSync_onlyFields (L : Lane) :
    L.onlyFields L.dropSync ([Int.syncValid, Int.syncN] ++ (List.range 12).map fun g => PWM_GROUP_STATUS.ALIGNED g) :=
  forN_keeps (fun K => L.onlyFields K _)
    (fun _ hg _ hK => onlyFields_wr hK _ _ (List.mem_append_right _ (List.mem_map_of_mem (List.mem_range.2 hg))))
    (onlyFields_wr (onlyFields_wr (L.onlyFields_refl _) _ _ (by simp)) _ _ (by simp))

end Lane

/-- Settles O27: a marker received is answered by a status item of the lane as it is left. -/
theorem syncMarkersMapTheTimebases : Obligations.SyncMarkersMapTheTimebases := by
  unfold Obligations.SyncMarkersMapTheTimebases
  refine ⟨?send, ?unlinked, ?receipt, ?ignored, ?loss⟩
  case send =>
    rintro s l _ rfl hlink
    exact ⟨_, congrArg Host.Outcome.next (onLane_congr s l (if_pos hlink)), (Lane.on_wr_ne _ _ _ _ (by decide)).trans
      ((Lane.on_wr_same ..).trans rfl), Lane.rd_wr_same ..,
      Lane.onlyFields_wr (Lane.onlyFields_wr (Lane.onlyFields_refl _ _) _ _ (by simp)) _ _ (by simp)⟩
  case unlinked => exact fun s l hlink => congrArg Host.Outcome.next (onLane_congr s l (if_neg (by simp [hlink])))
  case receipt =>
    rintro s l q _ rfl hfly hlink
    obtain ⟨off, hexec⟩ := Lane.syncReceipt_takes (q := q) hfly hlink
    obtain ⟨hf, ht, hf', ht', hvalid⟩ := (s.lane l).takeMarker_shows q off
    have hmarker := (s.lane l).takeMarker_holds q off
    set K := (s.lane l).takeMarker q off
    have hsent : K.Holds (Lane.pairFields ++ Lane.markerFields) (K.toHost K.statusItem) := .toHost Lane.report_apart_sync (.refl K)
    refine ⟨_, hexec, (hsent.rd _ (by simp [Lane.pairFields])).trans hf, (hsent.rd _ (by simp [Lane.pairFields])).trans ht,
      (hsent.rd _ (by simp [Lane.pairFields])).trans hf', (hsent.rd _ (by simp [Lane.pairFields])).trans ht', ?_,
      (hsent.on (by simp [Lane.pairFields])).trans hvalid, ?_, hsent.mem.trans hmarker.mem, hsent.nor.trans hmarker.nor⟩
    · exact (hsent.on (by simp [Lane.markerFields])).trans ((hmarker.on (by simp [Lane.markerFields])).trans ((Lane.on_wr_same ..).trans rfl))
    · rw [Lane.statusItem_toHost]
      refine Lane.mem_toHost _ ((hmarker.on (by simp [Lane.markerFields])).trans ?_)
      exact (Lane.on_wr_ne _ _ _ _ (by decide)).trans hlink
  case ignored =>
    rintro s l q _ rfl h
    exact ⟨_, Lane.syncReceipt_ignored h, (Lane.on_wr_same ..).trans rfl, (Lane.wr_shows ..).2⟩
  case loss =>
    rintro s l _ rfl
    have hloss := (s.lane l).dropSync_holds
    exact completes_of_exec rfl ⟨(hloss.on (by simp)).trans ((Lane.on_wr_same ..).trans rfl),
      (hloss.rd _ (by simp)).trans ((Lane.rd_wr_ne _ _ _ _ (by decide)).trans (Lane.rd_wr_same ..)),
      fun _ hg => (s.lane l).dropSync_aligned hg, (s.lane l).dropSync_onlyFields⟩

end Sys2Proof.Machine
end

-- ==== Compares of the outputs ====
section
/-! The compares of the outputs, of independent ones and of complementary pairs (R136 to R140, R150, R151). -/

namespace Sys2Proof.Machine

namespace Lane

variable {O L K : Lane} {fs : List Fld} {k : ℕ} {c : Option ℕ}

/-! ### The interval that starts -/

/-- What the change of an output's reference level is judged by: the pair and its dead time, the least length of a pulse and what is done of a
shorter one, and the marks of earlier intervals of both its sides. -/
def intervalFields (k : ℕ) : List Fld :=
  [Int.actIndep (k / 2), Int.actDt (k / 2), PWM_OUT_CFG.MIN_PULSE k, PWM_OUT_CFG.MINPULSE_MODE k, Int.supp k, Int.supp (k + 1), Int.moved k,
    Int.moved (k + 1)]

theorem refLvl_apart : ∀ k < 52, (Int.refLvl k).key ∉ (intervalFields k).map Fld.key := by decide

/-- The reference level is none of them. -/
theorem wr_refLvl_holds (L : Lane) (hk : k < 52) (v : ℕ) : L.Holds (intervalFields k) (L.wr (Int.refLvl k) v) :=
  .wr (refLvl_apart k hk) (.refl L)

theorem compl_congr (h : O.Holds (intervalFields k) L) : L.compl k = O.compl k := by
  rw [compl, compl, h.on (f := Int.actIndep (k / 2)) (by simp [intervalFields])]

theorem compared_of_single (h : L.compl k = false) : L.compared k = true := by simp [compared, h]

theorem compared_of_even (h : k % 2 = 0) : L.compared k = true := by simp [compared, h]

/-- The least length of an interval that output `k` emits: its shortest pulse, after the dead time of a pair (R150). -/
def leastLength (L : Lane) (k : ℕ) : ℕ := (if L.compl k then 8 * L.rd (Int.actDt (k / 2)) else 0) + 8 * L.rd (PWM_OUT_CFG.MIN_PULSE k)

/-- An interval of an independent output, or of the high side of a pair, that is long enough is emitted as it is (R150). -/
theorem judge_long (hside : L.compl k = true → k % 2 = 0) (hmode : L.rd (PWM_OUT_CFG.MINPULSE_MODE k) ≠ 2)
    (hlong : ∀ n, c = some n → L.leastLength k ≤ n) : L.judge k c = (true, L) := by
  cases c with
  | none => rfl
  | some n =>
    have hout : (if L.compl k then k / 2 * 2 else k) = k := by
      split_ifs with hpair
      · have := hside hpair
        omega
      · rfl
    have hleast := hlong n rfl
    rw [leastLength] at hleast
    unfold judge judgeInterval
    simp only [hout, if_neg hmode, Nat.add_zero, if_pos hleast, if_true]

/-! ### A change of the reference level -/

/-- An independent output has gone on at its rising reference level. -/
def goOn (L : Lane) (k : ℕ) : Lane := (L.wr (Int.refLvl k) 1).wr (Int.outOn k) 1

/-- An independent output has gone off at its falling reference level. -/
def goOff (L : Lane) (k : ℕ) : Lane := ((L.wr (Int.refLvl k) 0).wr (Int.outOn k) 0).markOff (groupOf k)

/-- An independent output has gone off at its moved edge (R151). -/
def goOffMoved (L : Lane) (k : ℕ) : Lane :=
  (((L.wr (Int.moved k) 0).wr (Int.movedBy k) 0).wr (Int.outOn k) 0).markOff (groupOf k)

/-- The low side of the pair of `k` has gone off, and the dead time before its high side runs (R140). -/
def risePair (L : Lane) (k : ℕ) : Lane :=
  (((L.wr (Int.refLvl k) 1).wr (Int.outOn (k + 1)) 0).markOff (groupOf k)).startDt (k / 2) 1

theorem setRef_unheeded (b : Bool) (h : L.compared k = false) : L.setRef k b c = L := if_pos (by simp [h])

/-- An independent output follows its reference level up. -/
theorem setRef_up_single (hk : k < 52) (hsingle : L.compl k = false) (hlow : L.on (Int.refLvl k) = false)
    (hmode : L.rd (PWM_OUT_CFG.MINPULSE_MODE k) ≠ 2) (hlong : ∀ n, c = some n → 8 * L.rd (PWM_OUT_CFG.MIN_PULSE k) ≤ n) :
    L.setRef k true c = L.goOn k := by
  have hkept := L.wr_refLvl_holds hk 1
  have hsingle' : (L.wr (Int.refLvl k) 1).compl k = false := (compl_congr hkept).trans hsingle
  have hjudge : (L.wr (Int.refLvl k) 1).judge k c = (true, L.wr (Int.refLvl k) 1) := by
    refine judge_long (by simp [hsingle']) ?_ fun n hn => ?_
    · rwa [hkept.rd _ (by simp [intervalFields])]
    · rw [leastLength, hsingle', hkept.rd (PWM_OUT_CFG.MIN_PULSE k) (by simp [intervalFields])]
      simpa using hlong n hn
  unfold setRef
  rw [if_neg (by simp [compared_of_single hsingle, hlow])]
  simp only [put_eq, bit, if_true, hsingle', hjudge, set_eq, Bool.false_eq_true, if_false, goOn]

/-- An independent output follows its reference level down. -/
theorem setRef_down_single (hk : k < 52) (hsingle : L.compl k = false) (hhigh : L.on (Int.refLvl k) = true) (hsupp : L.on (Int.supp k) = false)
    (hmoved : L.on (Int.moved k) = false) : L.setRef k false c = L.goOff k := by
  have hkept := L.wr_refLvl_holds hk 0
  have hsingle' : (L.wr (Int.refLvl k) 0).compl k = false := (compl_congr hkept).trans hsingle
  have hsupp' : (L.wr (Int.refLvl k) 0).on (Int.supp k) = false := (hkept.on (by simp [intervalFields])).trans hsupp
  have hmoved' : (L.wr (Int.refLvl k) 0).on (Int.moved k) = false := (hkept.on (by simp [intervalFields])).trans hmoved
  unfold setRef
  rw [if_neg (by simp [compared_of_single hsingle, hhigh])]
  simp only [put_eq, bit, hsingle', hsupp', hmoved', clr_eq, Bool.false_eq_true, if_false, goOff]

/-- At the rise of the high side of a pair the low side goes off, and the high side turns on after the dead time. -/
theorem setRef_up_pair (hk : k < 52) (hpair : L.compl k = true) (heven : k % 2 = 0) (hlow : L.on (Int.refLvl k) = false)
    (hsupp : L.on (Int.supp (k + 1)) = false) (hmoved : L.on (Int.moved (k + 1)) = false) (hmode : L.rd (PWM_OUT_CFG.MINPULSE_MODE k) ≠ 2)
    (hlong : ∀ n, c = some n → 8 * L.rd (Int.actDt (k / 2)) + 8 * L.rd (PWM_OUT_CFG.MIN_PULSE k) ≤ n) :
    L.setRef k true c = L.risePair k := by
  have hkept := L.wr_refLvl_holds hk 1
  have hpair' : (L.wr (Int.refLvl k) 1).compl k = true := (compl_congr hkept).trans hpair
  have hsupp' : (L.wr (Int.refLvl k) 1).on (Int.supp (k + 1)) = false := (hkept.on (by simp [intervalFields])).trans hsupp
  have hmoved' : (L.wr (Int.refLvl k) 1).on (Int.moved (k + 1)) = false := (hkept.on (by simp [intervalFields])).trans hmoved
  have hjudge : (L.wr (Int.refLvl k) 1).judge k c = (true, L.wr (Int.refLvl k) 1) := by
    refine judge_long (fun _ => heven) ?_ fun n hn => ?_
    · rwa [hkept.rd _ (by simp [intervalFields])]
    · rw [leastLength, if_pos hpair', hkept.rd (Int.actDt (k / 2)) (by simp [intervalFields]),
        hkept.rd (PWM_OUT_CFG.MIN_PULSE k) (by simp [intervalFields])]
      exact hlong n hn
  unfold setRef
  rw [if_neg (by simp [compared_of_even heven, hlow])]
  simp only [put_eq, bit, if_true, hpair', hsupp', hmoved', hjudge, clr_eq, Bool.false_eq_true, if_false, Bool.not_true, risePair]

/-- A moved turn-off of an independent output whose scheduled one has passed. -/
theorem movedOff_single (hsingle : L.compl k = false) (hmoved : L.on (Int.moved k) = true) (hlow : L.on (Int.refLvl k) = false) :
    L.movedOff k = L.goOffMoved k := by
  unfold movedOff
  simp only [hsingle, hmoved, hlow, clr_eq, Bool.not_true, Bool.false_and, Bool.false_eq_true, if_false, goOffMoved]

/-! ### The compares that act, and those that do not -/

section
variable {rise : Bool}

theorem compareActs_rise (hrise : never (L.rd (Int.actRise k)) = false) (hfall : never (L.rd (Int.actFall k)) = false)
    (hne : L.rd (Int.actRise k) ≠ L.rd (Int.actFall k)) (hlt : L.rd (Int.actRise k) < L.steps (groupOf k)) :
    L.compareActs k true = L.setRef k true (L.lengthTo (groupOf k) (L.rd (Int.actRise k)) (L.rd (Int.actFall k))) := by
  simp [compareActs, hrise, hfall, hne, hlt]

theorem compareActs_fall (hrise : never (L.rd (Int.actRise k)) = false) (hfall : never (L.rd (Int.actFall k)) = false)
    (hne : L.rd (Int.actRise k) ≠ L.rd (Int.actFall k)) (hlt : L.rd (Int.actFall k) < L.steps (groupOf k)) :
    L.compareActs k false = L.setRef k false (L.lengthTo (groupOf k) (L.rd (Int.actFall k)) (L.rd (Int.actRise k))) := by
  simp [compareActs, hrise, hfall, hne, hlt]

theorem compareActs_never (h : never (L.rd (Int.actRise k)) = true ∨ never (L.rd (Int.actFall k)) = true) : L.compareActs k rise = L :=
  if_pos (by rcases h with h | h <;> simp [h])

/-- The compares of the low side of a pair have no effect (R140). -/
theorem compareActs_unheeded (h : L.compared k = false) : L.compareActs k rise = L := by
  have hsame : ∀ b c, L.setRef k b c = L := fun b _ => setRef_unheeded b h
  unfold compareActs
  simp only [hsame, ite_self]

/-- A RISE at or beyond the period does not act, nor do equal edges there (R139). -/
theorem compareActs_rise_beyond (h : L.steps (groupOf k) ≤ L.rd (Int.actRise k)) : L.compareActs k true = L := by
  simp [compareActs, Nat.not_lt.2 h]

theorem compareActs_fall_beyond (h : L.steps (groupOf k) ≤ L.rd (Int.actFall k)) (hne : L.rd (Int.actRise k) ≠ L.rd (Int.actFall k)) :
    L.compareActs k false = L := by
  simp [compareActs, Nat.not_lt.2 h, hne]

end

/-! ### What the changes show -/

theorem Holds.markOffAt {g : ℕ} (hoff : ∀ n < 8, (Int.offAt n).key ∉ fs.map Fld.key) (h : O.Holds fs L) : O.Holds fs (L.markOff g) := by
  unfold Lane.markOff
  split_ifs with hg
  · exact .wr (hoff g hg) h
  · exact h

theorem onlyFields_markOff {g : ℕ} (h : L.onlyFields K fs) (hoff : Int.offAt g ∈ fs) : L.onlyFields (K.markOff g) fs :=
  ite_keeps (fun J => L.onlyFields J fs) (onlyFields_wr h _ _ hoff) h

theorem startDt_holds (hdt : Fld.Apart [Int.dtPend k, Int.dtBefore k] fs) (side : ℕ) : L.Holds fs (L.startDt k side) :=
  .wr (hdt _ (by simp)) (.wr (hdt _ (by simp)) (.refl L))

theorem outputFields_apart : ∀ k < 52, Fld.Apart [Int.outOn k, Int.outOn (k + 1), Int.dtPend (k / 2), Int.dtBefore (k / 2)] [Int.refLvl k] ∧
    Fld.Apart [Int.outOn k] [Int.moved k] ∧ (Int.movedBy k).key ∉ [Int.moved k].map Fld.key ∧
    Fld.Apart [Int.dtPend (k / 2), Int.dtBefore (k / 2)] [Int.outOn (k + 1)] ∧
    ∀ n < 8, (Int.offAt n).key ∉ [Int.outOn k, Int.outOn (k + 1), Int.refLvl k, Int.moved k].map Fld.key := by decide

/-- A side that goes off: the mark of its instant leaves the sides, their reference level and the mark of a moved edge. -/
theorem markOff_output (hk : k < 52) (L : Lane) (g : ℕ) :
    L.Holds [Int.outOn k, Int.outOn (k + 1), Int.refLvl k, Int.moved k] (L.markOff g) := by
  obtain ⟨-, -, -, -, hoff⟩ := outputFields_apart k hk
  exact .markOffAt hoff (.refl L)

theorem goOn_shows (hk : k < 52) (L : Lane) :
    (L.goOn k).on (Int.outOn k) = true ∧ (L.goOn k).on (Int.refLvl k) = true ∧ L.onlyFields (L.goOn k) [Int.refLvl k, Int.outOn k] := by
  obtain ⟨href, -⟩ := outputFields_apart k hk
  have hkept : (L.wr (Int.refLvl k) 1).Holds [Int.refLvl k] (L.goOn k) := .wr (href _ (by simp)) (.refl _)
  exact ⟨(on_wr_same ..).trans rfl, (hkept.on List.mem_cons_self).trans ((on_wr_same ..).trans rfl),
    onlyFields_wr (onlyFields_wr (L.onlyFields_refl _) _ _ (by simp)) _ _ (by simp)⟩

theorem goOff_shows (hk : k < 52) (L : Lane) : (L.goOff k).on (Int.outOn k) = false ∧ (L.goOff k).on (Int.refLvl k) = false ∧
    L.onlyFields (L.goOff k) [Int.refLvl k, Int.outOn k, Int.offAt (groupOf k)] := by
  obtain ⟨href, -⟩ := outputFields_apart k hk
  have hmark := ((L.wr (Int.refLvl k) 0).wr (Int.outOn k) 0).markOff_output hk (groupOf k)
  have hkept : (L.wr (Int.refLvl k) 0).Holds [Int.refLvl k] ((L.wr (Int.refLvl k) 0).wr (Int.outOn k) 0) := .wr (href _ (by simp)) (.refl _)
  exact ⟨(hmark.on (by simp)).trans ((on_wr_same ..).trans rfl),
    (hmark.on (by simp)).trans ((hkept.on List.mem_cons_self).trans ((on_wr_same ..).trans rfl)),
    onlyFields_markOff (onlyFields_wr (onlyFields_wr (L.onlyFields_refl _) _ _ (by simp)) _ _ (by simp)) (by simp)⟩

theorem goOffMoved_shows (hk : k < 52) (L : Lane) : (L.goOffMoved k).on (Int.outOn k) = false ∧ (L.goOffMoved k).on (Int.moved k) = false ∧
    L.onlyFields (L.goOffMoved k) [Int.moved k, Int.movedBy k, Int.outOn k, Int.offAt (groupOf k)] := by
  obtain ⟨-, hout, hby, -⟩ := outputFields_apart k hk
  have hmark := (((L.wr (Int.moved k) 0).wr (Int.movedBy k) 0).wr (Int.outOn k) 0).markOff_output hk (groupOf k)
  have hkept : (L.wr (Int.moved k) 0).Holds [Int.moved k] (((L.wr (Int.moved k) 0).wr (Int.movedBy k) 0).wr (Int.outOn k) 0) :=
    .wr (hout _ (by simp)) (.wr hby (.refl _))
  exact ⟨(hmark.on (by simp)).trans ((on_wr_same ..).trans rfl),
    (hmark.on (by simp)).trans ((hkept.on List.mem_cons_self).trans ((on_wr_same ..).trans rfl)),
    onlyFields_markOff (onlyFields_wr (onlyFields_wr (onlyFields_wr (L.onlyFields_refl _) _ _ (by simp)) _ _ (by simp)) _ _ (by simp))
      (by simp)⟩

theorem risePair_shows (hk : k < 52) (L : Lane) : (L.risePair k).on (Int.outOn (k + 1)) = false ∧ (L.risePair k).on (Int.refLvl k) = true ∧
    (L.risePair k).rd (Int.dtPend (k / 2)) = 1 ∧
    L.onlyFields (L.risePair k) [Int.refLvl k, Int.outOn (k + 1), Int.offAt (groupOf k), Int.dtPend (k / 2), Int.dtBefore (k / 2)] := by
  obtain ⟨href, -, -, hdt, -⟩ := outputFields_apart k hk
  have hmark := ((L.wr (Int.refLvl k) 1).wr (Int.outOn (k + 1)) 0).markOff_output hk (groupOf k)
  have hkept : (L.wr (Int.refLvl k) 1).Holds [Int.refLvl k] ((L.wr (Int.refLvl k) 1).wr (Int.outOn (k + 1)) 0) :=
    .wr (href _ (by simp)) (.refl _)
  set J := ((L.wr (Int.refLvl k) 1).wr (Int.outOn (k + 1)) 0).markOff (groupOf k)
  have honly : L.onlyFields J [Int.refLvl k, Int.outOn (k + 1), Int.offAt (groupOf k), Int.dtPend (k / 2), Int.dtBefore (k / 2)] :=
    onlyFields_markOff (onlyFields_wr (onlyFields_wr (L.onlyFields_refl _) _ _ (by simp)) _ _ (by simp)) (by simp)
  have hout : J.Holds [Int.outOn (k + 1)] (L.risePair k) := startDt_holds hdt 1
  have hlevel : J.Holds [Int.refLvl k] (L.risePair k) := startDt_holds (fun f hf => href f (by simp at hf ⊢; tauto)) 1
  exact ⟨(hout.on List.mem_cons_self).trans ((hmark.on (by simp)).trans ((on_wr_same ..).trans rfl)),
    (hlevel.on List.mem_cons_self).trans ((hmark.on (by simp)).trans ((hkept.on List.mem_cons_self).trans ((on_wr_same ..).trans rfl))),
    (J.startDt_shows (k / 2) (by decide)).1, startDt_onlyFields (by simp) (by simp) 1 honly⟩

/-! ### The command -/

/-- The compare of an output while its group counts: RISE, FALL, or the moved turn-off edge. -/
def compareAt (L : Lane) (k : ℕ) : Fin 3 → Lane
  | 0 => L.compareActs k true
  | 1 => L.compareActs k false
  | 2 => L.movedOff k

theorem compareEvent_counts {s : State} {l : LaneId} {k : Fin 52} {kind : Fin 3}
    (hcount : (s.lane l).on (PWM_GROUP_STATUS.COUNTING (groupOf k)) = true) (hruns : (s.lane l).on Int.pwmStopped = false) :
    exec (.compareEvent l k kind) s = .next (s.onLane l fun L => L.compareAt k kind) := by
  refine congrArg Host.Outcome.next (onLane_congr s l ?_)
  rw [if_neg (by simp [hcount, hruns])]
  rfl

theorem compareEvent_rests {s : State} {l : LaneId} {k : Fin 52} {kind : Fin 3}
    (h : (s.lane l).on (PWM_GROUP_STATUS.COUNTING (groupOf k)) = false ∨ (s.lane l).on Int.pwmStopped = true) :
    exec (.compareEvent l k kind) s = .next (s.onLane l id) :=
  congrArg Host.Outcome.next (onLane_congr s l (if_pos (by rcases h with h | h <;> simp [h])))

/-- A compare that leaves the lane as it is does so whether the group counts or not. -/
theorem compareEvent_leaves {s : State} {l : LaneId} {k : Fin 52} {kind : Fin 3} (h : (s.lane l).compareAt k kind = s.lane l) :
    exec (.compareEvent l k kind) s = .next (s.onLane l id) := by
  by_cases hrests : (s.lane l).on (PWM_GROUP_STATUS.COUNTING (groupOf k)) = false ∨ (s.lane l).on Int.pwmStopped = true
  · exact compareEvent_rests hrests
  · simp only [not_or, Bool.not_eq_false, Bool.not_eq_true] at hrests
    obtain ⟨hcount, hruns⟩ := hrests
    rw [compareEvent_counts hcount hruns]
    exact congrArg Host.Outcome.next (onLane_congr s l h)

end Lane

/-- Settles O10: the cases of a compare by what the change of the reference level does in them. -/
theorem compareEventSwitchesOutput : Obligations.CompareEventSwitchesOutput := by
  unfold Obligations.CompareEventSwitchesOutput
  refine ⟨?rise, ?fall, ?moved, ?pair, ?unheeded, ?rests⟩
  case rise =>
    rintro s l k _ rfl hcount hruns hsingle hrise hfall hne hlt hlow hmode hlong
    have hacts := (Lane.compareActs_rise hrise hfall hne hlt).trans (Lane.setRef_up_single k.isLt hsingle hlow hmode hlong)
    exact ⟨_, (Lane.compareEvent_counts hcount hruns).trans (congrArg Host.Outcome.next (onLane_congr s l hacts)),
      Lane.goOn_shows k.isLt (s.lane l)⟩
  case fall =>
    rintro s l k _ rfl hcount hruns hsingle hrise hfall hne hlt hhigh hsupp hmoved
    have hacts := (Lane.compareActs_fall hrise hfall hne hlt).trans (Lane.setRef_down_single k.isLt hsingle hhigh hsupp hmoved)
    exact ⟨_, (Lane.compareEvent_counts hcount hruns).trans (congrArg Host.Outcome.next (onLane_congr s l hacts)),
      Lane.goOff_shows k.isLt (s.lane l)⟩
  case moved =>
    rintro s l k _ rfl hcount hruns hsingle hmoved hlow
    have hacts := Lane.movedOff_single hsingle hmoved hlow
    exact ⟨_, (Lane.compareEvent_counts hcount hruns).trans (congrArg Host.Outcome.next (onLane_congr s l hacts)),
      Lane.goOffMoved_shows k.isLt (s.lane l)⟩
  case pair =>
    rintro s l p k _ rfl hk hcount hruns hpair hrise hfall hne hlt hlow hsupp hmoved hmode hlong
    have hp : (p : ℕ) = k / 2 := by omega
    rw [← hk] at hsupp hmoved ⊢
    rw [hp] at hlong ⊢
    have hacts := (Lane.compareActs_rise hrise hfall hne hlt).trans
      (Lane.setRef_up_pair k.isLt hpair (by omega) hlow hsupp hmoved hmode hlong)
    exact ⟨_, (Lane.compareEvent_counts hcount hruns).trans (congrArg Host.Outcome.next (onLane_congr s l hacts)),
      Lane.risePair_shows k.isLt (s.lane l)⟩
  case unheeded =>
    rintro s l k _ rfl
    refine ⟨fun hno => ?_, fun hbeyond => ?_, fun hbeyond hne => ?_⟩
    · have hleaves : ∀ rise, (s.lane l).compareActs k rise = s.lane l := fun rise => by
        rcases hno with hnever | hnever | ⟨hpair, hodd⟩
        · exact Lane.compareActs_never (.inl hnever)
        · exact Lane.compareActs_never (.inr hnever)
        · exact Lane.compareActs_unheeded (by simp [Lane.compared, hpair, hodd])
      exact ⟨Lane.compareEvent_leaves (hleaves true), Lane.compareEvent_leaves (hleaves false)⟩
    · exact Lane.compareEvent_leaves (Lane.compareActs_rise_beyond hbeyond)
    · exact Lane.compareEvent_leaves (Lane.compareActs_fall_beyond hbeyond hne)
  case rests => exact fun _ _ _ _ _ hL h => Lane.compareEvent_rests (by rwa [hL])

end Sys2Proof.Machine
end

-- ==== What compares and commits leave, and a group that stays off ====
section
/-! What the judging of the compares, the alignment and a commit leave of a lane (R138 to R160), and that a group that is off stays off through
the STO of its cluster (R156, R157, R274). -/

namespace Sys2Proof.Machine

/-! ### The compares of a group -/

/-- What the judging of compares may write besides what a report may write. -/
def waveFields : List Fld :=
  [Int.cum 0x72, Int.cum 0x73] ++
  (List.range 52).flatMap (fun k => [PWM_OUT_CNT.SHORT_CNT k, PWM_OUT_CNT.CARRY k, Int.refLvl k, Int.outOn k, Int.moved k, Int.movedBy k,
    Int.supp k]) ++
  (List.range 26).flatMap (fun p => [Int.dtPend p, Int.dtBefore p]) ++
  (List.range 12).flatMap (fun g => [PWM_GROUP_STATUS.EDGE_BEYOND g, PWM_GROUP_CNT.BEYOND_CNT g])

/-- What the alignment of group `g` may write besides what a report may write (R153 to R155). -/
def alignFields (g : ℕ) : List Fld :=
  [PWM_GROUP_STATUS.ALIGNED g, PWM_GROUP_STATUS.PHASE_ERR g, Int.groupLen g, Int.alignedOnce g, Int.misRun g, Int.cum 0x75]

theorem outsOf_lt {g k : ℕ} (hg : g < 12) (hk : k ∈ outsOf g) : k < 52 := (by decide : ∀ g < 12, ∀ k ∈ outsOf g, k < 52) g hg k hk

namespace Lane

variable {O L : Lane} {fs : List Fld} {k g : ℕ}

theorem mem_outsOf_of_comparedOf (h : k ∈ L.comparedOf g) : k ∈ outsOf g := (List.mem_filter.1 h).1

/-- Both sides of a complementary pair are outputs. -/
theorem lt_of_compl (h : L.compl k = true) : k + 1 < 52 := by
  simp only [compl, Bool.and_eq_true, decide_eq_true_eq] at h
  omega

namespace Holds

section
variable (hfs : Fld.Apart reportFields fs) (hwave : Fld.Apart waveFields fs)

include hwave in
theorem output (hk : k < 52) {f : Fld} {v : ℕ} (hf : f ∈ [PWM_OUT_CNT.SHORT_CNT k, PWM_OUT_CNT.CARRY k, Int.refLvl k, Int.outOn k, Int.moved k,
    Int.movedBy k, Int.supp k]) (h : O.Holds fs L) : O.Holds fs (L.wr f v) :=
  .wr (hwave f (List.mem_append_left _ (List.mem_append_left _ (List.mem_append_right _ (List.mem_flatMap.2 ⟨k, List.mem_range.2 hk, hf⟩))))) h

include hwave in
theorem startDt {p side : ℕ} (hp : p < 26) (h : O.Holds fs L) : O.Holds fs (L.startDt p side) := by
  have hdt : ∀ f ∈ [Int.dtPend p, Int.dtBefore p], f.key ∉ fs.map Fld.key :=
    fun f hf => hwave f (List.mem_append_left _ (List.mem_append_right _ (List.mem_flatMap.2 ⟨p, List.mem_range.2 hp, hf⟩)))
  exact .wr (hdt _ (by simp)) (.wr (hdt _ (by simp)) h)

include hfs hwave

theorem judgeInterval_lane {c : ℕ} (hk : k < 52) (h : O.Holds fs L) : O.Holds fs (L.judgeInterval k c).2 := by
  unfold Lane.judgeInterval
  extract_lets e dt least mode carry K
  have hK : O.Holds fs K := .fieldRaise hfs (hwave (Int.cum 0x73) (by simp [waveFields])) (.output hwave hk (by simp) h)
  refine ite_keeps (fun j : Bool × Lane => O.Holds fs j.2) ?_ (ite_keeps (fun j : Bool × Lane => O.Holds fs j.2) ?_
    (ite_keeps (fun j : Bool × Lane => O.Holds fs j.2) ?_ hK))
  · exact .ite h (.output hwave hk (by simp) (.output hwave hk (by simp) (.output hwave hk (by simp) h)))
  · exact .output hwave hk (by simp) (.output hwave hk (by simp) hK)
  · exact .output hwave hk (by simp) hK

theorem judge_lane {c : Option ℕ} (hk : k < 52) (h : O.Holds fs L) : O.Holds fs (L.judge k c).2 := by
  cases c with
  | none => exact h
  | some n => exact .judgeInterval_lane hfs hwave hk h

theorem setRef {b : Bool} {c : Option ℕ} (hk : k < 52) (h : O.Holds fs L) : O.Holds fs (L.setRef k b c) := by
  unfold Lane.setRef
  refine .ite h ?_
  extract_lets K up other j j'
  have hK : O.Holds fs K := .output hwave hk (by simp) h
  split
  next hpair =>
    have hup : up < 52 := ite_keeps (· < 52) hk (lt_of_compl hpair)
    have hother : other < 52 := ite_keeps (· < 52) (lt_of_compl hpair) hk
    have hj : O.Holds fs j.2 := .judge_lane hfs hwave hup hK
    exact .ite (.output hwave hother (by simp) hK) (.ite (.output hwave hup (by simp) hj) (.ite hj
      (.startDt hwave (by omega) (.markOff hfs (.output hwave hother (by simp) hj)))))
  · have hj : O.Holds fs j'.2 := .judge_lane hfs hwave hk hK
    exact .ite (.ite (.output hwave hk (by simp) hj) (.output hwave hk (by simp) hj)) (.ite (.output hwave hk (by simp) hK)
      (.ite hK (.markOff hfs (.output hwave hk (by simp) hK))))

theorem neverCodes (hk : k < 52) (h : O.Holds fs L) : O.Holds fs (L.neverCodes k) :=
  .ite h (.ite (.setRef hfs hwave hk (.output hwave hk (by simp) h)) (.ite (.setRef hfs hwave hk (.output hwave hk (by simp) h)) h))

theorem beyond {pos : ℕ} (hg : g < 12) (h : O.Holds fs L) : O.Holds fs (L.beyond g pos) := by
  have hgroup : ∀ f ∈ [PWM_GROUP_STATUS.EDGE_BEYOND g, PWM_GROUP_CNT.BEYOND_CNT g], f.key ∉ fs.map Fld.key :=
    fun f hf => hwave f (List.mem_append_right _ (List.mem_flatMap.2 ⟨g, List.mem_range.2 hg, hf⟩))
  exact .ite (.fieldRaise hfs (hwave (Int.cum 0x72) (by simp [waveFields])) (.wr (hgroup _ (by simp)) (.wr (hgroup _ (by simp)) h))) h

theorem comparedNever (hg : g < 12) (h : O.Holds fs L) : O.Holds fs ((L.comparedOf g).foldl (fun J k => J.neverCodes k) L) :=
  .foldl (fun _ hk _ hJ => .neverCodes hfs hwave (outsOf_lt hg (mem_outsOf_of_comparedOf hk)) hJ) h

theorem judgeCompares (hg : g < 12) (h : O.Holds fs L) : O.Holds fs (L.judgeCompares g) :=
  .comparedNever hfs hwave hg (.foldl (fun _ _ _ hJ => .beyond hfs hwave hg (.beyond hfs hwave hg hJ)) h)

theorem judgeMoved {old : Lane} (hg : g < 12) (h : O.Holds fs L) : O.Holds fs (L.judgeMoved old g) :=
  .comparedNever hfs hwave hg (.foldl (fun _ _ _ hJ => .ite hJ (.beyond hfs hwave hg hJ)) h)

end

/-! ### The alignment of a group -/

theorem align (hfs : Fld.Apart reportFields fs) (halign : Fld.Apart (alignFields g) fs) (h : O.Holds fs L) : O.Holds fs (L.align g) := by
  have hwr : ∀ f ∈ alignFields g, ∀ {K : Lane} {v : ℕ}, O.Holds fs K → O.Holds fs (K.wr f v) := fun f hf _ _ hK => .wr (halign f hf) hK
  unfold Lane.align
  extract_lets p e K₁ ok K₂ idle adj K₃
  have h₃ : O.Holds fs K₃ := hwr _ (by simp [alignFields]) (.iff (fun _ hJ => hwr _ (by simp [alignFields]) hJ) (hwr _ (by simp [alignFields])
    (hwr _ (by simp [alignFields]) h)))
  have hclear : O.Holds fs (K₃.clr (Int.misRun g)) := hwr _ (by simp [alignFields]) h₃
  exact .ite (hwr _ (by simp [alignFields]) (hwr _ (by simp [alignFields]) h))
    (.ite (.ite (.fieldRaise hfs (halign (Int.cum 0x75) (by simp [alignFields])) hclear) (hwr _ (by simp [alignFields]) h₃)) hclear)

end Holds

/-! ### A group that is off -/

/-- Group `g` of `K` is held off until a commit as that of `O` is, and has override kind 1 where that of `O` has (R156, R157). -/
structure StaysOff (g : ℕ) (O K : Lane) : Prop where
  hold : K.on (Int.holdOff g) = O.on (Int.holdOff g)
  kind : O.rd (PWM_GROUP_STATUS.OVERRIDE g) = 1 → K.rd (PWM_GROUP_STATUS.OVERRIDE g) = 1

/-- The two fields that say so. -/
def offFields (g : ℕ) : List Fld := [Int.holdOff g, PWM_GROUP_STATUS.OVERRIDE g]

/-- What an override writes besides them (R90, R152, R156). -/
def markFields : List Fld :=
  (List.range 52).map PWM_OUT_CNT.CARRY ++ (List.range 24).flatMap (fun p => [Int.ascPend p, Int.dtBefore p]) ++ (List.range 8).map Int.offAt

theorem markFields_apart : ∀ g < 12, Fld.Apart markFields (offFields g) := by decide +kernel

theorem holdOff_key_ne (g n : ℕ) : (PWM_GROUP_STATUS.OVERRIDE n).key ≠ (Int.holdOff g).key := by
  simp only [Fld.key, PWM_GROUP_STATUS.OVERRIDE, Int.holdOff]
  omega

theorem override_key_ne {g n : ℕ} (h : n ≠ g) : (PWM_GROUP_STATUS.OVERRIDE n).key ≠ (PWM_GROUP_STATUS.OVERRIDE g).key := by
  simp only [Fld.key, PWM_GROUP_STATUS.OVERRIDE]
  omega

/-- What the override of a group keeps as it follows its causes: what its marks keep, and what the new kind brings about. -/
theorem syncOverride_keeps (P : Lane → Prop) {n : ℕ} (hn : n < 12) (hmark : ∀ f ∈ markFields, ∀ K v, P K → P (K.wr f v))
    (hsame : L.rd (PWM_GROUP_STATUS.OVERRIDE n) = L.wantKind n → P L)
    (hfree : L.wantKind n = 0 → P ((L.wr (PWM_GROUP_STATUS.OVERRIDE n) 0).wr (Int.holdOff n) 1))
    (hkind : L.wantKind n ≠ 0 → P (L.wr (PWM_GROUP_STATUS.OVERRIDE n) (L.wantKind n))) : P (L.syncOverride n) := by
  have houts : ∀ k ∈ outsOf n, PWM_OUT_CNT.CARRY k ∈ markFields := fun k hk =>
    List.mem_append_left _ (List.mem_append_left _ (List.mem_map_of_mem (List.mem_range.2 (outsOf_lt hn hk))))
  have hpairs : ∀ p ∈ pairsOf n, ∀ f ∈ [Int.ascPend p, Int.dtBefore p], f ∈ markFields := fun p hp f hf =>
    List.mem_append_left _ (List.mem_append_right _ (List.mem_flatMap.2
      ⟨p, List.mem_range.2 ((by decide : ∀ n < 12, ∀ p ∈ pairsOf n, p < 24) n hn p hp), hf⟩))
  have hoff : ∀ K, P K → P (K.markOff n) := fun K hK => by
    unfold markOff
    split_ifs with hn'
    · exact hmark _ (List.mem_append_right _ (List.mem_map_of_mem (List.mem_range.2 hn'))) _ _ hK
    · exact hK
  unfold syncOverride
  extract_lets old new K₀ K₁
  split
  next hold => exact hsame hold
  · have h₁ : P K₁ := by
      unfold K₁ K₀
      split
      next hnew => rw [hnew]; exact hfree hnew
      next hnew => exact hoff _ (foldl_mem_keeps P (fun k hk _ hJ => hmark _ (houts k hk) _ _ hJ) (hkind hnew))
    exact foldl_mem_keeps P (fun p hp _ hJ => hmark _ (hpairs p hp _ (by simp)) _ _ (hmark _ (hpairs p hp _ (by simp)) _ _ hJ)) h₁

/-- A mark leaves the override and the hold of a group. -/
theorem wr_mark_holds {f : Fld} (hf : f ∈ markFields) (hg : g < 12) (K : Lane) (v : ℕ) : K.Holds (offFields g) (K.wr f v) :=
  .wr (markFields_apart g hg f hf) (.refl K)

theorem syncOverride_kind {n : ℕ} (hn : n < 12) (hwant : L.wantKind n = 1) :
    (L.syncOverride n).rd (PWM_GROUP_STATUS.OVERRIDE n) = 1 := by
  refine syncOverride_keeps (fun K => K.rd (PWM_GROUP_STATUS.OVERRIDE n) = 1) hn
    (fun f hf K v hK => ((wr_mark_holds hf hn K v).rd _ (by simp [offFields])).trans hK) (fun hsame => hsame.trans hwant) (by omega) fun _ => ?_
  rw [hwant]
  exact rd_wr_same ..

/-- Outputs held off until a commit stay so (R157). -/
theorem syncOverride_hold (hg : g < 12) (h : L.on (Int.holdOff g) = true) : (L.syncOverride g).on (Int.holdOff g) = true :=
  syncOverride_keeps (fun K => K.on (Int.holdOff g) = true) hg
    (fun f hf K v hK => ((wr_mark_holds hf hg K v).on (by simp [offFields])).trans hK) (fun _ => h) (fun _ => (on_wr_same ..).trans rfl)
    fun _ => (on_wr_ne _ _ _ _ (holdOff_key_ne g g).symm).trans h

namespace StaysOff

variable {K : Lane}

theorem refl (L : Lane) : L.StaysOff g L := ⟨rfl, id⟩

theorem trans (h : O.StaysOff g L) (h' : L.StaysOff g K) : O.StaysOff g K := ⟨h'.hold.trans h.hold, h'.kind ∘ h.kind⟩

theorem of_holds (h : L.Holds (offFields g) K) : L.StaysOff g K :=
  ⟨h.on (by simp [offFields]), fun hkind => (h.rd _ (by simp [offFields])).trans hkind⟩

theorem wr {f : Fld} {v : ℕ} (hf : f.key ∉ (offFields g).map Fld.key) (h : O.StaysOff g L) : O.StaysOff g (L.wr f v) :=
  h.trans (of_holds (.wr hf (.refl L)))

/-- The host die writes neither field. -/
theorem wrHost {f : Fld} {v : ℕ} (hf : f.key < 2 ^ 48) (h : O.StaysOff g L) : O.StaysOff g (L.wr f v) := by
  refine h.wr fun hm => ?_
  simp only [offFields, List.map_cons, List.map_nil, List.mem_cons, List.not_mem_nil, or_false, Fld.key, Int.holdOff,
    PWM_GROUP_STATUS.OVERRIDE, Home.code] at hf hm
  omega

/-- A lane whose other parts changed. -/
theorem update (h : O.StaysOff g L) (hregs : K.regs = L.regs) : O.StaysOff g K := by
  have hrd : ∀ f, K.rd f = L.rd f := fun f => congrArg (fun r : Store => r.rd f) hregs
  exact h.trans ⟨by rw [on_eq_rd, on_eq_rd, hrd], fun hkind => (hrd _).trans hkind⟩

theorem ite {c : Prop} [Decidable c] (hL : O.StaysOff g L) (hK : O.StaysOff g K) : O.StaysOff g (if c then L else K) := ite_keeps _ hL hK

theorem iff {b : Bool} {step : Lane → Lane} (hstep : ∀ K, O.StaysOff g K → O.StaysOff g (step K)) (h : O.StaysOff g L) :
    O.StaysOff g (L.iff b step) := iff_keeps _ hstep h

/-! The lane state, of the host die (R42, R454) -/

theorem event {ev : ℕ} (h : O.StaysOff g L) : O.StaysOff g (L.event ev) := by
  have hout : Fld.Apart (offFields g) eventFields := by
    have hhost : ∀ k ∈ eventFields.map Fld.key, k < 2 ^ 48 := by decide
    intro f hf hm
    have hlt := hhost _ hm
    simp only [offFields, List.mem_cons, List.not_mem_nil, or_false] at hf
    rcases hf with rfl | rfl <;> simp only [Fld.key, Int.holdOff, PWM_GROUP_STATUS.OVERRIDE, Home.code] at hlt <;> omega
  exact forN_keeps _ (fun _ hp K hK => hK.trans (of_holds (.of_onlyFields (K.eventTo_onlyFields ev hp) hout))) h

theorem raise {src : ℕ} (h : O.StaysOff g L) : O.StaysOff g (L.raise src) := .update h rfl

theorem sendMbx {m : MbxUp} (h : O.StaysOff g L) : O.StaysOff g (L.sendMbx m) := .ite (.update h rfl) (.wrHost (by decide) h)

theorem updateFails {code : Option ℕ} (h : O.StaysOff g L) : O.StaysOff g (L.updateFails code) := by
  unfold Lane.updateFails
  refine .ite h ?_
  extract_lets K₀ K₁ K₂
  have h₁ : O.StaysOff g K₁ := .raise (.event (.wrHost (by decide) (.wrHost (by decide) (.update h rfl))))
  clear_value K₁
  cases code with
  | none => exact .ite h₁ (.sendMbx (.update h₁ rfl))
  | some c => exact .ite (.wrHost (by decide) h₁) (.sendMbx (.wrHost (by decide) h₁))

theorem setState {st : ℕ} (h : O.StaysOff g L) : O.StaysOff g (L.setState st) := by
  have hcopy : (laneStateOf L.me).key < 2 ^ 48 :=
    ite_keeps (fun f : Fld => f.key < 2 ^ 48) (by decide) (ite_keeps (fun f : Fld => f.key < 2 ^ 48) (by decide) (by decide))
  have hknown := (by decide : ∀ n < 3, (Int.known n).key < 2 ^ 48) L.me L.me_lt
  unfold Lane.setState
  exact .iff (fun _ hJ => .updateFails hJ) (.wrHost (by decide) (.wrHost (by decide) (.wrHost (by decide) (.wrHost hknown
    (.wrHost hcopy (.wrHost (by decide) h))))))

theorem checkE5 (h : O.StaysOff g L) : O.StaysOff g L.checkE5 := .ite (.setState (.wrHost (by decide) h)) h

/-! The STO of a cluster (R274) -/

theorem markOff {n : ℕ} (hg : g < 12) (h : O.StaysOff g L) : O.StaysOff g (L.markOff n) :=
  h.trans (of_holds (.markOffAt (fun _ hi => markFields_apart g hg _ (List.mem_append_right _ (List.mem_map_of_mem (List.mem_range.2 hi))))
    (.refl L)))

/-- Override kind 1 given to any group leaves a group that is off as it is. -/
theorem syncOverride {n : ℕ} (hg : g < 12) (hn : n < 12) (hwant : L.wantKind n = 1) (h : O.StaysOff g L) :
    O.StaysOff g (L.syncOverride n) := by
  refine syncOverride_keeps _ hn (fun f hf K v hK => hK.trans (of_holds (wr_mark_holds hf hg K v))) (fun _ => h) (by omega) fun _ => h.trans ?_
  rw [hwant]
  refine ⟨on_wr_ne _ _ _ _ (holdOff_key_ne g n).symm, fun hkind => ?_⟩
  by_cases hsame : n = g
  · subst hsame
    exact rd_wr_same ..
  · exact (rd_wr_ne _ _ _ _ (override_key_ne hsame).symm).trans hkind

end StaysOff

theorem axisFields_apart : ∀ n < 8, (Int.stoGroup n).key ∉ [CLE_AX_FOX_STATUS.STATE n].map Fld.key ∧
    (Int.stopping n).key ∉ [CLE_AX_FOX_STATUS.STATE n].map Fld.key ∧
    (CLE_AX_FOX_STATUS.SAFE_PATTERN n).key ∉ [CLE_AX_FOX_STATUS.STATE n].map Fld.key := by decide

/-- An axis that leaves the ASC pattern for all-off has its group off (R156, R274). -/
theorem wantKind_allOff {n : ℕ} (hn : n < 8) (hasc : L.inAsc n = true) : (L.wr (CLE_AX_FOX_STATUS.SAFE_PATTERN n) 2).wantKind n = 1 := by
  obtain ⟨-, -, hpattern⟩ := axisFields_apart n hn
  simp only [inAsc, Bool.and_eq_true, decide_eq_true_eq] at hasc
  have hstate : (L.wr (CLE_AX_FOX_STATUS.SAFE_PATTERN n) 2).rd (CLE_AX_FOX_STATUS.STATE n) = 6 :=
    (rd_wr_ne _ _ _ _ (by simpa [eq_comm] using hpattern)).trans hasc.1
  have hnone : (L.wr (CLE_AX_FOX_STATUS.SAFE_PATTERN n) 2).inAsc n = false := by
    simp [inAsc, CLE_AX_FOX_STATUS.SAFE_PATTERN]
  unfold wantKind
  simp only [hnone, hstate, hn, decide_true, Bool.and_false, Bool.true_and, Bool.true_or, Bool.false_eq_true, if_false, if_true]

namespace StaysOff

theorem requestSto {c : ℕ} (hg : g < 12) (hc : c < 2) (h : O.StaysOff g L) : O.StaysOff g (L.requestSto c) := by
  have hfields : ∀ g < 12, Fld.Apart ([STO_CNT.STO_REQS, STO_STATUS.EN_N, Int.stoTestDue] ++ (List.range 2).map Int.stoRelAt ++
      (List.range 8).flatMap fun n => [Int.stoGroup n, Int.stopping n, CLE_AX_FOX_STATUS.SAFE_PATTERN n]) (offFields g) := by decide +kernel
  have haxis : ∀ n < 8, ∀ f ∈ [Int.stoGroup n, Int.stopping n, CLE_AX_FOX_STATUS.SAFE_PATTERN n], f.key ∉ (offFields g).map Fld.key :=
    fun n hn f hf => hfields g hg f (List.mem_append_right _ (List.mem_flatMap.2 ⟨n, List.mem_range.2 hn, hf⟩))
  have hrel : (Int.stoRelAt c).key ∉ (offFields g).map Fld.key :=
    hfields g hg _ (List.mem_append_left _ (List.mem_append_right _ (List.mem_map_of_mem (List.mem_range.2 hc))))
  refine foldl_mem_keeps _ (fun n hn K hK => ?_) (.wr (hfields g hg _ (by simp)) (.wr hrel (.wr (hfields g hg _ (by simp))
    (.wr (hfields g hg _ (by simp)) h))))
  have hn' : n < 8 := (by decide : ∀ c < 2, ∀ n ∈ axesOf c, n < 8) c hc n hn
  have hoff : O.StaysOff g (((K.set (Int.stoGroup n)).markOff n).clr (Int.stopping n)) :=
    .wr (haxis n hn' _ (by simp)) (.markOff hg (.wr (haxis n hn' _ (by simp)) hK))
  show O.StaysOff g (if _ then _ else _)
  split
  next hasc => exact .syncOverride hg (by omega) (wantKind_allOff hn' hasc) (.wr (haxis n hn' _ (by simp)) hoff)
  · exact hoff

theorem checkCluster {c : ℕ} (hg : g < 12) (hc : c < 2) (h : O.StaysOff g L) : O.StaysOff g (L.checkCluster c) :=
  .ite (.checkE5 (.requestSto hg hc h)) (.checkE5 h)

end StaysOff

end Lane
end Sys2Proof.Machine
end

-- ==== Transfer points, RUN and the PWM clock ====
section
/-! The transfer points of a group, its RUN, the resuming of the PWM clock and the faults of its pads (R136 to R163). -/

namespace Sys2Proof.Machine

namespace Lane

variable {O L : Lane} {fs : List Fld} {g k b : ℕ}

/-! ### A commit taken at mid-period -/

theorem asOf_wr_ne {f h : Fld} {v : ℕ} (hne : h.key ≠ f.key) : (L.wr f v).asOf h b = L.asOf h b := by
  simp only [asOf, wr_recent, rd_wr_ne _ _ _ _ hne]

theorem fall_key_ne {j : ℕ} (hj : j < 52) (hk : k < 52) : (PWM_OUT_FALL.FALL j).key ≠ (Int.actFall k).key := by
  simp only [Fld.key, PWM_OUT_FALL.FALL, Int.actFall]
  omega

theorem actFall_key_ne {j : ℕ} (h : k ≠ j) : (Int.actFall k).key ≠ (Int.actFall j).key := by
  simp only [Fld.key, Int.actFall]
  omega

/-- Every FALL shadow that moves becomes the active one as it stood (R141). -/
theorem moveFalls_rd {ks : List ℕ} (hks : ∀ j ∈ ks, j < 52) (hk : k ∈ ks) :
    (ks.foldl (fun J j => J.wr (Int.actFall j) (J.asOf (PWM_OUT_FALL.FALL j) b)) L).rd (Int.actFall k) =
      L.asOf (PWM_OUT_FALL.FALL k) b % 2 ^ 27 := by
  have hk' := hks k hk
  induction ks generalizing L with
  | nil => exact absurd hk List.not_mem_nil
  | cons j r ih =>
    have hr : ∀ i ∈ r, i < 52 := fun i hi => hks i (List.mem_cons_of_mem _ hi)
    by_cases hmem : k ∈ r
    · refine (ih hr hmem).trans ?_
      rw [asOf_wr_ne (fall_key_ne hk' (hks j List.mem_cons_self))]
    · have hkj : k = j := (List.mem_cons.1 hk).resolve_right hmem
      subst hkj
      have hkept : (L.wr (Int.actFall k) (L.asOf (PWM_OUT_FALL.FALL k) b)).Holds [Int.actFall k]
          (r.foldl (fun J j => J.wr (Int.actFall j) (J.asOf (PWM_OUT_FALL.FALL j) b)) (L.wr (Int.actFall k) (L.asOf (PWM_OUT_FALL.FALL k) b))) :=
        .foldl (fun i hi _ hJ => .wr (by simpa using actFall_key_ne fun e : i = k => hmem (e ▸ hi)) hJ) (.refl _)
      exact (hkept.rd _ List.mem_cons_self).trans (rd_wr_same ..)

/-- What the group's commit leaves to do once its shadows have moved and its outputs are released (R141, R274). -/
def afterCommit (L : Lane) (g b : ℕ) : Lane :=
  let K := ((outsOf g).foldl (fun J k => (J.put (Int.wroteRise k) (J.lateWrite (Int.wroteRise k) b)).put (Int.wroteFall k)
    (J.lateWrite (Int.wroteFall k) b)) L).freeGroup g
  if decide (g < 8) && K.on (Int.stopping g) then (K.clr (Int.stopping g)).checkCluster (g / 4) else K

theorem takeCommit_eq (L : Lane) (g b : ℕ) (mid : Bool) :
    L.takeCommit g b mid = (((L.moveShadows g b mid).useCommit g b).clr (Int.holdOff g)).afterCommit g b := rfl

/-- The marks of the shadows written since the last commit. -/
def wroteFields : List Fld := (List.range 52).flatMap fun k => [Int.wroteRise k, Int.wroteFall k]

/-- What a write to those marks, to the STO of its axis and the look at its cluster keep. -/
theorem afterCommit_keeps (P : Lane → Prop) (hg : g < 12) (hwrote : ∀ f ∈ wroteFields, ∀ K v, P K → P (K.wr f v))
    (haxis : g < 8 → ∀ f ∈ [Int.stoGroup g, Int.stopping g], ∀ K v, P K → P (K.wr f v)) (hcluster : ∀ c < 2, ∀ K, P K → P (K.checkCluster c))
    (h : P L) : P (L.afterCommit g b) := by
  have hmem : ∀ k ∈ outsOf g, ∀ f ∈ [Int.wroteRise k, Int.wroteFall k], f ∈ wroteFields :=
    fun k hk f hf => List.mem_flatMap.2 ⟨k, List.mem_range.2 (outsOf_lt hg hk), hf⟩
  have hfree : ∀ K, P K → P (K.freeGroup g) := fun K hK => by
    unfold freeGroup
    split_ifs with hpads
    · simp only [Bool.and_eq_true, decide_eq_true_eq] at hpads
      exact haxis hpads.1.1 _ (by simp) _ _ hK
    · exact hK
  unfold afterCommit
  extract_lets K
  have hK : P K :=
    hfree _ (foldl_mem_keeps P (fun k hk _ hJ => hwrote _ (hmem k hk _ (by simp)) _ _ (hwrote _ (hmem k hk _ (by simp)) _ _ hJ)) h)
  split_ifs with hstops
  · simp only [Bool.and_eq_true, decide_eq_true_eq] at hstops
    exact hcluster _ (by omega) _ (haxis hstops.1 _ (by simp) _ _ hK)
  · exact hK

theorem Holds.afterCommit (hg : g < 12) (hfs : Fld.Apart reportFields fs) (hwrote : Fld.Apart wroteFields fs) (h : O.Holds fs L) :
    O.Holds fs (L.afterCommit g b) := by
  obtain ⟨-, -, -, -, haxes, -⟩ := reportFields_units
  refine afterCommit_keeps _ hg (fun f hf _ _ hK => .wr (hwrote f hf) hK) (fun hg8 f hf _ _ hK => .wr ?_ hK)
    (fun _ hc _ hK => .checkCluster hfs hc hK) h
  obtain ⟨-, hstopping, hgroup, -⟩ := haxes g hg8
  rcases List.mem_pair.1 hf with rfl | rfl
  · exact hfs _ hgroup
  · exact hfs _ hstopping

/-- The outputs that a commit has released stay released. -/
theorem StaysOff.afterCommit (hg : g < 12) (h : O.StaysOff g L) : O.StaysOff g (L.afterCommit g b) := by
  have hwrote : ∀ g < 12, Fld.Apart wroteFields (offFields g) := by decide +kernel
  have haxis : ∀ g < 8, Fld.Apart [Int.stoGroup g, Int.stopping g] (offFields g) := by decide
  exact afterCommit_keeps _ hg (fun f hf _ _ hK => .wr (hwrote g hg f hf) hK) (fun hg8 f hf _ _ hK => .wr (haxis g hg8 f hf) hK)
    (fun _ hc _ hK => .checkCluster hg hc hK) h

/-- At mid-period FALL alone moves (R141). -/
theorem Holds.moveFalls (hg : g < 12) (hfall : ∀ k < 52, (Int.actFall k).key ∉ fs.map Fld.key) (h : O.Holds fs L) :
    O.Holds fs (L.moveShadows g b true) := .foldl (fun k hk _ hJ => .wr (hfall k (outsOf_lt hg hk)) hJ) h

theorem Holds.useCommit (hcommit : Fld.Apart [Int.commit g, Int.commitAt g] fs) (h : O.Holds fs L) : O.Holds fs (L.useCommit g b) :=
  .ite (.wr (hcommit _ (by simp)) h) (.wr (hcommit _ (by simp)) h)

/-- A commit taken leaves one waiting only where it came too late for this transfer point (R160). -/
theorem useCommit_commit (hg : g < 12) (h : L.on (Int.commit g) = true) :
    (L.useCommit g b).on (Int.commit g) = decide (b < L.rd (Int.commitLast g) + 4) := by
  unfold useCommit
  split_ifs with hlate
  · rw [on_wr_ne _ _ _ _ (commitFields_distinct g hg).1, h, decide_eq_true hlate]
  · rw [clr_eq, on_wr_same, decide_eq_false hlate]
    rfl

/-- The active FALL positions and the waiting commits. -/
def fallsAndCommits : List Fld := (List.range 52).map Int.actFall ++ (List.range 12).map Int.commit

theorem afterCommit_apart : Fld.Apart reportFields fallsAndCommits ∧ Fld.Apart wroteFields fallsAndCommits := by decide +kernel

theorem commit_apart_falls : ∀ g < 12, Fld.Apart [Int.commit g, Int.commitAt g, Int.holdOff g] ((List.range 52).map Int.actFall) ∧
    (Int.holdOff g).key ∉ [Int.commit g].map Fld.key ∧ ∀ k < 52, (Int.actFall k).key ∉ [Int.commit g, Int.commitLast g].map Fld.key := by
  decide +kernel

/-- What follows the move of the shadows writes neither. -/
theorem afterCommit_holds (L : Lane) (b : ℕ) (hg : g < 12) : L.Holds fallsAndCommits (L.afterCommit g b) :=
  .afterCommit hg afterCommit_apart.1 afterCommit_apart.2 (.refl L)

theorem takeCommit_falls (L : Lane) (b : ℕ) (hg : g < 12) (hk : k ∈ outsOf g) :
    (L.takeCommit g b true).rd (Int.actFall k) = L.asOf (PWM_OUT_FALL.FALL k) b % 2 ^ 27 := by
  have hmem : Int.actFall k ∈ (List.range 52).map Int.actFall := List.mem_map_of_mem (List.mem_range.2 (outsOf_lt hg hk))
  obtain ⟨hfall, -, -⟩ := commit_apart_falls g hg
  have hused : (L.moveShadows g b true).Holds ((List.range 52).map Int.actFall)
      (((L.moveShadows g b true).useCommit g b).clr (Int.holdOff g)) :=
    .wr (hfall _ (by simp)) (.useCommit (fun f hf => hfall f (by simp at hf ⊢; tauto)) (.refl _))
  rw [takeCommit_eq, (afterCommit_holds _ b hg).rd _ (List.mem_append_left _ hmem), hused.rd _ hmem]
  exact moveFalls_rd (fun _ hj => outsOf_lt hg hj) hk

theorem takeCommit_releases (L : Lane) (b : ℕ) (hg : g < 12) (mid : Bool) : (L.takeCommit g b mid).on (Int.holdOff g) = false := by
  rw [takeCommit_eq]
  exact (StaysOff.afterCommit hg (.refl _)).hold.trans ((on_wr_same ..).trans rfl)

theorem takeCommit_waits (b : ℕ) (hg : g < 12) (h : L.on (Int.commit g) = true) :
    (L.takeCommit g b true).on (Int.commit g) = decide (b < L.rd (Int.commitLast g) + 4) := by
  obtain ⟨-, hhold, hfalls⟩ := commit_apart_falls g hg
  have hmoved : L.Holds [Int.commit g, Int.commitLast g] (L.moveShadows g b true) := .moveFalls hg hfalls (.refl L)
  have hreleased : ((L.moveShadows g b true).useCommit g b).Holds [Int.commit g]
      (((L.moveShadows g b true).useCommit g b).clr (Int.holdOff g)) := .wr hhold (.refl _)
  have hmem : Int.commit g ∈ fallsAndCommits := List.mem_append_right _ (List.mem_map_of_mem (List.mem_range.2 hg))
  rw [takeCommit_eq, (afterCommit_holds _ b hg).on hmem, hreleased.on List.mem_cons_self,
    useCommit_commit hg ((hmoved.on (by simp)).trans h), hmoved.rd _ (by simp)]

/-- Taking a commit at mid-period leaves both memories. -/
theorem takeCommit_holds (L : Lane) (b : ℕ) (hg : g < 12) : L.Holds [] (L.takeCommit g b true) := by
  have hnone : ∀ gs, Fld.Apart gs [] := fun _ _ _ => List.not_mem_nil
  rw [takeCommit_eq]
  exact .afterCommit hg (hnone _) (hnone _) (.wr List.not_mem_nil (.useCommit (hnone _)
    (.moveFalls hg (fun _ _ => List.not_mem_nil) (.refl L))))

/-! ### The transfer points of an axis group -/

theorem transfer_mid_taken (hg : g < 8) (hcount : L.on (PWM_GROUP_STATUS.COUNTING g) = true) (hruns : L.on Int.pwmStopped = false)
    (hupdate : L.on (CLE_AX_CTL.UPDATE g) = true) (hstarted : L.on (Int.runNew g) = false) (hcommit : L.on (Int.commit g) = true)
    (hwaited : L.rd (Int.commitAt g) + 4 ≤ L.ftb) : L.transfer g true = (L.takeCommit g L.ftb true).judgeMoved L g := by
  simp [transfer, midOn, hg, hcount, hruns, hupdate, hstarted, hcommit, hwaited, Nat.not_le.2 hg]

/-- A mid-period without a commit to take, or at which the group does not transfer. -/
theorem transfer_mid_rests (hg : g < 8)
    (h : L.on (Int.commit g) = false ∨ L.ftb < L.rd (Int.commitAt g) + 4 ∨ L.on (CLE_AX_CTL.UPDATE g) = false ∨ L.on (Int.runNew g) = true ∨
      L.on (PWM_GROUP_STATUS.COUNTING g) = false ∨ L.on Int.pwmStopped = true) : L.transfer g true = L := by
  have hnone : (L.on (Int.commit g) && decide (L.rd (Int.commitAt g) + 4 ≤ L.ftb)) = false → L.transfer g true = L := fun hnone => by
    simp [transfer, Nat.not_le.2 hg, hnone]
  rcases h with h | h | h | h | h | h
  · exact hnone (by simp [h])
  · exact hnone (by simp [h])
  · exact if_pos (by simp [midOn, hg, h])
  · exact if_pos (by simp [h])
  · exact if_pos (by simp [h])
  · exact if_pos (by simp [h])

theorem transfer_rests {mid : Bool} (h : L.on (PWM_GROUP_STATUS.COUNTING g) = false ∨ L.on Int.pwmStopped = true) : L.transfer g mid = L :=
  if_pos (by rcases h with h | h <;> simp [h])

theorem transfer_start (hg : g < 8) (hcount : L.on (PWM_GROUP_STATUS.COUNTING g) = true) (hruns : L.on Int.pwmStopped = false)
    (hnone : L.on (Int.commit g) = false) :
    L.transfer g false = (((L.wr (Int.runNew g) 0).wr (Int.groupAt g) L.ftb).align g).judgeCompares g := by
  simp [transfer, hcount, hruns, hnone, Nat.not_le.2 hg]

theorem startFields_apart : ∀ g < 12, Fld.Apart reportFields [Int.groupAt g, Int.runNew g] ∧
    Fld.Apart waveFields [Int.groupAt g, Int.runNew g] ∧ Fld.Apart (alignFields g) [Int.groupAt g, Int.runNew g] ∧
    (Int.groupAt g).key ∉ [Int.runNew g].map Fld.key := by decide +kernel

/-- A period start without a commit: the reference instant, and what follows leaves it (R136, R153). -/
theorem transfer_start_shows (hg : g < 8) (hcount : L.on (PWM_GROUP_STATUS.COUNTING g) = true) (hruns : L.on Int.pwmStopped = false)
    (hnone : L.on (Int.commit g) = false) : (L.transfer g false).rd (Int.groupAt g) = L.ftb % 2 ^ 64 ∧
      (L.transfer g false).on (Int.runNew g) = false ∧ (L.transfer g false).mem = L.mem ∧ (L.transfer g false).nor = L.nor := by
  have hg' : g < 12 := by omega
  obtain ⟨hreport, hwave, halign, hat⟩ := startFields_apart g hg'
  have hkept : ((L.wr (Int.runNew g) 0).wr (Int.groupAt g) L.ftb).Holds [Int.groupAt g, Int.runNew g] (L.transfer g false) := by
    rw [transfer_start hg hcount hruns hnone]
    exact .judgeCompares hreport hwave hg' (.align hreport halign (.refl _))
  have hnew : (L.wr (Int.runNew g) 0).Holds [Int.runNew g] ((L.wr (Int.runNew g) 0).wr (Int.groupAt g) L.ftb) := .wr hat (.refl _)
  exact ⟨(hkept.rd _ (by simp)).trans (rd_wr_same ..),
    (hkept.on (by simp)).trans ((hnew.on List.mem_cons_self).trans ((on_wr_same ..).trans rfl)), hkept.mem, hkept.nor⟩

/-! ### RUN -/

theorem writeRun_same {run : Bool} (h : L.on (PWM_GROUP_CTL.RUN g) = run) : L.writeRun g run = L := if_pos h

/-- The lane whose group has started, before its override follows (R157, R163). -/
def startRun (L : Lane) (g : ℕ) : Lane :=
  let K := (L.wr (PWM_GROUP_CTL.RUN g) 1).wr (PWM_GROUP_STATUS.COUNTING g) 1
  (((((K.wr (Int.auxHeld g) 0).wr (Int.groupAt g) K.ftb).wr (Int.alignedOnce g) 0).wr (Int.misRun g) 0).wr (Int.holdOff g) 1).wr
    (Int.runNew g) 1

theorem writeRun_rise (h : L.on (PWM_GROUP_CTL.RUN g) = false) : L.writeRun g true = (L.startRun g).syncOverride g := by
  unfold writeRun
  rw [if_neg (by simp [h])]
  simp only [Bool.not_true, Bool.false_and, Bool.false_eq_true, if_false, if_true, put_eq, clr_eq, set_eq, bit, startRun]

/-- The lane whose group has stopped, before its override follows. -/
def stopRun (L : Lane) (g : ℕ) : Lane := (L.wr (PWM_GROUP_CTL.RUN g) 0).wr (PWM_GROUP_STATUS.COUNTING g) 0

theorem writeRun_fall (h : L.on (PWM_GROUP_CTL.RUN g) = true) : L.writeRun g false =
    if decide (g < 8) && ((L.stopRun g).syncOverride g).on (Int.stopping g) then
      (((L.stopRun g).syncOverride g).clr (Int.stopping g)).checkCluster (g / 4)
    else (L.stopRun g).syncOverride g := (if_neg (by simp [h])).trans rfl

theorem runFields_apart : ∀ g < 12,
    Fld.Apart reportFields [PWM_GROUP_CTL.RUN g, PWM_GROUP_STATUS.COUNTING g, Int.groupAt g] ∧
    Fld.Apart [PWM_GROUP_STATUS.COUNTING g, Int.auxHeld g, Int.groupAt g, Int.alignedOnce g, Int.misRun g, Int.holdOff g, Int.runNew g]
      [PWM_GROUP_CTL.RUN g] ∧
    Fld.Apart [Int.auxHeld g, Int.groupAt g, Int.alignedOnce g, Int.misRun g, Int.holdOff g, Int.runNew g] [PWM_GROUP_STATUS.COUNTING g] ∧
    Fld.Apart [Int.alignedOnce g, Int.misRun g, Int.holdOff g, Int.runNew g] [Int.groupAt g] ∧
    (Int.runNew g).key ∉ [Int.holdOff g].map Fld.key ∧
    Fld.Apart [PWM_GROUP_CTL.RUN g, PWM_GROUP_STATUS.COUNTING g] [Int.fieldTime] := by decide +kernel

/-- What the start of a group shows: it runs and counts from now on, its outputs held off until a commit (R136, R157). -/
theorem startRun_shows (L : Lane) (hg : g < 12) :
    (L.startRun g).on (PWM_GROUP_CTL.RUN g) = true ∧ (L.startRun g).on (PWM_GROUP_STATUS.COUNTING g) = true ∧
      (L.startRun g).rd (Int.groupAt g) = L.ftb % 2 ^ 64 ∧ (L.startRun g).on (Int.holdOff g) = true := by
  obtain ⟨-, hrun, hcount, hat, hhold, htime⟩ := runFields_apart g hg
  have hrun' : (L.wr (PWM_GROUP_CTL.RUN g) 1).Holds [PWM_GROUP_CTL.RUN g] (L.startRun g) :=
    .wr (hrun _ (by simp)) (.wr (hrun _ (by simp)) (.wr (hrun _ (by simp)) (.wr (hrun _ (by simp)) (.wr (hrun _ (by simp))
      (.wr (hrun _ (by simp)) (.wr (hrun _ (by simp)) (.refl _)))))))
  set J := (L.wr (PWM_GROUP_CTL.RUN g) 1).wr (PWM_GROUP_STATUS.COUNTING g) 1
  have hcount' : J.Holds [PWM_GROUP_STATUS.COUNTING g] (L.startRun g) :=
    .wr (hcount _ (by simp)) (.wr (hcount _ (by simp)) (.wr (hcount _ (by simp)) (.wr (hcount _ (by simp)) (.wr (hcount _ (by simp))
      (.wr (hcount _ (by simp)) (.refl _))))))
  have hat' : ((J.wr (Int.auxHeld g) 0).wr (Int.groupAt g) J.ftb).Holds [Int.groupAt g] (L.startRun g) :=
    .wr (hat _ (by simp)) (.wr (hat _ (by simp)) (.wr (hat _ (by simp)) (.wr (hat _ (by simp)) (.refl _))))
  have htime' : L.Holds [Int.fieldTime] J := .wr (htime _ (by simp)) (.wr (htime _ (by simp)) (.refl _))
  have hnow : J.ftb = L.ftb := htime'.rd _ List.mem_cons_self
  refine ⟨(hrun'.on List.mem_cons_self).trans ((on_wr_same ..).trans rfl), (hcount'.on List.mem_cons_self).trans ((on_wr_same ..).trans rfl),
    ?_, (on_wr_ne _ _ _ _ (by simpa [eq_comm] using hhold)).trans ((on_wr_same ..).trans rfl)⟩
  rw [hat'.rd _ List.mem_cons_self, rd_wr_same, hnow]
  rfl

theorem writeRun_rise_shows (hg : g < 12) (h : L.on (PWM_GROUP_CTL.RUN g) = false) :
    (L.writeRun g true).on (PWM_GROUP_CTL.RUN g) = true ∧ (L.writeRun g true).on (PWM_GROUP_STATUS.COUNTING g) = true ∧
      (L.writeRun g true).rd (Int.groupAt g) = L.ftb % 2 ^ 64 ∧ (L.writeRun g true).on (Int.holdOff g) = true ∧
      (L.writeRun g true).mem = L.mem ∧ (L.writeRun g true).nor = L.nor := by
  obtain ⟨hreport, -⟩ := runFields_apart g hg
  obtain ⟨hrun, hcount, hat, hhold⟩ := L.startRun_shows hg
  rw [writeRun_rise h]
  have hkept := Holds.syncOverride hreport hg (.refl (L.startRun g))
  have hparts : (L.startRun g).mem = L.mem ∧ (L.startRun g).nor = L.nor := by simp only [startRun, wr_mem, wr_nor, and_self]
  exact ⟨(hkept.on (by simp)).trans hrun, (hkept.on (by simp)).trans hcount, (hkept.rd _ (by simp)).trans hat, syncOverride_hold hg hhold,
    hkept.mem.trans hparts.1, hkept.nor.trans hparts.2⟩

theorem stopRun_shows (L : Lane) (hg : g < 12) :
    (L.stopRun g).on (PWM_GROUP_CTL.RUN g) = false ∧ (L.stopRun g).on (PWM_GROUP_STATUS.COUNTING g) = false := by
  obtain ⟨-, hrun, -⟩ := runFields_apart g hg
  have hkept : (L.wr (PWM_GROUP_CTL.RUN g) 0).Holds [PWM_GROUP_CTL.RUN g] (L.stopRun g) := .wr (hrun _ (by simp)) (.refl _)
  exact ⟨(hkept.on List.mem_cons_self).trans ((on_wr_same ..).trans rfl), (on_wr_same ..).trans rfl⟩

/-- A stopped group whose axis holds no ASC pattern has kind 1 (R157). -/
theorem stopRun_wantKind (hg : g < 12) (hasc : g < 8 → L.inAsc g = false) : (L.stopRun g).wantKind g = 1 := by
  have apart : ∀ g < 8, Fld.Apart [PWM_GROUP_CTL.RUN g, PWM_GROUP_STATUS.COUNTING g]
      [CLE_AX_FOX_STATUS.STATE g, CLE_AX_FOX_STATUS.SAFE_PATTERN g] := by decide
  have hnone : (decide (g < 8) && (L.stopRun g).inAsc g) = false := by
    by_cases hg8 : g < 8
    · have hkept : L.Holds [CLE_AX_FOX_STATUS.STATE g, CLE_AX_FOX_STATUS.SAFE_PATTERN g] (L.stopRun g) :=
        .wr (apart g hg8 _ (by simp)) (.wr (apart g hg8 _ (by simp)) (.refl L))
      have hsame : (L.stopRun g).inAsc g = L.inAsc g := by rw [inAsc, inAsc, hkept.rd _ (by simp), hkept.rd _ (by simp)]
      rw [hsame, hasc hg8, Bool.and_false]
    · simp [hg8]
  obtain ⟨hrun, -⟩ := L.stopRun_shows hg
  unfold wantKind
  simp only [hnone, hrun, Bool.false_eq_true, if_false, Bool.not_false, Bool.true_or, if_true, ite_self]

/-- The end of RUN, and of a stop under way with it, leaves the group off (R157, R274). -/
theorem writeRun_fall_shows (hg : g < 12) (h : L.on (PWM_GROUP_CTL.RUN g) = true) :
    (L.writeRun g false).on (PWM_GROUP_CTL.RUN g) = false ∧ (L.writeRun g false).on (PWM_GROUP_STATUS.COUNTING g) = false ∧
      ((g < 8 → L.inAsc g = false) → (L.writeRun g false).rd (PWM_GROUP_STATUS.OVERRIDE g) = 1) ∧ (L.writeRun g false).mem = L.mem ∧
      (L.writeRun g false).nor = L.nor := by
  obtain ⟨hreport, -⟩ := runFields_apart g hg
  obtain ⟨hrun, hcount⟩ := L.stopRun_shows hg
  have hkept : (L.stopRun g).Holds [PWM_GROUP_CTL.RUN g, PWM_GROUP_STATUS.COUNTING g, Int.groupAt g] (L.writeRun g false) := by
    rw [writeRun_fall h]
    have hsynced := Holds.syncOverride hreport hg (.refl (L.stopRun g))
    split_ifs with hstops
    · simp only [Bool.and_eq_true, decide_eq_true_eq] at hstops
      obtain ⟨-, -, -, -, haxes, -⟩ := reportFields_units
      obtain ⟨-, hstopping, -⟩ := haxes g hstops.1
      exact .checkCluster hreport (by omega) (.wr (hreport _ hstopping) hsynced)
    · exact hsynced
  have hoff : ((L.stopRun g).syncOverride g).StaysOff g (L.writeRun g false) := by
    have hstopping : ∀ g < 8, (Int.stopping g).key ∉ (offFields g).map Fld.key := by decide
    rw [writeRun_fall h]
    split_ifs with hstops
    · simp only [Bool.and_eq_true, decide_eq_true_eq] at hstops
      exact .checkCluster hg (by omega) (.wr (hstopping g hstops.1) (.refl _))
    · exact .refl _
  exact ⟨(hkept.on (by simp)).trans hrun, (hkept.on (by simp)).trans hcount,
    fun hasc => hoff.kind (syncOverride_kind hg (stopRun_wantKind hg hasc)), hkept.mem, hkept.nor⟩

/-! ### The resuming of the PWM clock -/

/-- The counting groups marked FROZEN, the clock running again (R159). -/
def frozenGroups (L : Lane) : Lane :=
  (L.wr Int.pwmStopped 0).forN 12 fun g K => K.iff (K.on (PWM_GROUP_STATUS.COUNTING g)) fun J => J.set (PWM_GROUP_STATUS.FROZEN g)

theorem resumePwm_stopped (h : L.on Int.pwmStopped = true) : L.resumePwm = L.frozenGroups.fieldRaise 0x77 := if_neg (by simp [h])

/-- What the resuming shows besides FROZEN, and what it reads. -/
def clockFields : List Fld := [Int.pwmStopped, Int.cum 0x77]

theorem frozen_apart : ∀ g < 12, (PWM_GROUP_STATUS.FROZEN g).key ∉ clockFields.map Fld.key := by decide

theorem frozen_key_ne {i : ℕ} : (PWM_GROUP_STATUS.FROZEN g).key ≠ (PWM_GROUP_STATUS.COUNTING i).key ∧
    (g ≠ i → (PWM_GROUP_STATUS.FROZEN g).key ≠ (PWM_GROUP_STATUS.FROZEN i).key) := by
  simp only [Fld.key, PWM_GROUP_STATUS.FROZEN, PWM_GROUP_STATUS.COUNTING]
  omega

theorem frozenGroups_holds (L : Lane) : (L.wr Int.pwmStopped 0).Holds clockFields L.frozenGroups :=
  .forN (fun g hg _ hK => .iff (fun _ hJ => .wr (frozen_apart g hg) hJ) hK) (.refl _)

theorem frozenGroups_frozen (hg : g < 12) (hcount : L.on (PWM_GROUP_STATUS.COUNTING g) = true) :
    L.frozenGroups.on (PWM_GROUP_STATUS.FROZEN g) = true := by
  have hclock : (L.wr Int.pwmStopped 0).on (PWM_GROUP_STATUS.COUNTING g) = true := by
    have hne : (PWM_GROUP_STATUS.COUNTING g).key ≠ Int.pwmStopped.key :=
      (by decide : ∀ g < 12, (PWM_GROUP_STATUS.COUNTING g).key ≠ Int.pwmStopped.key) g hg
    exact (on_wr_ne _ _ _ _ hne).trans hcount
  refine forN_establishes (P := fun K => K.on (PWM_GROUP_STATUS.FROZEN g) = true) (Q := fun K => K.on (PWM_GROUP_STATUS.COUNTING g) = true) hg
    hclock (fun i _ K hK => ?_) (fun K hK => ?_) fun i _ hlt K hK => ?_
  · exact iff_keeps (fun J => J.on (PWM_GROUP_STATUS.COUNTING g) = true) (fun J hJ => (on_wr_ne _ _ _ _ frozen_key_ne.1.symm).trans hJ) hK
  · rw [hK, iff_true]
    exact (on_wr_same ..).trans rfl
  · exact iff_keeps (fun J => J.on (PWM_GROUP_STATUS.FROZEN g) = true) (fun J hJ => (on_wr_ne _ _ _ _ (frozen_key_ne.2 hlt.ne)).trans hJ) hK

theorem resumePwm_shows (h : L.on Int.pwmStopped = true) :
    L.resumePwm.on Int.pwmStopped = false ∧
      (∀ g < 12, L.on (PWM_GROUP_STATUS.COUNTING g) = true → L.resumePwm.on (PWM_GROUP_STATUS.FROZEN g) = true) ∧
      L.resumePwm.rd (Int.cum 0x77) = (L.rd (Int.cum 0x77) + 1) % 2 ^ 16 ∧ L.resumePwm.mem = L.mem ∧ L.resumePwm.nor = L.nor := by
  have hreport : Fld.Apart reportFields (Int.pwmStopped :: (List.range 12).map PWM_GROUP_STATUS.FROZEN) ∧
      (Int.cum 0x77).key ∉ (Int.pwmStopped :: (List.range 12).map PWM_GROUP_STATUS.FROZEN).map Fld.key := by decide +kernel
  have hmarked := L.frozenGroups_holds
  rw [resumePwm_stopped h]
  have hkept := Holds.fieldRaise hreport.1 hreport.2 (.refl L.frozenGroups)
  refine ⟨?_, fun g hg hcount => ?_, ?_, hkept.mem.trans hmarked.mem, hkept.nor.trans hmarked.nor⟩
  · exact (hkept.on List.mem_cons_self).trans ((hmarked.on (by simp [clockFields])).trans ((on_wr_same ..).trans rfl))
  · exact (hkept.on (List.mem_cons_of_mem _ (List.mem_map_of_mem (List.mem_range.2 hg)))).trans (frozenGroups_frozen hg hcount)
  · rw [fieldRaise_cum _ (by decide), hmarked.rd _ (by simp [clockFields]), rd_wr_ne _ _ _ _ (by decide)]

/-! ### The pads of the auxiliary outputs -/

/-- An auxiliary group whose output is held is off (R158). -/
theorem wantKind_auxHeld (hg : 8 ≤ g) (h : L.on (Int.auxHeld g) = true) : L.wantKind g = 1 := by
  have haxis : ¬ g < 8 := Nat.not_lt.2 hg
  simp [wantKind, haxis, h]

theorem padFields_apart : ∀ g < 12, Fld.Apart reportFields [Int.auxHeld g, Int.cum 0x76] ∧
    (Int.auxHeld g).key ∉ [Int.cum 0x76].map Fld.key := by decide +kernel

/-- The lane after a fault of the pad of an auxiliary output (R158). -/
def auxFault (L : Lane) (g : ℕ) : Lane := ((L.fieldRaise 0x76).wr (Int.auxHeld g) 1).syncOverride g

theorem auxFault_shows (L : Lane) (hg : 8 ≤ g) (hg' : g < 12) : (L.auxFault g).on (Int.auxHeld g) = true ∧
    (L.auxFault g).rd (PWM_GROUP_STATUS.OVERRIDE g) = 1 ∧ (L.auxFault g).rd (Int.cum 0x76) = (L.rd (Int.cum 0x76) + 1) % 2 ^ 16 ∧
    (L.auxFault g).mem = L.mem ∧ (L.auxFault g).nor = L.nor := by
  obtain ⟨hreport, hcum⟩ := padFields_apart g hg'
  have hheld : ((L.fieldRaise 0x76).wr (Int.auxHeld g) 1).on (Int.auxHeld g) = true := (on_wr_same ..).trans rfl
  have hraised : L.Holds [] (L.fieldRaise 0x76) := .fieldRaise (fun _ _ => List.not_mem_nil) List.not_mem_nil (.refl L)
  have hkept : ((L.fieldRaise 0x76).wr (Int.auxHeld g) 1).Holds [Int.auxHeld g, Int.cum 0x76] (L.auxFault g) :=
    .syncOverride hreport hg' (.refl _)
  have hcount : (L.fieldRaise 0x76).Holds [Int.cum 0x76] ((L.fieldRaise 0x76).wr (Int.auxHeld g) 1) := .wr hcum (.refl _)
  refine ⟨(hkept.on (by simp)).trans hheld, syncOverride_kind hg' (wantKind_auxHeld hg hheld), ?_, hkept.mem.trans hraised.mem,
    hkept.nor.trans hraised.nor⟩
  rw [hkept.rd _ (by simp), hcount.rd _ (by simp), fieldRaise_cum _ (by decide)]

theorem groupOf_axis (h : k < 48) : groupOf k < 8 := by
  rw [groupOf, if_pos h]
  omega

theorem groupOf_aux (h : 48 ≤ k) (hk : k < 52) : 8 ≤ groupOf k ∧ groupOf k < 12 := by
  rw [groupOf, if_neg (by omega)]
  omega

theorem padReadbackFault_aux {s : State} {l : LaneId} {k : Fin 52} (h : 48 ≤ (k : ℕ)) :
    exec (.padReadbackFault l k) s = .next (s.onLane l fun L => L.auxFault (groupOf k)) :=
  congrArg Host.Outcome.next (onLane_congr s l (if_neg (Nat.not_lt.2 (groupOf_aux h k.isLt).1)))

theorem padReadbackFault_axis {s : State} {l : LaneId} {k : Fin 52} (h : (k : ℕ) < 48) :
    exec (.padReadbackFault l k) s = .next (s.onLane l fun L => (L.fieldRaise 0x76).enterSafe (groupOf k) 0x76) :=
  congrArg Host.Outcome.next (onLane_congr s l (if_pos (groupOf_axis h)))

end Lane

/-- Settles O11: a transfer point by what `Lane.transfer` does in each case, a commit by what follows the move of its shadows, RUN and the
faults by the override that their group is to have. -/
theorem transferPointsRunsAndClocks : Obligations.TransferPointsRunsAndClocks := by
  unfold Obligations.TransferPointsRunsAndClocks
  refine ⟨⟨?taken, ?commit, ?mid, ?rests, ?start⟩, ?same, ?rise, ?fall, ?resume, ?runs, ?aux, ?axis⟩
  case taken =>
    rintro s l g _ rfl hg hcount hruns hupdate hstarted hcommit hwaited
    have htaken := (s.lane l).takeCommit_holds (s.lane l).ftb g.isLt
    have hjudged : (s.lane l).Holds [] (((s.lane l).takeCommit g (s.lane l).ftb true).judgeMoved (s.lane l) g) :=
      .judgeMoved (fun _ _ => List.not_mem_nil) (fun _ _ => List.not_mem_nil) g.isLt htaken
    exact ⟨_, congrArg Host.Outcome.next (onLane_congr s l
      (Lane.transfer_mid_taken hg hcount hruns hupdate hstarted hcommit hwaited)), rfl, hjudged.mem, hjudged.nor⟩
  case commit =>
    exact fun L g b hg => ⟨fun _ hk => L.takeCommit_falls b hg hk, L.takeCommit_releases b hg true, Lane.takeCommit_waits b hg⟩
  case mid =>
    rintro s l g _ rfl hg hrests
    exact congrArg Host.Outcome.next (onLane_congr s l (Lane.transfer_mid_rests hg hrests))
  case rests =>
    rintro s l g _ rfl hrests
    exact congrArg Host.Outcome.next (onLane_congr s l (Lane.transfer_rests hrests))
  case start =>
    rintro s l g _ rfl hg hcount hruns hnone
    exact completes_of_exec rfl (Lane.transfer_start_shows hg hcount hruns hnone)
  case same => exact fun s l g run hrun => congrArg Host.Outcome.next (onLane_congr s l (Lane.writeRun_same hrun))
  case rise =>
    rintro s l g _ rfl hrun
    exact completes_of_exec rfl (Lane.writeRun_rise_shows g.isLt hrun)
  case fall =>
    rintro s l g _ rfl hrun
    exact completes_of_exec rfl (Lane.writeRun_fall_shows g.isLt hrun)
  case resume =>
    rintro s l _ rfl hstopped
    obtain ⟨hruns, hfrozen, hrest⟩ := Lane.resumePwm_shows hstopped
    exact completes_of_exec rfl ⟨hruns, fun g => hfrozen g g.isLt, hrest⟩
  case runs => exact fun s l hruns => congrArg Host.Outcome.next (onLane_congr s l (if_pos (by simp [hruns])))
  case aux =>
    rintro s l k _ rfl hk
    obtain ⟨haux, hlt⟩ := Lane.groupOf_aux hk k.isLt
    exact completes_of_exec (Lane.padReadbackFault_aux hk) ((s.lane l).auxFault_shows haux hlt)
  case axis => exact fun s l k hk => Lane.padReadbackFault_axis hk

end Sys2Proof.Machine
end

-- ==== Feedback statements refuted by a field beyond its width ====
section
/-! Three statements about the feedback unit, each refuted by a lane of whose fields one holds more than its bits. No statement bounds what
the fields of its lane hold, so a count in such a field is written back less the bits beyond its width. -/

namespace Sys2Proof.Machine

/-- The package at reset, but for axis 0 of lane A, which is enabled in sector 0 (CODE 5) and whose field store lists 2^32 + 1 for OVR_LOW,
a value that its 32 bits do not hold and no write stores. -/
def State.overrunOverfull : State :=
  { State.reset with a := { State.reset.a with
      regs := [((FBI_AX_CFG.EN 0).key, 1), ((FBI_AX_STATUS.SECTOR 0).key, 0), ((FBI_AX_STATUS.CODE 0).key, 5),
        ((FBI_AX.OVR_LOW 0).key, 2 ^ 32 + 1)] } }

/-- Refutes O19: the edge into sector 1 (CODE 4) is forward and takes the open backward overrun down by one (R177), but of 2^32 only the
bits of the field are kept, so that OVR_LOW becomes 0. -/
theorem not_hallEdgesFaultsAndSpeed : ¬ Obligations.HallEdgesFaultsAndSpeed := by
  unfold Obligations.HallEdgesFaultsAndSpeed
  rintro ⟨⟨hforward, -⟩, -⟩
  obtain ⟨K, hK, -, -, -, -, -, -, hoverrun, -⟩ := hforward State.overrunOverfull .a 0 4 3 0 0 4 0 1 _ rfl rfl (by decide) (by decide)
    (by decide) (by decide) (by decide) (by decide) (by decide) (by decide) (by decide)
  obtain ⟨-, hcount⟩ := hoverrun (by decide)
  have hlane := congrArg (fun L : Lane => L.rd (FBI_AX.OVR_LOW 0)) (lane_of_next_onLane (s := State.overrunOverfull) rfl hK)
  exact absurd (hlane.trans hcount) (by decide +kernel)

/-- The package at reset, but for lane A, whose field store lists 4 for DIR of compare 0 of axis 0, a value that its two bits do not hold
and no write stores. -/
def State.compareDirOverfull : State :=
  { State.reset with a := { State.reset.a with regs := [((FBI_AX_CMP_CTL.DIR 0 0).key, 4)] } }

/-- Refutes O20: at standstill no value lies behind, so COMPARE_ARM takes DIR as the effective direction (R184), of which two bits are
kept: from 4 in DIR, EFF_DIR becomes 0. -/
theorem not_positionPresetLimitsAndCompares : ¬ Obligations.PositionPresetLimitsAndCompares := by
  unfold Obligations.PositionPresetLimitsAndCompares
  rintro ⟨-, -, -, harm, -⟩
  obtain ⟨K, hK, -, -, -, -, -, -, hahead, -⟩ :=
    harm State.compareDirOverfull .a 0 0 0 0 0 false false _ rfl (by decide) (by decide) (by decide) (by decide)
  obtain ⟨hdir, -⟩ := hahead rfl
  have hlane := congrArg (fun L : Lane => L.rd (FBI_AX_CMP_CTL.EFF_DIR 0 0)) (lane_of_next_onLane (s := State.compareDirOverfull) rfl hK)
  exact absurd (hlane.trans hdir) (by decide)

/-- The package at reset, but for lane A, whose field store lists 9 waiting action instants, a count that the three bits of its field do not
hold and no write stores. -/
def State.instantsOverfull : State := { State.reset with a := { State.reset.a with regs := [(Int.actCount.key, 9)] } }

/-- Refutes O21: LATCH_INSTANT takes one action instant from its list (R186), and of the 8 that remain three bits are kept, so that the
list counts none. -/
theorem not_latchesOfTheFeedbackUnit : ¬ Obligations.LatchesOfTheFeedbackUnit := by
  unfold Obligations.LatchesOfTheFeedbackUnit
  rintro ⟨-, -, -, -, hinstant, -⟩
  obtain ⟨K, hK, hcount, -⟩ := hinstant State.instantsOverfull .a _ rfl (by decide)
  have hlane := congrArg (fun L : Lane => L.rd Int.actCount) (lane_of_next_onLane (s := State.instantsOverfull) rfl hK)
  exact absurd (hlane.trans hcount) (by decide)

end Sys2Proof.Machine
end

-- ==== Rail thresholds, conversions and energy ====
section
/-! The thresholds of a rail keep their order at a write (R197, R214), a conversion takes and releases them (R196, R198), and the energy counters
are reset and checked (R210). -/

namespace Sys2Proof.Machine

namespace Lane

variable {L O : Lane} {fs : List Fld} {k : ℕ}

/-! ### Threshold writes -/

/-- Two values that are to lie in order between two bounds, clamped in the three steps of R197: they keep the order, and a pair in order is
itself. -/
theorem clampPair_ordered {lo hi a b low up : ℕ} (hlow : low = clampLow lo (min b hi - 1) a) (hup : up = max (min b hi) (low + 1)) (h : lo < hi) :
    lo ≤ low ∧ low < up ∧ up ≤ hi ∧ (lo ≤ a → a < b → b ≤ hi → low = a ∧ up = b) := by
  unfold clampLow at hlow
  omega

/-- What two fields read after both are written with values that fit, and that no other field changes. -/
theorem wr_pair (L : Lane) {f g : Fld} {a b : ℕ} (hne : f.key ≠ g.key) (ha : a < 2 ^ f.width) (hb : b < 2 ^ g.width) :
    ((L.wr f a).wr g b).rd f = a ∧ ((L.wr f a).wr g b).rd g = b ∧ L.onlyFields ((L.wr f a).wr g b) [f, g] :=
  ⟨by rw [rd_wr_ne _ _ _ _ hne, rd_wr_same, Nat.mod_eq_of_lt ha], by rw [rd_wr_same, Nat.mod_eq_of_lt hb],
    onlyFields_wr (onlyFields_wr (L.onlyFields_refl _) _ _ (by simp)) _ _ (by simp)⟩

theorem writeOv12_ordered (L : Lane) (k a b : ℕ) (hgap : L.rd (DCL_RAIL_CH.CH_FULL k) + 2 ≤ L.rd (DCL_RAIL_OV3.OV3 k))
    (hfit : L.rd (DCL_RAIL_OV3.OV3 k) < 4096) :
    L.rd (DCL_RAIL_CH.CH_FULL k) ≤ (L.writeOv12 k a b).rd (DCL_RAIL_OV12.OV1 k) ∧
    (L.writeOv12 k a b).rd (DCL_RAIL_OV12.OV1 k) < (L.writeOv12 k a b).rd (DCL_RAIL_OV12.OV2 k) ∧
    (L.writeOv12 k a b).rd (DCL_RAIL_OV12.OV2 k) < L.rd (DCL_RAIL_OV3.OV3 k) ∧
    (L.rd (DCL_RAIL_CH.CH_FULL k) ≤ a → a < b → b < L.rd (DCL_RAIL_OV3.OV3 k) →
      (L.writeOv12 k a b).rd (DCL_RAIL_OV12.OV1 k) = a ∧ (L.writeOv12 k a b).rd (DCL_RAIL_OV12.OV2 k) = b) ∧
    L.onlyFields (L.writeOv12 k a b) [DCL_RAIL_OV12.OV1 k, DCL_RAIL_OV12.OV2 k] := by
  unfold writeOv12
  extract_lets up low
  obtain ⟨hlow, hlt, hup, hkept⟩ := clampPair_ordered (low := low) rfl rfl
    (show L.rd (DCL_RAIL_CH.CH_FULL k) < L.rd (DCL_RAIL_OV3.OV3 k) - 1 by omega)
  obtain ⟨h₁, h₂, honly⟩ := L.wr_pair (f := DCL_RAIL_OV12.OV1 k) (g := DCL_RAIL_OV12.OV2 k) (Fld.key_ne_of_lsb rfl rfl (show 0 ≠ 16 by decide))
    (show low < 4096 by omega) (show max up (low + 1) < 4096 by omega)
  rw [h₁, h₂]
  exact ⟨hlow, hlt, by omega, fun h h' h'' => hkept h h' (by omega), honly⟩

theorem writeOv3_ordered (L : Lane) (k a : ℕ) {hyst : ℕ} (hhyst : hyst < 2 ^ 8)
    (hgap : L.rd (DCL_RAIL_OV12.OV2 k) < L.rd (DCL_RAIL_CFG.RAIL_FS k))
    (hfit : L.rd (DCL_RAIL_CFG.RAIL_FS k) < 4096) :
    L.rd (DCL_RAIL_OV12.OV2 k) < (L.writeOv3 k a hyst).rd (DCL_RAIL_OV3.OV3 k) ∧
    (L.writeOv3 k a hyst).rd (DCL_RAIL_OV3.OV3 k) ≤ L.rd (DCL_RAIL_CFG.RAIL_FS k) ∧ (L.writeOv3 k a hyst).rd (DCL_RAIL_OV3.HYST k) = hyst ∧
    (L.rd (DCL_RAIL_OV12.OV2 k) < a → a ≤ L.rd (DCL_RAIL_CFG.RAIL_FS k) → (L.writeOv3 k a hyst).rd (DCL_RAIL_OV3.OV3 k) = a) ∧
    L.onlyFields (L.writeOv3 k a hyst) [DCL_RAIL_OV3.OV3 k, DCL_RAIL_OV3.HYST k] := by
  unfold writeOv3 clampLow
  obtain ⟨h₁, h₂, honly⟩ := L.wr_pair (f := DCL_RAIL_OV3.OV3 k) (g := DCL_RAIL_OV3.HYST k)
    (Fld.key_ne_of_lsb rfl rfl (show 0 ≠ 16 by decide))
    (show max (L.rd (DCL_RAIL_OV12.OV2 k) + 1) (min a (L.rd (DCL_RAIL_CFG.RAIL_FS k))) < 4096 by omega) hhyst
  rw [h₁, h₂]
  exact ⟨by omega, by omega, rfl, fun _ _ => by omega, honly⟩

theorem writeCh_ordered (L : Lane) (k a b : ℕ) (hgap : 2 ≤ L.rd (DCL_RAIL_OV12.OV1 k)) (hfit : L.rd (DCL_RAIL_OV12.OV1 k) < 4096) :
    1 ≤ (L.writeCh k a b).rd (DCL_RAIL_CH.CH_ON k) ∧
    (L.writeCh k a b).rd (DCL_RAIL_CH.CH_ON k) < (L.writeCh k a b).rd (DCL_RAIL_CH.CH_FULL k) ∧
    (L.writeCh k a b).rd (DCL_RAIL_CH.CH_FULL k) ≤ L.rd (DCL_RAIL_OV12.OV1 k) ∧
    (1 ≤ a → a < b → b ≤ L.rd (DCL_RAIL_OV12.OV1 k) →
      (L.writeCh k a b).rd (DCL_RAIL_CH.CH_ON k) = a ∧ (L.writeCh k a b).rd (DCL_RAIL_CH.CH_FULL k) = b) ∧
    L.onlyFields (L.writeCh k a b) [DCL_RAIL_CH.CH_ON k, DCL_RAIL_CH.CH_FULL k] := by
  unfold writeCh
  extract_lets up low
  obtain ⟨hlow, hlt, hup, hkept⟩ := clampPair_ordered (low := low) rfl rfl (show 1 < L.rd (DCL_RAIL_OV12.OV1 k) by omega)
  obtain ⟨h₁, h₂, honly⟩ := L.wr_pair (f := DCL_RAIL_CH.CH_ON k) (g := DCL_RAIL_CH.CH_FULL k) (Fld.key_ne_of_lsb rfl rfl (show 0 ≠ 16 by decide))
    (show low < 4096 by omega) (show max up (low + 1) < 4096 by omega)
  rw [h₁, h₂]
  exact ⟨hlow, hlt, hup, hkept, honly⟩

/-! ### One threshold at a conversion -/

/-- What a threshold writes of its own: its run, its bits, the loss seen on the rail, its source and what OV3 counts and marks (R198, R202). -/
def ovFields (k i : ℕ) : List Fld :=
  [Int.ovRun k i, ovAct k i, ovSeen k i, Int.lossSeen k, Int.cum (0x80 + i), DCL_RAIL_FLAGS.OV3_CNT k, DCL_AXIS_STATUS.OV3_SAFE]

/-- The lane with a threshold taken, before what the threshold sets off (R198). -/
def ovTaken (L : Lane) (k i : ℕ) : Lane := (((L.clr (Int.ovRun k i)).put (ovAct k i) true).set (ovSeen k i)).fieldRaise (0x80 + i)

/-- What follows a threshold that is taken: OV3 is counted and its axes enter their safe state, at OV2 a loss may be seen again. -/
def ovFollows (L : Lane) (k i : ℕ) : Lane :=
  if i = 2 then (L.inc (DCL_RAIL_FLAGS.OV3_CNT k)).ov3Axes k else L.iff (i = 1) fun J => J.clr (Int.lossSeen k)

section
variable {i : ℕ} (hfs : Fld.Apart reportFields fs) (hsafe : ∀ n < 8, Fld.Apart (safeFields n) fs)

include hfs hsafe in
theorem Holds.ov3Axes (hmark : DCL_AXIS_STATUS.OV3_SAFE.key ∉ fs.map Fld.key) (h : O.Holds fs L) : O.Holds fs (L.ov3Axes k) :=
  .forN (fun n hn _ hK => .iff (fun _ hJ => .enterSafe hn hfs (hsafe n hn) (.wr hmark hJ)) hK) h

include hfs hsafe in
theorem Holds.ovFollows (hmark : DCL_AXIS_STATUS.OV3_SAFE.key ∉ fs.map Fld.key) (hcnt : (DCL_RAIL_FLAGS.OV3_CNT k).key ∉ fs.map Fld.key)
    (hloss : (Int.lossSeen k).key ∉ fs.map Fld.key) (h : O.Holds fs L) : O.Holds fs (L.ovFollows k i) :=
  .ite (.ov3Axes hfs hsafe hmark (.wr hcnt h)) (.iff (fun _ hJ => .wr hloss hJ) h)

theorem evalOv_takes (hact : L.on (ovAct k i) = false) (habove : L.railAbove k (L.rd (ovValue k i)) = true)
    (hrun : L.rd (DCL_RAIL_CFG.FILT k) ≤ L.rd (Int.ovRun k i) + 1) : L.evalOv k i = (L.ovTaken k i).ovFollows k i := by
  simp [evalOv, hact, habove, hrun, ovTaken, ovFollows]

theorem evalOv_releases (hact : L.on (ovAct k i) = true) (hhyst : L.rd (DCL_RAIL_OV3.HYST k) ≤ L.rd (ovValue k i))
    (hbelow : L.railAbove k (L.rd (ovValue k i) - L.rd (DCL_RAIL_OV3.HYST k)) = false)
    (hrun : L.rd (DCL_RAIL_CFG.FILT k) ≤ L.rd (Int.ovRun k i) + 1) :
    L.evalOv k i = ((L.clr (Int.ovRun k i)).put (ovAct k i) false).iff (i = 1) fun J => J.clr (Int.lossSeen k) := by
  simp [evalOv, hact, hhyst, hbelow, hrun]

theorem evalOv_waits (hact : L.on (ovAct k i) = false) (habove : L.railAbove k (L.rd (ovValue k i)) = true)
    (hrun : L.rd (Int.ovRun k i) + 1 < L.rd (DCL_RAIL_CFG.FILT k)) : L.evalOv k i = L.wr (Int.ovRun k i) (L.rd (Int.ovRun k i) + 1) := by
  simp [evalOv, hact, habove, hrun]

theorem evalOv_stays (hact : L.on (ovAct k i) = false) (hbelow : L.railAbove k (L.rd (ovValue k i)) = false) :
    L.evalOv k i = L.wr (Int.ovRun k i) 0 := by
  simp [evalOv, hact, hbelow]

include hfs hsafe in
theorem Holds.evalOv (hov : Fld.Apart (ovFields k i) fs) (h : O.Holds fs L) : O.Holds fs (L.evalOv k i) := by
  simp only [Fld.Apart, ovFields, List.forall_mem_cons] at hov
  obtain ⟨hrun, hact, hseen, hloss, hcum, hcnt, hmark, -⟩ := hov
  unfold Lane.evalOv
  extract_lets taken thr hyst toward run K K'
  have hK : O.Holds fs K := .wr hact (.wr hrun h)
  have hK' : O.Holds fs K' := .fieldRaise hfs hcum (.wr hseen hK)
  exact .ite (.ite (.iff (fun _ hJ => .wr hloss hJ) hK) (Holds.ovFollows (i := i) hfs hsafe hmark hcnt hloss hK')) (.wr hrun h)

end

theorem ovBits_apart : ∀ k < 4, ∀ i < 3, Fld.Apart reportFields [ovAct k i, ovSeen k i] ∧
    ∀ n < 8, Fld.Apart (safeFields n) [ovAct k i, ovSeen k i] := by decide +kernel

/-- What else a threshold writes when it changes leaves its two bits alone, and each of them is one bit. -/
theorem ovBits_keys : ∀ k < 4, ∀ i < 3,
    Fld.Apart [Int.cum (0x80 + i), DCL_AXIS_STATUS.OV3_SAFE, DCL_RAIL_FLAGS.OV3_CNT k, Int.lossSeen k] [ovAct k i, ovSeen k i] ∧
    (ovAct k i).key ≠ (ovSeen k i).key ∧ (ovAct k i).width = 1 ∧ (ovSeen k i).width = 1 := by decide

/-- A threshold that is taken shows both its bits (R198). -/
theorem evalOv_taken {i : ℕ} (hk : k < 4) (hi : i < 3) (hact : L.on (ovAct k i) = false) (habove : L.railAbove k (L.rd (ovValue k i)) = true)
    (hrun : L.rd (DCL_RAIL_CFG.FILT k) ≤ L.rd (Int.ovRun k i) + 1) :
    (L.evalOv k i).on (ovAct k i) = true ∧ (L.evalOv k i).on (ovSeen k i) = true := by
  obtain ⟨hreport, hsafe⟩ := ovBits_apart k hk i hi
  obtain ⟨hother, hne, hwact, hwseen⟩ := ovBits_keys k hk i hi
  simp only [Fld.Apart, List.forall_mem_cons] at hother
  obtain ⟨hcum, hmark, hcnt, hloss, -⟩ := hother
  rw [evalOv_takes hact habove hrun]
  have hkept : (((L.clr (Int.ovRun k i)).put (ovAct k i) true).set (ovSeen k i)).Holds [ovAct k i, ovSeen k i] ((L.ovTaken k i).ovFollows k i) :=
    .ovFollows hreport hsafe hmark hcnt hloss (.fieldRaise hreport hcum (.refl _))
  constructor
  · rw [hkept.on (by simp), set_eq, on_wr_ne _ _ _ _ hne, put_eq, on_wr_same, hwact]
    rfl
  · rw [hkept.on (by simp), set_eq, on_wr_same, hwseen]
    rfl

/-- A threshold that is released no longer shows as taken (R198). -/
theorem evalOv_released {i : ℕ} (hk : k < 4) (hi : i < 3) (hact : L.on (ovAct k i) = true)
    (hhyst : L.rd (DCL_RAIL_OV3.HYST k) ≤ L.rd (ovValue k i))
    (hbelow : L.railAbove k (L.rd (ovValue k i) - L.rd (DCL_RAIL_OV3.HYST k)) = false)
    (hrun : L.rd (DCL_RAIL_CFG.FILT k) ≤ L.rd (Int.ovRun k i) + 1) : (L.evalOv k i).on (ovAct k i) = false := by
  obtain ⟨hother, -⟩ := ovBits_keys k hk i hi
  rw [evalOv_releases hact hhyst hbelow hrun]
  have hkept : ((L.clr (Int.ovRun k i)).put (ovAct k i) false).Holds [ovAct k i, ovSeen k i]
      (((L.clr (Int.ovRun k i)).put (ovAct k i) false).iff (i = 1) fun J => J.clr (Int.lossSeen k)) :=
    .iff (fun _ hJ => .wr (hother _ (by simp)) hJ) (.refl _)
  rw [hkept.on (by simp), put_eq, on_wr_same]
  simp [bit]

/-! ### What a conversion leaves -/

theorem Holds.syncRegen (hshown : (DCL_RAIL_STATUS.REGEN_K k).key ∉ fs.map Fld.key) (hexact : (Int.regenK k).key ∉ fs.map Fld.key)
    (h : O.Holds fs L) : O.Holds fs (L.syncRegen k) :=
  .ite (.wr hexact (.wr hshown h)) (.ite (.wr hexact (.wr hshown h)) (.wr hexact (.wr hshown h)))

theorem Holds.syncLoss (hloss : ∀ r < 4, (DCL_RAIL_STATUS.LOSS_ACT r).key ∉ fs.map Fld.key) (h : O.Holds fs L) : O.Holds fs L.syncLoss :=
  .forN (fun r hr _ hK => .wr (hloss r hr) hK) h

/-- The counters of energy of a rail, as kept and as shown (R210). -/
def energyFields (k : ℕ) : List Fld := [Int.eInFine k, Int.eOutFine k, DCL_RAIL.EIN k, DCL_RAIL.EOUT k]

theorem Holds.addEnergy (henergy : Fld.Apart (energyFields k) fs) (h : O.Holds fs L) : O.Holds fs (L.addEnergy k) := by
  simp only [Fld.Apart, energyFields, List.forall_mem_cons] at henergy
  obtain ⟨hin, hout, hein, heout, -⟩ := henergy
  exact .wr heout (.wr hein (.wr hout (.wr hin h)))

/-- The lane with a conversion of a rail stored and shown, before it is evaluated (R196). -/
def railStored (L : Lane) (k code : ℕ) : Lane :=
  let K := L.wrAt (Int.railCode k) (min code 16383) L.ftb
  (K.wr (DCL_RAIL_STATUS.U_V k) (divRound 196 ((K.rd (Int.railCode k) : Int) * K.rd (DCL_RAIL_CFG.RAIL_FS k)) 16383).toNat).put
    (DCL_RAIL_STATUS.CLIP k) (K.rd (Int.railCode k) = 16383)

/-- What a conversion that is not evaluated leaves of a rail (R196). -/
def railKept (k : ℕ) : List Fld :=
  [ovAct k 0, ovAct k 1, ovAct k 2, DCL_RAIL.EIN k, DCL_RAIL.EOUT k, DCL_RAIL_CFG.EN k, DCL_RAIL_CFG.RAIL_FS k]

theorem railStored_apart : ∀ k < 4, Fld.Apart [Int.railCode k, DCL_RAIL_STATUS.U_V k, DCL_RAIL_STATUS.CLIP k] (railKept k) ∧
    (Int.railCode k).key ≠ (DCL_RAIL_STATUS.CLIP k).key ∧ (Int.railCode k).key ≠ (DCL_RAIL_STATUS.U_V k).key ∧
    (DCL_RAIL_CFG.RAIL_FS k).key ≠ (Int.railCode k).key := by decide

theorem rd_wrAt_railCode (L : Lane) (k code t : ℕ) : (L.wrAt (Int.railCode k) (min code 16383) t).rd (Int.railCode k) = min code 16383 := by
  rw [rd_wrAt_same]
  exact Nat.mod_eq_of_lt (show min code 16383 < 16384 by omega)

theorem railStored_holds (hk : k < 4) (code : ℕ) : L.Holds (railKept k) (L.railStored k code) := by
  obtain ⟨hkept, -⟩ := railStored_apart k hk
  simp only [Fld.Apart, List.forall_mem_cons] at hkept
  obtain ⟨hcode, hvolts, hclip, -⟩ := hkept
  exact .wr hclip (.wr hvolts (.wrAt hcode (.refl L)))

theorem railStored_shows (hk : k < 4) (code : ℕ) : (L.railStored k code).rd (Int.railCode k) = min code 16383 ∧
    (L.railStored k code).on (DCL_RAIL_STATUS.CLIP k) = decide (16383 ≤ code) := by
  obtain ⟨-, hclip, hvolts, -⟩ := railStored_apart k hk
  unfold railStored
  extract_lets K
  have hcode : K.rd (Int.railCode k) = min code 16383 := rd_wrAt_railCode ..
  constructor
  · rw [put_eq, rd_wr_ne _ _ _ _ hclip, rd_wr_ne _ _ _ _ hvolts, hcode]
  · rw [put_eq, on_wr_same, hcode]
    by_cases h : 16383 ≤ code
    · simp [h, bit, DCL_RAIL_STATUS.CLIP]
    · have : min code 16383 ≠ 16383 := by omega
      simp [h, this, bit, DCL_RAIL_STATUS.CLIP]

/-- A conversion below full scale, as its values are written. -/
theorem railStored_unclipped (hk : k < 4) {code : ℕ} (h : code < 16383) : L.railStored k code =
    ((L.wrAt (Int.railCode k) code L.ftb).wr (DCL_RAIL_STATUS.U_V k)
      (divRound 196 ((code : Int) * L.rd (DCL_RAIL_CFG.RAIL_FS k)) 16383).toNat).wr (DCL_RAIL_STATUS.CLIP k) 0 := by
  have hmin : min code 16383 = code := by omega
  obtain ⟨-, -, -, hfs⟩ := railStored_apart k hk
  have hcode := rd_wrAt_railCode L k code L.ftb
  rw [hmin] at hcode
  unfold railStored
  simp only [hmin, hcode, rd_wrAt_ne _ _ _ _ _ hfs, put_eq, Nat.ne_of_lt h, decide_false]
  rfl

/-- The lane with a conversion evaluated: the thresholds in order, then REGEN_K, loss injection and the energy account (R198 to R201, R210). -/
def railEvaluated (L : Lane) (k : ℕ) : Lane := (((((L.evalOv k 0).evalOv k 1).evalOv k 2).syncRegen k).syncLoss).addEnergy k

theorem railCode_apart : ∀ k < 4, Fld.Apart reportFields [Int.railCode k] ∧ ∀ n < 8, Fld.Apart (safeFields n) [Int.railCode k] := by
  decide +kernel

/-- What the evaluation of a conversion writes of its own. -/
def evaluatedFields (k : ℕ) : List Fld :=
  (List.range 3).flatMap (ovFields k) ++ [DCL_RAIL_STATUS.REGEN_K k, Int.regenK k] ++ (List.range 4).map DCL_RAIL_STATUS.LOSS_ACT ++ energyFields k

theorem evaluatedFields_apart : ∀ k < 4, Fld.Apart (evaluatedFields k) [Int.railCode k] := by decide

/-- The evaluation of a conversion keeps its code and both memories. -/
theorem railEvaluated_holds (hk : k < 4) (h : O.Holds [Int.railCode k] L) : O.Holds [Int.railCode k] (L.railEvaluated k) := by
  obtain ⟨hreport, hsafe⟩ := railCode_apart k hk
  have apart := evaluatedFields_apart k hk
  simp only [Fld.Apart, evaluatedFields, List.forall_mem_append, List.forall_mem_flatMap, List.forall_mem_map, List.mem_range,
    List.forall_mem_cons] at apart
  obtain ⟨⟨⟨hov, hshown, hexact, -⟩, hloss⟩, henergy⟩ := apart
  exact .addEnergy henergy (.syncLoss hloss (.syncRegen hshown hexact (.evalOv hreport hsafe (hov 2 (by decide))
    (.evalOv hreport hsafe (hov 1 (by decide)) (.evalOv hreport hsafe (hov 0 (by decide)) h)))))

theorem execRailConversion_stopped {s : State} {l : LaneId} (k : Fin 4) (code : ℕ) (hdom : (s.lane l).on (FCK_DOM_CTL.RUN_EN 2) = false) :
    exec (.railConversion l k code) s = .next (s.onLane l id) :=
  congrArg Host.Outcome.next (onLane_congr s l (if_pos (by simp [hdom])))

theorem execRailConversion_disabled {s : State} {l : LaneId} (k : Fin 4) (code : ℕ) (hdom : (s.lane l).on (FCK_DOM_CTL.RUN_EN 2) = true)
    (hen : (s.lane l).on (DCL_RAIL_CFG.EN k) = false) :
    exec (.railConversion l k code) s = .next (s.onLane l fun L => L.railStored k code) := by
  refine congrArg Host.Outcome.next (onLane_congr s l ((if_neg (by simp [hdom])).trans (if_pos ?_)))
  have hkept := ((s.lane l).railStored_holds k.isLt code).on (f := DCL_RAIL_CFG.EN k) (by simp [railKept])
  exact (congrArg not (hkept.trans hen)).trans rfl

theorem execRailConversion_evaluated {s : State} {l : LaneId} (k : Fin 4) {code : ℕ} (hdom : (s.lane l).on (FCK_DOM_CTL.RUN_EN 2) = true)
    (hen : (s.lane l).on (DCL_RAIL_CFG.EN k) = true) (hcode : code < 16383) :
    exec (.railConversion l k code) s = .next (s.onLane l fun L => ((L.railStored k code).clr (Int.clipRun k)).railEvaluated k) := by
  refine congrArg Host.Outcome.next (onLane_congr s l ((if_neg (by simp [hdom])).trans ((if_neg ?_).trans ?_)))
  · have hkept := ((s.lane l).railStored_holds k.isLt code).on (f := DCL_RAIL_CFG.EN k) (by simp [railKept])
    exact fun h => absurd (h.symm.trans (congrArg not (hkept.trans hen))) (by decide)
  · have hclip : ¬ ((s.lane l).wrAt (Int.railCode k) (min code 16383) (s.lane l).ftb).rd (Int.railCode k) = 16383 := by
      rw [rd_wrAt_railCode]
      omega
    exact congrArg (fun J : Lane => J.railEvaluated k) (if_neg (by simpa using hclip))

/-- An evaluated conversion reads as it was stored, in a lane of which everything else is as the model's functions leave it. -/
theorem railConversion_evaluated {s : State} {l : LaneId} (k : Fin 4) {code : ℕ} {J : Lane} (hdom : (s.lane l).on (FCK_DOM_CTL.RUN_EN 2) = true)
    (hen : (s.lane l).on (DCL_RAIL_CFG.EN k) = true) (hcode : code < 16383) (hJ : J = ((((s.lane l).wrAt (Int.railCode k) code (s.lane l).ftb).wr
      (DCL_RAIL_STATUS.U_V k) (divRound 196 ((code : Int) * (s.lane l).rd (DCL_RAIL_CFG.RAIL_FS k)) 16383).toNat).wr
      (DCL_RAIL_STATUS.CLIP k) 0).wr (Int.clipRun k) 0) :
    ∃ K, exec (.railConversion l k code) s = .next (s.onLane l (fun _ => K)) ∧ K = J.railEvaluated k ∧ K.rd (Int.railCode k) = code ∧
      K.mem = (s.lane l).mem ∧ K.nor = (s.lane l).nor := by
  have hstored : ((s.lane l).railStored k code).clr (Int.clipRun k) = J := by rw [hJ, railStored_unclipped k.isLt hcode, clr_eq]
  have hkept := railEvaluated_holds k.isLt (Holds.refl (fs := [Int.railCode k]) J)
  have hrd : J.rd (Int.railCode k) = code := by
    have hrun : (Int.railCode k).key ≠ (Int.clipRun k).key := (by decide : ∀ k < 4, (Int.railCode k).key ≠ (Int.clipRun k).key) k k.isLt
    rw [← hstored, clr_eq, rd_wr_ne _ _ _ _ hrun, (railStored_shows k.isLt code).1]
    omega
  refine ⟨J.railEvaluated k, ?_, rfl, (hkept.rd _ List.mem_cons_self).trans hrd, hkept.mem.trans (hJ ▸ rfl), hkept.nor.trans (hJ ▸ rfl)⟩
  rw [execRailConversion_evaluated k hdom hen hcode, s.onLane_at, hstored]

/-! ### A rail that is no longer monitored -/

/-- While OV1 is not taken there is no limit of regeneration (R200). -/
theorem syncRegen_free (h : L.on (DCL_RAIL_STATUS.OV1_ACT k) = false) :
    L.syncRegen k = (L.wr (DCL_RAIL_STATUS.REGEN_K k) 255).wr (Int.regenK k) (2 ^ 31) := if_pos (by simp [h])

/-- What the end of monitoring clears (R198). -/
def monitorFields (k : ℕ) : List Fld :=
  [ovAct k 0, ovAct k 1, ovAct k 2, Int.ovRun k 0, Int.ovRun k 1, Int.ovRun k 2, Int.clipRun k, Int.lossSeen k]

theorem writeRailEn_off (L : Lane) (k : ℕ) :
    L.writeRailEn k false = (((monitorFields k).foldl (fun J f => J.clr f) (L.put (DCL_RAIL_CFG.EN k) false)).syncRegen k).syncLoss := rfl

/-- What is shown of a rail that is not monitored, and what the end of monitoring writes. -/
def monitorShown (k : ℕ) : List Fld := [DCL_RAIL_CFG.EN k, ovAct k 0, ovAct k 1, ovAct k 2]

theorem monitor_apart : ∀ k < 4, ((monitorFields k).map Fld.key).Nodup ∧ Fld.Apart (monitorFields k) [DCL_RAIL_CFG.EN k] ∧
    Fld.Apart (DCL_RAIL_STATUS.REGEN_K k :: Int.regenK k :: (List.range 4).map DCL_RAIL_STATUS.LOSS_ACT) (monitorShown k) ∧
    Fld.Apart (Int.regenK k :: (List.range 4).map DCL_RAIL_STATUS.LOSS_ACT) [DCL_RAIL_STATUS.REGEN_K k] := by decide

theorem writeRailEn_off_shows (L : Lane) (hk : k < 4) : (L.writeRailEn k false).on (DCL_RAIL_CFG.EN k) = false ∧
    (∀ i < 3, (L.writeRailEn k false).on (ovAct k i) = false) ∧ (L.writeRailEn k false).rd (DCL_RAIL_STATUS.REGEN_K k) = 255 ∧
    (L.writeRailEn k false).mem = L.mem ∧ (L.writeRailEn k false).nor = L.nor := by
  obtain ⟨hnodup, hen, hshown, hregen⟩ := monitor_apart k hk
  simp only [Fld.Apart, List.forall_mem_cons, List.forall_mem_map, List.mem_range] at hshown hregen
  obtain ⟨hk255, hexact, hloss⟩ := hshown
  obtain ⟨hexact', hloss'⟩ := hregen
  obtain ⟨J, hJ⟩ : ∃ J, J = (monitorFields k).foldl (fun J f => J.clr f) (L.put (DCL_RAIL_CFG.EN k) false) := ⟨_, rfl⟩
  have hact : ∀ i < 3, J.on (ovAct k i) = false := fun i hi => by
    have hmem : ovAct k i ∈ monitorFields k := by interval_cases i <;> simp [monitorFields]
    rw [hJ, on_eq_rd, rd_foldl_clr hnodup hmem]
    rfl
  have hcleared : (L.put (DCL_RAIL_CFG.EN k) false).Holds [DCL_RAIL_CFG.EN k] J := hJ ▸ .clears hen (.refl _)
  have hoff : J.on (DCL_RAIL_CFG.EN k) = false := by
    rw [hcleared.on List.mem_cons_self, put_eq, on_wr_same]
    simp [bit]
  have hend : L.writeRailEn k false = ((J.wr (DCL_RAIL_STATUS.REGEN_K k) 255).wr (Int.regenK k) (2 ^ 31)).syncLoss := by
    rw [writeRailEn_off, ← hJ, syncRegen_free (hact 0 (by decide))]
  have hkept : J.Holds (monitorShown k) (L.writeRailEn k false) := hend ▸ .syncLoss hloss (.wr hexact (.wr hk255 (.refl J)))
  have hfree : (J.wr (DCL_RAIL_STATUS.REGEN_K k) 255).Holds [DCL_RAIL_STATUS.REGEN_K k] (L.writeRailEn k false) :=
    hend ▸ .syncLoss hloss' (.wr hexact' (.refl _))
  refine ⟨(hkept.on (by simp [monitorShown])).trans hoff, fun i hi => ?_, (hfree.rd _ List.mem_cons_self).trans (rd_wr_same ..),
    hkept.mem.trans hcleared.mem, hkept.nor.trans hcleared.nor⟩
  exact (hkept.on (by interval_cases i <;> simp [monitorShown])).trans (hact i hi)

/-! ### The energy counters -/

theorem energyReset_shows (L : Lane) (hk : k < 4) : (L.energyReset k).rd (DCL_RAIL.EIN k) = 0 ∧ (L.energyReset k).rd (DCL_RAIL.EOUT k) = 0 ∧
    (L.energyReset k).rd (Int.uRef k) = L.rd (Int.railCode k) * L.rd (DCL_RAIL_CFG.RAIL_FS k) % 2 ^ (Int.uRef k).width ∧
    L.onlyFields (L.energyReset k) (energyFields k ++ [Int.uRef k]) := by
  obtain ⟨hein, heout, hboth⟩ := (by decide : ∀ k < 4, (DCL_RAIL.EIN k).key ≠ (Int.uRef k).key ∧ (DCL_RAIL.EOUT k).key ≠ (Int.uRef k).key ∧
    (DCL_RAIL.EIN k).key ≠ (DCL_RAIL.EOUT k).key) k hk
  refine ⟨?_, ?_, rd_wr_same .., ?_⟩
  · rw [energyReset, rd_wr_ne _ _ _ _ hein, clr_eq, rd_wr_ne _ _ _ _ hboth, clr_eq, rd_wr_same, Nat.zero_mod]
  · rw [energyReset, rd_wr_ne _ _ _ _ heout, clr_eq, rd_wr_same, Nat.zero_mod]
  · have hcleared : L.onlyFields ((energyFields k).foldl (fun J f => J.clr f) L) (energyFields k) := onlyFields_foldl_clr _
    exact onlyFields_wr (onlyFields_mono hcleared (List.subset_append_left _ _)) _ _ (by simp)

/-- The present energy of C_RAIL less that at the reference, and the counters, in 1/20 mJ over 16383² (R210). -/
def energyGap (L : Lane) (k : ℕ) : ℤ :=
  20 * ((L.rd (DCL_RAIL.EIN k) : ℤ) - L.rd (DCL_RAIL.EOUT k)) * (16383 * 16383) -
    (L.rd (DCL_RAIL_ECFG.C_RAIL k) : ℤ) * ((L.railVolts k : ℤ) * L.railVolts k - (L.rd (Int.uRef k) : ℤ) * L.rd (Int.uRef k))

/-- The tolerance of the check, in the same unit, times 50. -/
def energyTolerance (L : Lane) (k : ℕ) : ℤ :=
  (20 * ((L.rd (DCL_RAIL.EIN k) : ℤ) + L.rd (DCL_RAIL.EOUT k)) + 1000000 * (L.rd (DCL_RAIL_ECFG.E_FLOOR k) : ℤ)) * (16383 * 16383)

/-- The lane with the result of an energy check stored. -/
def energyShown (L : Lane) (k : ℕ) : Lane :=
  L.wrI (DCL_RAIL_ERES.ERES k) (clampI (-2147483648) 2147483647 (divRound 211 (L.energyGap k) (20000 * 16383 * 16383)))

theorem execEnergyCheck_disabled {s : State} {l : LaneId} (k : Fin 4) (hen : (s.lane l).on (DCL_RAIL_CFG.EN k) = false) :
    exec (.energyCheck l k) s = .next (s.onLane l id) := congrArg Host.Outcome.next (onLane_congr s l (if_pos (by simp [hen])))

theorem execEnergyCheck_agrees {s : State} {l : LaneId} (k : Fin 4) (hen : (s.lane l).on (DCL_RAIL_CFG.EN k) = true)
    (h : 50 * ((s.lane l).energyGap k).natAbs ≤ (s.lane l).energyTolerance k) :
    exec (.energyCheck l k) s = .next (s.onLane l fun L => L.energyShown k) :=
  congrArg Host.Outcome.next (onLane_congr s l ((if_neg (by simp [hen])).trans (if_pos h)))

theorem execEnergyCheck_differs {s : State} {l : LaneId} (k : Fin 4) (hen : (s.lane l).on (DCL_RAIL_CFG.EN k) = true)
    (h : (s.lane l).energyTolerance k < 50 * ((s.lane l).energyGap k).natAbs) :
    exec (.energyCheck l k) s = .next (s.onLane l fun L => ((L.energyShown k).set (DCL_RAIL_FLAGS.EMISMATCH k)).fieldRaise 0x87) :=
  congrArg Host.Outcome.next (onLane_congr s l ((if_neg (by simp [hen])).trans (if_neg (not_le.2 h))))

/-- What a check that fails shows of a rail. -/
def checkShown (k : ℕ) : List Fld := [DCL_RAIL_FLAGS.EMISMATCH k, DCL_RAIL.EIN k, DCL_RAIL.EOUT k]

theorem checkShown_apart : ∀ k < 4, Fld.Apart reportFields (checkShown k) ∧ (Int.cum 0x87).key ∉ (checkShown k).map Fld.key := by decide +kernel

theorem checkShown_keys : ∀ k < 4, Fld.Apart [DCL_RAIL_ERES.ERES k, DCL_RAIL_FLAGS.EMISMATCH k] [DCL_RAIL.EIN k, DCL_RAIL.EOUT k, Int.cum 0x87] := by
  decide

theorem energyMismatch_shows (L : Lane) (hk : k < 4) {K : Lane} (hK : K = ((L.energyShown k).set (DCL_RAIL_FLAGS.EMISMATCH k)).fieldRaise 0x87) :
    K.on (DCL_RAIL_FLAGS.EMISMATCH k) = true ∧ K.rd (Int.cum 0x87) = (L.rd (Int.cum 0x87) + 1) % 2 ^ 16 ∧
    K.rd (DCL_RAIL.EIN k) = L.rd (DCL_RAIL.EIN k) ∧ K.rd (DCL_RAIL.EOUT k) = L.rd (DCL_RAIL.EOUT k) ∧ K.mem = L.mem ∧ K.nor = L.nor := by
  obtain ⟨hreport, hcum⟩ := checkShown_apart k hk
  have hstored : L.Holds [DCL_RAIL.EIN k, DCL_RAIL.EOUT k, Int.cum 0x87] ((L.energyShown k).set (DCL_RAIL_FLAGS.EMISMATCH k)) :=
    .wr (checkShown_keys k hk _ (by simp)) (.wrI (checkShown_keys k hk _ (by simp)) (.refl L))
  have hraised : ((L.energyShown k).set (DCL_RAIL_FLAGS.EMISMATCH k)).Holds (checkShown k) K := hK ▸ .fieldRaise hreport hcum (.refl _)
  refine ⟨?_, ?_, ?_, ?_, hraised.mem.trans hstored.mem, hraised.nor.trans hstored.nor⟩
  · rw [hraised.on (by simp [checkShown]), set_eq, on_wr_same]
    rfl
  · rw [hK, fieldRaise_cum _ (by decide), hstored.rd _ (by simp)]
  · rw [hraised.rd _ (by simp [checkShown]), hstored.rd _ (by simp)]
  · rw [hraised.rd _ (by simp [checkShown]), hstored.rd _ (by simp)]

end Lane

/-- Settles O22: the writes by the order that the clamps of R197 keep, a conversion by what `Lane.evalOv` does to each threshold and what the
evaluation keeps, the energy check by its two outcomes. -/
theorem railThresholdsConversionsAndEnergy : Obligations.RailThresholdsConversionsAndEnergy := by
  unfold Obligations.RailThresholdsConversionsAndEnergy
  refine ⟨⟨?_, ?_, ?_⟩, ⟨?_, ?_, ?_, ?_, ?_, ?_, ?_, ?_, ?_⟩, ?_, ?_, ?_⟩
  · rintro s l k d _ rfl hgap hfit
    exact completes_of_exec rfl (Lane.writeOv12_ordered _ k _ _ hgap hfit)
  · rintro s l k d _ rfl hgap hfit
    exact completes_of_exec rfl (Lane.writeOv3_ordered _ k _ (Nat.mod_lt _ (by decide)) hgap hfit)
  · rintro s l k d _ rfl hgap hfit
    exact completes_of_exec rfl (Lane.writeCh_ordered _ k _ _ hgap hfit)
  · exact fun s l k code hdom => Lane.execRailConversion_stopped k code hdom
  · rintro s l k code _ rfl hdom hen
    have hkept := (s.lane l).railStored_holds k.isLt code
    obtain ⟨hcode, hclip⟩ := (s.lane l).railStored_shows k.isLt code
    refine completes_of_exec (Lane.execRailConversion_disabled k code hdom hen) ⟨hcode, hclip, fun i hi => hkept.rd _ ?_,
      hkept.rd _ (by simp [Lane.railKept]), hkept.rd _ (by simp [Lane.railKept]), hkept.mem, hkept.nor⟩
    interval_cases i <;> simp [Lane.railKept]
  · rintro s l k code _ J rfl hdom hen hcode hJ
    exact Lane.railConversion_evaluated k hdom hen hcode hJ
  · exact fun L k i hk hi => Lane.evalOv_taken hk hi
  · exact fun L k i hk hi => Lane.evalOv_released hk hi
  · exact fun L k i _ _ => Lane.evalOv_waits
  · exact fun L k i _ _ => Lane.evalOv_stays
  · rintro s l k _ rfl
    exact completes_of_exec rfl ((s.lane l).writeRailEn_off_shows k.isLt)
  · rintro s l k _ rfl
    exact completes_of_exec rfl ⟨(Lane.on_wr_same ..).trans rfl, Lane.onlyFields_wr (Lane.onlyFields_refl _ _) _ _ List.mem_cons_self⟩
  · rintro s l k _ rfl
    exact completes_of_exec rfl ((s.lane l).energyReset_shows k.isLt)
  · exact fun s l k hen => Lane.execEnergyCheck_disabled k hen
  · rintro s l k _ u r e tol rfl hen hu hr he htol
    obtain rfl : e = (s.lane l).energyGap k := by rw [he, hu, hr, Lane.energyGap, Lane.railVolts, Nat.cast_mul]
    subst htol
    refine ⟨fun hin => ?_, fun hout => ?_⟩
    · exact completes_of_exec (Lane.execEnergyCheck_agrees k hen hin) (Lane.onlyFields_wr (Lane.onlyFields_refl _ _) _ _ List.mem_cons_self)
    · exact completes_of_exec (Lane.execEnergyCheck_differs k hen hout) (Lane.energyMismatch_shows _ k.isLt rfl)

end Sys2Proof.Machine
end

-- ==== Control items and stop requests ====
section
/-! What the field die does with a Control item and a CRC restart (R302, R368, R430), and the stop and contactor requests of a sibling (R207,
R310). -/

namespace Sys2Proof.Machine

/-! ### Messages of a port -/

/-- A queue without a message that the choice accepts. -/
theorem takeFirst_none {α β : Type} {pick : α → Option β} {xs : List α} (h : ∀ x ∈ xs, pick x = none) : takeFirst pick xs = none := by
  induction xs with
  | nil => rfl
  | cons x r ih =>
    rw [takeFirst, h x List.mem_cons_self, ih fun y hy => h y (List.mem_cons_of_mem _ hy)]
    rfl

/-- The message of a Felt queue that is a stop request, with no mask, or a contactor request with its mask. -/
def FeltMsg.stop? : FeltMsg → Option (Option ℕ)
  | .stopRequest => some none
  | .contReq mask => some (some mask)
  | _ => none

theorem FeltMsg.stop?_none {m : FeltMsg} (h : m ≠ .stopRequest ∧ ∀ k, m ≠ .contReq k) : m.stop? = none := by
  obtain ⟨hstop, hcont⟩ := h
  cases m with
  | stopRequest => exact absurd rfl hstop
  | contReq mask => exact absurd rfl (hcont mask)
  | _ => rfl

theorem execStopRequestMessage_eq (l src : LaneId) (s : State) :
    exec (.stopRequestMessage l src) s = .next (s.recvFelt l src FeltMsg.stop? fun m L => L.takeStopMsg m) := by
  have hpick : FeltMsg.stop? = fun m => match m with
      | .stopRequest => some none
      | .contReq mask => some (some mask)
      | _ => none := by
    funext m
    cases m <;> rfl
  rw [hpick]
  rfl

namespace Lane

variable {L O : Lane} {fs : List Fld} {n : ℕ}

/-! ### An axis that starts or stops by its permission -/

/-- What the rise of RUNNING clears (R87, R107, R120). -/
def riseFields (n : ℕ) : List Fld :=
  [Int.everLocked n, Int.srTry n, Int.hallBad n, Int.resRun n, Int.stopping n, Int.fuseRun n, Int.spdCnt n, Int.posCnt n,
    CLE_AX_FOX_STATUS.HALL_DROPPED n, CLE_AX_FOX_STATUS.KE_VALID n]

/-- What a change of RUNNING writes besides the end of running, the edges and the override. -/
def runFields (n : ℕ) : List Fld := [Int.ctlNow n, Int.fw n, Int.runAt n, Int.posHold n, Int.posStart n] ++ riseFields n

section
variable (hn : n < 8) (hfs : Fld.Apart reportFields fs) (hsafe : Fld.Apart (safeFields n) fs) (hedge : Fld.Apart (edgeFields n) fs)
  (hrun : Fld.Apart (runFields n) fs)

include hn hedge in
theorem Holds.writeNever (h : O.Holds fs L) : O.Holds fs (L.writeNever n) := by
  refine .commitGroup hedge (.foldl (fun k hk _ hJ => ?_) h)
  simp only [outsOf, if_pos hn, List.mem_map, List.mem_range] at hk
  obtain ⟨i, hi, rfl⟩ := hk
  have hshadow : ∀ g ∈ [PWM_OUT_RISE.RISE (6 * n + i), PWM_OUT_FALL.FALL (6 * n + i), Int.wroteRise (6 * n + i), Int.wroteFall (6 * n + i)],
      g.key ∉ fs.map Fld.key := fun g hg => hedge g (List.mem_append_right _ (List.mem_flatMap.2 ⟨i, List.mem_range.2 hi, hg⟩))
  exact .putRise (hshadow _ (by simp)) (hshadow _ (by simp)) hJ

include hn hfs hsafe hedge

theorem Holds.stopAxis (h : O.Holds fs L) : O.Holds fs (L.stopAxis n) := by
  obtain ⟨-, -, -, -, haxes, -⟩ := reportFields_units
  obtain ⟨-, hstopping, -⟩ := haxes n hn
  have hstate : (CLE_AX_FOX_STATUS.STATE n).key ∉ fs.map Fld.key := hsafe _ (by simp [safeFields])
  unfold Lane.stopAxis
  extract_lets K₀ K₁
  have h₁ : O.Holds fs K₁ := .syncOverride hfs (by omega) (.writeNever hn hedge (.wr hstate (.endRun hn hfs hsafe (.keepSpeed hsafe h))))
  exact .ite h (.ite (.checkCluster hfs (by omega) h₁) (.wr (hfs _ hstopping) h₁))

omit hn hsafe hedge in
theorem Holds.releaseSto {c : ℕ} (hc : c < 2) (h : O.Holds fs L) : O.Holds fs (L.releaseSto c) := by
  obtain ⟨-, -, -, hclusters, -⟩ := reportFields_units
  obtain ⟨hrel, -⟩ := hclusters c hc
  exact .ite h (.wr (hfs _ hrel) (.single hfs (by simp [reportSingles]) h))

omit hn hfs hsafe hedge in
theorem Holds.positionOf_lane (h : O.Holds fs L) : O.Holds fs (L.positionOf n).2 :=
  ite_keeps (fun p : ℤ × Lane => O.Holds fs p.2) (.update h rfl rfl rfl) h

include hrun

theorem Holds.syncRun (h : O.Holds fs L) : O.Holds fs (L.syncRun n) := by
  have hrunning : (CLE_AX_STATUS.RUNNING n).key ∉ fs.map Fld.key := hsafe _ (by simp [safeFields])
  have hheld : (CLE_AX_STATUS.HELD n).key ∉ fs.map Fld.key := hsafe _ (by simp [safeFields])
  have hrise : Fld.Apart (riseFields n) fs := fun g hg => hrun g (List.mem_append_right _ hg)
  have hown : ∀ g ∈ [Int.ctlNow n, Int.fw n, Int.runAt n, Int.posHold n, Int.posStart n], g.key ∉ fs.map Fld.key :=
    fun g hg => hrun g (List.mem_append_left _ hg)
  simp only [List.forall_mem_cons] at hown
  obtain ⟨hctl, hfw, hat, hhold, hstart, -⟩ := hown
  unfold Lane.syncRun
  extract_lets K₀ K₁ K₂ r
  have h₁ : O.Holds fs K₁ := .clears hrise (.wr hctl (.wr hheld (.wr hrunning h)))
  have h₂ : O.Holds fs r.2 := .positionOf_lane (.wr hat (.wr hfw h₁))
  exact .ite (.releaseSto hfs (by omega) (.syncOverride hfs (by omega) (.wrI hstart (.wrI hhold h₂))))
    (.ite (.stopAxis hn hfs hsafe hedge h) h)

end

theorem gatePerm_apart : Fld.Apart reportFields [Int.gatePerm] ∧ ∀ n < 8, Fld.Apart (safeFields n) [Int.gatePerm] ∧
    Fld.Apart (edgeFields n) [Int.gatePerm] ∧ Fld.Apart (runFields n) [Int.gatePerm] := by decide +kernel

/-- The permission that the field die has taken, whatever its axes do with it (R87). -/
theorem setGatePerm_rd (L : Lane) (mask : ℕ) : (L.setGatePerm mask).rd Int.gatePerm = mask % 2 ^ 8 := by
  obtain ⟨hreport, haxes⟩ := gatePerm_apart
  have hkept : (L.wr Int.gatePerm mask).Holds [Int.gatePerm] (L.setGatePerm mask) := .forN (fun n hn _ hK => by
    obtain ⟨hsafe, hedge, hrun⟩ := haxes n hn
    exact .wr (hsafe _ (by simp [safeFields])) (.syncRun hn hreport hsafe hedge hrun hK)) (.refl _)
  rw [hkept.rd _ List.mem_cons_self, rd_wr_same]
  rfl

/-! ### The release of class G and the seal reading -/

theorem releaseG_accepted (hlatched : L.on FPS_STATUS.G_LATCHED = true) (hoff : ∀ g < 12, L.rd (PWM_GROUP_STATUS.OVERRIDE g) = 1)
    (hsto : L.rd STO_STATUS.EN_N = 3) : L.releaseG = L.wr FPS_STATUS.G_LATCHED 0 :=
  (if_neg (by simp [hlatched])).trans (if_pos (by simpa [hsto] using hoff))

theorem releaseG_refused (hlatched : L.on FPS_STATUS.G_LATCHED = true) {g : ℕ} (hg : g < 12)
    (hnot : L.rd (PWM_GROUP_STATUS.OVERRIDE g) ≠ 1 ∨ L.rd STO_STATUS.EN_N ≠ 3) : L.releaseG = L.inc FPS_CNT.REL_REFUSED := by
  refine (if_neg (by simp [hlatched])).trans (if_neg fun hall => ?_)
  simp only [Bool.and_eq_true, List.all_eq_true, List.mem_range, decide_eq_true_eq] at hall
  obtain ⟨hoff, hsto⟩ := hall
  exact hnot.elim (fun h => h (hoff g hg)) (fun h => h hsto)

/-- A count that saturates is stored whole. -/
theorem rd_inc_same (L : Lane) (f : Fld) : (L.inc f).rd f = min (L.rd f + 1) (2 ^ f.width - 1) := by
  rw [inc_eq, rd_wr_same]
  exact Nat.mod_eq_of_lt (by have := Nat.two_pow_pos f.width; omega)

theorem control_sealReading_open {n : ℕ} (hn : n < 7) : L.control (.sealReading n) = (L.wr Int.sealSeen n).set STO_CFG.FREEZE_EN := by
  have hopen : n ≠ 7 := by omega
  simp [control, iff, hopen]

/-! ### The head of the ordered channel -/

theorem takeDown_of_head {i : DownItem} {r : List DownItem} (h : L.down = i :: r) :
    L.takeDown = { L with down := r, downCredits := L.downCredits ++ [false] } := by
  rw [takeDown, h, List.drop_one, List.tail_cons]

theorem execControlMessage_head {s : State} {l : LaneId} {c : Control} {r : List DownItem} (h : (s.lane l).down = .control c :: r) :
    exec (.controlMessage l) s = .next (s.onLane l fun L => L.takeDown.control c) :=
  congrArg Host.Outcome.next (onLane_congr s l (by simp only [h]))

theorem execControlMessage_other {s : State} {l : LaneId} (h : ∀ c r, (s.lane l).down ≠ .control c :: r) :
    exec (.controlMessage l) s = .next (s.onLane l id) := by
  refine congrArg Host.Outcome.next (onLane_congr s l ?_)
  split
  · next c r hd => exact absurd hd (h c r)
  · rfl

theorem execCrcRestart_head {s : State} {l : LaneId} {r : List DownItem} (h : (s.lane l).down = .crcRestart :: r) :
    exec (.crcRestart l) s = .next (s.onLane l fun L => L.takeDown.wr Int.crcField crcInit) :=
  congrArg Host.Outcome.next (onLane_congr s l (by simp only [h]))

theorem execCrcRestart_other {s : State} {l : LaneId} (h : ∀ r, (s.lane l).down ≠ .crcRestart :: r) :
    exec (.crcRestart l) s = .next (s.onLane l id) := by
  refine congrArg Host.Outcome.next (onLane_congr s l ?_)
  split
  · next r hd => exact absurd hd (h r)
  · rfl

end Lane

/-- Settles O32: the permission by what an axis that starts or stops keeps, the release by its two cases, the messages of a sibling by what the
head of its queue is. -/
theorem controlAndStopMessages : Obligations.ControlAndStopMessages := by
  unfold Obligations.ControlAndStopMessages
  refine ⟨?_, fun L mask => L.setGatePerm_rd mask, ?_, ?_, ?_, ?_, ?_, ?_, ?_, ?_⟩
  · rintro s l c r _ rfl hdown
    exact completes_of_exec (Lane.execControlMessage_head hdown) (congrArg (fun K : Lane => K.control c) (Lane.takeDown_of_head hdown))
  · intro L hlatched hoff hsto
    rw [show L.control .gRelease = L.wr FPS_STATUS.G_LATCHED 0 from Lane.releaseG_accepted hlatched hoff hsto]
    exact ⟨(Lane.on_wr_same ..).trans rfl, Lane.onlyFields_wr (L.onlyFields_refl _) _ _ List.mem_cons_self⟩
  · intro L g hlatched hg hnot
    rw [show L.control .gRelease = L.inc FPS_CNT.REL_REFUSED from Lane.releaseG_refused hlatched hg hnot]
    exact ⟨(Lane.on_wr_ne _ _ _ _ (by decide)).trans hlatched, L.rd_inc_same _, Lane.onlyFields_wr (L.onlyFields_refl _) _ _ List.mem_cons_self⟩
  · intro L n hn
    rw [Lane.control_sealReading_open hn, Lane.set_eq]
    exact ⟨(Lane.rd_wr_ne _ _ _ _ (by decide)).trans ((Lane.rd_wr_same ..).trans (Nat.mod_eq_of_lt (show n < 8 by omega))),
      (Lane.on_wr_same ..).trans rfl⟩
  · rintro s l r _ rfl hdown
    refine completes_of_exec (Lane.execCrcRestart_head hdown) ?_
    rw [Lane.takeDown_of_head hdown]
    exact ⟨(Lane.rd_wr_same ..).trans rfl, rfl, Lane.onlyFields_wr (Lane.onlyFields_refl _ _) _ _ List.mem_cons_self⟩
  · exact fun s l => ⟨Lane.execControlMessage_other, Lane.execCrcRestart_other⟩
  · rintro s l src p r hne hl hsrc rfl hqueue
    rw [execStopRequestMessage_eq, recvFelt_head (pick := FeltMsg.stop?) hne hl hsrc hqueue rfl]
    rfl
  · rintro s l src p mask r hne hl hsrc rfl hqueue
    rw [execStopRequestMessage_eq, recvFelt_head (pick := FeltMsg.stop?) hne hl hsrc hqueue rfl]
    rfl
  · intro s l src hnone
    rw [execStopRequestMessage_eq, recvFelt_none (takeFirst_none fun m hm => FeltMsg.stop?_none (hnone m hm))]

end Sys2Proof.Machine
end

-- ==== The captured word of an energy counter ====
section
/-! The statement about slots, configuration and test, refuted by an energy counter that holds more than its bits. -/

namespace Sys2Proof.Machine

/-- A read of the low word of rail 0's EIN captures the high word in a field of 32 bits (R214). -/
theorem Lane.readEffect_ein (L : Lane) : L.readEffect 0x60090018 = L.wr (Int.eInHi 0) (L.word 0x6009001C) := by
  have hplace : mapGet lowWords 0x60090018 = some (Int.eInHi 0) := by decide
  rw [readEffect, hplace]

theorem execReadResponse_eq (l : LaneId) (s : State) : exec (.readResponse l) s = .next (s.onLane l fun _ => (s.lane l).readStep) := rfl

/-- Whatever EIN holds, the high word that a read item captures is below 2^32. -/
theorem Lane.readStep_einHigh_lt {L : Lane} {p : ℕ} {r : List DownItem} (h : L.down = .readReq 0x60090018 p :: r) :
    L.readStep.rd (Int.eInHi 0) < 2 ^ 32 := by
  have hanswer : (L.takeDown.readEffect 0x60090018).Holds [Int.eInHi 0] L.readStep := by
    rw [readStep, h]
    exact .toHost (by decide +kernel) (.refl _)
  rw [hanswer.rd _ List.mem_cons_self, readEffect_ein, rd_wr_same]
  exact Nat.mod_lt _ (by decide)

/-- The package at reset, but for lane A, whose field die has a request for the low word of rail 0's EIN at the head of its channel, and whose
field store lists 2^64 for EIN, a value that its 64 bits do not hold and no write stores. -/
def State.einOverfull : State :=
  { State.reset with a := { State.reset.a with regs := [((DCL_RAIL.EIN 0).key, 2 ^ 64)], down := [.readReq 0x60090018 0] } }

/-- Refutes O60: the statement takes the lane as it is, with no bound on what its fields hold. Of EIN at 2^64 the high word would be 2^32, of
which the captured word keeps 32 bits (`Lane.readStep_einHigh_lt`). -/
theorem not_slotsConfigurationAndTest : ¬ Obligations.SlotsConfigurationAndTest := by
  unfold Obligations.SlotsConfigurationAndTest
  rintro ⟨-, -, -, -, hresponse, -⟩
  obtain ⟨hrequest, -⟩ := hresponse State.einOverfull .a _ rfl
  obtain ⟨K, d, hK, -, -, -, -, -, -, -, hcaptured, -⟩ := hrequest 0x60090018 0 [] rfl
  have hstep := execReadResponse_eq .a State.einOverfull
  have hhigh := hcaptured 0 (by decide) (by decide)
  have hein : (State.einOverfull.lane .a).rd (DCL_RAIL.EIN 0) = 2 ^ 64 := by decide
  have hlt := (State.einOverfull.lane .a).readStep_einHigh_lt (p := 0) (r := []) rfl
  rw [← rd_of_exec_onLane rfl hK hstep, hhigh, hein] at hlt
  exact absurd hlt (by decide)

end Sys2Proof.Machine
end

-- ==== A lockstep fault that meets an arrival of no source ====
section
/-! The statement about lockstep faults and checkpoints, refuted by an arrival whose source lies beyond the 256 of R287. The exit that a
lockstep fault asks for begins with a collector cycle over all that waits (R288), and of what waits the statement asks nothing. -/

namespace Sys2Proof.Machine

namespace Lane

variable {L K : Lane} {src p : ℕ}

/-- A host die in reset latches no exit. -/
theorem latchE0_of_held (h : L.on Int.held = true) : L.latchE0 src = L := if_pos (by rw [h, Bool.or_true])

/-- Where the collector cycle of an exit leaves the host die marked as held in reset, the exit is that cycle alone. -/
theorem exitOn_of_collect_held (hK : { L with inbox := [] }.collect (L.inbox ++ [(⟨src, false, 1, 0⟩ : Arrival)]) = K)
    (h : K.on Int.held = true) : L.exitOn src = K := by
  rw [exitOn, hK, latchE0_of_held h]

/-- On the main path a fault that does not fence its pair is recorded, the lane exits, and the outputs of the pair stay held (R221). -/
theorem takeFault_main {f : CycleFault} (hK : (L.recordFault p f.kind f.group f.rails f.stage).exitOn (0x10 + 4 * f.kind + p) = K)
    (hkind : f.kind ≠ 2) (hwin : L.winEarlier p < 2) (hstate : K.pairState p ≠ 3) : L.takeFault p true f = K.set (Int.pairStop p) := by
  simp [takeFault, hK, hkind, Nat.not_le.2 hwin, iff, hstate]

end Lane

/-- A parity error of group 0 in delay stage 0 of a pair in RUN that executes safety work in an ACTIVE lane takes the main path (R219, R221). -/
theorem exec_lockstepFault_main {s : State} {l : LaneId} {p : Fin 4} (hrun : (s.lane l).pairState p = 0) (hactive : (s.lane l).state = stActive)
    (hsafety : (s.lane l).runsSafety p = true) (he0 : (s.lane l).on Int.e0 = false) :
    exec (.lockstepFault l p 0 0 1 0) s = .next (s.onLane l fun _ => ((s.lane l).markParity p 1).takeFault p true ⟨1, 0, 0, 0⟩) := by
  have hgroup : lowestGroup 1 = 0 := by decide
  exact congrArg Host.Outcome.next (onLane_congr s l (by simp [hrun, hactive, hsafety, he0, cycleFaults, hgroup, bit]))

/-- A source beyond 0xFF, the last of R287: in the row of the counters of the sources, its place is that of `Int.held`. -/
def straySource : ℕ := 0x5800E9C4

/-- The package at reset, but for lane A, which is ACTIVE with its host die released and no pair selected for BGR_EVT, whose pair 0 executes an
operation of class 0, and to whose collector one occurrence of the stray source is on its way. -/
def State.strayArrival : State :=
  { State.reset with a := { State.reset.a with
      regs := [(BGR_CFG.IRQ_PAIRS.key, 0), (CFG_MODE_STATUS.LANE_STATE.key, stActive), (Int.held.key, 0)],
      inbox := [⟨straySource, false, 1, 0⟩],
      sched := { Sched.reset with exec := [some ⟨0, 1, 0, 0, 0, false, 0, false, false, false, false⟩, none, none, none, none] } } }

/-- Its lane A after a parity error in pair 0 is recorded and the collector cycle of the exit has counted what waits. -/
def Lane.strayCounted : Lane :=
  let L := (State.strayArrival.a.markParity 0 1).recordFault 0 1 0 0 0
  { L with inbox := [] }.collect (L.inbox ++ [(⟨0x14, false, 1, 0⟩ : Arrival)])

/-- The count of the stray arrival has marked the host die as held in reset. -/
theorem Lane.strayCounted_held : strayCounted.on Int.held = true := by decide +kernel

theorem Lane.strayCounted_e0 : strayCounted.on Int.e0 = false := by decide +kernel

/-- Refutes O47: a parity error in a pair in RUN with safety work in an ACTIVE lane latches no E0 where a stray arrival waits. The statement
takes the arrivals that wait as they are, with no bound on their sources, which R287 places between 0x00 and 0xFF. -/
theorem not_lockstepFaultsAndCheckpoints : ¬ Obligations.LockstepFaultsAndCheckpoints := by
  unfold Obligations.LockstepFaultsAndCheckpoints
  rintro ⟨-, -, -, -, -, -, -, -, hmain, -⟩
  have hrun : State.strayArrival.a.pairState 0 = 0 := by decide
  have hactive : State.strayArrival.a.state = stActive := by decide
  have hsafety : State.strayArrival.a.runsSafety 0 = true := by decide
  have he0 : State.strayArrival.a.on Int.e0 = false := by decide
  obtain ⟨K, hK, hexit, -⟩ := hmain State.strayArrival .a 0 0 0 1 0 1 0 _ rfl (by decide) (by decide) (by decide) (by decide) hrun
    (.inr (.inl (by decide))) hactive hsafety he0 (by decide)
  have hstep := exec_lockstepFault_main (s := State.strayArrival) (l := .a) (p := 0) hrun hactive hsafety he0
  have hfault := Lane.takeFault_main (L := State.strayArrival.a.markParity 0 1) (p := 0) (f := ⟨1, 0, 0, 0⟩)
    (Lane.exitOn_of_collect_held rfl Lane.strayCounted_held) (by decide) (by decide) (by decide +kernel)
  have hstays : K.rd Int.e0 = Lane.strayCounted.rd Int.e0 := calc
    K.rd Int.e0 = ((State.strayArrival.a.markParity 0 1).takeFault 0 true ⟨1, 0, 0, 0⟩).rd Int.e0 := rd_of_exec_onLane rfl hK hstep _
    _ = (Lane.strayCounted.wr (Int.pairStop 0) 1).rd Int.e0 := by rw [hfault, Lane.set_eq]; rfl
    _ = Lane.strayCounted.rd Int.e0 := Lane.rd_wr_ne _ _ _ _ (by decide)
  rw [Lane.on_eq_rd, hstays, ← Lane.on_eq_rd, Lane.strayCounted_e0] at hexit
  exact Bool.false_ne_true hexit

end Sys2Proof.Machine
end

-- ==== The successor of the holder ====
section
/-! Which lane is named successor, and what the naming writes (R250). -/

namespace Sys2Proof.Machine

section
variable {elig pref holder n : ℕ}

theorem successorOf_preferred (hp : pref < 3) (hne : pref ≠ holder) (he : elig.testBit pref = true) : successorOf elig pref holder = pref :=
  if_pos ⟨hp, hne, he⟩

/-- Without an eligible preferred lane the first of the two after the holder is named, and where it is not eligible the second (R250). -/
theorem successorOf_inOrder (hpref : ¬ (pref < 3 ∧ pref ≠ holder ∧ elig.testBit pref = true)) :
    successorOf elig pref holder = if elig.testBit ((holder + 1) % 3) then (holder + 1) % 3
      else if elig.testBit ((holder + 2) % 3) then (holder + 2) % 3 else 3 := by
  have hfirst : (holder + 1) % 3 ≠ holder := by omega
  have hsecond : (holder + 2) % 3 ≠ holder := by omega
  rw [successorOf, if_neg hpref]
  simp only [hfirst, hsecond, ne_eq, not_false_eq_true, and_true]

theorem successorOf_le (elig pref holder : ℕ) : successorOf elig pref holder ≤ 3 := by
  unfold successorOf
  split_ifs <;> omega

end

namespace Lane

variable {L : Lane}

/-- The successor that the lane would name as the holder. -/
abbrev successor (L : Lane) : ℕ := successorOf (L.rd Int.eligMask) (L.rd LSE_CFG.PREF) L.me

theorem chooseSuccessor_found (h : L.successor ≠ 3) :
    L.chooseSuccessor = (L.wr LSE_STATUS.SUCCESSOR L.successor).wr Int.noSuccSpell 0 := if_neg h

/-- A period without a successor begins. -/
theorem chooseSuccessor_lost (h : L.successor = 3) (hspell : L.on Int.noSuccSpell = false) :
    L.chooseSuccessor = (((L.wr LSE_STATUS.SUCCESSOR L.successor).wr Int.noSuccSpell 1).wr LSE_FLAGS.NO_SUCC 1).raise 0xA7 :=
  (if_pos h).trans (if_neg (by rw [on_wr_ne _ _ _ _ (by decide), hspell]; decide))

/-- A period without a successor goes on. -/
theorem chooseSuccessor_stillLost (h : L.successor = 3) (hspell : L.on Int.noSuccSpell = true) :
    L.chooseSuccessor = L.wr LSE_STATUS.SUCCESSOR L.successor :=
  (if_pos h).trans (if_pos (by rw [on_wr_ne _ _ _ _ (by decide), hspell]))

/-- SUCCESSOR takes the lane that is named, and nothing but the period without one is written beside it. -/
theorem chooseSuccessor_rd_successor (L : Lane) : L.chooseSuccessor.rd LSE_STATUS.SUCCESSOR = L.successor := by
  have hfits : L.successor % 2 ^ LSE_STATUS.SUCCESSOR.width = L.successor := Nat.mod_eq_of_lt (Nat.lt_succ_of_le (successorOf_le ..))
  by_cases h : L.successor = 3
  · cases hspell : L.on Int.noSuccSpell with
    | false =>
      rw [chooseSuccessor_lost h hspell, raise_rd, rd_wr_ne _ _ _ _ (by decide), rd_wr_ne _ _ _ _ (by decide), rd_wr_same, hfits]
    | true => rw [chooseSuccessor_stillLost h hspell, rd_wr_same, hfits]
  · rw [chooseSuccessor_found h, rd_wr_ne _ _ _ _ (by decide), rd_wr_same, hfits]

end Lane

/-- Settles O8: the lane named by `successorOf_preferred` and `successorOf_inOrder`, what is written by the three cases of
`Lane.chooseSuccessor`. -/
theorem successorIsThePreferredOrTheNextEligibleLane : Obligations.SuccessorIsThePreferredOrTheNextEligibleLane := by
  unfold Obligations.SuccessorIsThePreferredOrTheNextEligibleLane
  refine ⟨fun elig pref holder hholder => ⟨successorOf_preferred, ?_, ?_⟩, Lane.chooseSuccessor_rd_successor, ?_, ?_⟩
  · rintro hpref n (rfl | rfl) hn hfirst
    · rw [successorOf_inOrder hpref, if_pos hn]
    · rw [successorOf_inOrder hpref, hfirst rfl, if_neg Bool.false_ne_true, if_pos hn]
  · intro hnone
    have hpref : ¬ (pref < 3 ∧ pref ≠ holder ∧ elig.testBit pref = true) := fun ⟨hlt, hne, he⟩ =>
      absurd ((hnone pref hlt hne).symm.trans he) Bool.false_ne_true
    rw [successorOf_inOrder hpref, hnone _ (by omega) (by omega), hnone _ (by omega) (by omega)]
    rfl
  · intro L h
    cases hspell : L.on Int.noSuccSpell with
    | false =>
      rw [Lane.chooseSuccessor_lost h hspell]
      refine ⟨?_, fun _ => ⟨(Lane.raise_on ..).trans (Lane.on_wr_same ..), rfl⟩, fun hon => absurd hon Bool.false_ne_true⟩
      rw [Lane.raise_on, Lane.on_wr_ne _ _ _ _ (by decide), Lane.on_wr_same]
      rfl
    | true =>
      rw [Lane.chooseSuccessor_stillLost h hspell]
      exact ⟨(Lane.on_wr_ne _ _ _ _ (by decide)).trans hspell, fun hoff => absurd hoff Bool.noConfusion, fun _ => rfl⟩
  · intro L h
    rw [Lane.chooseSuccessor_found h]
    exact ⟨Lane.on_wr_same .., rfl⟩

end Sys2Proof.Machine
end

-- ==== What the operations of the lease leave ====
section
/-! The roles, the drive, claims and releases: what each writes, and every other field, both memories and the messages under way stay. -/

namespace Sys2Proof.Machine

/-- `K` is `O` but for the fields `fs`: the same faults are on their way to the collector, and every message of `O` is still on its port. -/
structure Lane.ActsOn (fs : List Fld) (O K : Lane) : Prop where
  keeps : O.keepsBut K fs
  inbox : K.inbox = O.inbox
  messages : ∀ p < 2, ∀ x ∈ O.messages p, x ∈ K.messages p

namespace Lane

variable {O L K : Lane} {fs gs : List Fld}

theorem event_onlyFields (L : Lane) (ev : ℕ) : L.onlyFields (L.event ev) eventFields :=
  forN_keeps (L.onlyFields · eventFields) (fun _ hp K hK => onlyFields_trans hK (K.eventTo_onlyFields ev hp)) (L.onlyFields_refl _)

theorem pumpFelt_keepsBut (L : Lane) {p : ℕ} (hp : p < 2) : L.keepsBut (L.pumpFelt p) feltFields := by
  obtain ⟨hcredits, houtstanding⟩ := (by decide : ∀ p < 2, FLT_P_STATUS.CREDITS p ∈ feltFields ∧ FLT_P_STATUS.OUTSTANDING p ∈ feltFields) p hp
  have hports : ∀ ms ws : List FeltMsg, L.keepsBut ((L.setFelt p ms).setFeltWait p ws) feltFields := by
    interval_cases p <;> exact fun _ _ => ⟨rfl, rfl, rfl, fun _ _ => rfl⟩
  exact keepsBut_wr (keepsBut_wr (hports _ _) hcredits _) houtstanding _

theorem sendFelt_keepsBut (L : Lane) {p : ℕ} (hp : p < 2) (m : FeltMsg) : L.keepsBut (L.sendFelt p m) feltFields := by
  have hport : ∀ ws : List FeltMsg, L.keepsBut (L.setFeltWait p ws) feltFields := by
    interval_cases p <;> exact fun _ => ⟨rfl, rfl, rfl, fun _ _ => rfl⟩
  exact ite_keeps (L.keepsBut · feltFields) (keepsBut_trans (hport _) (pumpFelt_keepsBut _ hp)) (L.keepsBut_refl _)

theorem sendFelt_inbox (L : Lane) (p : ℕ) (m : FeltMsg) : (L.sendFelt p m).inbox = L.inbox := by
  have hport : ∀ (J : Lane) (q : ℕ) (ms : List FeltMsg), (J.setFelt q ms).inbox = J.inbox ∧ (J.setFeltWait q ms).inbox = J.inbox :=
    fun J q _ => ⟨ite_keeps (fun M : Lane => M.inbox = J.inbox) rfl rfl, ite_keeps (fun M : Lane => M.inbox = J.inbox) rfl rfl⟩
  have hpump : ∀ J : Lane, (J.pumpFelt p).inbox = J.inbox := fun J => (hport _ p _).2.trans (hport J p _).1
  exact ite_keeps (fun M : Lane => M.inbox = L.inbox) ((hpump _).trans (hport L p _).2) rfl

namespace ActsOn

theorem refl (L : Lane) : L.ActsOn fs L := ⟨L.keepsBut_refl _, rfl, fun _ _ _ hx => hx⟩

theorem trans (h : O.ActsOn fs L) (h' : L.ActsOn fs K) : O.ActsOn fs K :=
  ⟨keepsBut_trans h.keeps h'.keeps, h'.inbox.trans h.inbox, fun p hp x hx => h'.messages p hp x (h.messages p hp x hx)⟩

theorem mono (h : O.ActsOn fs K) (hs : fs ⊆ gs) : O.ActsOn gs K := ⟨keepsBut_mono h.keeps hs, h.inbox, h.messages⟩

/-- A change of registers alone. -/
theorem onlyFields (hK : L.onlyFields K gs) (hs : gs ⊆ fs) (h : O.ActsOn fs L) : O.ActsOn fs K := by
  refine h.trans ⟨keepsBut_mono (onlyFields_keepsBut hK) hs, ?_, ?_⟩ <;> obtain ⟨r, rfl, -⟩ := hK
  · rfl
  · exact fun _ _ _ hx => hx

theorem rd (h : O.ActsOn fs K) {f : Fld} (hf : f.key ∉ fs.map Fld.key) : K.rd f = O.rd f := keepsBut_rd h.keeps hf

theorem wr {f : Fld} {v : ℕ} (hf : f ∈ fs) (h : O.ActsOn fs L) : O.ActsOn fs (L.wr f v) :=
  h.onlyFields (L.wr_shows f v).2 (by simpa using hf)

theorem ite {c : Prop} [Decidable c] (hL : O.ActsOn fs L) (hK : O.ActsOn fs K) : O.ActsOn fs (if c then L else K) := ite_keeps _ hL hK

theorem iff {b : Bool} {g : Lane → Lane} (hg : ∀ J, O.ActsOn fs J → O.ActsOn fs (g J)) (h : O.ActsOn fs L) : O.ActsOn fs (L.iff b g) :=
  iff_keeps _ hg h

theorem event {ev : ℕ} (hs : eventFields ⊆ fs) (h : O.ActsOn fs L) : O.ActsOn fs (L.event ev) := h.onlyFields (L.event_onlyFields ev) hs

theorem toField {i : DownItem} (hs : couchFields ⊆ fs) (h : O.ActsOn fs L) : O.ActsOn fs (L.toField i) := by
  refine h.trans ⟨keepsBut_mono (L.toField_keepsBut i) hs, ?_, fun p hp x hx => ?_⟩
  · exact ite_keeps (fun K : Lane => K.inbox = L.inbox) rfl rfl
  · exact ite_keeps (fun K : Lane => x ∈ K.messages p) hx hx

theorem sendFelt {p : ℕ} {m : FeltMsg} (hp : p < 2) (hs : feltFields ⊆ fs) (h : O.ActsOn fs L) : O.ActsOn fs (L.sendFelt p m) :=
  h.trans ⟨keepsBut_mono (L.sendFelt_keepsBut hp m) hs, L.sendFelt_inbox p m, (sendFelt_sends hp m).1.messages⟩

theorem sendFeltAll {m : FeltMsg} (hs : feltFields ⊆ fs) (h : O.ActsOn fs L) : O.ActsOn fs (L.sendFeltAll m) :=
  .sendFelt (by decide) hs (.sendFelt (by decide) hs h)

theorem setRole {r : ℕ} (hrole : LSE_STATUS.ROLE ∈ fs) (hs : eventFields ⊆ fs) (h : O.ActsOn fs L) : O.ActsOn fs (L.setRole r) :=
  .ite h (.event hs (.wr hrole h))

theorem setHolder {n : ℕ} (hholder : LSE_STATUS.HOLDER ∈ fs) (hs : eventFields ⊆ fs) (h : O.ActsOn fs L) : O.ActsOn fs (L.setHolder n) :=
  .ite h (.event hs (.wr hholder h))

theorem driveSa (hs : couchFields ⊆ fs) (h : O.ActsOn fs L) : O.ActsOn fs L.driveSa := .toField hs h

theorem undrive (hdriving : LSE_STATUS.DRIVING ∈ fs) (hs : couchFields ⊆ fs) (h : O.ActsOn fs L) : O.ActsOn fs L.undrive :=
  .ite (.driveSa hs (.wr hdriving h)) h

theorem refreshSa (hs : couchFields ⊆ fs) (h : O.ActsOn fs L) : O.ActsOn fs L.refreshSa := .ite (.driveSa hs h) h

end ActsOn

/-! ### Roles and the drive -/

theorem setRole_rd_role (L : Lane) {r : ℕ} (hr : r < 8) : (L.setRole r).rd LSE_STATUS.ROLE = r := by
  unfold setRole
  split_ifs with h
  · exact h
  · rw [onlyFields_rd (event_onlyFields _ _) _ (by decide), rd_wr_same]
    exact Nat.mod_eq_of_lt hr

theorem setHolder_rd_holder (L : Lane) {n : ℕ} (hn : n < 4) : (L.setHolder n).rd LSE_STATUS.HOLDER = n := by
  unfold setHolder
  split_ifs with h
  · exact h
  · rw [onlyFields_rd (event_onlyFields _ _) _ (by decide), rd_wr_same]
    exact Nat.mod_eq_of_lt hn

/-- A change of the role leaves every field but ROLE and the event inputs. -/
theorem setRole_rd (L : Lane) (r : ℕ) {f : Fld} (hf : f.key ∉ (LSE_STATUS.ROLE :: eventFields).map Fld.key) : (L.setRole r).rd f = L.rd f :=
  (ActsOn.setRole (by simp) (by simp) (.refl L)).rd hf

theorem setHolder_rd (L : Lane) (n : ℕ) {f : Fld} (hf : f.key ∉ (LSE_STATUS.HOLDER :: eventFields).map Fld.key) :
    (L.setHolder n).rd f = L.rd f := (ActsOn.setHolder (by simp) (by simp) (.refl L)).rd hf

theorem toField_rd (L : Lane) (i : DownItem) {f : Fld} (hf : f.key ∉ couchFields.map Fld.key) : (L.toField i).rd f = L.rd f :=
  keepsBut_rd (L.toField_keepsBut i) hf

/-- After `undrive` the lane does not drive. -/
theorem undrive_rd_driving (L : Lane) : L.undrive.rd LSE_STATUS.DRIVING = 0 := by
  unfold undrive
  split_ifs with h
  · rw [driveSa, toField_rd _ _ (by decide), clr_eq, rd_wr_same]
    rfl
  · simpa [on_eq_rd] using h

theorem holds_iff : L.holds = true ↔ L.rd LSE_STATUS.ROLE = 3 ∨ L.rd LSE_STATUS.ROLE = 4 := decide_eq_true_iff

theorem not_holds_of_claiming (h : L.rd LSE_STATUS.ROLE = 2) : L.holds = false := by simp [holds, h]

/-! ### The successor that is named -/

/-- What the choice of the successor writes (R250). -/
def successorFields : List Fld := [LSE_STATUS.SUCCESSOR, Int.noSuccSpell, LSE_FLAGS.NO_SUCC]

theorem keepsBut_raise (h : O.keepsBut L fs) (src : ℕ) : O.keepsBut (L.raise src) fs := h

theorem chooseSuccessor_keepsBut (L : Lane) : L.keepsBut L.chooseSuccessor successorFields :=
  ite_keeps (L.keepsBut · successorFields)
    (ite_keeps (L.keepsBut · successorFields) (keepsBut_wr (L.keepsBut_refl _) (by decide) _)
      (keepsBut_raise (keepsBut_wr (keepsBut_wr (keepsBut_wr (L.keepsBut_refl _) (by decide) _) (by decide) _) (by decide) _) _))
    (keepsBut_wr (keepsBut_wr (L.keepsBut_refl _) (by decide) _) (by decide) _)

theorem followSuccessor_keepsBut (L : Lane) : L.keepsBut L.followSuccessor successorFields :=
  ite_keeps (L.keepsBut · successorFields) L.chooseSuccessor_keepsBut (L.keepsBut_refl _)

/-- The successor rests on the eligible lanes and PREF. -/
theorem keepsBut_successor (h : L.keepsBut K fs) (helig : Int.eligMask.key ∉ fs.map Fld.key) (hpref : LSE_CFG.PREF.key ∉ fs.map Fld.key) :
    K.successor = L.successor := by
  have hme : K.me = L.me := by
    obtain ⟨-, -, hstrap, -⟩ := h
    rw [me, me, hstrap]
  rw [successor, successor, keepsBut_rd h helig, keepsBut_rd h hpref, hme]

/-! ### Claims (R252) -/

/-- The SA region is powered already, or its wake meets no power entry to abort (R257, R426). -/
abbrev WakesSaInPeace (L : Lane) : Prop := L.rd PSC_STATUS.SA = 0 ∨ L.rd PSC_STATUS.STAGE = 0

/-- What the waking of the SA region writes where no power entry is under way. -/
def saWakeFields : List Fld := [Int.saStarting, PSC_WAKE.WAKES, PSC_WAKE_TICK.TICK] ++ eventFields

theorem wakeSa_actsOn (h : L.WakesSaInPeace) : L.ActsOn saWakeFields L.wakeSa := by
  unfold wakeSa
  split_ifs with hsa
  · exact .refl L
  · have hstage := h.resolve_left hsa
    unfold latchWake
    extract_lets K
    have hK : L.ActsOn saWakeFields K := .event (by decide) (.wr (by decide) (.wr (by decide) (.wr (by decide) (.refl L))))
    have hidle : K.entryOpen = false := by simp [entryOpen, hK.rd (f := PSC_STATUS.STAGE) (by decide), hstage]
    rw [hidle]
    exact hK

/-- What a claim writes beside the credits of Felt, the successor, and the waking of the SA region that may come before it. -/
def claimFields : List Fld :=
  [Int.claimSeq, Int.claimAt, Int.claimSilent, Int.watchSeq, LSE_STATUS.SEQ, Int.watchArmed, Int.guardDone, LSE_STATUS.ROLE, LSE_STATUS.HOLDER] ++
    saWakeFields ++ feltFields

/-- The sequence that a claim takes: the next after the newest heard. -/
abbrev nextSeq (L : Lane) : ℕ := (L.rd Int.watchSeq + 1) % 65536

/-- The claim of a lane: it is claiming under the next sequence, names itself the holder and its successor, and CLAIM is on each live port. -/
structure Claims (L K : Lane) : Prop where
  role : K.rd LSE_STATUS.ROLE = 2
  seq : K.rd LSE_STATUS.SEQ = L.nextSeq
  holder : K.rd LSE_STATUS.HOLDER = L.me
  successor : K.rd LSE_STATUS.SUCCESSOR = L.successor
  message : ∀ p < 2, L.on (FLT_P_STATUS.LINK p) = true → .claim L.nextSeq ∈ K.messages p
  keeps : L.keepsBut K (claimFields ++ successorFields)

/-- The lane with its claim noted, before it takes the role. -/
def claimNoted (L : Lane) (silent : Bool) : Lane :=
  (((((L.wr Int.claimSeq L.nextSeq).wr Int.claimAt L.leaseNow).put Int.claimSilent silent).wr Int.watchSeq L.nextSeq).wr
    LSE_STATUS.SEQ L.nextSeq).set Int.watchArmed

theorem claim_eq (L : Lane) (silent : Bool) : L.claim silent =
    (((((L.claimNoted silent).clr Int.guardDone).setRole roleClaiming).setHolder (L.claimNoted silent).me).sendFeltAll
      (.claim L.nextSeq)).followSuccessor := rfl

theorem claim_claims (L : Lane) (silent : Bool) : L.Claims (L.claim silent) := by
  rw [claim_eq]
  generalize hN : (L.claimNoted silent).clr Int.guardDone = N
  have hme : (L.claimNoted silent).me = L.me := rfl
  have hnoted : L.ActsOn claimFields N := by
    rw [← hN]
    exact .wr (by decide) (.wr (by decide) (.wr (by decide) (.wr (by decide) (.wr (by decide) (.wr (by decide) (.wr (by decide) (.refl L)))))))
  have hseq : N.rd LSE_STATUS.SEQ = L.nextSeq := by
    rw [← hN, clr_eq, rd_wr_ne _ _ _ _ (by decide), claimNoted, set_eq, rd_wr_ne _ _ _ _ (by decide), rd_wr_same]
    exact Nat.mod_mod ..
  rw [hme]
  generalize hR : N.setRole roleClaiming = R
  have hrole : R.rd LSE_STATUS.ROLE = 2 := by rw [← hR, setRole_rd_role _ (by decide)]
  have hclaiming : L.ActsOn claimFields (R.setHolder L.me) := by
    rw [← hR]
    exact .setHolder (by decide) (by decide) (.setRole (by decide) (by decide) hnoted)
  obtain ⟨hsends, hposted⟩ := sendFeltAll_sends (L := R.setHolder L.me) (.claim L.nextSeq)
  have hsent : (R.setHolder L.me).ActsOn feltFields ((R.setHolder L.me).sendFeltAll (.claim L.nextSeq)) := .sendFeltAll (by simp) (.refl _)
  generalize (R.setHolder L.me).sendFeltAll (.claim L.nextSeq) = M at hsends hposted hsent
  have hmine : M.rd LSE_STATUS.ROLE = 2 := by rw [hsent.rd (by decide), setHolder_rd _ _ (by decide), hrole]
  have hfollow : M.followSuccessor = M.chooseSuccessor := if_pos (by rw [hmine]; simp)
  have hM : L.keepsBut M claimFields := (hclaiming.trans (hsent.mono (by decide))).keeps
  have hkeep : ∀ {f : Fld}, f.key ∉ successorFields.map Fld.key → M.chooseSuccessor.rd f = M.rd f := fun hf =>
    keepsBut_rd M.chooseSuccessor_keepsBut hf
  rw [hfollow]
  refine ⟨?_, ?_, ?_, ?_, fun p hp hlink => ?_, ?_⟩
  · rw [hkeep (by decide), hmine]
  · rw [hkeep (by decide), hsent.rd (by decide), setHolder_rd _ _ (by decide), ← hR, setRole_rd _ _ (by decide), hseq]
  · rw [hkeep (by decide), hsent.rd (by decide), setHolder_rd_holder _ (by have := L.me_lt; omega)]
  · rw [chooseSuccessor_rd_successor, keepsBut_successor hM (by decide) (by decide)]
  · have hon : (R.setHolder L.me).on (FLT_P_STATUS.LINK p) = true := by
      rw [on_eq_rd, hclaiming.rd ((by decide : ∀ p < 2, (FLT_P_STATUS.LINK p).key ∉ claimFields.map Fld.key) p hp)]
      exact hlink
    exact (SendsOn.refl M).chooseSuccessor.messages p hp _ (hposted p hp hon)
  · exact keepsBut_trans (keepsBut_mono hM (by simp)) (keepsBut_mono M.chooseSuccessor_keepsBut (by simp))

/-- A claim by a lane that first wakes its SA region (R257). -/
theorem wakeSa_claims (h : L.WakesSaInPeace) (silent : Bool) : L.Claims (L.wakeSa.claim silent) := by
  have hwake := wakeSa_actsOn h
  have hclaim := L.wakeSa.claim_claims silent
  have hseq : L.wakeSa.nextSeq = L.nextSeq := congrArg (fun n => (n + 1) % 65536) (hwake.rd (by decide))
  have hme : L.wakeSa.me = L.me := by
    obtain ⟨-, -, hstrap, -⟩ := hwake.keeps
    rw [me, me, hstrap]
  refine ⟨hclaim.role, hclaim.seq.trans hseq, hclaim.holder.trans hme, ?_, fun p hp hlink => ?_, ?_⟩
  · rw [hclaim.successor, keepsBut_successor hwake.keeps (by decide) (by decide)]
  · rw [← hseq]
    refine hclaim.message p hp ?_
    rw [on_eq_rd, hwake.rd ((by decide : ∀ p < 2, (FLT_P_STATUS.LINK p).key ∉ saWakeFields.map Fld.key) p hp)]
    exact hlink
  · exact keepsBut_trans (keepsBut_mono hwake.keeps (by decide)) hclaim.keeps

/-! ### Releases (R255) -/

/-- What a release writes beside the event inputs and the credits. -/
def releaseFields : List Fld :=
  [LSE_STATUS.DRIVING, Int.watchSeq, LSE_STATUS.SEQ, Int.leaseTr, LSE_STATUS.ROLE, LSE_STATUS.HOLDER, Int.hoPhase, Int.watchArmed] ++
    eventFields ++ couchFields ++ feltFields

/-- The release of the lease by its holder: it drives no more, is a standby under the next sequence, knows no holder, and RELEASE is on each
live port. -/
structure Releases (L K : Lane) (successor : ℕ) : Prop where
  driving : K.rd LSE_STATUS.DRIVING = 0
  role : K.rd LSE_STATUS.ROLE = 1
  seq : K.rd LSE_STATUS.SEQ = (L.rd LSE_STATUS.SEQ + 1) % 65536
  holder : K.rd LSE_STATUS.HOLDER = 3
  message : ∀ p < 2, L.on (FLT_P_STATUS.LINK p) = true → .release ((L.rd LSE_STATUS.SEQ + 1) % 65536) successor ∈ K.messages p
  acts : L.ActsOn releaseFields K

theorem releaseLease_releases (L : Lane) (successor : ℕ) : L.Releases (L.releaseLease successor) successor := by
  unfold releaseLease
  extract_lets K seq M
  have hundriven : L.ActsOn (LSE_STATUS.DRIVING :: couchFields) K := .undrive (by simp) (by simp) (.refl L)
  have hoff : K.rd LSE_STATUS.DRIVING = 0 := L.undrive_rd_driving
  have hseq : seq = (L.rd LSE_STATUS.SEQ + 1) % 65536 := congrArg (fun n => (n + 1) % 65536) (hundriven.rd (by decide))
  have htaken : K.ActsOn [Int.watchSeq, LSE_STATUS.SEQ, Int.leaseTr] (K.takeSeq seq) :=
    .wr (by decide) (.wr (by decide) (.wr (by decide) (.refl K)))
  have hnext : (K.takeSeq seq).rd LSE_STATUS.SEQ = seq := by
    rw [takeSeq, rd_wr_ne _ _ _ _ (by decide), rd_wr_same]
    exact Nat.mod_mod ..
  have hposted : ∀ p < 2, (K.takeSeq seq).on (FLT_P_STATUS.LINK p) = true → .release seq successor ∈ M.messages p :=
    (sendFeltAll_sends _).2
  have hsent : (K.takeSeq seq).ActsOn feltFields M := .sendFeltAll (by simp) (.refl _)
  have htake : L.ActsOn releaseFields (K.takeSeq seq) := (hundriven.mono (by decide)).trans (htaken.mono (by decide))
  have hM : L.ActsOn releaseFields M := htake.trans (hsent.mono (by decide))
  have hend : M.ActsOn ([LSE_STATUS.ROLE, LSE_STATUS.HOLDER, Int.hoPhase, Int.watchArmed] ++ eventFields)
      ((((M.setRole roleStandby).setHolder 3).wr Int.hoPhase 0).put Int.watchArmed (decide (successor ≠ 3))) :=
    .wr (by decide) (.wr (by decide) (.setHolder (by decide) (by decide) (.setRole (by decide) (by decide) (.refl M))))
  clear_value M K seq
  subst hseq
  refine ⟨?_, ?_, ?_, ?_, fun p hp hlink => hend.messages p hp _ (hposted p hp ?_), hM.trans (hend.mono (by decide))⟩
  · rw [hend.rd (by decide), hsent.rd (by decide), htaken.rd (by decide), hoff]
  · rw [put_eq, rd_wr_ne _ _ _ _ (by decide), rd_wr_ne _ _ _ _ (by decide), setHolder_rd _ _ (by decide), setRole_rd_role _ (by decide)]
  · rw [hend.rd (by decide), hsent.rd (by decide), hnext]
  · rw [put_eq, rd_wr_ne _ _ _ _ (by decide), rd_wr_ne _ _ _ _ (by decide), setHolder_rd_holder _ (by decide)]
  · rw [on_eq_rd, htake.rd ((by decide : ∀ p < 2, (FLT_P_STATUS.LINK p).key ∉ releaseFields.map Fld.key) p hp)]
    exact hlink

/-! ### The end of a claim, and barring (R263, R264) -/

/-- What the end of a claim writes. -/
def claimEndFields : List Fld := [LSE_STATUS.ROLE, LSE_STATUS.HOLDER, Int.guardDone] ++ eventFields

theorem endClaim_actsOn (L : Lane) : L.ActsOn claimEndFields L.endClaim :=
  .ite (.refl L) (.iff (fun _ hJ => .setHolder (by decide) (by decide) hJ)
    (.wr (by decide) (.setRole (by decide) (by decide) (.refl L))))

theorem endClaim_idle (h : L.rd LSE_STATUS.ROLE ≠ 2) : L.endClaim = L := if_pos h

/-- The end of a claim: the lane is a standby, and knows no holder where it had named itself. -/
theorem endClaim_ends (h : L.rd LSE_STATUS.ROLE = 2) :
    L.endClaim.rd LSE_STATUS.ROLE = 1 ∧ (L.rd LSE_STATUS.HOLDER = L.me → L.endClaim.rd LSE_STATUS.HOLDER = 3) := by
  have hend : L.endClaim = ((L.setRole roleStandby).clr Int.guardDone).iff (L.rd LSE_STATUS.HOLDER = L.me) (fun K => K.setHolder 3) :=
    if_neg (by simp [h])
  rw [hend]
  have hrole : ((L.setRole roleStandby).clr Int.guardDone).rd LSE_STATUS.ROLE = 1 := by
    rw [clr_eq, rd_wr_ne _ _ _ _ (by decide), setRole_rd_role _ (by decide)]
  refine ⟨?_, fun hme => ?_⟩
  · exact iff_keeps (fun K : Lane => K.rd LSE_STATUS.ROLE = 1) (fun K hK => (K.setHolder_rd 3 (by decide)).trans hK) hrole
  · rw [decide_eq_true hme, iff_true, setHolder_rd_holder _ (by decide)]

/-- What the lane gives up when it is barred: the lease it holds, or its claim. -/
def givesUp (L : Lane) : Lane := if L.holds then L.releaseLease (L.rd LSE_STATUS.SUCCESSOR) else L.endClaim

theorem givesUp_actsOn (L : Lane) : L.ActsOn (Int.guardDone :: releaseFields) L.givesUp :=
  .ite ((L.releaseLease_releases _).acts.mono (by simp)) (L.endClaim_actsOn.mono (by decide))

theorem bar_eq (L : Lane) : L.bar = (L.givesUp.setRole roleBarred).syncEligible := rfl

/-- A change of the role and of ELIGIBLE after a lane gave up. -/
theorem bar_actsOn (L : Lane) : L.ActsOn (LSE_STATUS.ELIGIBLE :: Int.guardDone :: releaseFields) L.bar :=
  .wr (by simp) (.setRole (by decide) (by decide) (L.givesUp_actsOn.mono (by simp)))

theorem bar_rd_role (L : Lane) : L.bar.rd LSE_STATUS.ROLE = 5 := by
  rw [bar_eq, syncEligible, put_eq, rd_wr_ne _ _ _ _ (by decide), setRole_rd_role _ (by decide)]

theorem bar_rd (L : Lane) {f : Fld} (hf : f.key ∉ (LSE_STATUS.ELIGIBLE :: LSE_STATUS.ROLE :: eventFields).map Fld.key) :
    L.bar.rd f = L.givesUp.rd f :=
  (ActsOn.wr (by simp) (.setRole (by simp) (by simp) (.refl _))).rd hf

/-! ### The drive is taken (R252, R258) -/

/-- What the restoring of a snapshot writes. -/
def restoreFields : List Fld := [LSE_SA.LEVEL, LSE_SA.SA_CONT, Int.swapAt, LSE_FLAGS.SNAP_STALE] ++ couchFields

theorem keepsBut_toField (h : O.keepsBut L fs) (hs : couchFields ⊆ fs) (i : DownItem) : O.keepsBut (L.toField i) fs :=
  keepsBut_trans h (keepsBut_mono (L.toField_keepsBut i) hs)

theorem restoreSnap_keepsBut (L : Lane) : L.keepsBut L.restoreSnap restoreFields := by
  have hstale : ∀ K, L.keepsBut K restoreFields → L.keepsBut K.snapStale restoreFields := fun K hK =>
    keepsBut_raise (keepsBut_wr (keepsBut_wr hK (by decide) _) (by decide) _) _
  have hcopy : ∀ h faults, L.keepsBut ((L.restoreCopy h).writeExt faults) restoreFields := fun h faults =>
    forN_keeps (L.keepsBut · restoreFields) (fun _ _ K hK => ite_keeps (L.keepsBut · restoreFields) (keepsBut_toField hK (by decide) _) hK)
      (keepsBut_wr (keepsBut_wr (keepsBut_wr (L.keepsBut_refl _) (by decide) _) (by decide) _) (by decide) _)
  unfold restoreSnap
  split
  · exact ite_keeps (L.keepsBut · restoreFields) (hcopy _ _) (hstale _ (hcopy _ _))
  · exact keepsBut_wr (hstale L (L.keepsBut_refl _)) (by decide) _

/-- What the taking of the drive writes beside ROLE, HOLDER, DRIVING and TAKEOVERS. -/
def takeoverFields : List Fld :=
  [LSE_GAP.GAP_LAST, LSE_GAP.GAP_MAX, Int.leaseTr, Int.claimSilent, Int.guardDone, Int.snapPushAt] ++ eventFields ++ restoreFields ++
    successorFields

/-- The drive taken by a claiming lane: it is the holder and drives, and counts a takeover. -/
structure TakesDrive (L K : Lane) : Prop where
  role : K.rd LSE_STATUS.ROLE = 3
  driving : K.rd LSE_STATUS.DRIVING = 1
  holder : K.rd LSE_STATUS.HOLDER = L.me
  takeovers : K.rd LSE_CNT.TAKEOVERS = min (L.rd LSE_CNT.TAKEOVERS + 1) (2 ^ LSE_CNT.TAKEOVERS.width - 1)
  keeps : L.keepsBut K ([LSE_STATUS.ROLE, LSE_STATUS.DRIVING, LSE_STATUS.HOLDER, LSE_CNT.TAKEOVERS] ++ takeoverFields)

theorem takeDrive_takesDrive (L : Lane) : L.TakesDrive L.takeDrive := by
  unfold takeDrive
  extract_lets gap K₀ K₁ K₂ K₃
  have hgap : L.keepsBut ((L.sat LSE_GAP.GAP_LAST gap).sat LSE_GAP.GAP_MAX (max gap (L.rd LSE_GAP.GAP_MAX))) takeoverFields :=
    keepsBut_wr (keepsBut_wr (L.keepsBut_refl _) (by decide) _) (by decide) _
  obtain ⟨hcount, hcounted⟩ := ((L.sat LSE_GAP.GAP_LAST gap).sat LSE_GAP.GAP_MAX (max gap (L.rd LSE_GAP.GAP_MAX))).inc_shows LSE_CNT.TAKEOVERS
  rw [keepsBut_rd hgap (by decide)] at hcount
  have hsilent : K₀.keepsBut K₁ [] := iff_keeps (K₀.keepsBut · []) (fun J hJ => keepsBut_raise hJ _) (K₀.keepsBut_refl _)
  have htaken : L.keepsBut K₁ (LSE_CNT.TAKEOVERS :: takeoverFields) := keepsBut_trans (keepsBut_mono hgap (by simp))
    (keepsBut_trans (keepsBut_mono (onlyFields_keepsBut hcounted) (by simp)) (keepsBut_mono hsilent (by simp)))
  have htakeovers : K₁.rd LSE_CNT.TAKEOVERS = min (L.rd LSE_CNT.TAKEOVERS + 1) (2 ^ LSE_CNT.TAKEOVERS.width - 1) :=
    (keepsBut_rd hsilent (by simp)).trans hcount
  have hme : K₁.me = L.me := by
    obtain ⟨-, -, hstrap, -⟩ := htaken
    rw [me, me, hstrap]
  have hrole : K₂.rd LSE_STATUS.ROLE = 3 := (setHolder_rd _ _ (by decide)).trans (setRole_rd_role _ (by decide))
  have hholder : K₂.rd LSE_STATUS.HOLDER = L.me := (setHolder_rd_holder _ (by have := K₁.me_lt; omega)).trans hme
  have hK₂ : K₁.keepsBut K₂ ([LSE_STATUS.ROLE, LSE_STATUS.HOLDER] ++ takeoverFields) :=
    (ActsOn.setHolder (by decide) (by decide) (.setRole (by decide) (by decide) (.wr (by decide) (.refl K₁)))).keeps
  have hK₃ : K₂.keepsBut K₃ takeoverFields :=
    keepsBut_wr (keepsBut_wr (keepsBut_wr (keepsBut_mono K₂.restoreSnap_keepsBut (by decide)) (by decide) _) (by decide) _) (by decide) _
  have hend : (K₃.set LSE_STATUS.DRIVING).keepsBut (K₃.set LSE_STATUS.DRIVING).driveSa.followSuccessor takeoverFields :=
    keepsBut_trans (keepsBut_toField (keepsBut_refl _ _) (by decide) _) (keepsBut_mono (followSuccessor_keepsBut _) (by decide))
  clear_value K₁ K₂ K₃
  refine ⟨?_, ?_, ?_, ?_, ?_⟩
  · rw [keepsBut_rd hend (by decide), set_eq, rd_wr_ne _ _ _ _ (by decide), keepsBut_rd hK₃ (by decide), hrole]
  · rw [keepsBut_rd hend (by decide), set_eq, rd_wr_same]
    rfl
  · rw [keepsBut_rd hend (by decide), set_eq, rd_wr_ne _ _ _ _ (by decide), keepsBut_rd hK₃ (by decide), hholder]
  · rw [keepsBut_rd hend (by decide), set_eq, rd_wr_ne _ _ _ _ (by decide), keepsBut_rd hK₃ (by decide), keepsBut_rd hK₂ (by decide), htakeovers]
  · exact keepsBut_trans (keepsBut_trans (keepsBut_mono htaken (by decide)) (keepsBut_mono hK₂ (by decide)))
      (keepsBut_trans (keepsBut_wr (keepsBut_mono hK₃ (by decide)) (by decide) _) (keepsBut_mono hend (by decide)))

end Lane

end Sys2Proof.Machine
end

-- ==== The timers of the lease ====
section
/-! What the four timers of the lease do to the role of a lane (R249, R252, R255, R263). -/

namespace Sys2Proof.Machine

namespace Lane

variable {L K : Lane}

/-- The lease of a holder that was not renewed in time (R249). -/
def expires (L : Lane) : Lane :=
  (((((L.undrive.set LSE_FLAGS.EXPIRED).inc LSE_CNT.EXPIRIES).raise 0xA0).setRole roleStandby).wr Int.hoPhase 0).syncEligible

/-- What the expiry of the lease writes. -/
def expiryFields : List Fld :=
  [LSE_STATUS.DRIVING, LSE_STATUS.ROLE, LSE_STATUS.ELIGIBLE, LSE_FLAGS.EXPIRED, LSE_CNT.EXPIRIES, Int.hoPhase] ++ eventFields ++ couchFields

/-- The holder whose lease expires drives no more, is a standby, and raises source 0xA0. -/
theorem expires_shows (L : Lane) : L.expires.rd LSE_STATUS.DRIVING = 0 ∧ L.expires.rd LSE_STATUS.ROLE = 1 ∧ L.expires.rd LSE_FLAGS.EXPIRED = 1 ∧
    L.expires.rd LSE_CNT.EXPIRIES = min (L.rd LSE_CNT.EXPIRIES + 1) (2 ^ LSE_CNT.EXPIRIES.width - 1) ∧
    L.expires.inbox = L.inbox ++ [⟨0xA0, false, 1, 0⟩] ∧ L.keepsBut L.expires expiryFields := by
  have hundriven : L.ActsOn (LSE_STATUS.DRIVING :: couchFields) L.undrive := .undrive (by simp) (by simp) (.refl L)
  have hoff := L.undrive_rd_driving
  unfold expires
  generalize L.undrive = J at hundriven hoff
  have hcount : ((J.set LSE_FLAGS.EXPIRED).inc LSE_CNT.EXPIRIES).rd LSE_CNT.EXPIRIES =
      min (L.rd LSE_CNT.EXPIRIES + 1) (2 ^ LSE_CNT.EXPIRIES.width - 1) := by
    rw [(inc_shows _ _).1, set_eq, rd_wr_ne _ _ _ _ (by decide), hundriven.rd (by decide)]
  have hnoted : J.ActsOn expiryFields ((J.set LSE_FLAGS.EXPIRED).inc LSE_CNT.EXPIRIES) := .wr (by decide) (.wr (by decide) (.refl J))
  have hflag : ((J.set LSE_FLAGS.EXPIRED).inc LSE_CNT.EXPIRIES).rd LSE_FLAGS.EXPIRED = 1 := by
    rw [inc_eq, rd_wr_ne _ _ _ _ (by decide), set_eq, rd_wr_same]
    rfl
  have hdriving : ((J.set LSE_FLAGS.EXPIRED).inc LSE_CNT.EXPIRIES).rd LSE_STATUS.DRIVING = 0 := by
    rw [inc_eq, rd_wr_ne _ _ _ _ (by decide), set_eq, rd_wr_ne _ _ _ _ (by decide), hoff]
  generalize (J.set LSE_FLAGS.EXPIRED).inc LSE_CNT.EXPIRIES = N at hnoted hcount hflag hdriving
  have hend : (N.raise 0xA0).ActsOn ([LSE_STATUS.ROLE, Int.hoPhase, LSE_STATUS.ELIGIBLE] ++ eventFields)
      (((N.raise 0xA0).setRole roleStandby).wr Int.hoPhase 0).syncEligible :=
    .wr (by decide) (.wr (by decide) (.setRole (by decide) (by decide) (.refl _)))
  refine ⟨?_, ?_, ?_, ?_, ?_, ?_⟩
  · rw [hend.rd (by decide), raise_rd, hdriving]
  · rw [syncEligible, put_eq, rd_wr_ne _ _ _ _ (by decide), rd_wr_ne _ _ _ _ (by decide), setRole_rd_role _ (by decide)]
  · rw [hend.rd (by decide), raise_rd, hflag]
  · rw [hend.rd (by decide), raise_rd, hcount]
  · rw [hend.inbox, raise_inbox, hnoted.inbox, hundriven.inbox]
  · exact keepsBut_trans (keepsBut_raise ((hundriven.mono (by decide)).trans hnoted).keeps _) (keepsBut_mono hend.keeps (by decide))

/-- The drive taken, with ELIGIBLE brought up to date. -/
theorem takeDrive_syncEligible (L : Lane) : L.takeDrive.syncEligible.rd LSE_STATUS.ROLE = 3 ∧ L.takeDrive.syncEligible.on LSE_STATUS.DRIVING = true ∧
    L.takeDrive.syncEligible.rd LSE_STATUS.HOLDER = L.me ∧ L.takeDrive.syncEligible.rd LSE_STATUS.SEQ = L.rd LSE_STATUS.SEQ ∧
    L.takeDrive.syncEligible.rd LSE_CNT.TAKEOVERS = min (L.rd LSE_CNT.TAKEOVERS + 1) (2 ^ LSE_CNT.TAKEOVERS.width - 1) ∧
    L.takeDrive.syncEligible.mem = L.mem ∧ L.takeDrive.syncEligible.nor = L.nor := by
  have hdrive := L.takeDrive_takesDrive
  generalize L.takeDrive = J at hdrive
  obtain ⟨hmem, hnor, -, -⟩ := hdrive.keeps
  have hsync : ∀ {f : Fld}, f.key ≠ LSE_STATUS.ELIGIBLE.key → J.syncEligible.rd f = J.rd f := fun hf => rd_wr_ne _ _ _ _ hf
  refine ⟨(hsync (by decide)).trans hdrive.role, ?_, (hsync (by decide)).trans hdrive.holder,
    (hsync (by decide)).trans (keepsBut_rd hdrive.keeps (by decide)), (hsync (by decide)).trans hdrive.takeovers, hmem, hnor⟩
  rw [on_eq_rd, hsync (by decide), hdrive.driving]
  rfl

/-- The release of the lease by a holder in SHUTDOWN (R255). -/
def shutdownRelease (L : Lane) : Lane := ((L.wr LSE_STATUS.SUCCESSOR 3).releaseLease 3).syncEligible

/-- That release names no successor. -/
theorem shutdownRelease_shows (L : Lane) : L.shutdownRelease.on LSE_STATUS.DRIVING = false ∧ L.shutdownRelease.rd LSE_STATUS.ROLE = 1 ∧
    L.shutdownRelease.rd LSE_STATUS.HOLDER = 3 ∧ L.shutdownRelease.rd LSE_STATUS.SUCCESSOR = 3 ∧
    L.shutdownRelease.rd LSE_STATUS.SEQ = (L.rd LSE_STATUS.SEQ + 1) % 65536 ∧
    (∀ p < 2, L.on (FLT_P_STATUS.LINK p) = true → .release ((L.rd LSE_STATUS.SEQ + 1) % 65536) 3 ∈ L.shutdownRelease.messages p) ∧
    L.shutdownRelease.mem = L.mem ∧ L.shutdownRelease.nor = L.nor := by
  unfold shutdownRelease
  have hrelease := (L.wr LSE_STATUS.SUCCESSOR 3).releaseLease_releases 3
  generalize (L.wr LSE_STATUS.SUCCESSOR 3).releaseLease 3 = J at hrelease
  obtain ⟨hmem, hnor, -, -⟩ := hrelease.acts.keeps
  have hsync : ∀ {f : Fld}, f.key ≠ LSE_STATUS.ELIGIBLE.key → J.syncEligible.rd f = J.rd f := fun hf => rd_wr_ne _ _ _ _ hf
  have hseq : (L.wr LSE_STATUS.SUCCESSOR 3).rd LSE_STATUS.SEQ = L.rd LSE_STATUS.SEQ := rd_wr_ne _ _ _ _ (by decide)
  refine ⟨?_, (hsync (by decide)).trans hrelease.role, (hsync (by decide)).trans hrelease.holder, ?_, ?_, fun p hp hlink => ?_, hmem, hnor⟩
  · rw [on_eq_rd, hsync (by decide), hrelease.driving]
    rfl
  · rw [hsync (by decide), hrelease.acts.rd (by decide), rd_wr_same]
    rfl
  · rw [hsync (by decide), hrelease.seq, hseq]
  · rw [← hseq]
    refine hrelease.message p hp ?_
    rw [on_wr_ne _ _ _ _ ((by decide : ∀ p < 2, (FLT_P_STATUS.LINK p).key ≠ LSE_STATUS.SUCCESSOR.key) p hp)]
    exact hlink

end Lane

/-- Settles O42: an expiry by `Lane.expires_shows`, a claim by `Lane.wakeSa_claims`, the end of the guard by `Lane.endClaim_ends` and
`Lane.takeDrive_syncEligible`, the hold of SHUTDOWN by `Lane.shutdownRelease_shows`. -/
theorem leaseRolesChangeAsTheTimersSay : Obligations.LeaseRolesChangeAsTheTimersSay := by
  unfold Obligations.LeaseRolesChangeAsTheTimersSay
  refine ⟨?_, ?_, ?_, ?_, ?_, ?_, ?_, ?_, ?_, ?_⟩
  · rintro s l _ rfl hholds
    refine completes_of_exec (g := Lane.expires) (congrArg Host.Outcome.next (onLane_congr s l (if_neg (by simp [hholds])))) ?_
    obtain ⟨hdriving, hrole, hexpired, hcount, hinbox, hkeeps⟩ := (s.lane l).expires_shows
    exact ⟨by rw [Lane.on_eq_rd, hdriving]; rfl, hrole, by rw [Lane.on_eq_rd, hexpired]; rfl, hcount, hinbox, hkeeps⟩
  · exact fun s l hholds => congrArg Host.Outcome.next (onLane_congr s l (if_pos (by simp [hholds])))
  · rintro s l _ rfl harmed hstandby helig hhears hpeace
    refine completes_of_exec (g := fun L => L.wakeSa.claim true)
      (congrArg Host.Outcome.next (onLane_congr s l (if_pos (by simp [harmed, hstandby, helig, hhears])))) ?_
    have hclaim := Lane.wakeSa_claims hpeace true
    obtain ⟨hmem, hnor, -, -⟩ := hclaim.keeps
    exact ⟨hclaim.role, hclaim.seq, hclaim.holder, hclaim.successor, hclaim.message, Lane.keepsBut_rd hclaim.keeps (by decide), hmem, hnor⟩
  · rintro s l _ rfl h
    exact congrArg Host.Outcome.next (onLane_congr s l (if_neg (by rcases h with h | h | h | h <;> simp [h])))
  · rintro s l _ rfl hrole helig
    refine completes_of_exec (g := Lane.endClaim)
      (congrArg Host.Outcome.next (onLane_congr s l ((if_neg (by simp [hrole])).trans (if_pos (by simp [helig]))))) ?_
    have hacts := (s.lane l).endClaim_actsOn
    exact ⟨(Lane.endClaim_ends hrole).1, hacts.rd (by decide), Lane.keepsBut_mono hacts.keeps (by decide)⟩
  · rintro s l _ rfl hrole helig hsa
    refine completes_of_exec (g := fun L => L.takeDrive.syncEligible)
      (congrArg Host.Outcome.next (onLane_congr s l ((if_neg (by simp [hrole])).trans ((if_neg (by simp [helig])).trans (if_pos hsa))))) ?_
    exact (s.lane l).takeDrive_syncEligible
  · rintro s l _ rfl hrole helig hsa
    refine completes_of_exec (g := fun L => L.set Int.guardDone)
      (congrArg Host.Outcome.next (onLane_congr s l ((if_neg (by simp [hrole])).trans ((if_neg (by simp [helig])).trans (if_neg hsa))))) ?_
    exact ⟨Lane.on_wr_same .., (Lane.wr_shows _ _ _).2⟩
  · exact fun s l hrole => congrArg Host.Outcome.next (onLane_congr s l (if_pos hrole))
  · rintro s l _ rfl hmode hholds
    refine completes_of_exec (g := Lane.shutdownRelease)
      (congrArg Host.Outcome.next (onLane_congr s l (if_pos (by simp [hmode, hholds])))) ?_
    exact (s.lane l).shutdownRelease_shows
  · exact fun s l h => congrArg Host.Outcome.next (onLane_congr s l (if_neg (by rcases h with h | h <;> simp [h])))

end Sys2Proof.Machine
end

-- ==== Planned handovers, snapshots and the SA outputs ====
section
/-! Planned handovers and role swaps (R260 to R262), the snapshots a holder sends (R258), the loss of the lease to a readback fault (R247), and
the clearing of contactor requests (R259). -/

namespace Sys2Proof.Machine

namespace Lane

variable {L K : Lane}

/-! ### Handovers and swaps -/

/-- What the start of a handover writes. -/
def handoverFields : List Fld := [LSE_STATUS.ROLE, Int.hoPhase, Int.hoTarget] ++ eventFields

theorem startHandover_rests {target : ℕ} (h : L.rd LSE_STATUS.ROLE ≠ 3 ∨ target = 3) : L.startHandover target = L := if_pos h

/-- A holder that starts a handover to another lane is handing over. -/
theorem startHandover_starts {target : ℕ} (hrole : L.rd LSE_STATUS.ROLE = 3) (ht : target < 3) :
    (L.startHandover target).rd LSE_STATUS.ROLE = 4 ∧ (L.startHandover target).rd Int.hoPhase = 1 ∧
      (L.startHandover target).rd Int.hoTarget = target ∧ L.ActsOn handoverFields (L.startHandover target) := by
  have hstart : L.startHandover target = ((L.setRole roleHandingOver).wr Int.hoPhase 1).wr Int.hoTarget target :=
    if_neg (by simp [hrole, ht.ne])
  rw [hstart]
  refine ⟨?_, ?_, ?_, .wr (by decide) (.wr (by decide) (.setRole (by decide) (by decide) (.refl L)))⟩
  · rw [rd_wr_ne _ _ _ _ (by decide), rd_wr_ne _ _ _ _ (by decide), setRole_rd_role _ (by decide)]
  · rw [rd_wr_ne _ _ _ _ (by decide), rd_wr_same]
    rfl
  · rw [rd_wr_same]
    exact Nat.mod_eq_of_lt (ht.trans (by decide))

/-- A role swap to the successor that is named anew. -/
theorem swap_starts (hrole : L.rd LSE_STATUS.ROLE = 3) (h : L.successor ≠ 3) :
    (L.chooseSuccessor.startHandover (L.chooseSuccessor.rd LSE_STATUS.SUCCESSOR)).rd LSE_STATUS.ROLE = 4 ∧
    (L.chooseSuccessor.startHandover (L.chooseSuccessor.rd LSE_STATUS.SUCCESSOR)).rd Int.hoPhase = 1 ∧
    (L.chooseSuccessor.startHandover (L.chooseSuccessor.rd LSE_STATUS.SUCCESSOR)).rd Int.hoTarget = L.successor ∧
    L.ActsOn (successorFields ++ handoverFields) (L.chooseSuccessor.startHandover (L.chooseSuccessor.rd LSE_STATUS.SUCCESSOR)) := by
  have hchosen : L.ActsOn successorFields L.chooseSuccessor := by
    rw [chooseSuccessor_found h]
    exact .wr (by decide) (.wr (by decide) (.refl L))
  have hlt : L.successor < 3 := lt_of_le_of_ne (successorOf_le ..) h
  obtain ⟨hover, hphase, htarget, hacts⟩ := startHandover_starts ((hchosen.rd (by decide)).trans hrole) hlt
  rw [chooseSuccessor_rd_successor]
  exact ⟨hover, hphase, htarget, (hchosen.mono (by simp)).trans (hacts.mono (by simp))⟩

/-- What a swap is blocked by rests on (R260). -/
def swapBlockFields : List Fld :=
  [CFG_MODE_STATUS.DEVICE_MODE, LSE_SA.SA_CONT, Int.eligMask, LSE_CFG.PREF] ++ (List.range 4).flatMap fun k =>
    [PWM_OUT_CFG.SA_ROUTE (48 + k), PWM_GROUP_CTL.RUN (8 + k), Int.actRise (48 + k), Int.actFall (48 + k), Int.actPeriod (8 + k)]

theorem swapBlocked_congr (h : ∀ f ∈ swapBlockFields, K.rd f = L.rd f) (hme : K.me = L.me) : K.swapBlocked = L.swapBlocked := by
  have hmode : K.mode = L.mode := h _ (by simp [swapBlockFields])
  have hforced : K.saForced = L.saForced := by rw [saForced, saForced, hmode, h LSE_SA.SA_CONT (by simp [swapBlockFields])]
  have haux : ∀ k < 4, ∀ f ∈ [PWM_OUT_CFG.SA_ROUTE (48 + k), PWM_GROUP_CTL.RUN (8 + k), Int.actRise (48 + k), Int.actFall (48 + k),
      Int.actPeriod (8 + k)], K.rd f = L.rd f := fun k hk f hf =>
    h f (List.mem_append_right _ (List.mem_flatMap.2 ⟨k, List.mem_range.2 hk, hf⟩))
  have hbusy : K.auxBusy = L.auxBusy := by
    rw [Bool.eq_iff_iff, auxBusy, auxBusy, List.any_eq_true, List.any_eq_true]
    refine exists_congr fun k => and_congr_right fun hk => ?_
    have hk := haux k (List.mem_range.1 hk)
    have hsteps : K.steps (8 + k) = L.steps (8 + k) := congrArg (8 * ·) (hk (Int.actPeriod (8 + k)) (by simp))
    have hbeyond : ∀ pos, K.isBeyond (8 + k) pos = L.isBeyond (8 + k) pos := fun pos => by rw [isBeyond, isBeyond, hsteps]
    rw [on_eq_rd, on_eq_rd, hforced, hbeyond, hk (PWM_OUT_CFG.SA_ROUTE (48 + k)) (by simp), hk (PWM_GROUP_CTL.RUN (8 + k)) (by simp),
      hk (Int.actRise (48 + k)) (by simp), hk (Int.actFall (48 + k)) (by simp)]
  rw [swapBlocked, swapBlocked, hmode, hbusy, h Int.eligMask (by simp [swapBlockFields]), h LSE_CFG.PREF (by simp [swapBlockFields]), hme]

theorem successor_ne_of_not_blocked (h : L.swapBlocked = false) : L.successor ≠ 3 := by
  intro hnone
  simp [swapBlocked, hnone] at h

theorem swapBlocked_wr_swapAt (L : Lane) (t : ℕ) : (L.wr Int.swapAt t).swapBlocked = L.swapBlocked := by
  have hapart : ∀ f ∈ swapBlockFields, f.key ≠ Int.swapAt.key := by decide
  have hrd : ∀ f ∈ swapBlockFields, (L.wr Int.swapAt t).rd f = L.rd f := fun f hf => rd_wr_ne _ _ _ _ (hapart f hf)
  exact swapBlocked_congr hrd rfl

/-- The lane with its next swap interval begun. -/
def swapTimed (L : Lane) : Lane := L.wr Int.swapAt (L.leaseNow + L.swapInterval)

theorem swapTimed_blocked (L : Lane) : L.swapTimed.swapBlocked = L.swapBlocked := swapBlocked_wr_swapAt L _

theorem swapTimed_actsOn (L : Lane) : L.ActsOn [Int.swapAt] L.swapTimed := .wr (by simp) (.refl L)

/-- A deferred swap that is not blocked any more starts at the frame start, and is counted (R260). -/
theorem plannedStart_swaps (hrole : L.rd LSE_STATUS.ROLE = 3) (hpref : L.on Int.prefDue = false) (hdue : L.on Int.swapDue = true)
    (hfree : L.swapBlocked = false) : L.plannedStart.rd LSE_STATUS.ROLE = 4 ∧ L.plannedStart.on Int.swapDue = false ∧
      L.plannedStart.rd LSE_CNT.SWAP_DEFER = min (L.rd LSE_CNT.SWAP_DEFER + 1) (2 ^ LSE_CNT.SWAP_DEFER.width - 1) := by
  generalize hJ : (L.clr Int.swapDue).inc LSE_CNT.SWAP_DEFER = J
  have hstart : L.plannedStart = J.chooseSuccessor.startHandover (J.chooseSuccessor.rd LSE_STATUS.SUCCESSOR) := by
    rw [← hJ]
    exact (if_neg (by simp [hrole])).trans ((if_neg (by simp [hpref])).trans (if_pos (by simp [hdue, hfree])))
  have hcount : J.rd LSE_CNT.SWAP_DEFER = min (L.rd LSE_CNT.SWAP_DEFER + 1) (2 ^ LSE_CNT.SWAP_DEFER.width - 1) := by
    rw [← hJ, (inc_shows _ _).1, clr_eq, rd_wr_ne _ _ _ _ (by decide)]
  have hdone : J.rd Int.swapDue = 0 := by
    rw [← hJ, inc_eq, rd_wr_ne _ _ _ _ (by decide), clr_eq, rd_wr_same]
    rfl
  have hacts : L.ActsOn [Int.swapDue, LSE_CNT.SWAP_DEFER] J := by
    rw [← hJ]
    exact .wr (by decide) (.wr (by decide) (.refl L))
  have hsucc : J.successor ≠ 3 := by
    rw [keepsBut_successor hacts.keeps (by decide) (by decide)]
    exact successor_ne_of_not_blocked hfree
  obtain ⟨hover, -, -, hswap⟩ := swap_starts ((hacts.rd (by decide)).trans hrole) hsucc
  rw [hstart]
  exact ⟨hover, by rw [on_eq_rd, hswap.rd (by decide), hdone]; rfl, (hswap.rd (by decide)).trans hcount⟩

/-! ### Snapshots (R258) -/

/-- What a snapshot shows. -/
def snapshotFields : List Fld :=
  [LSE_SA.LEVEL, LSE_SA.SA_CONT, Int.swapAt, Int.leaseTime, LSE_STATUS.SEQ, Int.laneTime] ++ (List.range 4).map DCL_CH_FLAGS.CH_FAULT

theorem snapshot_congr (h : ∀ f ∈ snapshotFields, K.rd f = L.rd f) : K.snapshot = L.snapshot := by
  have hfaults : K.chFaults = L.chFaults := by
    refine List.foldl_ext _ _ _ fun m c hc => ?_
    rw [on_eq_rd, on_eq_rd, h _ (List.mem_append_right _ (List.mem_map_of_mem hc))]
  simp only [snapshot, hfaults, leaseNow, now, h LSE_SA.LEVEL (by simp [snapshotFields]), h LSE_SA.SA_CONT (by simp [snapshotFields]),
    h Int.swapAt (by simp [snapshotFields]), h Int.leaseTime (by simp [snapshotFields]), h LSE_STATUS.SEQ (by simp [snapshotFields]),
    h Int.laneTime (by simp [snapshotFields])]

/-- A snapshot is sent to sibling `n` where the mask names it. -/
def sendSnapshot (mask : ℕ) (K : Lane) (n : ℕ) : Lane := K.iff (mask.testBit n) fun J => J.sendFelt (J.portTo n) (.snapshot J.snapshot)

theorem pushSnapshots_eq (L : Lane) (mask : ℕ) : L.pushSnapshots mask = L.siblings.foldl (sendSnapshot mask) L := rfl

/-- A lane that has sent messages alone still has its own snapshot to send, and sends it to the sibling. -/
theorem sendSnapshot_sends {mask n : ℕ} (h : L.ActsOn feltFields K) : L.ActsOn feltFields (sendSnapshot mask K n) ∧
    (mask.testBit n = true → L.on (FLT_P_STATUS.LINK (L.portTo n)) = true →
      .snapshot L.snapshot ∈ (sendSnapshot mask K n).messages (L.portTo n)) := by
  refine ⟨.iff (fun J hJ => .sendFelt (J.portTo_lt n) (by simp) hJ) h, fun hn hlink => ?_⟩
  have hsnap : K.snapshot = L.snapshot :=
    snapshot_congr fun f hf => h.rd ((by decide : ∀ f ∈ snapshotFields, f.key ∉ feltFields.map Fld.key) f hf)
  have hport : K.portTo n = L.portTo n := by
    obtain ⟨-, -, hstrap, -⟩ := h.keeps
    rw [portTo, portTo, me, me, hstrap]
  rw [sendSnapshot, hn, iff_true, hsnap, hport]
  refine (sendFelt_sends (L.portTo_lt n) _).2 ?_
  rw [on_eq_rd, h.rd ((by decide : ∀ p < 2, (FLT_P_STATUS.LINK p).key ∉ feltFields.map Fld.key) _ (L.portTo_lt n))]
  exact hlink

theorem sendSnapshots_send {mask : ℕ} (ns : List ℕ) (h : L.ActsOn feltFields K) : L.ActsOn feltFields (ns.foldl (sendSnapshot mask) K) ∧
    ∀ n ∈ ns, mask.testBit n = true → L.on (FLT_P_STATUS.LINK (L.portTo n)) = true →
      .snapshot L.snapshot ∈ (ns.foldl (sendSnapshot mask) K).messages (L.portTo n) := by
  induction ns generalizing K with
  | nil => exact ⟨h, by simp⟩
  | cons m r ih =>
    obtain ⟨hacts, hsent⟩ := sendSnapshot_sends (mask := mask) (n := m) h
    obtain ⟨hall, hrest⟩ := ih hacts
    have hlater : (sendSnapshot mask K m).ActsOn feltFields (r.foldl (sendSnapshot mask) (sendSnapshot mask K m)) := by
      have hstep : ∀ (J : Lane) (n : ℕ), (sendSnapshot mask K m).ActsOn feltFields J → (sendSnapshot mask K m).ActsOn feltFields (sendSnapshot mask J n) :=
        fun J n hJ => .iff (fun M hM => .sendFelt (M.portTo_lt n) (by simp) hM) hJ
      exact foldl_mem_keeps _ (fun n _ J => hstep J n) (.refl _)
    refine ⟨hall, fun n hn hbit hlink => ?_⟩
    rcases List.mem_cons.1 hn with rfl | hn
    · exact hlater.messages _ (L.portTo_lt n) _ (hsent hbit hlink)
    · exact hrest n hn hbit hlink

/-! ### A readback fault (R247) -/

theorem givesUp_holder (h : L.holds = true) : L.givesUp = L.releaseLease (L.rd LSE_STATUS.SUCCESSOR) := if_pos h

theorem givesUp_claiming (h : L.rd LSE_STATUS.ROLE = 2) : L.givesUp = L.endClaim := if_neg (by rw [not_holds_of_claiming h]; decide)

/-- The lane whose SA outputs read back wrong (R247). -/
def readbackFails (L : Lane) : Lane := ((L.set LSE_FLAGS.READBACK).raise 0xA4).bar

theorem readbackFails_shows (L : Lane) : L.readbackFails.on LSE_FLAGS.READBACK = true ∧ L.readbackFails.rd LSE_STATUS.ROLE = 5 ∧
    L.readbackFails.inbox = L.inbox ++ [⟨0xA4, false, 1, 0⟩] ∧ (L.holds = true → L.readbackFails.on LSE_STATUS.DRIVING = false) ∧
    (L.rd LSE_STATUS.ROLE = 2 → L.rd LSE_STATUS.HOLDER = L.me → L.readbackFails.rd LSE_STATUS.HOLDER = 3) ∧
    L.readbackFails.mem = L.mem ∧ L.readbackFails.nor = L.nor := by
  unfold readbackFails
  have hkeep : ∀ {f : Fld}, f.key ≠ LSE_FLAGS.READBACK.key → ((L.set LSE_FLAGS.READBACK).raise 0xA4).rd f = L.rd f :=
    fun hf => (raise_rd ..).trans (rd_wr_ne _ _ _ _ hf)
  have hset : ((L.set LSE_FLAGS.READBACK).raise 0xA4).rd LSE_FLAGS.READBACK = 1 :=
    (raise_rd ..).trans ((rd_wr_same ..).trans rfl)
  have hinbox : ((L.set LSE_FLAGS.READBACK).raise 0xA4).inbox = L.inbox ++ [⟨0xA4, false, 1, 0⟩] := rfl
  have hparts : ((L.set LSE_FLAGS.READBACK).raise 0xA4).mem = L.mem ∧ ((L.set LSE_FLAGS.READBACK).raise 0xA4).nor = L.nor := ⟨rfl, rfl⟩
  have hme : ((L.set LSE_FLAGS.READBACK).raise 0xA4).me = L.me := rfl
  generalize (L.set LSE_FLAGS.READBACK).raise 0xA4 = J at *
  have hbar := J.bar_actsOn
  obtain ⟨hmem, hnor, -, -⟩ := hbar.keeps
  have hrole : J.rd LSE_STATUS.ROLE = L.rd LSE_STATUS.ROLE := hkeep (by decide)
  refine ⟨?_, J.bar_rd_role, hbar.inbox.trans hinbox, fun hholds => ?_, fun hclaim hown => ?_, hmem.trans hparts.1, hnor.trans hparts.2⟩
  · rw [on_eq_rd, hbar.rd (by decide), hset]
    rfl
  · have hJ : J.holds = true := by rwa [holds, hrole, ← holds]
    rw [on_eq_rd, bar_rd _ (by decide), givesUp_holder hJ, (J.releaseLease_releases _).driving]
    rfl
  · have hJ : J.rd LSE_STATUS.ROLE = 2 := hrole.trans hclaim
    rw [bar_rd _ (by decide), givesUp_claiming hJ]
    exact (endClaim_ends hJ).2 (by rw [hkeep (by decide), hown, hme])

end Lane

/-! ### Contactor requests (R259) -/

theorem testBit_clearBit (n m j : ℕ) : (clearBit n m).testBit j = (n.testBit j && decide (j ≠ m)) := by
  have hput : clearBit n m = Sys2Proof.putBit n m false := rfl
  rw [hput]
  by_cases h : j = m
  · subst h
    simp [testBit_putBit_false]
  · simp [testBit_putBit_ne n false h, h]

/-- The bits of a list that a condition picks are cleared, and no other. -/
theorem testBit_foldl_clearBit (c : ℕ → Bool) (ms : List ℕ) (n j : ℕ) :
    (ms.foldl (fun n m => if c m then clearBit n m else n) n).testBit j = (n.testBit j && ! (decide (j ∈ ms) && c j)) := by
  induction ms generalizing n with
  | nil => simp
  | cons m r ih =>
    rw [List.foldl_cons, ih]
    by_cases hj : j = m
    · subst hj
      cases hc : c j <;> simp [testBit_clearBit]
    · cases hc : c m <;> simp [testBit_clearBit, hj]

namespace Lane

/-- The lane with the contactor requests cleared that a mask names and that no present lane still reports. -/
def contCleared (L : Lane) (mask : ℕ) : Lane :=
  (L.wr LSE_SA.SA_CONT ((List.range 8).foldl (fun n m => if mask.testBit m && ! L.contReported.testBit m then clearBit n m else n)
    (L.rd LSE_SA.SA_CONT))).refreshSa

theorem contCleared_shows (L : Lane) (mask : ℕ) :
    (∀ m < 8, (L.contCleared mask).bitOf LSE_SA.SA_CONT m =
      (L.bitOf LSE_SA.SA_CONT m && ! (mask.testBit m && ! L.contReported.testBit m))) ∧
    L.keepsBut (L.contCleared mask) (LSE_SA.SA_CONT :: couchFields) := by
  unfold contCleared
  refine ⟨fun m hm => ?_, (ActsOn.refreshSa (by simp) (.wr (by simp) (.refl L))).keeps⟩
  have hwidth : m < LSE_SA.SA_CONT.width := hm
  have hrefresh : ∀ J : Lane, J.refreshSa.rd LSE_SA.SA_CONT = J.rd LSE_SA.SA_CONT := fun J =>
    (ActsOn.refreshSa (fs := couchFields) (by simp) (.refl J)).rd (by decide)
  rw [bitOf, hrefresh, rd_wr_same, Nat.testBit_mod_two_pow, decide_eq_true hwidth, Bool.true_and,
    testBit_foldl_clearBit (fun m => mask.testBit m && ! L.contReported.testBit m), decide_eq_true (List.mem_range.2 hm), Bool.true_and]
  rfl

end Lane

/-- Settles O43: handovers and swaps by `Lane.startHandover_starts`, `Lane.swap_starts` and `Lane.plannedStart_swaps`, snapshots by
`Lane.sendSnapshots_send`, the readback fault by `Lane.readbackFails_shows`, contactor requests by `Lane.contCleared_shows`. -/
theorem plannedHandoverSwapAndSnapshots : Obligations.PlannedHandoverSwapAndSnapshots := by
  unfold Obligations.PlannedHandoverSwapAndSnapshots
  refine ⟨?_, ?_, ?_, ?_, ?_, ?_, ?_, ?_, ?_, ?_, ?_, ?_, ?_, ?_⟩
  · rintro s l _ rfl hrole hsucc
    refine completes_of_exec (g := fun L => L.startHandover (L.rd LSE_STATUS.SUCCESSOR)) rfl ?_
    obtain ⟨hover, hphase, htarget, hacts⟩ := Lane.startHandover_starts hrole hsucc
    exact ⟨hover, hphase, htarget, hacts.keeps⟩
  · exact fun s l h => congrArg Host.Outcome.next (onLane_congr s l (Lane.startHandover_rests h))
  · exact fun s l h => congrArg Host.Outcome.next (onLane_congr s l (if_pos (by rcases h with h | h <;> simp [h])))
  · rintro s l _ rfl hen hrole hblocked
    have hexec : exec (.swapIntervalExpiry l) s = .next (s.onLane l fun L => L.swapTimed.set Int.swapDue) :=
      congrArg Host.Outcome.next (onLane_congr s l ((if_neg (by simp [hen, hrole])).trans
        (if_pos ((s.lane l).swapTimed_blocked.trans hblocked))))
    exact completes_of_exec hexec ⟨Lane.on_wr_same .., Lane.onlyFields_wr (Lane.onlyFields_wr (Lane.onlyFields_refl _ _) _ _ (by simp)) _ _ (by simp)⟩
  · exact fun L => Lane.plannedStart_swaps
  · rintro s l _ rfl hen hrole hfree
    have htimed := (s.lane l).swapTimed_actsOn
    have hexec : exec (.swapIntervalExpiry l) s = .next (s.onLane l fun L =>
        L.swapTimed.chooseSuccessor.startHandover (L.swapTimed.chooseSuccessor.rd LSE_STATUS.SUCCESSOR)) :=
      congrArg Host.Outcome.next (onLane_congr s l ((if_neg (by simp [hen, hrole])).trans
        (if_neg (by rw [show ((s.lane l).wr Int.swapAt _).swapBlocked = _ from (s.lane l).swapBlocked_wr_swapAt _, hfree]; decide))))
    refine completes_of_exec hexec ?_
    have hsucc : (s.lane l).swapTimed.successor = (s.lane l).successor := Lane.keepsBut_successor htimed.keeps (by decide) (by decide)
    obtain ⟨hover, hphase, htarget, hacts⟩ := Lane.swap_starts ((htimed.rd (by decide)).trans hrole)
      (hsucc.trans_ne (Lane.successor_ne_of_not_blocked hfree))
    exact ⟨hover, hphase, htarget.trans hsucc, hacts.inbox.trans htimed.inbox⟩
  · rintro s l _ rfl hrole hpref hother helig
    refine completes_of_exec (g := fun L => L.set Int.prefDue) (congrArg Host.Outcome.next (onLane_congr s l (if_pos ⟨hrole, hpref, hother, helig⟩))) ?_
    exact ⟨Lane.on_wr_same .., (Lane.wr_shows _ _ _).2⟩
  · rintro s l _ rfl h
    refine congrArg Host.Outcome.next (onLane_congr s l (if_neg ?_))
    rintro ⟨hrole, hpref, hother, helig⟩
    rcases h with h | h | h | h
    · exact h hrole
    · exact absurd hpref (Nat.not_lt.2 h)
    · exact hother h
    · exact Bool.false_ne_true (h.symm.trans helig)
  · rintro s l _ rfl hholds
    refine completes_of_exec (g := fun L => (L.pushSnapshots (L.rd Int.eligMask)).wr Int.snapPushAt L.leaseNow)
      (congrArg Host.Outcome.next (onLane_congr s l (if_neg (by simp [hholds])))) ?_
    obtain ⟨hacts, hsent⟩ := Lane.sendSnapshots_send (mask := (s.lane l).rd Int.eligMask) (s.lane l).siblings (.refl (s.lane l))
    rw [← Lane.pushSnapshots_eq] at hacts hsent
    exact ⟨Lane.rd_wr_same .., hsent, Lane.keepsBut_wr (Lane.keepsBut_mono hacts.keeps (by simp)) (by simp) _⟩
  · exact fun s l hholds => congrArg Host.Outcome.next (onLane_congr s l (if_pos (by simp [hholds])))
  · rintro s l m _ rfl h
    refine completes_of_exec (g := Lane.readbackFails) (congrArg Host.Outcome.next (onLane_congr s l (if_neg ?_))) (s.lane l).readbackFails_shows
    rcases h with h | h <;> simp [h]
  · exact fun s l m hoff hrole => congrArg Host.Outcome.next (onLane_congr s l (if_pos (by simp [hoff, hrole])))
  · rintro s l mask _ rfl hmode
    exact completes_of_exec (g := fun L => L.contCleared mask) (congrArg Host.Outcome.next (onLane_congr s l (if_neg (not_not.2 hmode))))
      ((s.lane l).contCleared_shows mask)
  · exact fun s l mask hmode => congrArg Host.Outcome.next (onLane_congr s l (if_pos hmode))

end Sys2Proof.Machine
end

-- ==== One real arrival in a collector cycle ====
section
/-! What a collector cycle does with one real arrival while the first-fault record is in CLEAR, up to the E0 gate (R288, R293, R298). -/

namespace Sys2Proof.Machine

namespace Lane

variable {L : Lane} {a : Arrival} {forced : Bool}

/-- The lane after the reactions to an arrival that stand before the E0 gate. -/
def reacted (L : Lane) (a : Arrival) (forced observed : Bool) : Lane :=
  let K := if a.forced then L.inc BGR_STATE.FORCED_CNT else L.add (BGR_CNT.CNT a.src) a.count
  let K := K.iff (1 ≤ L.severity a.src) (fun J => J.logFault (J.entryOf a.src forced observed))
  let K := K.iff (2 ≤ L.severity a.src) (fun J => J.set BGR_STATE.NEW)
  let K := if K.pending a.src then K.iff (observed && K.on (Int.pendForced a.src)) (fun J => J.pendReal a.src)
    else K.iff (L.severity a.src = 3) (fun J => J.pend a forced observed)
  K.syncPend.bgrEvent

/-- A real arrival that reaches the gate latches E0 (R298). -/
theorem gate_real (L : Lane) (src since : ℕ) : L.gate src false since = (L.sat BGR_ESC.ESC_TIME since).latchE0 src := rfl

/-- What decides an exit and its abort of a power entry. -/
def latchFields : List Fld := [Int.held, Int.e0, PSC_STATUS.STAGE, Int.pscN3, Int.pscN4, Int.pscAsk]

theorem sat_fresh_holds (L : Lane) (since : ℕ) : L.Holds latchFields ((L.fresh 1).2.sat BGR_ESC.ESC_TIME since) :=
  .wr (by decide) ⟨rfl, rfl, fun _ _ => rfl⟩

/-- An observed arrival of severity 4 passes the gate (R298): only ESC_TIME is written between its other reactions and E0. -/
theorem react_latches (h : L.severity a.src = 4) :
    ∃ K : Lane, (L.reacted a forced true).Holds latchFields K ∧ L.react a forced true = K.latchE0 a.src := by
  have hreact : L.react a forced true = ((L.reacted a forced true).fresh 1).2.gate a.src false ((L.reacted a forced true).fresh 1).1 := if_pos h
  exact ⟨_, sat_fresh_holds _ _, hreact.trans (gate_real _ _ _)⟩

/-- A lane without an exit whose exit aborts a power entry by a reset of both dies. -/
structure LatchResets (L : Lane) : Prop where
  e0 : L.on Int.e0 = false
  held : L.on Int.held = false
  resets : L.abortResets = true

theorem LatchResets.holds {K : Lane} (h : L.LatchResets) (hK : L.Holds latchFields K) : K.LatchResets :=
  ⟨(hK.on (by decide)).trans h.e0, (hK.on (by decide)).trans h.held,
    (abortResets_congr fun f hf => hK.rd f ((by decide : ∀ f ∈ [PSC_STATUS.STAGE, Int.pscN3, Int.pscN4, Int.pscAsk], f ∈ latchFields) f hf)).trans
      h.resets⟩

theorem LatchResets.latchE0 (h : L.LatchResets) (cause : ℕ) : ∃ J : Lane, L.latchE0 cause = J.hostReset.fieldRestart :=
  latchE0_resets cause h.e0 h.held h.resets

/-- A field die reset writes nothing outside the field die but the epochs of the ports and the supply monitors. -/
theorem fieldRestart_rd {f : Fld} (hregion : f.key / 2 ^ 48 ≠ Home.field.code) (hok : f.key ≠ FPS_STATUS.OK.key)
    (hport : ∀ k < 3, f.key ≠ (FPS_PORT.EPOCH k).key) : L.fieldRestart.rd f = L.rd f := by
  have hkeeps : L.fieldReset.Holds [f] L.fieldRestart :=
    .forN (fun k hk _ hK => .wr (by simpa using (hport k hk).symm) hK) (.refl _)
  rw [hkeeps.rd f List.mem_cons_self, fieldReset, rd_wr_ne _ _ _ _ hok]
  exact Store.rd_resetHome_ne _ hregion

/-- After a host die reset no self-test has a result (R26). -/
theorem hostReset_failUnit (J : Lane) : J.hostReset.rd BST_STATUS.FAIL_UNIT = 0 := by
  have hcleared : (((J.regs.resetHome .host).resetHome .net).resetHome .sa).rd BST_STATUS.FAIL_UNIT = 0 := by
    rw [Store.rd_resetHome_ne _ (by decide), Store.rd_resetHome_ne _ (by decide), Store.rd_resetHome_same _ (by decide)]
    rfl
  have hcount : ∀ src, (BGR_CNT.CNT src).key ∉ [BST_STATUS.FAIL_UNIT].map Fld.key := fun src => by
    simp only [List.map_cons, List.map_nil, List.mem_singleton, Fld.key, BGR_CNT.CNT, BST_STATUS.FAIL_UNIT, Home.code]
    omega
  have hstate : ∀ n, (laneStateOf n).key ∉ [BST_STATUS.FAIL_UNIT].map Fld.key := fun n =>
    ite_keeps (fun f : Fld => f.key ∉ _) (by decide) (ite_keeps (fun f : Fld => f.key ∉ _) (by decide) (by decide))
  have hpair : ∀ p < 4, (LSC_PAIR_STATUS.STATE p).key ∉ [BST_STATUS.FAIL_UNIT].map Fld.key := by decide
  have hchal : ∀ k < 4, (LCS_CHAL.CHAL k).key ∉ [BST_STATUS.FAIL_UNIT].map Fld.key := by decide
  unfold hostReset
  extract_lets lost first time lc K₀ K₁ K₂ K₃ K₄ K₅ K₆
  have h₁ : K₀.Holds [BST_STATUS.FAIL_UNIT] K₁ := .foldl (fun a _ _ hJ => .ite (.wr (by decide) hJ) (.wr (hcount a.src) hJ)) (.refl K₀)
  have h₃ : K₀.Holds [BST_STATUS.FAIL_UNIT] K₃ :=
    .forN (fun p hp _ hJ => .iff (fun _ hJ => .wr (hpair p hp) hJ) hJ) (.wr (by decide) (.wr (by decide) (.wr (by decide) (.wr (by decide) h₁))))
  have h₆ : K₀.Holds [BST_STATUS.FAIL_UNIT] K₆ :=
    .iff (fun _ hJ => .wr (hstate _) (.wr (by decide) hJ)) (.iff (fun _ hJ => .wr (by decide) (.wr (by decide) (.wr (by decide) hJ)))
      (.iff (fun _ hJ => .wr (by decide) (.wr (by decide) hJ)) h₃))
  have hfinal : K₀.Holds [BST_STATUS.FAIL_UNIT] ((K₆.newChallenge.wr PSC_SUPPLY.OK (J.rd PSC_SUPPLY.OK)).set Int.held) :=
    .wr (by decide) (.wr (by decide) (.forN (fun k hk K hK => .wr (L := (K.fresh _).2) (hchal k hk) (.update hK rfl rfl rfl)) h₆))
  exact (hfinal.rd _ List.mem_cons_self).trans hcleared

/-- After a reset of both dies the host die is held in reset (R26). -/
theorem resetDies_held (J : Lane) : J.hostReset.fieldRestart.on Int.held = true := by
  rw [on_eq_rd, fieldRestart_rd (by decide) (by decide) (by decide), ← on_eq_rd]
  exact (on_wr_same _ _ _).trans (by decide)

/-- The lane with one real arrival recorded as the first fault. -/
def firstRecorded (L : Lane) (a : Arrival) : Lane :=
  ((L.add BGR_STATE.FORCED_CNT 0).writeFirst a false true L.stamp).wr BGR_STATE.STATE 1

/-- In CLEAR one real arrival that is not pending is recorded as the first fault and reacted to. -/
theorem collect_clear (src : ℕ) (hclear : L.rd BGR_STATE.STATE = 0) (hpend : L.pending src = false) :
    L.collect [⟨src, false, 1, 0⟩] = (L.firstRecorded ⟨src, false, 1, 0⟩).react ⟨src, false, 1, 0⟩ false true := by
  have hstate : ∀ v, (L.wr BGR_STATE.FORCED_CNT v).rd BGR_STATE.STATE = 0 := fun v => (L.rd_wr_ne _ _ v (by decide)).trans hclear
  simp [collect, firstRecorded, hstate, hpend, outranks]

/-- A cause of severity 4 that alone arrives in CLEAR, of an exit whose abort resets both dies (R298, R423): the gate latches that exit, and E0
meets a host die in reset. -/
theorem exitOn_resets {src : ℕ} (hinbox : L.inbox = []) (hclear : L.rd BGR_STATE.STATE = 0) (hpend : L.pending src = false)
    (hsev : (L.firstRecorded ⟨src, false, 1, 0⟩).severity src = 4)
    (hopen : ((L.firstRecorded ⟨src, false, 1, 0⟩).reacted ⟨src, false, 1, 0⟩ false true).LatchResets) :
    ∃ J : Lane, L.exitOn src = J.hostReset.fieldRestart := by
  obtain ⟨K, hK, hreact⟩ := react_latches (L := L.firstRecorded ⟨src, false, 1, 0⟩) (a := ⟨src, false, 1, 0⟩) (forced := false) hsev
  obtain ⟨J, hJ⟩ := (hopen.holds hK).latchE0 src
  refine ⟨J, ?_⟩
  have hcollect : L.collect [⟨src, false, 1, 0⟩] = J.hostReset.fieldRestart := (collect_clear src hclear hpend).trans (hreact.trans hJ)
  have hqueued : L.exitOn src = (L.collect [⟨src, false, 1, 0⟩]).latchE0 src := by
    have hsame : ({ L with inbox := [] } : Lane) = L := by rw [← hinbox]
    rw [exitOn, hinbox, hsame, List.nil_append]
  rw [hqueued, hcollect, latchE0_of_held J.resetDies_held]

end Lane

end Sys2Proof.Machine
end

-- ==== A failed direct test whose exit resets both dies ====
section
/-! The statement about direct tests, refuted by an exit that aborts a power entry whose field regions are OFF (R423). -/

namespace Sys2Proof.Machine

/-- The package at reset, but for an ACTIVE lane A with its host die released and no pair selected for BGR_EVT, that in an entry to level 3 with
the field regions OFF (N3) has a direct test of field logic (unit 4) under way. -/
def State.directInEntry : State :=
  { State.reset with a := [(BGR_CFG.IRQ_PAIRS, 0), (Int.held, 0), (CFG_MODE_STATUS.LANE_STATE, stActive), (PSC_STATUS.STAGE, pscSave),
      (Int.pscAsk, 3), (Int.pscN3, 1), (BST_STATUS.PHASE, 4), (Int.directUnit, 4)].foldl (fun L e => L.wr e.1 e.2) State.reset.a }

/-- Its lane A with the failure of the test shown, before the exit. -/
def Lane.directFailed : Lane := ((State.directInEntry.a.wr BST_STATUS.PHASE 0).set BST_STATUS.ST_FAIL).wr BST_STATUS.FAIL_UNIT 4

theorem exec_directFailed :
    exec (.directTestDone .a false) State.directInEntry = .next (State.directInEntry.onLane .a fun _ => Lane.directFailed.exitOn 0xE1) := by
  have hunit : State.directInEntry.a.rd Int.directUnit = 4 := by decide
  have hphase : State.directInEntry.a.rd BST_STATUS.PHASE = 4 := by decide
  have hsto : State.directInEntry.a.on Int.bstSto = false := by decide
  have hactive : Lane.directFailed.state = stActive := by decide
  rw [Lane.directFailed, Lane.set_eq] at hactive
  have hlane : State.directInEntry.lane .a = State.directInEntry.a := rfl
  refine congrArg Host.Outcome.next (onLane_congr _ _ ?_)
  simp [hlane, hunit, hphase, Lane.iff, hsto, Lane.selfTestFails, hactive, Lane.directFailed]

theorem Lane.directFailed_resets : ∃ J : Lane, Lane.directFailed.exitOn 0xE1 = J.hostReset.fieldRestart :=
  Lane.exitOn_resets (by decide) (by decide) (by decide) (by decide +kernel)
    ⟨by decide +kernel, by decide +kernel, by decide +kernel⟩

/-- Refutes O53: the failed test makes the ACTIVE lane exit, and the exit aborts the entry by a reset of both dies (R423, R436), which clears
FAIL_UNIT. Where the statement asks for FAIL_UNIT it does not ask for `Lane.canExit`. -/
theorem not_directTestsScrubAndParity : ¬ Obligations.DirectTestsScrubAndParity := by
  unfold Obligations.DirectTestsScrubAndParity
  rintro ⟨-, -, -, hdone, -⟩
  obtain ⟨-, K, hK, -, -, hunit⟩ := hdone State.directInEntry .a _ rfl (by decide) (by decide)
  obtain ⟨J, hJ⟩ := Lane.directFailed_resets
  have hzero : K.rd BST_STATUS.FAIL_UNIT = 0 := calc
    K.rd BST_STATUS.FAIL_UNIT = (Lane.directFailed.exitOn 0xE1).rd BST_STATUS.FAIL_UNIT := rd_of_exec_onLane rfl hK exec_directFailed _
    _ = J.hostReset.rd BST_STATUS.FAIL_UNIT := by rw [hJ, Lane.fieldRestart_rd (by decide) (by decide) (by decide)]
    _ = 0 := J.hostReset_failUnit
  exact absurd (hunit.symm.trans hzero) (by decide)

end Sys2Proof.Machine
end

-- ==== An exit of the SA region's start that meets an arrival of no source ====
section
/-! The statement about lease messages and the SA region, refuted by an arrival whose source lies beyond the 256 of R287: the exit for a failed
retention CRC begins with a collector cycle over all that waits (R288), and of what waits the statement asks nothing. -/

namespace Sys2Proof.Machine

/-- The package at reset, but for a standby lane A, which starts its SA region with its host die released, a first fault recorded and no pair
selected for BGR_EVT, and to whose collector one occurrence of the stray source is on its way. -/
def State.strayStart : State :=
  { State.reset with a := { [(LSE_STATUS.ROLE, roleStandby), (BGR_STATE.STATE, 1), (BGR_CFG.IRQ_PAIRS, 0), (Int.saStarting, 1),
      (Int.held, 0)].foldl (fun L e => L.wr e.1 e.2) State.reset.a with inbox := [⟨straySource, false, 1, 0⟩] } }

namespace Lane

variable {L : Lane}

/-- The lane with two real arrivals counted as later faults. -/
def laterRecorded (L : Lane) (src src' : ℕ) : Lane :=
  let K := (L.add BGR_STATE.FORCED_CNT 0).laterFault ((L.add BGR_STATE.FORCED_CNT 0).severity src)
  K.laterFault (K.severity src')

theorem collect_latched {src src' : ℕ} (hstate : L.rd BGR_STATE.STATE ≠ 0) (hfirst : L.on BGR_FIRST.FORCED = false)
    (hpend : L.pending src = false) (hpend' : L.pending src' = false) (hsev : L.severity src < L.severity src') :
    L.collect [⟨src, false, 1, 0⟩, ⟨src', false, 1, 0⟩] =
      ((L.laterRecorded src src').react ⟨src, false, 1, 0⟩ false true).react ⟨src', false, 1, 0⟩ false true := by
  have hlatched : ∀ v, (L.wr BGR_STATE.FORCED_CNT v).rd BGR_STATE.STATE ≠ 0 := fun v => by rwa [L.rd_wr_ne _ _ v (by decide)]
  have hreal : ∀ v, (L.wr BGR_STATE.FORCED_CNT v).on BGR_FIRST.FORCED = false := fun v => by rwa [L.on_wr_ne _ _ v (by decide)]
  simp [collect, laterRecorded, hlatched, hreal, hpend, hpend', outranks, hsev, hsev.not_gt, hsev.ne, iff]

/-- The lane with its SA region powered, before the retention check. -/
def saPowered (L : Lane) : Lane := ((L.clr Int.saStarting).wr PSC_STATUS.SA 0).resetSa

/-- That lane after the check, with the SA region restored. -/
def saRestored (L : Lane) : Lane :=
  let K := (L.saPowered.retRestore [2]).wr LSE_SA.SA_CONT (L.saPowered.rd LSE_SA.SA_CONT)
  ((K.wr LSE_CFG.LEASE_PERIOD (L.rd LSE_CFG.LEASE_PERIOD)).wr LSE_CLK.TOL_IN_USE (L.rd LSE_CLK.TOL_IN_USE)).restoreAtPower

/-- With a bad retention CRC the start of the SA region of a lane in a role ends in the exit for 0xD3 (R432). -/
theorem exec_saPowerUp_bad {s : State} {l : LaneId} (hstarting : (s.lane l).on Int.saStarting = true) (hbad : (s.lane l).saPowered.retOk = false)
    (hrole : (s.lane l).saRestored.rd LSE_STATUS.ROLE ≠ roleOff) :
    exec (.saPowerUp l) s = .next (s.onLane l fun _ => ((s.lane l).saRestored.portStart 5).exitOn 0xD3) := by
  refine congrArg Host.Outcome.next (onLane_congr s l ?_)
  rw [if_neg (by simp [hstarting])]
  extract_lets K₀ ok K₁ K₂ K₃
  have h₃ : K₃ = (s.lane l).saRestored.portStart 5 := if_neg (Bool.eq_false_iff.1 (decide_eq_false hrole))
  have hok : ok = false := hbad
  rw [if_pos (by simp [hok]), h₃]

/-- The lane after the reactions to the first of two real arrivals that leave its queue together. -/
def laterReacted (L : Lane) (src src' : ℕ) : Lane :=
  ({ L with inbox := [] }.laterRecorded src src').react ⟨src, false, 1, 0⟩ false true

/-- An exit whose cause, of severity 4, arrives together with a lesser real arrival after a first fault latches no E0 where the host die then
stands as held in reset. -/
theorem exitOn_held {src src' : ℕ} (hinbox : L.inbox = [⟨src, false, 1, 0⟩]) (hstate : L.rd BGR_STATE.STATE ≠ 0)
    (hfirst : L.on BGR_FIRST.FORCED = false) (hpend : L.pending src = false) (hpend' : L.pending src' = false)
    (hless : L.severity src < L.severity src') (hsev : (L.laterReacted src src').severity src' = 4)
    (hheld : ((L.laterReacted src src').reacted ⟨src', false, 1, 0⟩ false true).on Int.held = true) :
    (L.exitOn src').on Int.e0 = ((L.laterReacted src src').reacted ⟨src', false, 1, 0⟩ false true).on Int.e0 := by
  obtain ⟨K, hK, hreact⟩ := react_latches (a := ⟨src', false, 1, 0⟩) (forced := false) hsev
  have hstays : ∀ cause, K.latchE0 cause = K := fun cause => latchE0_of_held ((hK.on (by decide)).trans hheld)
  have hcollect := collect_latched (L := { L with inbox := [] }) hstate hfirst hpend hpend' hless
  rw [exitOn, hinbox, List.singleton_append, hcollect, ← laterReacted, hreact, hstays, hstays, hK.on (by decide)]

/-- The count of the stray arrival marks the host die of that lane as held in reset, and its exit latches no E0. -/
theorem strayStart_exit : ((State.strayStart.a.saRestored.portStart 5).exitOn 0xD3).on Int.e0 = false := by
  rw [exitOn_held (src := straySource) (by decide +kernel) (by decide +kernel) (by decide +kernel) (by decide +kernel) (by decide +kernel)
    (by decide +kernel) (by decide +kernel) (by decide +kernel)]
  decide +kernel

end Lane

/-- Refutes O44: a start of the SA region with a bad retention CRC latches no E0 where a stray arrival waits. The statement takes the arrivals
that wait as they are, with no bound on their sources, which R287 places between 0x00 and 0xFF. -/
theorem not_leaseMessagesAndSaPower : ¬ Obligations.LeaseMessagesAndSaPower := by
  unfold Obligations.LeaseMessagesAndSaPower
  rintro ⟨-, -, -, -, -, -, -, -, -, hbad, -⟩
  obtain ⟨K, hK, hexit, -⟩ := hbad State.strayStart .a _ rfl (by decide) (by decide +kernel) (by decide)
  have hstep := Lane.exec_saPowerUp_bad (s := State.strayStart) (l := .a) (by decide) (by decide +kernel) (by decide +kernel)
  rw [Lane.on_eq_rd, rd_of_exec_onLane rfl hK hstep, ← Lane.on_eq_rd] at hexit
  exact Bool.false_ne_true (Lane.strayStart_exit.symm.trans hexit)

end Sys2Proof.Machine
end
